-- ==== Sys2Proof/Word.lean ====
section
/-! DEFINITION. The word types of the BX6432 model: bytes and byte strings (R6, R7). -/

namespace Sys2Proof

/-- One byte of a PDU, a frame or a record. -/
abbrev Byte := BitVec 8

/-- Bytes in the order in which they are sent or stored. -/
abbrev Bytes := List Byte

end Sys2Proof
end

