-- ==== Sys2Proof/Syntax.lean ====
section
/-! DEFINITION. The commands of the BX6432: one constructor of `Instr` for each row of spec/opcode_table.json.
The table gives its rows no operand; an operand here is what the world or the module's own timers decide at that
step and State cannot know. `dt` is the time in ps that passes before the step (log 3). -/

namespace Sys2Proof

/-- The three ways a host reaches the module (R59, R84: the sub-index order of R84). -/
inductive Transport where
  | svc
  | mgt
  | inband
deriving DecidableEq, Repr

/-- How a PDU reached the module: its transport; in-band the logical arrival port (R80); in-band and on MGT the source
MAC (R81); on MGT the destination, EtherType and length of the frame with its FCS (R82); on SVC the characters received
between two delimiters (R83), and whether they came by the byte stream of the test access port (R448, R449). -/
structure Envelope where
  transport : Transport
  port : Fin 64
  mac : BitVec 48
  dest : BitVec 48
  etherType : BitVec 16
  length : Nat
  line : Bytes
  jtag : Bool
deriving DecidableEq, Repr

/-- A Lorak PDU without its opcode byte, which the row gives (R65). `length` is the number of bytes received. -/
structure Pdu where
  version : BitVec 8
  flags : BitVec 16
  dst : BitVec 16
  src : BitVec 16
  srcTag : BitVec 8
  hop : BitVec 8
  session : BitVec 8
  status : BitVec 8
  sequence : BitVec 32
  payloadLength : BitVec 16
  reserved : BitVec 16
  payload : Bytes
  /-- The bytes between payload and CRC: the 16-byte tag when AUTH is set. -/
  tag : Bytes
  crc : BitVec 32
deriving DecidableEq, Repr

/-- A Catalogue write that reaches one object: the session slot, the Lorak sequence number, the place of the item in
its request and the value as carried (R48, R60). -/
structure WriteReq where
  slot : Fin 16
  sequence : BitVec 32
  item : BitVec 8
  value : Bytes
deriving DecidableEq, Repr

/-- How a received frame ended at the MAC, beside its bytes (R118 test 4). -/
inductive RxEnd where
  | normal
  | error
  | lockLoss
deriving DecidableEq, Repr

/-- What a lane reports over the tick just ended (R105, R107): decoder counts, the estimate of the bit error ratio on a
lane without FEC, and the checker's counts while it was locked since the later of the last boundary and the last clear. -/
structure LaneTick where
  lane : Fin 64
  fecCodewords : Nat
  fecUncorrectable : Nat
  fecSymbols : Nat
  /-- Bits the decoder corrected and bits it received in the tick, on a lane with FEC. -/
  fecBitsCorrected : Nat
  fecBitsReceived : Nat
  /-- Estimate × 10^12 over the last 8,000 ticks from the slicer mean-square error, before saturation. -/
  ber : Nat
  chkBits : Nat
  chkBitErrors : Nat
  chkSymbols : Nat
  chkSymbolErrors : Nat
  chkLevelErrors : List Nat
deriving DecidableEq, Repr

/-- What the world gives the module at a tick boundary: job work, sensor readings, supply readings and per-lane counts.
A list that is shorter than its family leaves the rest of the family unchanged. -/
structure TickInput where
  /-- New work in ns for the job classes 0-7 in the tick that ends here (R15). -/
  work : List Nat
  /-- Port-group sensors PG00-PG31, 1/256 °C (R350). -/
  groupTemp : List Int
  /-- TDC block sensors, 1/256 °C. -/
  tdcTemp : List Int
  /-- Output-driver sensors CKO0-CKO11, PLS0-PLS3, 1/256 °C. -/
  outTemp : List Int
  /-- The crystal's sensor, 1/256 °C. -/
  crystalTemp : Int
  /-- The four die sensors of R428, 1/256 °C. -/
  dieTemp : List Int
  /-- VIN in mV, input current in mA, input power in mW (R432). -/
  vin : Nat
  current : Nat
  power : Nat
  lanes : List LaneTick
deriving DecidableEq, Repr

/-- What a 1,024-UI window says of its levels: the symbols at the rarest one (R101), and whether the slicer's mean-square error
stayed below 1/64 of the squared level spacing (R92). -/
structure LevelStats where
  count : Fin 1025
  converged : Bool
deriving DecidableEq, Repr

/-- The eyes of a lane as one scan found them (R104): open phase steps of 1/128 UI along each eye's centre, and the
heights in mV. An NRZ lane has the middle eye alone. -/
structure EyeFigures where
  upperSteps : BitVec 16
  middleSteps : BitVec 16
  lowerSteps : BitVec 16
  upper : BitVec 16
  middle : BitVec 16
  lower : BitVec 16
deriving DecidableEq, Repr

/-- Why a lane leaves UP (R98). -/
inductive DownCause where
  | signal
  | cdr
  | lock
  | hiBer
deriving DecidableEq, Repr

/-- The timers of R124. -/
inductive HoldTimer where
  | pause
  | pfc (cls : Fin 8)
deriving DecidableEq, Repr

/-- The same edge as the second instrument on its input sampled it (R217): time-clock cycles from the first's sampling cycle,
the phase and the taps. -/
structure AlsoSample where
  shift : Int
  phase : Fin 4
  line : BitVec 256
deriving DecidableEq, Repr

/-- One edge as the delay line of the publishing instrument sampled it (R212): the phase, and the 256 taps, bit i set where the
edge has passed tap i; in steps 1 and 3 of a stand-in with the other instrument's sample (R217). -/
structure EdgeSample where
  phase : Fin 4
  line : BitVec 256
  also : Option AlsoSample := none
deriving DecidableEq, Repr

/-- An edge of a channel's input within a tick: the time-clock cycles from the boundary cycle to the sampling cycle, and
the sample (R212, R220). -/
structure TickEdge where
  cycle : Nat
  sample : EdgeSample
deriving DecidableEq, Repr

/-- What a channel meets in one tick (R220): the edges of its input ahead of the prescaler of R209, in their order, and the tracked
parts of a lane's PMA delays, PHASE64 (R89, R351). -/
structure TdcTick where
  edges : List TickEdge
  rxTracked : Int
  txTracked : Int
deriving DecidableEq, Repr

/-- What a code-density run collects (R215): `h_(k,i)` at place 256 × k + i, of the run and of its check set. -/
structure CodeDensity where
  hist : List Nat
  check : List Nat
deriving DecidableEq, Repr

/-- One pair of edges of a self-test (R236): n is 2, 7 or 64 by its number, `cycles` lie between the two sampling cycles. -/
structure SelfTestPair where
  n : Fin 3
  cycles : Int
  first : EdgeSample
  second : EdgeSample
deriving DecidableEq, Repr

/-- The Ethernet frame around a PTP message (R301, R302): addresses, whether a VLAN tag stands before its EtherType, and its
length with the FCS. -/
structure PtpLine where
  dest : BitVec 48
  sender : BitVec 48
  tagged : Bool
  etherType : BitVec 16
  length : Nat
deriving DecidableEq, Repr

/-- A PTP message with the frame that carries it (R299-R306): the fields the model reads or writes. -/
structure PtpMsg where
  line : PtpLine
  /-- logMessageInterval (R300). -/
  logInterval : Int
  domain : BitVec 8
  sequenceId : BitVec 16
  twoStep : Bool
  /-- originTimestamp or receiveTimestamp: seconds and nanoseconds. -/
  seconds : BitVec 48
  nanos : BitVec 32
  /-- correctionField, units of 2^-16 ns, signed. -/
  correction : Int
  /-- messageTypeSpecific, four bytes. -/
  specific : BitVec 32
  /-- sourcePortIdentity of the sender. -/
  source : BitVec 80
  /-- requestingPortIdentity in a Delay_Resp. -/
  requesting : BitVec 80
deriving DecidableEq, Repr

/-- The Announce fields the model reads (R295, R298, R325). -/
structure AnnounceMsg where
  head : PtpMsg
  utcOffset : BitVec 16
  utcValid : Bool
  leap61 : Bool
  leap59 : Bool
  ptpTimescale : Bool
  priority1 : BitVec 8
  clockClass : BitVec 8
  clockAccuracy : BitVec 8
  variance : BitVec 16
  priority2 : BitVec 8
  identity : BitVec 64
  stepsRemoved : BitVec 16
deriving DecidableEq, Repr

/-- What the PCS hands on with a received PTP message (R305): the instant in ps at which its timestamp point crossed the MII
boundary, and the place of its symbol after the latest divided recovered-clock edge of the lane that arrives last. -/
structure BallStamp where
  mii : Nat
  symbol : Fin 1024
deriving DecidableEq, Repr

/-- The two heartbeat paths of R337. -/
inductive HbPath where
  | pair
  | inband
deriving DecidableEq, Repr

/-- A character on the TWIN_HB pair (R338): data, the start, the end, idle, a code violation. -/
inductive HbChar where
  | data (b : Byte)
  | k27
  | k29
  | k28
  | violation
deriving DecidableEq, Repr

/-- What frames a heartbeat on the pair (R338): the character before the body, and every character after the CRC up to the
idle that follows. -/
structure HbFraming where
  start : HbChar
  rest : List HbChar
deriving DecidableEq, Repr

/-- The five calibration classes of R350. -/
inductive CalClass where
  | lane
  | tdc
  | portDelay
  | output
  | crystal
deriving DecidableEq, Repr

/-- What a calibration run measured (R350-R353): the offset codes of a lane; the 256 forward and 256 reverse stamps of a
port-delay run, units of 2^-24 ns; for an output the sum of the 64 stamps at each of the 65 settings, units of 2^-30 ns; nothing
for the crystal, whose figures the module holds. A converter's run ends by other commands (R216, R217). -/
inductive CalResult where
  | lane (codes : List Int)
  | portDelay (forward reverse : List Int)
  | output (sums : List Int)
  | crystal
deriving DecidableEq, Repr

/-- The wake sources of R425. -/
inductive WakeSource where
  | signal
  | mgt
  | wakeN
  | scheduled
deriving DecidableEq, Repr

/-- The switchable domains of R422. -/
inductive SwDomain where
  | d2
  | d4
  | d5
  | d6
  | d7
deriving DecidableEq, Repr

/-- Where a lane leaves for SIGNAL before UP (R98). -/
inductive EarlyLoss where
  | signal
  | cdr
deriving DecidableEq, Repr

/-- What starts a full module reset (R431). -/
inductive ResetCause where
  | powerUp
  | resetN
  | brownout
  | thermal
  | opening
  | resetNow
deriving DecidableEq, Repr

/-- What the power stage measures as it starts the module: VIN in mV (R416) and its temperature reading, TEMP16 (R428). -/
structure Supply where
  vin : Nat
  reading : Int
deriving DecidableEq, Repr

/-- The straps of R419 as the board holds them. -/
structure Straps where
  faddr : BitVec 12
  twinPri : Bool
  bootSel : Bool
deriving DecidableEq, Repr

/-- The samples of 12 resource elements of one PRB or more, as carried after a section header, stay bytes; a frame is
its bytes from the destination address to the last byte before the FCS. -/
abbrev FrameBytes := Bytes

/-- The commands. Each constructor's docstring names the row of spec/opcode_table.json. -/
inductive Instr where
  /-- TICK_BOUNDARY (R11). -/
  | tickBoundary (inp : TickInput)
  /-- STAGE (R18). -/
  | stage (e : Envelope) (p : Pdu)
  /-- ARM (R25). -/
  | arm (e : Envelope) (p : Pdu)
  /-- ARM_DEADLINE (R26). -/
  | armDeadline (id : BitVec 32)
  /-- CANCEL (R28). -/
  | cancel (e : Envelope) (p : Pdu)
  /-- OPENING (R22). -/
  | opening
  /-- SHADOW_DISCARD (R20). -/
  | shadowDiscard (w : WriteReq)
  /-- TICK_MAX_CLEAR (R38). -/
  | tickMaxClear (w : WriteReq)
  /-- INVENTORY (R34). -/
  | inventory (e : Envelope) (p : Pdu)
  /-- INVENTORY_CAPTURE (R35). -/
  | inventoryCapture
  /-- INVENTORY_BANK_FULL (R376). -/
  | inventoryBankFull (bank : Fin 2)
  /-- COLLECT (R71). -/
  | collect (e : Envelope) (p : Pdu)
  /-- INVENTORY_RELEASE (R36). -/
  | inventoryRelease (bank : Fin 2) (w : WriteReq)
  /-- READ (R52). -/
  | read (e : Envelope) (p : Pdu)
  /-- WRITE (R49). -/
  | write (e : Envelope) (p : Pdu)
  /-- BULK_READ (R70). -/
  | bulkRead (e : Envelope) (p : Pdu)
  /-- BULK_WRITE (R70). -/
  | bulkWrite (e : Envelope) (p : Pdu)
  /-- BULK_STAGE (R70). -/
  | bulkStage (e : Envelope) (p : Pdu)
  /-- OPEN (R73). -/
  | openSession (e : Envelope) (p : Pdu)
  /-- CLOSE (R75). -/
  | closeSession (e : Envelope) (p : Pdu)
  /-- SUBSCRIBE (R76). -/
  | subscribe (e : Envelope) (p : Pdu)
  /-- UNKNOWN_OPCODE (R68): `opcode` is the byte received. -/
  | unknownOpcode (opcode : BitVec 8) (e : Envelope) (p : Pdu)
  /-- LORAK_RELAY (R79). -/
  | lorakRelay (opcode : BitVec 8) (e : Envelope) (p : Pdu)
  /-- LORAK_ANSWER_RECEIVE (R457). -/
  | lorakAnswerReceive (opcode : BitVec 8) (e : Envelope) (p : Pdu)
  /-- OPENING_OUTCOME_NOTIFY (R76). -/
  | openingOutcomeNotify
  /-- SESSION_IDLE_TIMEOUT (R75). -/
  | sessionIdleTimeout (slot : Fin 16)
  /-- SESSION_VIOLATION_CLEAR (R58). -/
  | sessionViolationClear (target : Fin 16) (w : WriteReq)
  /-- LORAK_KEY_WRITE (R78). -/
  | lorakKeyWrite (key : Fin 4) (w : WriteReq)
  /-- LORAK_KEY_ERASE (R84). -/
  | lorakKeyErase (w : WriteReq)
  /-- LORAK_AUTH_REQUIRED_WRITE (R75). -/
  | lorakAuthRequiredWrite (transport : Fin 3) (w : WriteReq)
  /-- MGT_MODE_WRITE (R82). -/
  | mgtModeWrite (w : WriteReq)
  /-- MGT_LINK_UP (R82): `signalled` is the speed code a PHY signals under SGMII. -/
  | mgtLinkUp (signalled : Fin 3)
  /-- SVC_LINE_BREAK (R83): whether a frame was in progress. -/
  | svcLineBreak (inFrame : Bool)
  /-- LANE_SIGNAL_DETECTED (R92). -/
  | laneSignalDetected (lane : Fin 64)
  /-- LANE_CDR_LOCKED (R92). -/
  | laneCdrLocked (lane : Fin 64)
  /-- LANE_EQUALISED (R92): the taps to which the lane converged (R100). -/
  | laneEqualised (lane : Fin 64) (ctle : Fin 16) (ffe : BitVec 96) (dfe : BitVec 32)
  /-- POLARITY_TRIAL_SWITCH (R94). -/
  | polarityTrialSwitch (lane : Fin 64)
  /-- LANE_POLARITY_DECIDED (R94). -/
  | lanePolarityDecided (lane : Fin 64)
  /-- TRAINING_FRAME_RECEIVE (R95): frame positions 0-47, position 0 in bit 47. -/
  | trainingFrameReceive (lane : Fin 64) (head : BitVec 48)
  /-- LANE_ORDER_DECIDED (R96): whether the PCS lane numbers in the markers are exchanged. -/
  | laneOrderDecided (slot : Fin 64) (markersExchanged : Bool)
  /-- LANE_LOCKED (R92): the delays measured at lock for the lower and the upper lane, and when the data of each arrives at
  the deskew, as PHASE64 on one scale (R89). -/
  | laneLocked (slot : Fin 64) (rxDelay txDelay arrivals : List (BitVec 64))
  /-- LANE_STATE_TIMEOUT (R93). -/
  | laneStateTimeout (lane : Fin 64)
  /-- LANE_BACKOFF_END (R92). -/
  | laneBackoffEnd (lane : Fin 64)
  /-- LANE_LINK_DOWN (R98). -/
  | laneLinkDown (lane : Fin 64) (cause : DownCause)
  /-- LANE_LOSS_BEFORE_UP (R98). -/
  | laneLossBeforeUp (lane : Fin 64) (cause : EarlyLoss)
  /-- LANE_ENABLE_WRITE (R92). -/
  | laneEnableWrite (lane : Fin 64) (w : WriteReq)
  /-- ADAPT_WINDOW_EVAL (R101): the window's statistics and the taps that adaptation reached. -/
  | adaptWindowEval (lane : Fin 64) (transitions : Fin 1025) (rarest : LevelStats) (ctle : Fin 16) (ffe : BitVec 96) (dfe : BitVec 32)
  /-- RESERVE_REQUEST (R103). -/
  | reserveRequest (lane : Fin 64) (w : WriteReq)
  /-- RESERVE_PHASE_END (R102): whether the samplers agreed throughout the phase. -/
  | reservePhaseEnd (lane : Fin 64) (agree : Bool)
  /-- EYE_SCAN (R104). -/
  | eyeScan (lane : Fin 64) (fig : EyeFigures)
  /-- TEST_SELECT_WRITE (R110): 0 PatGenSelect, 1 PatChkSelect, 2 LoopbackMode. -/
  | testSelectWrite (object : Fin 3) (lane : Fin 64) (w : WriteReq)
  /-- CHECKER_LOCK (R107): the levels that the slicer has decided, oldest first; 0 and 1 on an NRZ lane. -/
  | checkerLock (lane : Fin 64) (levels : List (Fin 4))
  /-- CHECKER_LOCK_LOSS (R107): errors found in the window. -/
  | checkerLockLoss (lane : Fin 64) (errors : Fin 1025)
  /-- CHK_CLEAR (R107). -/
  | chkClear (lane : Fin 64) (w : WriteReq)
  /-- INJECT_FIRE (R108). -/
  | injectFire (lane : Fin 64) (w : WriteReq)
  /-- INJECT_INTERVAL_EXPIRE (R108). -/
  | injectIntervalExpire (lane : Fin 64)
  /-- FIRST_CELL_WRITTEN (R162): the frame's bytes in the first cell and the cells awaiting read per bank (R136). -/
  | firstCellWritten (port : Fin 64) (dt : Nat) (bytes : FrameBytes) (bankLoad : List Nat)
  /-- FRAME_RECEIVED (R118): the whole frame with its FCS. -/
  | frameReceived (port : Fin 64) (dt : Nat) (bytes : FrameBytes) (ending : RxEnd) (bankLoad : List Nat)
  /-- PAUSE_RECEIVE (R125). -/
  | pauseReceive (port : Fin 64) (dt : Nat) (quanta : BitVec 16)
  /-- PFC_RECEIVE (R125): the class-enable vector and time[0]-time[7]. -/
  | pfcReceive (port : Fin 64) (dt : Nat) (enable : BitVec 8) (time : List (BitVec 16))
  /-- HOLD_TIMER_EXPIRE (R127). -/
  | holdTimerExpire (port : Fin 64) (timer : HoldTimer)
  /-- CONTROL_FRAME_SEND (R151). -/
  | controlFrameSend (port : Fin 64)
  /-- PFC_REFRESH (R151). -/
  | pfcRefresh (port : Fin 64)
  /-- EGRESS_FRAME_START (R146). -/
  | egressFrameStart (port : Fin 64) (dt : Nat)
  /-- EGRESS_FRAME_END (R160). -/
  | egressFrameEnd (port : Fin 64) (dt : Nat)
  /-- HEAD_FRAME_AGE (R155). -/
  | headFrameAge (port : Fin 64) (cls : Fin 8)
  /-- FDB_AGE_SWEEP (R145). -/
  | fdbAgeSweep
  /-- FDB_AGE_TIME_WRITE (R145). -/
  | fdbAgeTimeWrite (w : WriteReq)
  /-- FDB_FLUSH_LEARNED (R145). -/
  | fdbFlushLearned (w : WriteReq)
  /-- PORT_COUNTER_CLEAR (R133). -/
  | portCounterClear (port : Fin 64) (w : WriteReq)
  /-- CLASS_RULE_HIT_CLEAR (R134). -/
  | classRuleHitClear (w : WriteReq)
  /-- CORE_COUNTER_CLEAR (R166). -/
  | coreCounterClear (w : WriteReq)
  /-- GATE_ENTRY_BOUNDARY (R172). -/
  | gateEntryBoundary (port : Fin 64)
  /-- GATE_LIST_SWITCH (R174). -/
  | gateListSwitch (port : Fin 64)
  /-- STARVE_PROMOTION (R177). -/
  | starvePromotion (port : Fin 64) (cls : Fin 8)
  /-- GATE_COUNTER_CLEAR (R180). -/
  | gateCounterClear (port : Fin 64) (w : WriteReq)
  /-- WINDOW_OPEN (R190). -/
  | windowOpen (group : Fin 256) (row : Fin 56)
  /-- COMBINER_ADD (R190): the Combiner reaches its oldest waiting contribution. -/
  | combinerAdd
  /-- WINDOW_CLOSE (R195). -/
  | windowClose (group : Fin 256)
  /-- COMBINER_CONFIG_SWITCH (R205). -/
  | combinerConfigSwitch
  /-- COMBINER_COUNTER_CLEAR (R207). -/
  | combinerCounterClear (w : WriteReq)
  /-- TDC_TICK_RESULT (R221): the fit of the tick in progress (log 12). -/
  | tdcTickResult (channel : Fin 80) (met : TdcTick)
  /-- PPSI_EDGE (R223). -/
  | ppsiEdge (input : Fin 2) (dt : Nat) (edge : EdgeSample)
  /-- TDC_CAL_REQUEST (R355). -/
  | tdcCalRequest (channel : Fin 80) (w : WriteReq)
  /-- TDC_STANDIN_STEP_END (R217). -/
  | tdcStandinStepEnd (channel : Fin 80) (_ : Unit)
  /-- TDC_CAL_RUN_END (R216). -/
  | tdcCalRunEnd (channel : Fin 80) (result : CodeDensity)
  /-- TDC_MEASURE_CONFIG_WRITE (R224). -/
  | tdcMeasureConfigWrite (slot : Fin 8) (w : WriteReq)
  /-- TDC_MEASURE_START (R224). -/
  | tdcMeasureStart (slot : Fin 8) (w : WriteReq)
  /-- TDC_MEASURE_COMPLETE (R226). -/
  | tdcMeasureComplete (slot : Fin 8) (dt : Nat) (edge : EdgeSample)
  /-- TDC_MEASURE_OVERFLOW (R227). -/
  | tdcMeasureOverflow (slot : Fin 8)
  /-- FREQ_MEASURE_CONFIG_WRITE (R232). -/
  | freqMeasureConfigWrite (slot : Fin 8) (w : WriteReq)
  /-- FREQ_MEASURE_START (R230). -/
  | freqMeasureStart (slot : Fin 8) (w : WriteReq)
  /-- FREQ_GATE_END (R231). The gate's figures are the module's own: nothing is given of it. -/
  | freqGateEnd (slot : Fin 8) (gate : Unit)
  /-- XOSC_LOSS (R234): the measured ratio by which the increment is multiplied (R287). -/
  | xoscLoss (ratioNum ratioDen : Nat)
  /-- TDC_SELF_TEST_START (R236). -/
  | tdcSelfTestStart (w : WriteReq)
  /-- TDC_SELF_TEST_END (R236): largest single deviation in fs, largest mean deviation in units of 2^-16 ns and in fs. -/
  | tdcSelfTestEnd (pairs : List SelfTestPair) (_ _ : Unit)
  /-- REF_ABSENT_TIMEOUT (R240). -/
  | refAbsentTimeout (input : Fin 70)
  /-- WAIT_TO_RESTORE_EXPIRE (R245). -/
  | waitToRestoreExpire (input : Fin 70)
  /-- REF_DISQUALIFY (R245). -/
  | refDisqualify (input : Fin 70)
  /-- REGAIN_TO_TRACK (R254). -/
  | regainToTrack
  /-- HOLDOVER_BIN_END (R257). -/
  | holdoverBinEnd
  /-- TOD_MESSAGE (R242). -/
  | todMessage (input : Fin 2) (dt : Nat) (bytes : Bytes) (framingError : Bool)
  /-- SYN_OFFSET_WRITE (R271). -/
  | synOffsetWrite (syn : Fin 4) (w : WriteReq)
  /-- SYN_RELOCK_TRIGGER (R272): the lock detector reports a phase error above 50 ps. -/
  | synRelockTrigger (syn : Fin 4)
  /-- SYN_LOCK_ACHIEVED (R273). -/
  | synLockAchieved (syn : Fin 4)
  /-- SYN_OUTPUT_RESTART (R273). -/
  | synOutputRestart (syn : Fin 4)
  /-- SYN_LOCK_TIMEOUT (R275). -/
  | synLockTimeout (syn : Fin 4)
  /-- OUT_ENABLE_WRITE (R269). -/
  | outEnableWrite (output : Fin 12) (w : WriteReq)
  /-- PULSE_ANCHORED_EMIT (R280). -/
  | pulseAnchoredEmit (pls : Fin 4)
  /-- PULSE_FOLLOWER_EMIT (R279). -/
  | pulseFollowerEmit (pls : Fin 4)
  /-- PULSE_MISSED (R279). -/
  | pulseMissed (pls : Fin 4)
  /-- PULSE_AUTO_ALIGN (R281). -/
  | pulseAutoAlign (pls : Fin 4)
  /-- APPLY_POINT (R286). -/
  | applyPoint
  /-- TIME_INCREMENT_SET_WRITE (R290). -/
  | timeIncrementSetWrite (w : WriteReq)
  /-- TIME_STEP_WRITE (R290). -/
  | timeStepWrite (w : WriteReq)
  /-- SERVO_STATE_SET_WRITE (R290). -/
  | servoStateSetWrite (w : WriteReq)
  /-- SERVO_MODE_WRITE (R290). -/
  | servoModeWrite (w : WriteReq)
  /-- TIME_SET (R296). -/
  | timeSet (w : WriteReq)
  /-- SERVO_ENTER_TEST (R296). -/
  | servoEnterTest (w : WriteReq)
  /-- SERVO_LEAVE_TEST (R296). -/
  | servoLeaveTest (w : WriteReq)
  /-- SERVO_ENTER_RECOVERY (R296). -/
  | servoEnterRecovery (w : WriteReq)
  /-- ACCEPT_STEP (R293). -/
  | acceptStep (w : WriteReq)
  /-- PTP_SYNC_SEND (R302). The stamp is the module's own (R304): nothing is given of it. -/
  | ptpSyncSend (port : Fin 64) (stamp : Unit)
  /-- PTP_ANNOUNCE_SEND (R302). -/
  | ptpAnnounceSend (port : Fin 64)
  /-- PTP_DELAY_REQ_SEND (R302). The stamp is the module's own (R304): nothing is given of it. -/
  | ptpDelayReqSend (port : Fin 64) (stamp : Unit)
  /-- PTP_DELAY_RESP_SEND (R302). -/
  | ptpDelayRespSend (port : Fin 64)
  /-- PTP_SYNC_RECEIVE (R305). -/
  | ptpSyncReceive (port : Fin 64) (msg : PtpMsg) (stamp : BallStamp)
  /-- PTP_FOLLOW_UP_RECEIVE (R299). -/
  | ptpFollowUpReceive (port : Fin 64) (msg : PtpMsg)
  /-- PTP_DELAY_REQ_RECEIVE (R305). -/
  | ptpDelayReqReceive (port : Fin 64) (msg : PtpMsg) (stamp : BallStamp)
  /-- PTP_DELAY_RESP_RECEIVE (R307). -/
  | ptpDelayRespReceive (port : Fin 64) (msg : PtpMsg)
  /-- PTP_ANNOUNCE_RECEIVE (R295). -/
  | ptpAnnounceReceive (port : Fin 64) (msg : AnnounceMsg)
  /-- ANNOUNCE_TIMEOUT (R292). -/
  | announceTimeout
  /-- LEAP_SECOND (R298). -/
  | leapSecond
  /-- PTP_COUNTER_CLEAR (R313). -/
  | ptpCounterClear (port : Fin 64) (w : WriteReq)
  /-- HELLO_SEND (R316). -/
  | helloSend
  /-- HELLO_RECEIVE (R317): the Zutum payload. -/
  | helloReceive (port : Fin 64) (payload : Bytes)
  /-- ADJACENCY_TIMEOUT (R317). -/
  | adjacencyTimeout (port : Fin 64)
  /-- LINKSTATE_REFRESH (R318). -/
  | linkstateRefresh
  /-- LINKSTATE_ORIGINATE (R318). -/
  | linkstateOriginate
  /-- LINKSTATE_RECEIVE (R319). -/
  | linkstateReceive (port : Fin 64) (payload : Bytes)
  /-- LINKSTATE_EXPIRE (R319). -/
  | linkstateExpire (uid : BitVec 64)
  /-- ROUTE_ARM (R329). -/
  | routeArm
  /-- ROUTE_ARM_RECEIVE (R330). -/
  | routeArmReceive (port : Fin 64) (payload : Bytes)
  /-- ROUTE_ARM_DEADLINE (R330). -/
  | routeArmDeadline
  /-- ROUTE_ANSWER (R330). -/
  | routeAnswer (port : Fin 64) (payload : Bytes)
  /-- ROUTE_CANCEL_DEADLINE (R331). -/
  | routeCancelDeadline
  /-- ROUTE_CANCEL (R331). -/
  | routeCancel (port : Fin 64) (payload : Bytes)
  /-- ROUTE_OPENING (R332). -/
  | routeOpening
  /-- TWIN_HEARTBEAT_RECEIVE (R338, R339): the path, the bytes of the body, the characters that frame it and the bytes of its
CRC, and the instant in ps at which its start arrived (R344). In-band it is the body of a Lorak NOTIFY, and these tell in
the same form what the checks of that PDU found (R67). -/
  | twinHeartbeatReceive (path : HbPath) (body : Bytes) (framed : HbFraming) (crc : Bytes) (arrival : Nat)
  /-- TWIN_PEER_FAILED (R340). -/
  | twinPeerFailed
  /-- TWIN_PATH_DEGRADED (R340). -/
  | twinPathDegraded
  /-- TWIN_RANK_TAKEOVER (R341). -/
  | twinRankTakeover
  /-- TWIN_ROLE_CHANGE (R335). -/
  | twinRoleChange
  /-- TWIN_ACTIVE_RECEIVE (R346). -/
  | twinActiveReceive (port : Fin 64) (body : Bytes)
  /-- ARBITER_RELEASE (R346). -/
  | arbiterRelease (row : Fin 16)
  /-- DUAL_ACTIVE_RECEIVE (R347). -/
  | dualActiveReceive (port : Fin 64) (body : Bytes)
  /-- CAL_RUN_START (R356). -/
  | calRunStart (cls : CalClass) (inst : Fin 80)
  /-- CAL_RUN_END (R362): the instance, what the run measured, and of an output's run the check stamps at 32 midpoints, each
  with the interval it lies in, units of 2^-24 ns (R352). -/
  | calRunEnd (inst : Fin 80) (result : CalResult) (checks : List (Fin 64 × Int))
  /-- CAL_RUN_ABANDON (R363). -/
  | calRunAbandon (cls : CalClass) (inst : Fin 80)
  /-- CAL_RETRY_EXPIRE (R355). -/
  | calRetryExpire (cls : CalClass) (inst : Fin 80)
  /-- CAL_REQUEST (R355). -/
  | calRequest (cls : CalClass) (inst : Fin 80) (w : WriteReq)
  /-- CAL_DISCARD_SETS (R365). -/
  | calDiscardSets (w : WriteReq)
  /-- PERF_CONFIG_WRITE (R374): `gate` names PerfGateTicks, otherwise PerfConfig; `last` is the increment of the write
  cycle under the old selection. -/
  | perfConfigWrite (counter : Fin 64) (gate : Bool) (last : Nat) (w : WriteReq)
  /-- PERF_COUNTER_PRESET (R373): `last` is the increment of the write cycle. -/
  | perfCounterPreset (counter : Fin 64) (last : Nat) (w : WriteReq)
  /-- PERF_GATE_END (R371). -/
  | perfGateEnd (counter : Fin 64)
  /-- PERF_OVERFLOW_CLEAR (R372). -/
  | perfOverflowClear (w : WriteReq)
  /-- COUNTER_CLEAR_ALL (R386). -/
  | counterClearAll (w : WriteReq)
  /-- ARCHIVE_CONFIG_WRITE (R380): 0 ArchiveMode, 1 ArchiveFilter, 2 ArchiveSampleEvery. -/
  | archiveConfigWrite (object : Fin 3) (w : WriteReq)
  /-- ARCHIVE_TRIGGER (R380). -/
  | archiveTrigger (w : WriteReq)
  /-- ARCHIVE_READ_INDEX_WRITE (R384). -/
  | archiveReadIndexWrite (w : WriteReq)
  /-- ARCHIVE_CLEAR (R385). -/
  | archiveClear (w : WriteReq)
  /-- EVENT_CLEAR (R389). -/
  | eventClear (word : Fin 16) (w : WriteReq)
  /-- EVENT_MASK_WRITE (R391): 0 EventMaskA, 1 EventMaskB, 2 EventMaskNotify. -/
  | eventMaskWrite (mask : Fin 3) (word : Fin 16) (w : WriteReq)
  /-- EVENT_HOLD_WRITE (R393). -/
  | eventHoldWrite (w : WriteReq)
  /-- EVENT_NOTIFY (R394). -/
  | eventNotify
  /-- EVENT_COUNT_CLEAR (R398). -/
  | eventCountClear (w : WriteReq)
  /-- INTERVAL_CLOSE (R402). -/
  | intervalClose
  /-- SEAL_N_FALL (R408). -/
  | sealNFall
  /-- SEAL_OPEN_QUALIFIED (R408). -/
  | sealOpenQualified
  /-- SEAL_N_RISE (R408). -/
  | sealNRise
  /-- SEAL_WRITE (R51): `interval` names VitrineInterval, otherwise the row of TenantMap. -/
  | sealWrite (interval : Bool) (row : BitVec 32) (w : WriteReq)
  /-- MICROCODE_CHECK (R414): the bytes of the microcode that have changed in the flash since the check before. -/
  | microcodeCheck (changed : List (Fin 65536 × Byte))
  /-- POWER_UP_START (R416): what the power stage measures at the end of the qualification, the straps, and the XOSC code found
(R233). -/
  | powerUpStart (supply : Supply) (straps : Straps) (xosc : Fin 6)
  /-- BROWNOUT_RELEASE (R417). -/
  | brownoutRelease (vin : Nat)
  /-- CURATOR_IMAGE_RUNNING (R460): whether images A and B pass their checks. -/
  | curatorImageRunning (passA passB : Bool)
  /-- BROWNOUT (R427). -/
  | brownout (vin : Nat)
  /-- UNDERVOLTAGE_LOCKOUT (R416). -/
  | undervoltageLockout (vin : Nat)
  /-- OVERTEMP_SHUTDOWN (R428). -/
  | overtempShutdown (die : Fin 4) (reading : Int)
  /-- DOMAIN_SLEEP_REQUEST (R424). -/
  | domainSleepRequest (domain : SwDomain) (w : WriteReq)
  /-- DOMAIN_SLEEP_AT_TICK_WRITE (R424). -/
  | domainSleepAtTickWrite (domain : SwDomain) (w : WriteReq)
  /-- DOMAIN_WAKE_AT_TICK_WRITE (R425). -/
  | domainWakeAtTickWrite (domain : SwDomain) (w : WriteReq)
  /-- DOMAIN_SLEEP_ENTRY (R424). -/
  | domainSleepEntry (domain : SwDomain)
  /-- DOMAIN_WAKE_COMMAND (R425). -/
  | domainWakeCommand (domain : SwDomain) (w : WriteReq)
  /-- WAKE_SOURCE_FIRE (R425). -/
  | wakeSourceFire (domain : SwDomain) (source : WakeSource) (lane : Fin 64)
  /-- DOMAIN_WAKE_COMPLETE (R425). -/
  | domainWakeComplete (domain : SwDomain)
  /-- RESET_NOW_DATAPATH (R430). -/
  | resetNowDatapath (w : WriteReq)
  /-- RESET_NOW_CURATOR (R430). -/
  | resetNowCurator (w : WriteReq)
  /-- RESET_NOW_FULL (R430). -/
  | resetNowFull (w : WriteReq)
  /-- DATAPATH_RESET (R429). -/
  | datapathReset
  /-- CURATOR_RESET (R429). -/
  | curatorReset
  /-- FULL_MODULE_RESET (R31): the straps sampled and the XOSC code found. -/
  | fullModuleReset (straps : Straps) (xosc : Fin 6)
  /-- CURATOR_WATCHDOG (R430). -/
  | curatorWatchdog
  /-- RESET_N_ASSERT (R430). -/
  | resetNAssert
  /-- RESET_N_RELEASE (R430). -/
  | resetNRelease (straps : Straps) (xosc : Fin 6)
  /-- IMAGE_BLOCK_WRITE (R421). -/
  | imageBlockWrite (row : BitVec 32) (w : WriteReq)
  /-- IMAGE_ERASE (R421). -/
  | imageErase (w : WriteReq)
  /-- IMAGE_ERASE_COMPLETE (R421). -/
  | imageEraseComplete
  /-- IMAGE_COMMIT (R421). -/
  | imageCommit (w : WriteReq)
  /-- BOOT_PREFER_SET (R420). -/
  | bootPreferSet (w : WriteReq)
  /-- EXTEST (R448). -/
  | extest
  /-- SAMPLE_PRELOAD (R448). -/
  | samplePreload
  /-- IDCODE (R448). -/
  | idcode
  /-- HIGHZ (R448). -/
  | highz
  /-- CLAMP (R448). -/
  | clamp
  /-- EXTEST_PULSE (R448). -/
  | extestPulse
  /-- EXTEST_TRAIN (R448). -/
  | extestTrain
  /-- VITRINE_ID (R448). -/
  | vitrineId
  /-- SVC_PORT (R448). -/
  | svcPort
  /-- BYPASS (R448): the code loaded, 0xFF or a reserved one. -/
  | bypass (code : BitVec 8)
  /-- MGT_LINK_DOWN (R82). -/
  | mgtLinkDown
  /-- IMAGE_CHECK_COMPLETE (R421): whether length and CRC are in order, and the version the image carries. -/
  | imageCheckComplete (pass : Bool) (version : BitVec 32)
  /-- VITRINE_RECORD_IN_FLASH (R405). -/
  | vitrineRecordInFlash
  /-- FUSE_BURN_COMPLETE (R408). -/
  | fuseBurnComplete
  /-- OVERTEMP_LIMIT_CROSSED (R428). -/
  | overtempLimitCrossed (die : Fin 4) (reading : Int)
  /-- TAP_RESET (R448). -/
  | tapReset
  /-- START_EDGE_TAKEN (R226). -/
  | startEdgeTaken (slot : Fin 8) (dt : Nat) (edge : EdgeSample)
deriving DecidableEq, Repr

end Sys2Proof
end

