-- ==== Sys2Proof/Config.lean ====
section
/-! DEFINITION. What the implementation fixes and the spec leaves open: opaque values of which nothing can be proved. -/

namespace Sys2Proof

/-- The ModuleNonce drawn from the random source at draw n (R77). UNVERIFIED: the spec gives no value; safe (log 6). -/
opaque Config.moduleNonce : Nat → BitVec 64

/-- Which free cell of a bank the core takes at choice n (R136). UNVERIFIED: the spec gives no rule; safe (log 6). -/
opaque Config.freeCell : Nat → Nat

/-- 2π to thirty places, by which the loops convert cycles into radians (R253, R289). DESIGN CHOICE, unsafe below
10^-30 (log 67). -/
def Config.twoPi : Rat := 6283185307179586476925286766559 / 10 ^ 30

/-- How far above the floor a result that is no whole number of a register's units is rounded, 0 or 1 (log 6). -/
opaque Config.roundUp : Rat → Bool

/-- A value the spec leaves open at use n (log 6). -/
opaque Config.freeValue : Nat → Nat

/-- The grandmaster identity of another origin, of which its LINKSTATE carries nothing (R318, R326), by its ModuleUid
(log 6). -/
opaque Config.originIdentity : Nat → Nat

/-- The manufacturer field that the BSDL file gives and the spec does not (R448; log 6). -/
opaque Config.jtagManufacturer : BitVec 11

/-- The w-bit value a register takes for a result that its signed format cannot hold (log 6). -/
opaque Config.outOfFormat : Nat → Int → Nat

/-- The symbols of SSPRQ, which the spec leaves to IEEE 802.3 (R106), its period, and how many of them must agree for a
checker to lock by correlation (R107; log 60). -/
opaque Config.ssprqSymbol : Nat → Nat
opaque Config.ssprqPeriod : Nat
opaque Config.ssprqAgree : Nat

end Sys2Proof
end

