-- ==== Sys2Proof/Machine/Bits.lean ====
section
/-! DEFINITION. Bit fields, byte order, signed values, sums that stop at an end, and the sparse table every register
file of the model is held in: addresses strictly rising, no entry equal to what an unlisted address reads as. -/

namespace Sys2Proof.Machine

/-- Bits [hi:lo] of a value (R8). -/
def field (v hi lo : Nat) : Nat := (v / 2 ^ lo) % 2 ^ (hi + 1 - lo)

/-- A value with its bits [hi:lo] replaced. -/
def withField (v hi lo x : Nat) : Nat :=
  v - field v hi lo * 2 ^ lo + (x % 2 ^ (hi + 1 - lo)) * 2 ^ lo

/-- Bit i as 0 or 1. -/
def bitAt (v i : Nat) : Nat := if v.testBit i then 1 else 0

/-- A flag as 0 or 1. -/
def b2n (b : Bool) : Nat := if b then 1 else 0

/-- The value with bit i set, or cleared. -/
def setBit (v i : Nat) (on : Bool) : Nat :=
  if on then v ||| 2 ^ i else if v.testBit i then v - 2 ^ i else v

/-- n bytes, least significant first (R7). -/
def bytesLE : Nat → Nat → Bytes
  | 0, _ => []
  | n + 1, v => BitVec.ofNat 8 v :: bytesLE n (v / 256)

/-- The value of bytes carried least significant first (R7). -/
def ofLE : Bytes → Nat
  | [] => 0
  | b :: t => b.toNat + 256 * ofLE t

/-- n bytes, most significant first. -/
def bytesBE (n v : Nat) : Bytes := (bytesLE n v).reverse

/-- The value of bytes carried most significant first. -/
def ofBE (l : Bytes) : Nat := ofLE l.reverse

/-- The bytes from place a, n of them; fewer where the list ends. -/
def slice (l : Bytes) (a n : Nat) : Bytes := (l.drop a).take n

/-- n bytes at place a as a little-endian value. -/
def leAt (l : Bytes) (a n : Nat) : Nat := ofLE (slice l a n)

/-- n bytes at place a as a big-endian value. -/
def beAt (l : Bytes) (a n : Nat) : Nat := ofBE (slice l a n)

/-- Two's complement of width w (R43). -/
def toSigned (w v : Nat) : Int :=
  if v % 2 ^ w < 2 ^ (w - 1) then ((v % 2 ^ w : Nat) : Int) else ((v % 2 ^ w : Nat) : Int) - 2 ^ w

/-- The w-bit two's complement pattern of an integer (R43); free where w bits cannot hold it (log 6). -/
def ofSigned (w : Nat) (x : Int) : Nat :=
  if -(2 ^ (w - 1) : Int) ≤ x ∧ x < 2 ^ (w - 1) then (x % (2 ^ w : Int)).toNat else Config.outOfFormat w x % 2 ^ w

/-- A counter reading, which is unsigned (R44); free where the sum falls below 0 (log 6). -/
def asReading (x : Int) : Nat := if 0 ≤ x then x.toNat else Config.outOfFormat 104 x

/-- An integer held between two ends. -/
def clampInt (lo hi x : Int) : Int := if x < lo then lo else if hi < x then hi else x

/-- A sum that stops at the largest w-bit value. -/
def satAdd (w a b : Nat) : Nat := min (a + b) (2 ^ w - 1)

/-- A sum modulo 2^w. -/
def wrapAdd (w a b : Nat) : Nat := (a + b) % 2 ^ w

/-- Division rounded up; 0 by zero. -/
def ceilDiv (a b : Nat) : Nat := (a + b - 1) / b

/-- The number of ones among the lowest n bits. -/
def ones (n v : Nat) : Nat := ((List.range n).filter (fun i => v.testBit i)).length

/-- The places of the ones among the lowest n bits, ascending. -/
def onesList (n v : Nat) : List Nat := (List.range n).filter (fun i => v.testBit i)

/-- The lowest set bit among the lowest n. -/
def lowestOne (n v : Nat) : Option Nat := (List.range n).find? (fun i => v.testBit i)

/-- The largest r with r * r ≤ n, by bisection over `fuel` bits. -/
def sqrtFrom : Nat → Nat → Nat → Nat
  | 0, acc, _ => acc
  | k + 1, acc, n =>
    let c := acc + 2 ^ k
    sqrtFrom k (if c * c ≤ n then c else acc) n

/-- Integer square root, rounded down. -/
def isqrt (n : Nat) : Nat := sqrtFrom (n.log2 / 2 + 1) 0 n

/-! Sparse tables. -/

/-- What a sparse table holds at k; d gives what an unlisted address reads as. -/
def tget {α : Type} (d : Nat → α) : List (Nat × α) → Nat → α
  | [], k => d k
  | (a, b) :: t, k => if a = k then b else tget d t k

/-- Insert or replace an entry, keeping the addresses rising. -/
def tput {α : Type} : List (Nat × α) → Nat → α → List (Nat × α)
  | [], k, v => [(k, v)]
  | (a, b) :: t, k, v =>
    if k < a then (k, v) :: (a, b) :: t
    else if k = a then (k, v) :: t
    else (a, b) :: tput t k v

/-- Remove the entry at k. -/
def tdel {α : Type} (m : List (Nat × α)) (k : Nat) : List (Nat × α) := m.filter (fun e => e.1 ≠ k)

/-- Write v at k: writing what an unlisted address reads as removes the entry. -/
def tset {α : Type} [DecidableEq α] (d : Nat → α) (m : List (Nat × α)) (k : Nat) (v : α) : List (Nat × α) :=
  if v = d k then tdel m k else tput m k v

/-- The canonical form: addresses strictly rising, no entry equal to what an unlisted address reads as. -/
def twf {α : Type} [DecidableEq α] (d : Nat → α) : List (Nat × α) → Bool
  | [] => true
  | [(a, b)] => b ≠ d a
  | (a, b) :: (c, e) :: t => decide (a < c) && decide (b ≠ d a) && twf d ((c, e) :: t)

/-- Apply f to element i of a list. -/
def modAt {α : Type} (l : List α) (i : Nat) (f : α → α) : List α :=
  match l, i with
  | [], _ => []
  | a :: t, 0 => f a :: t
  | a :: t, i + 1 => a :: modAt t i f

/-- The last n elements. -/
def lastN {α : Type} (n : Nat) (l : List α) : List α := l.drop (l.length - n)

/-- A left fold over the numbers below n. -/
def forN {σ : Type} (n : Nat) (f : Nat → σ → σ) (s : σ) : σ := (List.range n).foldl (fun s i => f i s) s

/-- A left fold over a list with the state last. -/
def forL {α σ : Type} (l : List α) (f : α → σ → σ) (s : σ) : σ := l.foldl (fun s a => f a s) s

/-- Ascending insertion of numbers, for medians and rankings. -/
def insertSorted (x : Int) : List Int → List Int
  | [] => [x]
  | y :: t => if x ≤ y then x :: y :: t else y :: insertSorted x t

/-- Ascending order. -/
def sortInts (l : List Int) : List Int := l.foldl (fun acc x => insertSorted x acc) []

/-! Service port framing (R83). -/

/-- The characters that carry a PDU between two delimiters. -/
def svcEscape (l : Bytes) : Bytes :=
  l.flatMap (fun b => if b = 0x7E then [0x7D, 0x5E] else if b = 0x7D then [0x7D, 0x5D] else [b])

/-- The PDU that characters carry; none where 0x7D is followed by anything other than 0x5E or 0x5D. -/
def svcUnescape : Bytes → Option Bytes
  | [] => some []
  | a :: t =>
    if a ≠ 0x7D then (svcUnescape t).map (a :: ·)
    else
      match t with
      | [] => none
      | b :: u =>
        if b = 0x5E then (svcUnescape u).map (0x7E :: ·)
        else if b = 0x5D then (svcUnescape u).map (0x7D :: ·)
        else none

end Sys2Proof.Machine
end

