-- ==== Sys2Proof/Machine/Symbols.lean ====
section
/-! DEFINITION. What a lane's symbols are (chapter 4): Gray code, precoding, polarity, training frames, test patterns and
the checker's criteria. Streams are lists, the earliest bit or symbol first. -/

namespace Sys2Proof.Machine

/-! Symbols (R86, R87). -/

/-- The level of a pair of bits, the earlier bit first (R86). -/
def grayLevel (first second : Bool) : Nat :=
  match first, second with
  | false, false => 0
  | false, true => 1
  | true, true => 2
  | true, false => 3

/-- The pair of bits of a level (R86). -/
def grayBits (level : Nat) : Bool × Bool :=
  match level with
  | 0 => (false, false)
  | 1 => (false, true)
  | 2 => (true, true)
  | _ => (true, false)

/-- The nominal amplitude of a PAM4 level (R86). -/
def amplitude (level : Nat) : Int := 2 * (level : Int) - 3

/-- The levels of a bit stream on a PAM4 lane; a last bit without its pair waits. -/
def pam4Levels : List Bool → List Nat
  | a :: b :: t => grayLevel a b :: pam4Levels t
  | _ => []

/-- The bits of a stream of levels on a PAM4 lane. -/
def pam4Bits (l : List Nat) : List Bool := l.flatMap (fun x => [(grayBits x).1, (grayBits x).2])

/-- y(n) = (x(n) - y(n-1)) mod 4 from a given y(n-1) (R87). -/
def precodeFrom : Nat → List Nat → List Nat
  | _, [] => []
  | y, x :: t => (x + 4 - y % 4) % 4 :: precodeFrom ((x + 4 - y % 4) % 4) t

/-- x(n) = (y(n) + y(n-1)) mod 4 from a given y(n-1) (R87). -/
def unprecodeFrom : Nat → List Nat → List Nat
  | _, [] => []
  | y, z :: t => (z + y) % 4 :: unprecodeFrom z t

/-- The levels sent, and the levels decoded, since a bring-up began: y(-1) = 0 (R87). -/
def precode (l : List Nat) : List Nat := precodeFrom 0 l
def unprecode (l : List Nat) : List Nat := unprecodeFrom 0 l

/-- The levels of a bit stream on a PAM4 or an NRZ lane. -/
def levelsOf (pam4 : Bool) (l : List Bool) : List Nat := if pam4 then pam4Levels l else l.map b2n

/-- The bits of a stream of levels on a PAM4 or an NRZ lane. -/
def bitsOf (pam4 : Bool) (l : List Nat) : List Bool := if pam4 then pam4Bits l else l.map (fun x => decide (x ≠ 0))

/-- Inversion of polarity exchanges levels 0 and 3, 1 and 2 on PAM4, 0 and 1 on NRZ (R94). -/
def invertLevel (pam4 : Bool) (l : Nat) : Nat := (if pam4 then 3 else 1) - l

/-- n bits of a value, the most significant first. -/
def bitsBE (n v : Nat) : List Bool := (List.range n).map (fun i => v.testBit (n - 1 - i))

/-! Patterns (R106). -/

/-- The exponents of a pattern's polynomial, the order first. -/
def prbsTaps (code : Nat) : List Nat :=
  match code with
  | 1 => [7, 6]
  | 2 => [9, 5]
  | 3 => [13, 12, 2, 1]
  | 4 => [15, 14]
  | 5 => [31, 28]
  | _ => []

/-- The order of a pattern's polynomial. -/
def prbsOrder (code : Nat) : Nat := (prbsTaps code).headD 0

/-- The next bit after a register whose bit i holds the bit sent i + 1 bits ago. -/
def prbsNext (taps : List Nat) (reg : Nat) : Bool := taps.foldl (fun a k => a != reg.testBit (k - 1)) false

/-- The n bits that follow a register. -/
def prbsRun (taps : List Nat) (order : Nat) : Nat → Nat → List Bool
  | 0, _ => []
  | n + 1, reg =>
    let b := prbsNext taps reg
    b :: prbsRun taps order n ((2 * reg + b2n b) % 2 ^ order)

/-- The register that the last bits of a stream leave. -/
def prbsSeed (order : Nat) (l : List Bool) : Nat := l.foldl (fun r b => (2 * r + b2n b) % 2 ^ order) 0

/-- n bits of a PRBS from a register that is not all zeros. -/
def prbsBits (code start n : Nat) : List Bool :=
  let order := prbsOrder code
  prbsRun (prbsTaps code) order n (start % (2 ^ order - 1) + 1)

/-- n levels of a pattern that began at place `start` of its period: PRBS, SSPRQ, square and user (R106). -/
def patternLevels (pam4 : Bool) (code user half start n : Nat) : List Nat :=
  match code with
  | 6 => (List.range n).map (fun i => Config.ssprqSymbol ((start + i) % Config.ssprqPeriod) % 4)
  | 7 => (List.range n).map (fun i => if (start + i) % (2 * half) < half then (if pam4 then 3 else 1) else 0)
  | 8 =>
    levelsOf pam4 ((List.range (if pam4 then 2 * n else n)).map (fun i => user.testBit (63 - (start + i) % 64)))
  | _ => levelsOf pam4 (prbsBits code start (if pam4 then 2 * n else n))

/-! Training frames (R95). -/

/-- The first 48 bits of a training frame: Marker, six zeros, Ready, LaneIndex and the complement of those eight. -/
def trainingHead (ready index : Nat) : Nat :=
  let x := ready * 2 + index
  0x1F350B6D * 2 ^ 16 + x * 2 ^ 8 + (255 - x)

/-- The fill: PRBS13 seeded all ones at position 48. The seed's thirteen bits stand first (DEDUCED: log 60). -/
def trainingFill : List Bool := List.replicate 13 true ++ prbsRun (prbsTaps 3) 13 4035 (2 ^ 13 - 1)

/-- A training frame, the bits in the order sent. -/
def trainingFrame (ready index : Nat) : List Bool := bitsBE 48 (trainingHead ready index) ++ trainingFill

/-- The levels of training bits: on PAM4 level 0 for 0 and level 3 for 1. -/
def trainingLevels (pam4 : Bool) (l : List Bool) : List Nat := l.map (fun b => if b then (if pam4 then 3 else 1) else 0)

/-- The Check field of a training frame holds (R95). -/
def trainingCheck (head : Nat) : Bool :=
  decide (field head 47 16 = 0x1F350B6D) && decide (field head 7 0 + field head 15 8 = 255)

/-! The checker (R107). -/

/-- The last 1,024 bits are what the bits before them predict; a register of zeros is none of the pattern's. -/
def prbsFits (code : Nat) (bits : List Bool) : Bool :=
  let order := prbsOrder code
  let l := lastN (order + 1024) bits
  let seed := prbsSeed order (l.take order)
  decide (l.length = order + 1024) && decide (seed ≠ 0) && l.drop order == prbsRun (prbsTaps code) order 1024 seed

/-- The last 16 repetitions are free of errors at one of the 64 alignments. -/
def userFits (user : Nat) (bits : List Bool) : Bool :=
  let l := lastN 1024 bits
  decide (l.length = 1024) && (List.range 64).any (fun k =>
    l == (List.range 1024).map (fun i => user.testBit (63 - (k + i) % 64)))

/-- The last period correlates with SSPRQ at some place of it. -/
def ssprqFits (levels : List Nat) : Bool :=
  let l := lastN Config.ssprqPeriod levels
  decide (l.length = Config.ssprqPeriod) && (List.range Config.ssprqPeriod).any (fun k =>
    decide (Config.ssprqAgree ≤ (l.zipIdx.filter (fun e =>
      e.1 == Config.ssprqSymbol ((k + e.2) % Config.ssprqPeriod) % 4)).length))

/-- The received levels meet the lock criterion of a pattern. -/
def patternFits (pam4 : Bool) (code user : Nat) (levels : List Nat) : Bool :=
  match code with
  | 6 => ssprqFits levels
  | 8 => userFits user (bitsOf pam4 levels)
  | _ => prbsFits code (bitsOf pam4 levels)

/-- The sense in which a checker accepts what it receives, inverted or not: either sense in automatic polarity mode, else
the mode's (R107). -/
def checkerSense (pam4 : Bool) (code user mode : Nat) (levels : List Nat) : Option Bool :=
  let inverted := levels.map (invertLevel pam4)
  if mode = 2 then (if patternFits pam4 code user inverted then some false else none)
  else if patternFits pam4 code user levels then some false
  else if mode = 0 && patternFits pam4 code user inverted then some true
  else none

end Sys2Proof.Machine
end

