-- ==== Sys2Proof/Machine/Digest.lean ====
section
/-! DEFINITION. The check values and digests the spec names: CRC-32C (R20, R66), the Ethernet CRC-32 (R118), SHA-256
(R406) and AES-128-CMAC (R77). -/

namespace Sys2Proof.Machine

/-- Eight shifts of a reflected 32-bit CRC. -/
def crcShift (poly : Nat) : Nat → Nat → Nat
  | 0, c => c
  | k + 1, c => crcShift poly k (if c % 2 = 1 then (c / 2) ^^^ poly else c / 2)

/-- A reflected 32-bit CRC, all ones in and out. -/
def crc32With (poly : Nat) (l : Bytes) : Nat :=
  (l.foldl (fun c b => crcShift poly 8 (c ^^^ b.toNat)) 0xFFFFFFFF) ^^^ 0xFFFFFFFF

/-- CRC-32C (Castagnoli). -/
def crc32c (l : Bytes) : Nat := crc32With 0x82F63B78 l

/-- The frame check sequence of IEEE 802.3. -/
def crc32Eth (l : Bytes) : Nat := crc32With 0xEDB88320 l

/-! SHA-256. -/

/-- The 64 round constants, constant i in bits [32i+31:32i]. -/
def shaK : Nat := 0xc67178f2bef9a3f7a4506ceb90befffa8cc7020884c8781478a5636f748f82ee682e6ff35b9cca4f4ed8aa4a391c0cb334b0bcb52748774c1e376c0819a4c116106aa070f40e3585d6990624d192e819c76c51a3c24b8b70a81a664ba2bfe8a192722c8581c2c92e766a0abb650a735453380d134d2c6dfc2e1b213827b70a851429296706ca6351d5a79147c6e00bf3bf597fc7b00327c8a831c66d983e515276f988da5cb0a9dc4a7484aa2de92c6f240ca1cc0fc19dc6efbe4786e49b69c1c19bf1749bdc06a780deb1fe72be5d74550c7dc3243185be12835b01d807aa98ab1c5ed5923f82a459f111f13956c25be9b5dba5b5c0fbcf71374491428a2f98

/-- The initial hash value. -/
def shaInit : List Nat := [0x6a09e667, 0xbb67ae85, 0x3c6ef372, 0xa54ff53a, 0x510e527f, 0x9b05688c, 0x1f83d9ab, 0x5be0cd19]

def rotr32 (n x : Nat) : Nat := (x >>> n) ||| ((x <<< (32 - n)) % 2 ^ 32)

def add32 (a b : Nat) : Nat := (a + b) % 2 ^ 32

/-- The 64 schedule words of a block, newest first, from its first 16. -/
def shaExtend : Nat → List Nat → List Nat
  | 0, w => w
  | k + 1, w =>
    let x2 := w.getD 1 0
    let x15 := w.getD 14 0
    let s0 := rotr32 7 x15 ^^^ rotr32 18 x15 ^^^ (x15 >>> 3)
    let s1 := rotr32 17 x2 ^^^ rotr32 19 x2 ^^^ (x2 >>> 10)
    shaExtend k (((w.getD 15 0 + s0 + w.getD 6 0 + s1) % 2 ^ 32) :: w)

/-- One round over (a … h). -/
def shaRound (v : List Nat) (w k : Nat) : List Nat :=
  match v with
  | [a, b, c, d, e, f, g, h] =>
    let s1 := rotr32 6 e ^^^ rotr32 11 e ^^^ rotr32 25 e
    let ch := (e &&& f) ^^^ ((e ^^^ 0xFFFFFFFF) &&& g)
    let t1 := (h + s1 + ch + k + w) % 2 ^ 32
    let s0 := rotr32 2 a ^^^ rotr32 13 a ^^^ rotr32 22 a
    let mj := (a &&& b) ^^^ (a &&& c) ^^^ (b &&& c)
    [add32 t1 (add32 s0 mj), a, b, c, add32 d t1, e, f, g]
  | _ => v

def shaRounds : List Nat → Nat → List Nat → List Nat
  | [], _, v => v
  | w :: t, i, v => shaRounds t (i + 1) (shaRound v w ((shaK >>> (32 * i)) % 2 ^ 32))

def shaBlock (h : List Nat) (block : Bytes) : List Nat :=
  let w0 := (List.range 16).map (fun i => beAt block (4 * i) 4)
  let w := (shaExtend 48 w0.reverse).reverse
  (h.zip (shaRounds w 0 h)).map (fun p => add32 p.1 p.2)

def shaBlocks : Nat → Bytes → List Nat → List Nat
  | 0, _, h => h
  | k + 1, l, h => shaBlocks k (l.drop 64) (shaBlock h (l.take 64))

/-- SHA-256 of a byte string, 32 bytes. -/
def sha256 (l : Bytes) : Bytes :=
  let z := (119 - l.length % 64) % 64
  let m := l ++ [0x80] ++ List.replicate z 0 ++ bytesBE 8 (8 * l.length)
  (shaBlocks (m.length / 64) m shaInit).flatMap (fun x => bytesBE 4 x)

/-! AES-128 and its CMAC. A block is 16 bytes in order. -/

/-- The S-box, entry i in bits [8i+7:8i]. -/
def aesSbox : Nat := 0x16bb54b00f2d99416842e6bf0d89a18cdf2855cee9871e9b948ed9691198f8e19e1dc186b95735610ef6034866b53e708a8bbd4b1f74dde8c6b4a61c2e2578ba08ae7a65eaf4566ca94ed58d6d37c8e779e4959162acd3c25c2406490a3a32e0db0b5ede14b8ee4688902a22dc4f816073195d643d7ea7c41744975fec130ccdd2f3ff1021dab6bcf5389d928f40a351a89f3c507f02f94585334d43fbaaefd0cf584c4a39becb6a5bb1fc20ed00d153842fe329b3d63b52a05a6e1b1a2c830975b227ebe28012079a059618c323c7041531d871f1e5a534ccf73f362693fdb7c072a49cafa2d4adf04759fa7dc982ca76abd7fe2b670130c56f6bf27b777c63

def aesSub (b : Byte) : Byte := BitVec.ofNat 8 (aesSbox >>> (8 * b.toNat))

def aesDouble (b : Byte) : Byte := if b.toNat < 128 then b <<< 1 else (b <<< 1) ^^^ 0x1B

def xorBytes (a b : Bytes) : Bytes := List.zipWith (fun x y => x ^^^ y) a b

/-- The next round key. -/
def aesNextKey (k : Bytes) (rcon : Byte) : Bytes :=
  let t := [aesSub (k.getD 13 0) ^^^ rcon, aesSub (k.getD 14 0), aesSub (k.getD 15 0), aesSub (k.getD 12 0)]
  let a := xorBytes (slice k 0 4) t
  let b := xorBytes (slice k 4 4) a
  let c := xorBytes (slice k 8 4) b
  a ++ b ++ c ++ xorBytes (slice k 12 4) c

def aesShiftRows (s : Bytes) : Bytes := (List.range 16).map (fun i => s.getD ((i + 4 * (i % 4)) % 16) 0)

def aesMixColumn (c : Bytes) : Bytes :=
  match c with
  | [a, b, d, e] =>
    [aesDouble a ^^^ aesDouble b ^^^ b ^^^ d ^^^ e, a ^^^ aesDouble b ^^^ aesDouble d ^^^ d ^^^ e,
     a ^^^ b ^^^ aesDouble d ^^^ aesDouble e ^^^ e, aesDouble a ^^^ a ^^^ b ^^^ d ^^^ aesDouble e]
  | _ => c

def aesMix (s : Bytes) : Bytes :=
  aesMixColumn (slice s 0 4) ++ aesMixColumn (slice s 4 4) ++ aesMixColumn (slice s 8 4) ++ aesMixColumn (slice s 12 4)

/-- The middle rounds. -/
def aesRounds : Nat → Bytes → Byte → Bytes → Bytes
  | 0, k, rcon, s => xorBytes (aesShiftRows (s.map aesSub)) (aesNextKey k rcon)
  | n + 1, k, rcon, s =>
    let k' := aesNextKey k rcon
    aesRounds n k' (aesDouble rcon) (xorBytes (aesMix (aesShiftRows (s.map aesSub))) k')

/-- AES-128 encryption of one block. -/
def aes128 (key block : Bytes) : Bytes := aesRounds 9 key 1 (xorBytes block key)

/-- A block as a 128-bit value doubled in the field of the CMAC subkeys. -/
def cmacDouble (b : Bytes) : Bytes :=
  let v := ofBE b
  bytesBE 16 (if v < 2 ^ 127 then 2 * v else ((2 * v) % 2 ^ 128) ^^^ 0x87)

def cmacChain (key : Bytes) : Nat → Bytes → Bytes → Bytes
  | 0, _, x => x
  | n + 1, l, x => cmacChain key n (l.drop 16) (aes128 key (xorBytes x (l.take 16)))

/-- AES-CMAC (NIST SP 800-38B), 16 bytes. -/
def aesCmac (key msg : Bytes) : Bytes :=
  let k1 := cmacDouble (aes128 key (List.replicate 16 0))
  let n := (msg.length - 1) / 16
  let head := msg.take (16 * n)
  let rest := msg.drop (16 * n)
  let last :=
    if rest.length = 16 then xorBytes rest k1
    else xorBytes (rest ++ 0x80 :: List.replicate (15 - rest.length) 0) (cmacDouble k1)
  aes128 key (xorBytes (cmacChain key n head (List.replicate 16 0)) last)

end Sys2Proof.Machine
end

