-- ==== Sys2Proof/Machine/Catalogue.lean ====
section
/-! DEFINITION. The Catalogue (R40-R63): every object's type, access class, row limit, default and stated range, from
the object tables of the chapters, and the judgement of R55 as far as it needs no state. -/

namespace Sys2Proof.Machine

/-- The types of R43. -/
inductive Ty where
  | bool | u8 | u16 | u32 | u64 | s16 | s32 | s64 | bits32 | time128 | phase64 | mac48
  | octets (n : Nat)
  | table (bytes : Nat)
deriving DecidableEq, Repr

/-- The access classes of R48. -/
inductive Acc where
  | ro | rw | rs | wo | seal
deriving DecidableEq, Repr

/-- The stated range of a value: any, an unsigned range, a signed range, 0 or a range, a list of codes, a mask of the
bits that are not reserved, a TIME128, or a check of its own (Operands.lean). -/
inductive Chk where
  | any
  | rng (lo hi : Nat)
  | srng (lo hi : Int)
  | zeroOr (lo hi : Nat)
  | oneOf (l : List Nat)
  | mask (m : Nat)
  | time
  | special
deriving DecidableEq, Repr

/-- One line of an object table: the first index, how many consecutive indices carry the object, the runs of
sub-indices, type, access, row limit of a TABLE, default, range, and whether the object is one per port slot (R115). -/
structure Entry where
  idx : Nat
  count : Nat
  subs : List (Nat × Nat)
  ty : Ty
  acc : Acc
  rowLimit : Nat
  dflt : Nat
  chk : Chk
  perPort : Bool
deriving DecidableEq, Repr

/-- Bytes of a value or row (R43). -/
def Ty.len : Ty → Nat
  | .bool => 1 | .u8 => 1 | .u16 => 2 | .u32 => 4 | .u64 => 8 | .s16 => 2 | .s32 => 4 | .s64 => 8
  | .bits32 => 4 | .time128 => 16 | .phase64 => 8 | .mac48 => 6
  | .octets n => n
  | .table n => n

/-- The type code of R43. -/
def Ty.code : Ty → Nat
  | .bool => 1 | .u8 => 2 | .u16 => 3 | .u32 => 4 | .u64 => 5 | .s16 => 6 | .s32 => 7 | .s64 => 8
  | .bits32 => 9 | .time128 => 10 | .phase64 => 11 | .mac48 => 12
  | .octets _ => 13
  | .table _ => 14

/-- Whether values of the type are carried most significant byte first (MAC48, R43). -/
def Ty.big : Ty → Bool
  | .mac48 => true
  | _ => false

/-- The access code of R63. -/
def Acc.code : Acc → Nat
  | .ro => 1 | .rw => 2 | .rs => 3 | .wo => 4 | .seal => 5

def cat0_0 : List Entry := [
  ⟨0x0000, 1, [(0x00, 0x00)], .octets 16, .ro, 0, 0x6c657a6c614b, .any, false⟩,
  ⟨0x0001, 1, [(0x00, 0x00)], .octets 16, .ro, 0, 0x323334365842, .any, false⟩,
  ⟨0x0002, 1, [(0x00, 0x00)], .octets 16, .ro, 0, 0, .any, false⟩,
  ⟨0x0003, 1, [(0x00, 0x00)], .u64, .ro, 0, 0, .any, false⟩,
  ⟨0x0004, 1, [(0x00, 0x00)], .bits32, .ro, 0, 0, .any, false⟩,
  ⟨0x0005, 1, [(0x00, 0x00)], .u32, .ro, 0, 0, .any, false⟩,
  ⟨0x0010, 1, [(0x00, 0x00)], .u32, .ro, 0, 0x10000, .any, false⟩,
  ⟨0x0011, 1, [(0x00, 0x00)], .u32, .ro, 0, 0, .any, false⟩,
  ⟨0x0012, 1, [(0x00, 0x00)], .table 12, .ro, 4096, 0, .any, false⟩,
  ⟨0x0020, 1, [(0x00, 0x02)], .u32, .ro, 0, 0, .any, false⟩,
  ⟨0x0021, 1, [(0x00, 0x00)], .u8, .ro, 0, 0, .any, false⟩,
  ⟨0x0030, 1, [(0x00, 0x0F)], .u8, .ro, 0, 0, .any, false⟩,
  ⟨0x0031, 1, [(0x00, 0x0F)], .u8, .ro, 0, 0, .any, false⟩,
  ⟨0x0032, 1, [(0x00, 0x0F)], .u16, .ro, 0, 0, .any, false⟩,
  ⟨0x0033, 1, [(0x00, 0x0F)], .u8, .ro, 0, 255, .any, false⟩,
  ⟨0x0034, 1, [(0x00, 0x0F)], .u64, .ro, 0, 0, .any, false⟩,
  ⟨0x0035, 1, [(0x00, 0xFF)], .u64, .ro, 0, 0, .any, false⟩,
  ⟨0x0036, 1, [(0x00, 0x0F)], .bool, .wo, 0, 0, .rng 0 1, false⟩,
  ⟨0x0037, 1, [(0x00, 0x00)], .u8, .ro, 0, 0, .any, false⟩,
  ⟨0x0038, 1, [(0x00, 0x00)], .u8, .ro, 0, 16, .any, false⟩,
  ⟨0x0039, 1, [(0x00, 0x0F)], .octets 16, .ro, 0, 0, .any, false⟩,
  ⟨0x0040, 1, [(0x00, 0x03)], .octets 16, .wo, 0, 0, .any, false⟩,
  ⟨0x0041, 1, [(0x00, 0x03)], .bool, .ro, 0, 0, .rng 0 1, false⟩,
  ⟨0x0042, 1, [(0x00, 0x02)], .bool, .rw, 0, 0, .rng 0 1, false⟩,
  ⟨0x0043, 1, [(0x00, 0x00)], .bool, .wo, 0, 0, .rng 0 1, false⟩,
  ⟨0x0044, 1, [(0x00, 0x00)], .u64, .rw, 0, 0xffffffffffffffff, .any, false⟩,
  ⟨0x0045, 1, [(0x00, 0x00)], .u16, .rw, 0, 60, .rng 1 3600, false⟩,
  ⟨0x0046, 1, [(0x00, 0x0F)], .u8, .ro, 0, 0, .any, false⟩,
  ⟨0x0047, 1, [(0x00, 0x00)], .u32, .ro, 0, 0, .any, false⟩,
  ⟨0x0048, 1, [(0x00, 0x02)], .u64, .ro, 0, 0, .any, false⟩]

def cat0_1 : List Entry := [
  ⟨0x0049, 1, [(0x00, 0x02)], .u64, .ro, 0, 0, .any, false⟩,
  ⟨0x004A, 1, [(0x00, 0x3F)], .u64, .ro, 0, 0, .any, true⟩,
  ⟨0x004B, 1, [(0x00, 0x00)], .u64, .ro, 0, 0, .any, false⟩,
  ⟨0x004C, 1, [(0x00, 0x00)], .u64, .ro, 0, 0, .any, false⟩,
  ⟨0x004D, 1, [(0x00, 0x00)], .u64, .ro, 0, 0, .any, false⟩,
  ⟨0x0050, 1, [(0x00, 0x00)], .u8, .rw, 0, 0, .rng 0 2, false⟩,
  ⟨0x0051, 1, [(0x00, 0x00)], .u8, .ro, 0, 0, .any, false⟩,
  ⟨0x0052, 1, [(0x00, 0x00)], .mac48, .ro, 0, 0, .any, false⟩,
  ⟨0x0053, 1, [(0x00, 0x00)], .u64, .ro, 0, 0, .any, false⟩]

def cat1_0 : List Entry := [
  ⟨0x1000, 1, [(0x00, 0x00)], .u64, .ro, 0, 0, .any, false⟩,
  ⟨0x1001, 1, [(0x00, 0x00)], .u64, .ro, 0, 0, .any, false⟩,
  ⟨0x1002, 1, [(0x00, 0x00)], .u64, .ro, 0, 0, .any, false⟩,
  ⟨0x1003, 1, [(0x00, 0x07)], .u64, .ro, 0, 0, .any, false⟩,
  ⟨0x1004, 1, [(0x00, 0x07)], .u32, .ro, 0, 0, .any, false⟩,
  ⟨0x1005, 1, [(0x00, 0x00)], .bool, .wo, 0, 0, .rng 0 1, false⟩,
  ⟨0x1010, 1, [(0x00, 0x00)], .u8, .ro, 0, 0, .any, false⟩,
  ⟨0x1011, 1, [(0x00, 0x00)], .u32, .ro, 0, 0, .any, false⟩,
  ⟨0x1012, 1, [(0x00, 0x00)], .u32, .ro, 0, 0, .any, false⟩,
  ⟨0x1013, 1, [(0x00, 0x00)], .bool, .wo, 0, 0, .rng 0 1, false⟩,
  ⟨0x1014, 1, [(0x00, 0x00)], .u32, .ro, 0, 16384, .any, false⟩,
  ⟨0x1015, 1, [(0x00, 0x00)], .u32, .ro, 0, 0x10000, .any, false⟩,
  ⟨0x1020, 1, [(0x00, 0x00)], .u8, .rw, 0, 8, .rng 4 255, false⟩,
  ⟨0x1021, 1, [(0x00, 0x00)], .u32, .ro, 0, 0, .any, false⟩,
  ⟨0x1022, 1, [(0x00, 0x00)], .u64, .ro, 0, 0, .any, false⟩,
  ⟨0x1023, 1, [(0x00, 0x00)], .u8, .ro, 0, 0, .any, false⟩,
  ⟨0x1024, 1, [(0x00, 0x00)], .table 24, .ro, 64, 0, .any, false⟩,
  ⟨0x1025, 1, [(0x00, 0x00)], .u64, .ro, 0, 0, .any, false⟩,
  ⟨0x1026, 1, [(0x00, 0x00)], .u64, .ro, 0, 0, .any, false⟩,
  ⟨0x1030, 1, [(0x00, 0x00)], .u8, .rw, 0, 2, .rng 2 255, false⟩,
  ⟨0x1031, 1, [(0x00, 0x01)], .u8, .ro, 0, 0, .any, false⟩,
  ⟨0x1032, 1, [(0x00, 0x01)], .u32, .ro, 0, 0, .any, false⟩,
  ⟨0x1033, 1, [(0x00, 0x01)], .u64, .ro, 0, 0, .any, false⟩,
  ⟨0x1034, 1, [(0x00, 0x00)], .u32, .ro, 0, 0x60000, .any, false⟩,
  ⟨0x1035, 1, [(0x00, 0x01)], .bool, .wo, 0, 0, .rng 0 1, false⟩,
  ⟨0x1040, 1, [(0x00, 0x00)], .u8, .rs, 0, 0, .rng 0 3, false⟩]

def cat2_0 : List Entry := [
  ⟨0x2000, 1, [(0x00, 0x3F)], .bool, .rw, 0, 1, .rng 0 1, false⟩,
  ⟨0x2001, 1, [(0x00, 0x3F)], .u8, .ro, 0, 0, .any, false⟩,
  ⟨0x2002, 1, [(0x00, 0x3F)], .u8, .ro, 0, 4, .any, false⟩,
  ⟨0x2003, 1, [(0x00, 0x3F)], .u8, .rs, 0, 0, .rng 0 1, false⟩,
  ⟨0x2004, 1, [(0x00, 0x3F)], .bool, .rs, 0, 0, .rng 0 1, false⟩,
  ⟨0x2005, 1, [(0x00, 0x3F)], .bool, .rs, 0, 0, .rng 0 1, false⟩,
  ⟨0x2006, 1, [(0x00, 0x3F)], .u8, .rs, 0, 0, .rng 0 2, false⟩,
  ⟨0x2007, 1, [(0x00, 0x3F)], .u8, .ro, 0, 0, .any, false⟩,
  ⟨0x2008, 1, [(0x00, 0x3F)], .bool, .rs, 0, 0, .rng 0 1, false⟩,
  ⟨0x2009, 1, [(0x00, 0x1F)], .u8, .ro, 0, 0, .any, false⟩,
  ⟨0x200A, 1, [(0x00, 0x1F)], .u8, .rs, 0, 0, .rng 0 2, false⟩,
  ⟨0x200B, 1, [(0x00, 0x1F)], .bool, .rs, 0, 0, .rng 0 1, false⟩,
  ⟨0x2010, 1, [(0x00, 0x3F)], .bits32, .rw, 0, 0x230180, .special, false⟩,
  ⟨0x2011, 1, [(0x00, 0x3F)], .u8, .ro, 0, 0, .any, false⟩,
  ⟨0x2012, 1, [(0x00, 0x3F)], .octets 12, .ro, 0, 0, .any, false⟩,
  ⟨0x2013, 1, [(0x00, 0x3F)], .octets 4, .ro, 0, 0, .any, false⟩,
  ⟨0x2014, 1, [(0x00, 0x3F)], .bool, .ro, 0, 0, .rng 0 1, false⟩,
  ⟨0x2015, 1, [(0x00, 0x3F)], .u64, .ro, 0, 0, .any, false⟩,
  ⟨0x2016, 1, [(0x00, 0x00)], .u16, .rw, 0, 128, .rng 0 1023, false⟩,
  ⟨0x2017, 1, [(0x00, 0x00)], .u16, .rw, 0, 64, .rng 0 256, false⟩,
  ⟨0x2018, 1, [(0x00, 0x3F)], .u64, .ro, 0, 0, .any, false⟩,
  ⟨0x2019, 1, [(0x00, 0x3F)], .u8, .ro, 0, 0, .any, false⟩,
  ⟨0x201A, 1, [(0x00, 0x3F)], .u64, .ro, 0, 0, .any, false⟩,
  ⟨0x2020, 1, [(0x00, 0x3F)], .u16, .ro, 0, 0, .any, false⟩,
  ⟨0x2021, 1, [(0x00, 0x3F)], .u16, .ro, 0, 0, .any, false⟩,
  ⟨0x2022, 1, [(0x00, 0x3F)], .u16, .ro, 0, 0, .any, false⟩,
  ⟨0x2023, 1, [(0x00, 0x3F)], .u16, .ro, 0, 0, .any, false⟩,
  ⟨0x2024, 1, [(0x00, 0x3F)], .u32, .ro, 0, 0, .any, false⟩,
  ⟨0x2025, 1, [(0x00, 0x3F)], .u16, .ro, 0, 0, .any, false⟩,
  ⟨0x2026, 1, [(0x00, 0x3F)], .u8, .ro, 0, 0, .any, false⟩]

def cat2_1 : List Entry := [
  ⟨0x2030, 1, [(0x00, 0x3F)], .phase64, .ro, 0, 0, .any, false⟩,
  ⟨0x2031, 1, [(0x00, 0x3F)], .phase64, .ro, 0, 0, .any, false⟩,
  ⟨0x2032, 1, [(0x00, 0x3F)], .phase64, .ro, 0, 0, .any, false⟩,
  ⟨0x2040, 1, [(0x00, 0x3F)], .u8, .ro, 0, 0, .any, false⟩,
  ⟨0x2041, 1, [(0x00, 0x3F)], .u64, .ro, 0, 0, .any, false⟩,
  ⟨0x2042, 1, [(0x00, 0x3F)], .u64, .ro, 0, 0, .any, false⟩,
  ⟨0x2043, 1, [(0x00, 0x3F)], .bool, .wo, 0, 0, .rng 0 1, false⟩,
  ⟨0x2050, 1, [(0x00, 0x3F)], .u64, .ro, 0, 0, .any, false⟩,
  ⟨0x2051, 1, [(0x00, 0x3F)], .u64, .ro, 0, 0, .any, false⟩,
  ⟨0x2052, 1, [(0x00, 0x3F)], .u64, .ro, 0, 0, .any, false⟩,
  ⟨0x2053, 1, [(0x00, 0x3F)], .u8, .rs, 0, 0, .rng 0 1, false⟩]

def cat3_0 : List Entry := [
  ⟨0x3000, 1, [(0x00, 0x1F)], .u8, .rs, 0, 2, .rng 0 6, false⟩,
  ⟨0x3001, 1, [(0x00, 0x00)], .u8, .ro, 0, 64, .any, false⟩,
  ⟨0x3002, 1, [(0x00, 0x3F)], .u8, .ro, 0, 0, .any, false⟩,
  ⟨0x3003, 1, [(0x00, 0x3F)], .u8, .ro, 0, 4, .any, true⟩,
  ⟨0x3004, 1, [(0x00, 0x3F)], .u8, .ro, 0, 0, .any, true⟩,
  ⟨0x3005, 1, [(0x00, 0x1F)], .u64, .ro, 0, 0, .any, false⟩,
  ⟨0x3010, 1, [(0x00, 0x3F)], .u16, .rs, 0, 1522, .rng 1518 16384, true⟩,
  ⟨0x3011, 1, [(0x00, 0x3F)], .u16, .rs, 0, 1, .rng 1 4094, true⟩,
  ⟨0x3012, 1, [(0x00, 0x3F)], .u8, .rs, 0, 0, .rng 0 7, true⟩,
  ⟨0x3013, 1, [(0x00, 0x3F)], .u8, .rs, 0, 0, .rng 0 7, true⟩,
  ⟨0x3014, 1, [(0x00, 0x3F)], .u8, .rs, 0, 0, .rng 0 1, true⟩,
  ⟨0x3020, 1, [(0x00, 0x00)], .table 16, .rs, 8192, 0, .special, false⟩,
  ⟨0x3021, 1, [(0x00, 0x00)], .table 8, .ro, 8192, 0, .any, false⟩,
  ⟨0x3022, 1, [(0x00, 0x00)], .bool, .wo, 0, 0, .rng 0 1, false⟩,
  ⟨0x3030, 1, [(0x00, 0x3F)], .u64, .ro, 0, 0, .any, true⟩,
  ⟨0x3031, 1, [(0x00, 0x3F)], .u64, .ro, 0, 0, .any, true⟩,
  ⟨0x3032, 1, [(0x00, 0x3F)], .u64, .ro, 0, 0, .any, true⟩,
  ⟨0x3033, 1, [(0x00, 0x3F)], .u64, .ro, 0, 0, .any, true⟩,
  ⟨0x3034, 1, [(0x00, 0x3F)], .u64, .ro, 0, 0, .any, true⟩,
  ⟨0x3035, 1, [(0x00, 0x3F)], .u64, .ro, 0, 0, .any, true⟩,
  ⟨0x3036, 1, [(0x00, 0x3F)], .u64, .ro, 0, 0, .any, true⟩,
  ⟨0x3037, 1, [(0x00, 0x3F)], .u64, .ro, 0, 0, .any, true⟩,
  ⟨0x3038, 1, [(0x00, 0x3F)], .u64, .ro, 0, 0, .any, true⟩,
  ⟨0x3039, 1, [(0x00, 0x3F)], .u64, .ro, 0, 0, .any, true⟩,
  ⟨0x303A, 1, [(0x00, 0x3F)], .u64, .ro, 0, 0, .any, true⟩,
  ⟨0x303B, 1, [(0x00, 0x3F)], .u64, .ro, 0, 0, .any, true⟩,
  ⟨0x303C, 1, [(0x00, 0x3F)], .u64, .ro, 0, 0, .any, true⟩,
  ⟨0x3040, 1, [(0x00, 0x3F)], .u64, .ro, 0, 0, .any, true⟩,
  ⟨0x3041, 1, [(0x00, 0x3F)], .u64, .ro, 0, 0, .any, true⟩,
  ⟨0x3042, 1, [(0x00, 0x3F)], .u64, .ro, 0, 0, .any, true⟩]

def cat3_1 : List Entry := [
  ⟨0x3043, 1, [(0x00, 0x3F)], .u64, .ro, 0, 0, .any, true⟩,
  ⟨0x3044, 1, [(0x00, 0x3F)], .u64, .ro, 0, 0, .any, true⟩,
  ⟨0x3048, 8, [(0x00, 0x3F)], .u64, .ro, 0, 0, .any, true⟩,
  ⟨0x3050, 8, [(0x00, 0x3F)], .u64, .ro, 0, 0, .any, true⟩,
  ⟨0x305F, 1, [(0x00, 0x3F)], .bool, .wo, 0, 0, .rng 0 1, true⟩]

def cat4_0 : List Entry := [
  ⟨0x4000, 1, [(0x00, 0x00)], .u8, .rs, 0, 0, .any, false⟩,
  ⟨0x4001, 1, [(0x00, 0x07)], .u32, .rs, 0, 0x186a0, .rng 1000 10000000, false⟩,
  ⟨0x4002, 1, [(0x00, 0x07)], .u8, .rs, 0, 5, .rng 0 9, false⟩,
  ⟨0x4003, 1, [(0x00, 0x00)], .u16, .rs, 0, 64, .rng 1 4096, false⟩,
  ⟨0x4004, 1, [(0x00, 0x00)], .u16, .rs, 0, 65535, .rng 1 65535, false⟩,
  ⟨0x4008, 8, [(0x00, 0x3F)], .u16, .rs, 0, 16, .rng 0 4096, true⟩,
  ⟨0x4010, 8, [(0x00, 0x3F)], .u32, .rs, 0, 1024, .rng 0 262144, true⟩,
  ⟨0x4018, 1, [(0x00, 0x3F)], .bool, .rs, 0, 1, .rng 0 1, true⟩,
  ⟨0x4019, 1, [(0x00, 0x00)], .u32, .rw, 0, 300, .zeroOr 10 1000000, false⟩,
  ⟨0x4020, 1, [(0x00, 0x00)], .table 16, .rs, 262144, 0, .special, false⟩,
  ⟨0x4021, 1, [(0x00, 0x00)], .table 16, .rw, 262144, 0, .special, false⟩,
  ⟨0x4022, 1, [(0x00, 0x00)], .table 24, .rs, 4096, 0, .special, false⟩,
  ⟨0x4023, 1, [(0x00, 0x00)], .table 8, .rs, 4096, 0, .any, false⟩,
  ⟨0x4024, 1, [(0x00, 0x00)], .bool, .wo, 0, 0, .rng 0 1, false⟩,
  ⟨0x4030, 1, [(0x00, 0x00)], .u32, .ro, 0, 0xbe000, .any, false⟩,
  ⟨0x4031, 1, [(0x00, 0x00)], .u32, .ro, 0, 0xbe000, .any, false⟩,
  ⟨0x4032, 1, [(0x00, 0x00)], .u32, .ro, 0, 0x3c000, .any, false⟩,
  ⟨0x4033, 1, [(0x00, 0x00)], .u32, .ro, 0, 0x3c000, .any, false⟩,
  ⟨0x4034, 1, [(0x00, 0x00)], .u32, .ro, 0, 0, .any, false⟩,
  ⟨0x4035, 1, [(0x00, 0x00)], .u32, .ro, 0, 8192, .any, false⟩,
  ⟨0x4036, 1, [(0x00, 0x00)], .u64, .ro, 0, 0, .any, false⟩,
  ⟨0x4037, 1, [(0x00, 0x00)], .u64, .ro, 0, 0, .any, false⟩,
  ⟨0x4040, 8, [(0x00, 0x3F)], .u32, .ro, 0, 0, .any, true⟩,
  ⟨0x4048, 8, [(0x00, 0x3F)], .u32, .ro, 0, 0, .any, true⟩,
  ⟨0x4050, 1, [(0x00, 0x3F)], .u8, .ro, 0, 0, .any, true⟩,
  ⟨0x4058, 8, [(0x00, 0x3F)], .u64, .ro, 0, 0, .any, true⟩,
  ⟨0x4060, 8, [(0x00, 0x3F)], .u64, .ro, 0, 0, .any, true⟩,
  ⟨0x4068, 8, [(0x00, 0x3F)], .u32, .ro, 0, 0, .any, true⟩,
  ⟨0x4070, 8, [(0x00, 0x3F)], .u32, .ro, 0, 0, .any, true⟩,
  ⟨0x4078, 8, [(0x00, 0x3F)], .u64, .ro, 0, 0, .any, true⟩]

def cat4_1 : List Entry := [
  ⟨0x4080, 1, [(0x00, 0x3F)], .u64, .ro, 0, 0, .any, true⟩,
  ⟨0x4081, 1, [(0x00, 0x3F)], .u64, .ro, 0, 0, .any, true⟩,
  ⟨0x4082, 1, [(0x00, 0x3F)], .u64, .ro, 0, 0, .any, true⟩,
  ⟨0x4083, 1, [(0x00, 0x3F)], .u64, .ro, 0, 0, .any, true⟩,
  ⟨0x4090, 1, [(0x00, 0x3F)], .u64, .ro, 0, 0, .any, true⟩,
  ⟨0x4091, 1, [(0x00, 0x3F)], .u64, .ro, 0, 0, .any, true⟩,
  ⟨0x4092, 1, [(0x00, 0x3F)], .u64, .ro, 0, 0, .any, true⟩,
  ⟨0x4093, 1, [(0x00, 0x3F)], .u64, .ro, 0, 0, .any, true⟩,
  ⟨0x40A0, 1, [(0x00, 0x00)], .u32, .ro, 0, 0, .any, false⟩,
  ⟨0x40A1, 1, [(0x00, 0x00)], .u64, .ro, 0, 0, .any, false⟩,
  ⟨0x40A2, 1, [(0x00, 0x00)], .u64, .ro, 0, 0, .any, false⟩,
  ⟨0x40A3, 1, [(0x00, 0x00)], .u64, .ro, 0, 0, .any, false⟩,
  ⟨0x40B0, 1, [(0x00, 0x00)], .bool, .wo, 0, 0, .rng 0 1, false⟩]

def cat5_0 : List Entry := [
  ⟨0x5010, 1, [(0x00, 0x3F)], .table 8, .rs, 1024, 0, .special, true⟩,
  ⟨0x5011, 1, [(0x00, 0x3F)], .u16, .rs, 0, 0, .rng 0 1024, true⟩,
  ⟨0x5012, 1, [(0x00, 0x3F)], .u32, .rs, 0, 0x1e848, .special, true⟩,
  ⟨0x5013, 1, [(0x00, 0x3F)], .bool, .ro, 0, 0, .rng 0 1, true⟩,
  ⟨0x5014, 1, [(0x00, 0x3F)], .u16, .ro, 0, 65535, .any, true⟩,
  ⟨0x5015, 1, [(0x00, 0x3F)], .u8, .ro, 0, 255, .any, true⟩,
  ⟨0x5020, 8, [(0x00, 0x3F)], .u32, .rs, 0, 0, .zeroOr 1 10000000, true⟩,
  ⟨0x5028, 8, [(0x00, 0x3F)], .u64, .ro, 0, 0, .any, true⟩,
  ⟨0x5030, 1, [(0x00, 0x3F)], .u8, .ro, 0, 0, .any, true⟩,
  ⟨0x5031, 1, [(0x00, 0x3F)], .u64, .ro, 0, 0, .any, true⟩,
  ⟨0x5040, 8, [(0x00, 0x3F)], .u64, .ro, 0, 0, .any, true⟩,
  ⟨0x505F, 1, [(0x00, 0x3F)], .bool, .wo, 0, 0, .rng 0 1, true⟩]

def cat6_0 : List Entry := [
  ⟨0x6001, 1, [(0x00, 0x00)], .u32, .ro, 0, 0x1000000, .any, false⟩,
  ⟨0x6002, 1, [(0x00, 0x00)], .u32, .ro, 0, 0, .any, false⟩,
  ⟨0x6003, 1, [(0x00, 0x00)], .u32, .ro, 0, 0, .any, false⟩,
  ⟨0x6004, 1, [(0x00, 0x00)], .bool, .ro, 0, 0, .rng 0 1, false⟩,
  ⟨0x6008, 1, [(0x00, 0x00)], .u64, .ro, 0, 0, .any, false⟩,
  ⟨0x6009, 1, [(0x00, 0x00)], .u64, .ro, 0, 0, .any, false⟩,
  ⟨0x6010, 1, [(0x00, 0x0F)], .table 8, .rs, 56, 0, .special, false⟩,
  ⟨0x6011, 1, [(0x00, 0x0F)], .u8, .rs, 0, 0, .rng 0 56, false⟩,
  ⟨0x6020, 1, [(0x00, 0x00)], .table 32, .rs, 256, 0, .special, false⟩,
  ⟨0x6021, 1, [(0x00, 0x00)], .table 1, .ro, 256, 0, .any, false⟩,
  ⟨0x6030, 1, [(0x00, 0x00)], .table 8, .rs, 16384, 0, .special, false⟩,
  ⟨0x6040, 1, [(0x00, 0x00)], .table 8, .ro, 4096, 0, .any, false⟩,
  ⟨0x6041, 1, [(0x00, 0x00)], .table 8, .ro, 4096, 0, .any, false⟩,
  ⟨0x6042, 1, [(0x00, 0x00)], .table 8, .ro, 4096, 0, .any, false⟩,
  ⟨0x6043, 1, [(0x00, 0x00)], .table 8, .ro, 4096, 0, .any, false⟩,
  ⟨0x6044, 1, [(0x00, 0x00)], .table 8, .ro, 4096, 0, .any, false⟩,
  ⟨0x6050, 1, [(0x00, 0x00)], .table 8, .ro, 256, 0, .any, false⟩,
  ⟨0x6051, 1, [(0x00, 0x00)], .table 8, .ro, 256, 0, .any, false⟩,
  ⟨0x6052, 1, [(0x00, 0x00)], .table 8, .ro, 256, 0, .any, false⟩,
  ⟨0x6053, 1, [(0x00, 0x00)], .table 8, .ro, 256, 0, .any, false⟩,
  ⟨0x6054, 1, [(0x00, 0x00)], .table 8, .ro, 256, 0, .any, false⟩,
  ⟨0x6055, 1, [(0x00, 0x00)], .table 8, .ro, 256, 0, .any, false⟩,
  ⟨0x6056, 1, [(0x00, 0x00)], .table 8, .ro, 256, 0, .any, false⟩,
  ⟨0x6057, 1, [(0x00, 0x00)], .table 8, .ro, 256, 0, .any, false⟩,
  ⟨0x6058, 1, [(0x00, 0x00)], .table 8, .ro, 256, 0, .any, false⟩,
  ⟨0x605F, 1, [(0x00, 0x00)], .bool, .wo, 0, 0, .rng 0 1, false⟩,
  ⟨0x6060, 1, [(0x00, 0x07)], .u32, .ro, 0, 0, .any, false⟩]

def cat7_0 : List Entry := [
  ⟨0x7000, 1, [(0x00, 0x00)], .u8, .ro, 0, 80, .any, false⟩,
  ⟨0x7001, 1, [(0x00, 0x4F)], .u8, .ro, 0, 0, .any, false⟩,
  ⟨0x7002, 1, [(0x00, 0x4F)], .u8, .ro, 0, 255, .any, false⟩,
  ⟨0x7003, 1, [(0x46, 0x47)], .u8, .rw, 0, 255, .special, false⟩,
  ⟨0x7004, 1, [(0x40, 0x43), (0x46, 0x47)], .u32, .rw, 0, 1, .rng 1 1048576, false⟩,
  ⟨0x7005, 1, [(0x40, 0x43), (0x46, 0x47)], .u64, .rw, 0, 0, .zeroOr 524288 65536000000, false⟩,
  ⟨0x7010, 1, [(0x00, 0x43), (0x46, 0x47)], .octets 24, .ro, 0, 0, .any, false⟩,
  ⟨0x7011, 1, [(0x44, 0x45)], .octets 24, .ro, 0, 0, .any, false⟩,
  ⟨0x7012, 1, [(0x00, 0x4F)], .u64, .ro, 0, 0, .any, false⟩,
  ⟨0x7020, 1, [(0x00, 0x07)], .bits32, .rw, 0, 0, .special, false⟩,
  ⟨0x7021, 1, [(0x00, 0x07)], .bool, .wo, 0, 0, .rng 0 1, false⟩,
  ⟨0x7022, 1, [(0x00, 0x07)], .octets 32, .ro, 0, 0, .any, false⟩,
  ⟨0x7023, 1, [(0x00, 0x07)], .u64, .ro, 0, 0, .any, false⟩,
  ⟨0x7030, 1, [(0x00, 0x07)], .bits32, .rw, 0, 0, .special, false⟩,
  ⟨0x7031, 1, [(0x00, 0x07)], .bool, .wo, 0, 0, .rng 0 1, false⟩,
  ⟨0x7032, 1, [(0x00, 0x07)], .octets 32, .ro, 0, 0, .any, false⟩,
  ⟨0x7040, 1, [(0x00, 0x4F)], .u8, .ro, 0, 1, .any, false⟩,
  ⟨0x7041, 1, [(0x00, 0x4F)], .u32, .ro, 0, 0, .any, false⟩,
  ⟨0x7042, 1, [(0x00, 0x4F)], .phase64, .ro, 0, 0, .any, false⟩,
  ⟨0x7043, 1, [(0x00, 0x4F)], .bool, .wo, 0, 0, .rng 0 1, false⟩,
  ⟨0x7044, 1, [(0x00, 0x00)], .u64, .ro, 0, 0, .any, false⟩,
  ⟨0x7045, 1, [(0x00, 0x4F)], .table 4, .ro, 256, 0, .any, false⟩,
  ⟨0x7046, 1, [(0x00, 0x4F)], .octets 16, .ro, 0, 0, .any, false⟩,
  ⟨0x7050, 1, [(0x00, 0x00)], .u8, .ro, 0, 0, .any, false⟩,
  ⟨0x7051, 1, [(0x00, 0x00)], .u8, .ro, 0, 0, .any, false⟩,
  ⟨0x7052, 1, [(0x00, 0x00)], .s32, .rw, 0, 0, .srng (-100000) 100000, false⟩,
  ⟨0x7053, 1, [(0x00, 0x00)], .time128, .rw, 0, 0, .time, false⟩,
  ⟨0x7054, 1, [(0x00, 0x00)], .s64, .ro, 0, 0, .any, false⟩,
  ⟨0x7055, 1, [(0x00, 0x00)], .s16, .ro, 0, 0, .any, false⟩,
  ⟨0x7056, 1, [(0x00, 0x00)], .u64, .ro, 0, 0, .any, false⟩]

def cat7_1 : List Entry := [
  ⟨0x7100, 1, [(0x00, 0x45)], .bool, .rw, 0, 0, .rng 0 1, false⟩,
  ⟨0x7101, 1, [(0x00, 0x45)], .u8, .ro, 0, 3, .any, false⟩,
  ⟨0x7102, 1, [(0x00, 0x45)], .u8, .rw, 0, 15, .rng 0 15, false⟩,
  ⟨0x7103, 1, [(0x00, 0x45)], .u32, .rw, 0, 4600, .rng 500 100000, false⟩,
  ⟨0x7104, 1, [(0x00, 0x45)], .u32, .rw, 0, 10, .special, false⟩,
  ⟨0x7105, 1, [(0x00, 0x45)], .u16, .rw, 0, 10, .rng 0 720, false⟩,
  ⟨0x7108, 1, [(0x00, 0x45)], .u8, .ro, 0, 0, .any, false⟩,
  ⟨0x7109, 1, [(0x00, 0x45)], .bits32, .ro, 0, 0, .any, false⟩,
  ⟨0x710A, 1, [(0x00, 0x45)], .s64, .ro, 0, 0, .any, false⟩,
  ⟨0x710B, 1, [(0x00, 0x45)], .octets 9, .ro, 0, 0, .any, false⟩,
  ⟨0x710C, 1, [(0x00, 0x45)], .u64, .ro, 0, 0, .any, false⟩,
  ⟨0x710D, 1, [(0x00, 0x45)], .u64, .ro, 0, 0, .any, false⟩,
  ⟨0x710E, 1, [(0x00, 0x45)], .u64, .ro, 0, 0, .any, false⟩,
  ⟨0x7120, 1, [(0x00, 0x00)], .u32, .rw, 0, 100, .rng 1 100000, false⟩,
  ⟨0x7121, 1, [(0x00, 0x00)], .bool, .rw, 0, 1, .rng 0 1, false⟩,
  ⟨0x7122, 1, [(0x00, 0x00)], .u8, .rw, 0, 255, .special, false⟩,
  ⟨0x7123, 1, [(0x00, 0x00)], .u8, .ro, 0, 255, .any, false⟩,
  ⟨0x7124, 1, [(0x00, 0x00)], .u32, .rw, 0, 1000, .zeroOr 100 1000000, false⟩,
  ⟨0x7125, 1, [(0x00, 0x00)], .u64, .ro, 0, 0, .any, false⟩,
  ⟨0x7126, 1, [(0x00, 0x00)], .u64, .ro, 0, 0, .any, false⟩,
  ⟨0x7127, 1, [(0x00, 0x00)], .u64, .ro, 0, 0, .any, false⟩,
  ⟨0x7130, 1, [(0x00, 0x00)], .u8, .ro, 0, 0, .any, false⟩,
  ⟨0x7131, 1, [(0x00, 0x00)], .s64, .ro, 0, 0, .any, false⟩,
  ⟨0x7132, 1, [(0x00, 0x00)], .phase64, .ro, 0, 0, .any, false⟩,
  ⟨0x7134, 1, [(0x00, 0x00)], .u32, .rw, 0, 10, .rng 1 1000, false⟩,
  ⟨0x7135, 1, [(0x00, 0x00)], .u32, .rw, 0, 1000, .rng 10 1000000, false⟩,
  ⟨0x7140, 1, [(0x00, 0x00)], .u16, .rw, 0, 60, .rng 1 3600, false⟩,
  ⟨0x7141, 1, [(0x00, 0x00)], .u16, .rw, 0, 2, .rng 0 60, false⟩,
  ⟨0x7142, 1, [(0x00, 0x00)], .s64, .ro, 0, 0, .any, false⟩,
  ⟨0x7143, 1, [(0x00, 0x00)], .u16, .ro, 0, 0, .any, false⟩]

def cat7_2 : List Entry := [
  ⟨0x7144, 1, [(0x00, 0x00)], .u8, .ro, 0, 0, .any, false⟩,
  ⟨0x7145, 1, [(0x00, 0x00)], .u64, .ro, 0, 0, .any, false⟩,
  ⟨0x7146, 1, [(0x00, 0x00)], .u64, .ro, 0, 0, .any, false⟩,
  ⟨0x7147, 1, [(0x00, 0x00)], .table 24, .ro, 4096, 0, .any, false⟩,
  ⟨0x7150, 1, [(0x44, 0x45)], .u8, .rw, 0, 0, .rng 0 2, false⟩,
  ⟨0x7151, 1, [(0x44, 0x45)], .octets 24, .ro, 0, 0, .any, false⟩,
  ⟨0x7152, 1, [(0x44, 0x45)], .u64, .ro, 0, 0, .any, false⟩,
  ⟨0x7153, 1, [(0x44, 0x45)], .u64, .ro, 0, 0, .any, false⟩,
  ⟨0x7200, 1, [(0x00, 0x03)], .bits32, .rs, 0, 0x19004, .special, false⟩,
  ⟨0x7201, 1, [(0x00, 0x03)], .s32, .rw, 0, 0, .srng (-439804651) 439804651, false⟩,
  ⟨0x7202, 1, [(0x00, 0x03)], .u8, .ro, 0, 0, .any, false⟩,
  ⟨0x7203, 1, [(0x00, 0x03)], .s64, .ro, 0, 0, .any, false⟩,
  ⟨0x7204, 1, [(0x00, 0x03)], .s64, .ro, 0, 0, .any, false⟩,
  ⟨0x7205, 1, [(0x00, 0x03)], .u64, .ro, 0, 0, .any, false⟩,
  ⟨0x7206, 1, [(0x00, 0x03)], .u64, .ro, 0, 0, .any, false⟩,
  ⟨0x7207, 1, [(0x00, 0x03)], .u8, .ro, 0, 0, .any, false⟩,
  ⟨0x7208, 1, [(0x00, 0x03)], .u64, .ro, 0, 0, .any, false⟩,
  ⟨0x7209, 1, [(0x00, 0x03)], .u64, .ro, 0, 0, .any, false⟩,
  ⟨0x7210, 1, [(0x00, 0x0B)], .bits32, .rs, 0, 9, .mask 0x0EFFFFFF, false⟩,
  ⟨0x7211, 1, [(0x00, 0x0B)], .u32, .rs, 0, 0, .rng 0 33554431, false⟩,
  ⟨0x7212, 1, [(0x00, 0x0B)], .u16, .rs, 0, 0, .rng 0 2000, false⟩,
  ⟨0x7213, 1, [(0x00, 0x0B)], .bool, .rw, 0, 0, .rng 0 1, false⟩,
  ⟨0x7214, 1, [(0x00, 0x0B)], .u8, .ro, 0, 0, .any, false⟩,
  ⟨0x7215, 1, [(0x00, 0x0B)], .u64, .ro, 0, 0, .any, false⟩,
  ⟨0x7300, 1, [(0x00, 0x03)], .u8, .rs, 0, 0, .rng 0 2, false⟩,
  ⟨0x7301, 1, [(0x00, 0x03)], .u8, .rs, 0, 68, .rng 0x40 0x45, false⟩,
  ⟨0x7302, 1, [(0x00, 0x03)], .phase64, .rs, 0, 0, .srng (-32768000000000) 32768000000000, false⟩,
  ⟨0x7303, 1, [(0x00, 0x03)], .u64, .rs, 0, 0x3b9aca00, .rng 1000 10240000000, false⟩,
  ⟨0x7304, 1, [(0x00, 0x03)], .u32, .rs, 0, 0x5f5e100, .rng 8 500000000, false⟩,
  ⟨0x7305, 1, [(0x00, 0x00)], .u8, .rs, 0, 0, .mask 0x0F, false⟩]

def cat7_3 : List Entry := [
  ⟨0x7306, 1, [(0x00, 0x03)], .bool, .rw, 0, 1, .rng 0 1, false⟩,
  ⟨0x7307, 1, [(0x00, 0x03)], .phase64, .ro, 0, 0, .any, false⟩,
  ⟨0x7308, 1, [(0x00, 0x03)], .u8, .ro, 0, 0, .any, false⟩,
  ⟨0x7309, 1, [(0x00, 0x03)], .u64, .ro, 0, 0, .any, false⟩,
  ⟨0x730A, 1, [(0x00, 0x03)], .u64, .ro, 0, 0, .any, false⟩,
  ⟨0x730B, 1, [(0x00, 0x03)], .u64, .ro, 0, 0, .any, false⟩]

def cat8_0 : List Entry := [
  ⟨0x8000, 1, [(0x00, 0x00)], .u8, .ro, 0, 0, .any, false⟩,
  ⟨0x8001, 1, [(0x00, 0x00)], .u8, .rw, 0, 0, .rng 0 1, false⟩,
  ⟨0x8002, 1, [(0x00, 0x00)], .time128, .ro, 0, 0, .any, false⟩,
  ⟨0x8003, 1, [(0x00, 0x00)], .u64, .ro, 0, 0x20000000000, .any, false⟩,
  ⟨0x8004, 1, [(0x00, 0x00)], .u64, .rw, 0, 0x20000000000, .rng 0x01FFBE76C8B4 0x02004189374C, false⟩,
  ⟨0x8005, 1, [(0x00, 0x00)], .phase64, .wo, 0, 0, .any, false⟩,
  ⟨0x8006, 1, [(0x00, 0x00)], .time128, .wo, 0, 0, .time, false⟩,
  ⟨0x8007, 1, [(0x00, 0x00)], .u8, .rw, 0, 0, .rng 0 5, false⟩,
  ⟨0x8008, 1, [(0x00, 0x00)], .u8, .wo, 0, 0, .rng 1 3, false⟩,
  ⟨0x8009, 1, [(0x00, 0x00)], .bool, .wo, 0, 0, .rng 0 1, false⟩,
  ⟨0x800A, 1, [(0x00, 0x00)], .u32, .rw, 0, 1000, .rng 1 1000000000, false⟩,
  ⟨0x800B, 1, [(0x00, 0x00)], .u32, .rw, 0, 100, .rng 1 1000000, false⟩,
  ⟨0x800C, 1, [(0x00, 0x00)], .u16, .rw, 0, 10, .rng 1 1000, false⟩,
  ⟨0x800D, 1, [(0x00, 0x00)], .u32, .rw, 0, 1000, .rng 10 100000, false⟩,
  ⟨0x800E, 1, [(0x00, 0x02)], .u32, .rw, 0, 10, .special, false⟩,
  ⟨0x800F, 1, [(0x00, 0x00)], .u32, .rw, 0, 1000, .rng 10 1000000, false⟩,
  ⟨0x8010, 1, [(0x00, 0x00)], .s64, .ro, 0, 0, .any, false⟩,
  ⟨0x8011, 1, [(0x00, 0x00)], .bits32, .ro, 0, 0, .any, false⟩,
  ⟨0x8012, 1, [(0x00, 0x00)], .phase64, .ro, 0, 0, .any, false⟩,
  ⟨0x8013, 1, [(0x00, 0x00)], .s64, .ro, 0, 0, .any, false⟩,
  ⟨0x8014, 1, [(0x00, 0x00)], .s64, .ro, 0, 0, .any, false⟩,
  ⟨0x8015, 1, [(0x00, 0x00)], .s64, .ro, 0, 0, .any, false⟩,
  ⟨0x8016, 1, [(0x00, 0x00)], .u64, .ro, 0, 0, .any, false⟩,
  ⟨0x8017, 1, [(0x00, 0x00)], .u64, .ro, 0, 0, .any, false⟩,
  ⟨0x8020, 1, [(0x00, 0x00)], .u64, .ro, 0, 0, .any, false⟩,
  ⟨0x8021, 1, [(0x00, 0x00)], .u64, .ro, 0, 0, .any, false⟩,
  ⟨0x8022, 1, [(0x00, 0x00)], .u64, .ro, 0, 0, .any, false⟩,
  ⟨0x8023, 1, [(0x00, 0x00)], .u64, .ro, 0, 0, .any, false⟩,
  ⟨0x8024, 1, [(0x00, 0x00)], .u64, .ro, 0, 0, .any, false⟩,
  ⟨0x8025, 1, [(0x00, 0x00)], .s64, .ro, 0, 0, .any, false⟩]

def cat8_1 : List Entry := [
  ⟨0x8026, 1, [(0x00, 0x00)], .u64, .ro, 0, 0, .any, false⟩,
  ⟨0x8030, 1, [(0x00, 0x00)], .u8, .ro, 0, 0, .any, false⟩,
  ⟨0x8031, 1, [(0x00, 0x00)], .u8, .ro, 0, 255, .any, false⟩,
  ⟨0x8032, 1, [(0x00, 0x00)], .u8, .rw, 0, 0, .rng 0 2, false⟩,
  ⟨0x8033, 1, [(0x44, 0x45)], .s32, .rw, 0, 0, .srng (-100000000) 100000000, false⟩,
  ⟨0x8034, 1, [(0x00, 0x00)], .s16, .ro, 0, 0, .any, false⟩,
  ⟨0x8035, 1, [(0x00, 0x00)], .s16, .rw, 0, 37, .srng 0 255, false⟩,
  ⟨0x8036, 1, [(0x00, 0x00)], .u8, .ro, 0, 0, .any, false⟩,
  ⟨0x8037, 1, [(0x00, 0x00)], .u8, .rs, 0, 0, .rng 0 127, false⟩,
  ⟨0x8038, 1, [(0x00, 0x00)], .u8, .rs, 0, 24, .rng 24 43, false⟩,
  ⟨0x8039, 1, [(0x00, 0x00)], .u32, .rw, 0, 10000, .rng 100 1000000, false⟩,
  ⟨0x8040, 1, [(0x00, 0x3F)], .u8, .rs, 0, 0, .rng 0 2, true⟩,
  ⟨0x8041, 1, [(0x00, 0x3F)], .u8, .rs, 0, 0, .rng 0 1, true⟩,
  ⟨0x8042, 1, [(0x00, 0x3F)], .u8, .ro, 0, 3, .any, true⟩,
  ⟨0x8043, 1, [(0x00, 0x3F)], .s32, .rw, 0, 0, .srng (-1000000) 1000000, true⟩,
  ⟨0x8044, 1, [(0x00, 0x3F)], .s32, .rw, 0, 0, .srng (-1000000) 1000000, true⟩,
  ⟨0x8045, 1, [(0x00, 0x3F)], .s32, .rw, 0, 0, .srng (-10000000) 10000000, true⟩,
  ⟨0x8046, 1, [(0x00, 0x3F)], .octets 88, .ro, 0, 0, .any, true⟩,
  ⟨0x8047, 1, [(0x00, 0x3F)], .phase64, .ro, 0, 0, .any, true⟩,
  ⟨0x8048, 1, [(0x00, 0x3F)], .phase64, .ro, 0, 0, .any, true⟩,
  ⟨0x8050, 1, [(0x00, 0x3F)], .u64, .ro, 0, 0, .any, true⟩,
  ⟨0x8051, 1, [(0x00, 0x3F)], .u64, .ro, 0, 0, .any, true⟩,
  ⟨0x8052, 1, [(0x00, 0x3F)], .u64, .ro, 0, 0, .any, true⟩,
  ⟨0x8053, 1, [(0x00, 0x3F)], .u64, .ro, 0, 0, .any, true⟩,
  ⟨0x8054, 1, [(0x00, 0x3F)], .u64, .ro, 0, 0, .any, true⟩,
  ⟨0x8055, 1, [(0x00, 0x3F)], .u64, .ro, 0, 0, .any, true⟩,
  ⟨0x8056, 1, [(0x00, 0x3F)], .u64, .ro, 0, 0, .any, true⟩,
  ⟨0x8057, 1, [(0x00, 0x3F)], .u64, .ro, 0, 0, .any, true⟩,
  ⟨0x805F, 1, [(0x00, 0x3F)], .bool, .wo, 0, 0, .rng 0 1, true⟩]

def cat9_0 : List Entry := [
  ⟨0x9000, 1, [(0x00, 0x00)], .u16, .ro, 0, 0, .any, false⟩,
  ⟨0x9001, 1, [(0x00, 0x00)], .u8, .ro, 0, 0, .any, false⟩,
  ⟨0x9002, 1, [(0x00, 0x00)], .u16, .ro, 0, 0, .any, false⟩,
  ⟨0x9003, 1, [(0x00, 0x00)], .u8, .rw, 0, 128, .any, false⟩,
  ⟨0x9004, 1, [(0x00, 0x00)], .u64, .ro, 0, 0, .any, false⟩,
  ⟨0x9005, 1, [(0x00, 0x00)], .u16, .ro, 0, 0, .any, false⟩,
  ⟨0x9006, 1, [(0x00, 0x00)], .bool, .ro, 0, 0, .rng 0 1, false⟩,
  ⟨0x9008, 1, [(0x00, 0x00)], .u64, .rw, 0, 0xffffffffffffffff, .any, false⟩,
  ⟨0x9009, 1, [(0x00, 0x3F)], .u64, .ro, 0, 0, .any, true⟩,
  ⟨0x900A, 1, [(0x00, 0x3F)], .u16, .ro, 0, 0, .any, true⟩,
  ⟨0x900B, 1, [(0x00, 0x3F)], .u8, .ro, 0, 255, .any, true⟩,
  ⟨0x900C, 1, [(0x00, 0x3F)], .u8, .ro, 0, 0, .any, true⟩,
  ⟨0x9010, 1, [(0x00, 0x00)], .u16, .ro, 0, 1, .any, false⟩,
  ⟨0x9011, 1, [(0x00, 0x00)], .u32, .ro, 0, 0, .any, false⟩,
  ⟨0x9012, 1, [(0x00, 0x00)], .u64, .ro, 0, 0, .any, false⟩,
  ⟨0x9013, 1, [(0x00, 0x00)], .u32, .ro, 0, 0, .any, false⟩,
  ⟨0x9014, 1, [(0x00, 0x00)], .u32, .ro, 0, 0, .any, false⟩,
  ⟨0x9015, 1, [(0x00, 0x00)], .u64, .ro, 0, 0, .any, false⟩,
  ⟨0x9016, 1, [(0x00, 0x00)], .u64, .ro, 0, 0, .any, false⟩,
  ⟨0x9017, 1, [(0x00, 0x00)], .u64, .ro, 0, 0, .any, false⟩,
  ⟨0x9018, 1, [(0x00, 0x00)], .u64, .ro, 0, 0, .any, false⟩,
  ⟨0x901A, 1, [(0x00, 0x00)], .u16, .rw, 0, 16, .rng 4 1000, false⟩,
  ⟨0x901B, 1, [(0x00, 0x00)], .u16, .rw, 0, 160, .rng 8 8000, false⟩,
  ⟨0x901C, 1, [(0x00, 0x00)], .u16, .rw, 0, 72, .rng 4 4000, false⟩,
  ⟨0x9020, 1, [(0x00, 0x00)], .table 4, .ro, 4096, 0, .any, false⟩,
  ⟨0x9021, 1, [(0x00, 0x00)], .table 8, .rw, 4096, 0, .any, false⟩,
  ⟨0x9022, 1, [(0x00, 0x00)], .u64, .ro, 0, 0, .any, false⟩,
  ⟨0x9023, 1, [(0x00, 0x00)], .u64, .ro, 0, 0, .any, false⟩,
  ⟨0x9030, 1, [(0x00, 0x00)], .u8, .rw, 0, 128, .any, false⟩,
  ⟨0x9031, 1, [(0x00, 0x00)], .u8, .rw, 0, 128, .any, false⟩]

def cat9_1 : List Entry := [
  ⟨0x9032, 1, [(0x00, 0x3F)], .u8, .rw, 0, 128, .rng 1 255, true⟩,
  ⟨0x9033, 1, [(0x00, 0x00)], .octets 8, .ro, 0, 0, .any, false⟩,
  ⟨0x9034, 1, [(0x00, 0x00)], .u16, .ro, 0, 0, .any, false⟩,
  ⟨0x9035, 1, [(0x00, 0x00)], .u8, .ro, 0, 255, .any, false⟩,
  ⟨0x9036, 1, [(0x00, 0x00)], .bool, .ro, 0, 0, .rng 0 1, false⟩,
  ⟨0x9040, 1, [(0x00, 0x00)], .u64, .ro, 0, 0, .any, false⟩,
  ⟨0x9041, 1, [(0x00, 0x00)], .u64, .ro, 0, 0, .any, false⟩,
  ⟨0x9042, 1, [(0x00, 0x00)], .u64, .ro, 0, 0, .any, false⟩,
  ⟨0x9100, 1, [(0x00, 0x00)], .bool, .rs, 0, 0, .rng 0 1, false⟩,
  ⟨0x9101, 1, [(0x00, 0x00)], .u16, .rs, 0, 0, .rng 1 4095, false⟩,
  ⟨0x9102, 1, [(0x00, 0x00)], .u64, .rs, 0, 0, .any, false⟩,
  ⟨0x9103, 1, [(0x00, 0x00)], .u16, .rs, 0, 0, .rng 0 0xFFE, false⟩,
  ⟨0x9104, 1, [(0x00, 0x00)], .u8, .rs, 0, 255, .special, false⟩,
  ⟨0x9105, 1, [(0x00, 0x00)], .u64, .rs, 0, 0, .any, false⟩,
  ⟨0x9106, 1, [(0x00, 0x00)], .u64, .rs, 0, 0, .any, false⟩,
  ⟨0x9107, 1, [(0x00, 0x00)], .u16, .rs, 0, 0, .mask 0x0FFF, false⟩,
  ⟨0x9108, 1, [(0x00, 0x00)], .u8, .rs, 0, 0, .mask 0x0F, false⟩,
  ⟨0x9109, 1, [(0x00, 0x00)], .bool, .rs, 0, 0, .rng 0 1, false⟩,
  ⟨0x910A, 1, [(0x00, 0x00)], .u64, .rs, 0, 0, .any, false⟩,
  ⟨0x910B, 1, [(0x00, 0x00)], .u32, .rw, 0, 0, .rng 0 1000000, false⟩,
  ⟨0x910C, 1, [(0x00, 0x00)], .u32, .rw, 0, 10000, .rng 100 1000000, false⟩,
  ⟨0x910D, 1, [(0x00, 0x00)], .bool, .rw, 0, 1, .rng 0 1, false⟩,
  ⟨0x910E, 1, [(0x00, 0x00)], .bool, .rs, 0, 0, .rng 0 1, false⟩,
  ⟨0x9110, 1, [(0x00, 0x00)], .u8, .ro, 0, 0, .any, false⟩,
  ⟨0x9111, 1, [(0x00, 0x00)], .u8, .ro, 0, 0, .any, false⟩,
  ⟨0x9112, 1, [(0x00, 0x00)], .u8, .ro, 0, 0, .any, false⟩,
  ⟨0x9113, 1, [(0x00, 0x00)], .bits32, .ro, 0, 0, .any, false⟩,
  ⟨0x9114, 1, [(0x00, 0x00)], .u8, .ro, 0, 0, .any, false⟩,
  ⟨0x9115, 1, [(0x00, 0x00)], .bits32, .ro, 0, 0, .any, false⟩,
  ⟨0x9116, 1, [(0x00, 0x00)], .u8, .ro, 0, 0, .any, false⟩]

def cat9_2 : List Entry := [
  ⟨0x9117, 1, [(0x00, 0x00)], .u8, .ro, 0, 0, .any, false⟩,
  ⟨0x9118, 1, [(0x00, 0x00)], .phase64, .ro, 0, 0, .any, false⟩,
  ⟨0x9119, 1, [(0x00, 0x00)], .bits32, .ro, 0, 0, .any, false⟩,
  ⟨0x9120, 1, [(0x00, 0x00)], .u64, .ro, 0, 0, .any, false⟩,
  ⟨0x9121, 1, [(0x00, 0x00)], .u64, .ro, 0, 0, .any, false⟩,
  ⟨0x9122, 1, [(0x00, 0x00)], .u64, .ro, 0, 0, .any, false⟩,
  ⟨0x9123, 1, [(0x00, 0x00)], .u64, .ro, 0, 0, .any, false⟩,
  ⟨0x9124, 1, [(0x00, 0x01)], .u64, .ro, 0, 0, .any, false⟩,
  ⟨0x9125, 1, [(0x00, 0x01)], .u64, .ro, 0, 0, .any, false⟩,
  ⟨0x9126, 1, [(0x00, 0x00)], .u64, .ro, 0, 0, .any, false⟩,
  ⟨0x9127, 1, [(0x00, 0x00)], .u64, .ro, 0, 0, .any, false⟩,
  ⟨0x9130, 1, [(0x00, 0x00)], .table 24, .ro, 16, 0, .any, false⟩]

def catA_0 : List Entry := [
  ⟨0xA000, 1, [(0x00, 0x00)], .u16, .rw, 0, 768, .rng 128 5120, false⟩,
  ⟨0xA001, 1, [(0x00, 0x00)], .bool, .rw, 0, 1, .rng 0 1, false⟩,
  ⟨0xA002, 1, [(0x00, 0x00)], .u8, .rw, 0, 3, .rng 1 15, false⟩,
  ⟨0xA003, 1, [(0x00, 0x00)], .u16, .rw, 0, 8000, .rng 800 65535, false⟩,
  ⟨0xA004, 1, [(0x00, 0x00)], .u8, .rw, 0, 16, .rng 1 64, false⟩,
  ⟨0xA005, 1, [(0x00, 0x00)], .u8, .rw, 0, 0, .rng 0 15, false⟩,
  ⟨0xA006, 1, [(0x00, 0x00)], .u8, .ro, 0, 0, .any, false⟩,
  ⟨0xA007, 1, [(0x00, 0x00)], .u16, .ro, 0, 0, .any, false⟩,
  ⟨0xA008, 1, [(0x00, 0x00)], .bool, .wo, 0, 0, .rng 0 1, false⟩,
  ⟨0xA100, 1, [(0x00, 0x3F)], .u8, .ro, 0, 0, .any, false⟩,
  ⟨0xA101, 1, [(0x00, 0x3F)], .u8, .ro, 0, 1, .any, false⟩,
  ⟨0xA102, 1, [(0x00, 0x3F)], .s16, .ro, 0, 0, .any, false⟩,
  ⟨0xA103, 1, [(0x00, 0x3F)], .s16, .ro, 0, 0, .any, false⟩,
  ⟨0xA104, 1, [(0x00, 0x3F)], .u64, .ro, 0, 0, .any, false⟩,
  ⟨0xA105, 1, [(0x00, 0x3F)], .u64, .ro, 0, 0, .any, false⟩,
  ⟨0xA106, 1, [(0x00, 0x3F)], .u64, .ro, 0, 0, .any, false⟩,
  ⟨0xA107, 1, [(0x00, 0x3F)], .u8, .ro, 0, 0, .any, false⟩,
  ⟨0xA108, 1, [(0x00, 0x3F)], .table 16, .ro, 8, 0, .any, false⟩,
  ⟨0xA10A, 1, [(0x00, 0x3F)], .u32, .ro, 0, 0, .any, false⟩,
  ⟨0xA200, 1, [(0x00, 0x4F)], .u8, .ro, 0, 0, .any, false⟩,
  ⟨0xA201, 1, [(0x00, 0x4F)], .u8, .ro, 0, 1, .any, false⟩,
  ⟨0xA202, 1, [(0x00, 0x4F)], .s16, .ro, 0, 0, .any, false⟩,
  ⟨0xA203, 1, [(0x00, 0x4F)], .s16, .ro, 0, 0, .any, false⟩,
  ⟨0xA204, 1, [(0x00, 0x4F)], .u64, .ro, 0, 0, .any, false⟩,
  ⟨0xA205, 1, [(0x00, 0x4F)], .u64, .ro, 0, 0, .any, false⟩,
  ⟨0xA206, 1, [(0x00, 0x4F)], .u64, .ro, 0, 0, .any, false⟩,
  ⟨0xA207, 1, [(0x00, 0x4F)], .u8, .ro, 0, 0, .any, false⟩,
  ⟨0xA208, 1, [(0x00, 0x4F)], .table 16, .ro, 8, 0, .any, false⟩,
  ⟨0xA20A, 1, [(0x00, 0x4F)], .u32, .ro, 0, 0, .any, false⟩,
  ⟨0xA300, 1, [(0x00, 0x3F)], .u8, .ro, 0, 0, .any, false⟩]

def catA_1 : List Entry := [
  ⟨0xA301, 1, [(0x00, 0x3F)], .u8, .ro, 0, 1, .any, false⟩,
  ⟨0xA302, 1, [(0x00, 0x3F)], .s16, .ro, 0, 0, .any, false⟩,
  ⟨0xA303, 1, [(0x00, 0x3F)], .s16, .ro, 0, 0, .any, false⟩,
  ⟨0xA304, 1, [(0x00, 0x3F)], .u64, .ro, 0, 0, .any, false⟩,
  ⟨0xA305, 1, [(0x00, 0x3F)], .u64, .ro, 0, 0, .any, false⟩,
  ⟨0xA306, 1, [(0x00, 0x3F)], .u64, .ro, 0, 0, .any, false⟩,
  ⟨0xA307, 1, [(0x00, 0x3F)], .u8, .ro, 0, 0, .any, false⟩,
  ⟨0xA308, 1, [(0x00, 0x3F)], .table 16, .ro, 8, 0, .any, false⟩,
  ⟨0xA309, 1, [(0x00, 0x3F)], .bool, .wo, 0, 0, .rng 0 1, false⟩,
  ⟨0xA30A, 1, [(0x00, 0x3F)], .u32, .ro, 0, 0, .any, false⟩,
  ⟨0xA400, 1, [(0x00, 0x0F)], .u8, .ro, 0, 0, .any, false⟩,
  ⟨0xA401, 1, [(0x00, 0x0F)], .u8, .ro, 0, 1, .any, false⟩,
  ⟨0xA402, 1, [(0x00, 0x0F)], .s16, .ro, 0, 0, .any, false⟩,
  ⟨0xA403, 1, [(0x00, 0x0F)], .s16, .ro, 0, 0, .any, false⟩,
  ⟨0xA404, 1, [(0x00, 0x0F)], .u64, .ro, 0, 0, .any, false⟩,
  ⟨0xA405, 1, [(0x00, 0x0F)], .u64, .ro, 0, 0, .any, false⟩,
  ⟨0xA406, 1, [(0x00, 0x0F)], .u64, .ro, 0, 0, .any, false⟩,
  ⟨0xA407, 1, [(0x00, 0x0F)], .u8, .ro, 0, 0, .any, false⟩,
  ⟨0xA408, 1, [(0x00, 0x0F)], .table 16, .ro, 8, 0, .any, false⟩,
  ⟨0xA409, 1, [(0x00, 0x0F)], .bool, .wo, 0, 0, .rng 0 1, false⟩,
  ⟨0xA40A, 1, [(0x00, 0x0F)], .u32, .ro, 0, 0, .any, false⟩,
  ⟨0xA500, 1, [(0x00, 0x00)], .u8, .ro, 0, 0, .any, false⟩,
  ⟨0xA501, 1, [(0x00, 0x00)], .u8, .ro, 0, 1, .any, false⟩,
  ⟨0xA502, 1, [(0x00, 0x00)], .s16, .ro, 0, 0, .any, false⟩,
  ⟨0xA503, 1, [(0x00, 0x00)], .s16, .ro, 0, 0, .any, false⟩,
  ⟨0xA504, 1, [(0x00, 0x00)], .u64, .ro, 0, 0, .any, false⟩,
  ⟨0xA505, 1, [(0x00, 0x00)], .u64, .ro, 0, 0, .any, false⟩,
  ⟨0xA506, 1, [(0x00, 0x00)], .u64, .ro, 0, 0, .any, false⟩,
  ⟨0xA507, 1, [(0x00, 0x00)], .u8, .ro, 0, 0, .any, false⟩,
  ⟨0xA508, 1, [(0x00, 0x00)], .table 16, .ro, 8, 0, .any, false⟩]

def catA_2 : List Entry := [
  ⟨0xA509, 1, [(0x00, 0x00)], .bool, .wo, 0, 0, .rng 0 1, false⟩,
  ⟨0xA50A, 1, [(0x00, 0x00)], .u32, .ro, 0, 0, .any, false⟩]

def catB_0 : List Entry := [
  ⟨0xB000, 1, [(0x00, 0x00)], .bool, .wo, 0, 0, .rng 0 1, false⟩,
  ⟨0xB001, 1, [(0x00, 0x00)], .u16, .ro, 0, 0, .any, false⟩,
  ⟨0xB002, 1, [(0x00, 0x00)], .table 16, .ro, 1024, 0, .any, false⟩,
  ⟨0xB010, 1, [(0x00, 0x3F)], .bits32, .rw, 0, 0, .special, false⟩,
  ⟨0xB011, 1, [(0x00, 0x3F)], .u16, .rw, 0, 0, .any, false⟩,
  ⟨0xB012, 1, [(0x00, 0x3F)], .u64, .rw, 0, 0, .rng 0 0xFFFFFFFFFFFF, false⟩,
  ⟨0xB013, 1, [(0x00, 0x3F)], .u64, .ro, 0, 0, .any, false⟩,
  ⟨0xB014, 1, [(0x00, 0x3F)], .u64, .rw, 0, 0, .rng 0 0xFFFFFFFFFFFF, false⟩,
  ⟨0xB015, 1, [(0x00, 0x00)], .u64, .ro, 0, 0, .any, false⟩,
  ⟨0xB016, 1, [(0x00, 0x00)], .u64, .wo, 0, 0, .any, false⟩,
  ⟨0xB017, 1, [(0x00, 0x3F)], .u64, .ro, 0, 0, .any, false⟩,
  ⟨0xB020, 1, [(0x00, 0x00)], .u8, .rw, 0, 0, .rng 0 2, false⟩,
  ⟨0xB021, 1, [(0x00, 0x00)], .u32, .rw, 0, 0, .any, false⟩,
  ⟨0xB022, 1, [(0x00, 0x00)], .bits32, .rw, 0, 0xc003fc00, .mask 0xFFFFFC00, false⟩,
  ⟨0xB023, 1, [(0x00, 0x00)], .u16, .rw, 0, 0, .special, false⟩,
  ⟨0xB024, 1, [(0x00, 0x00)], .u8, .rw, 0, 1, .any, false⟩,
  ⟨0xB025, 1, [(0x00, 0x00)], .bool, .wo, 0, 0, .rng 0 1, false⟩,
  ⟨0xB026, 1, [(0x00, 0x00)], .bool, .rw, 0, 0, .rng 0 1, false⟩,
  ⟨0xB027, 1, [(0x00, 0x00)], .u32, .ro, 0, 0, .any, false⟩,
  ⟨0xB028, 1, [(0x00, 0x00)], .u32, .rw, 0, 0, .special, false⟩,
  ⟨0xB029, 1, [(0x00, 0x00)], .u16, .rw, 0, 4096, .rng 1 8192, false⟩,
  ⟨0xB02A, 1, [(0x00, 0x00)], .u8, .ro, 0, 0, .any, false⟩,
  ⟨0xB02B, 1, [(0x00, 0x00)], .u64, .ro, 0, 0, .any, false⟩,
  ⟨0xB02C, 1, [(0x00, 0x00)], .u64, .ro, 0, 0, .any, false⟩,
  ⟨0xB02D, 1, [(0x00, 0x00)], .table 256, .ro, 8192, 0, .any, false⟩,
  ⟨0xB02E, 1, [(0x00, 0x00)], .bool, .wo, 0, 0, .rng 0 1, false⟩,
  ⟨0xB100, 1, [(0x00, 0x0F)], .u32, .ro, 0, 0, .any, false⟩,
  ⟨0xB101, 1, [(0x00, 0x0F)], .u32, .wo, 0, 0, .special, false⟩,
  ⟨0xB102, 1, [(0x00, 0x0F)], .u32, .ro, 0, 0, .any, false⟩,
  ⟨0xB103, 1, [(0x00, 0x0F)], .u32, .rw, 0, 0, .special, false⟩]

def catB_1 : List Entry := [
  ⟨0xB104, 1, [(0x00, 0x0F)], .u32, .rw, 0, 0, .special, false⟩,
  ⟨0xB105, 1, [(0x00, 0x0F)], .u32, .rw, 0, 0, .special, false⟩,
  ⟨0xB106, 1, [(0x00, 0x00)], .bool, .rw, 0, 0, .rng 0 1, false⟩,
  ⟨0xB107, 1, [(0x00, 0x00)], .u16, .ro, 0, 0, .any, false⟩,
  ⟨0xB108, 1, [(0x00, 0x00)], .u8, .ro, 0, 0, .any, false⟩,
  ⟨0xB109, 1, [(0x00, 0x0F)], .u32, .ro, 0, 0, .any, false⟩,
  ⟨0xB10A, 1, [(0x00, 0x00)], .table 8, .ro, 512, 0, .any, false⟩,
  ⟨0xB10B, 1, [(0x00, 0x00)], .bool, .wo, 0, 0, .rng 0 1, false⟩,
  ⟨0xB10C, 1, [(0x00, 0x00)], .u64, .ro, 0, 0, .any, false⟩]

def catC_0 : List Entry := [
  ⟨0xC000, 1, [(0x00, 0x00)], .u32, .ro, 0, 0, .any, false⟩,
  ⟨0xC001, 1, [(0x00, 0x00)], .octets 32, .ro, 0, 0, .any, false⟩,
  ⟨0xC002, 1, [(0x00, 0x00)], .u8, .ro, 0, 0, .any, false⟩,
  ⟨0xC010, 1, [(0x00, 0x00)], .u8, .ro, 0, 0, .any, false⟩,
  ⟨0xC011, 1, [(0x00, 0x00)], .u16, .ro, 0, 0, .any, false⟩,
  ⟨0xC012, 1, [(0x00, 0x00)], .u64, .ro, 0, 0, .any, false⟩,
  ⟨0xC013, 1, [(0x00, 0x00)], .table 64, .ro, 8192, 0, .any, false⟩,
  ⟨0xC014, 1, [(0x00, 0x00)], .u32, .ro, 0, 0, .any, false⟩,
  ⟨0xC020, 1, [(0x00, 0x00)], .table 8, .seal, 256, 0, .special, false⟩,
  ⟨0xC021, 1, [(0x00, 0x00)], .u8, .seal, 0, 15, .oneOf [1, 5, 15, 60], false⟩,
  ⟨0xC022, 1, [(0x00, 0x00)], .bool, .ro, 0, 0, .rng 0 1, false⟩,
  ⟨0xC023, 1, [(0x00, 0x00)], .octets 32, .ro, 0, 0, .any, false⟩,
  ⟨0xC030, 1, [(0x00, 0x00)], .table 8, .ro, 2080, 0, .any, false⟩,
  ⟨0xC031, 1, [(0x00, 0x00)], .time128, .ro, 0, 0, .any, false⟩,
  ⟨0xC032, 1, [(0x00, 0x00)], .u8, .ro, 0, 4, .any, false⟩,
  ⟨0xC040, 1, [(0x00, 0x00)], .table 512, .ro, 16384, 0, .any, false⟩,
  ⟨0xC041, 1, [(0x00, 0x00)], .u32, .ro, 0, 0, .any, false⟩,
  ⟨0xC042, 1, [(0x00, 0x00)], .u32, .ro, 0, 0, .any, false⟩,
  ⟨0xC043, 1, [(0x00, 0x00)], .octets 32, .ro, 0, 0, .any, false⟩,
  ⟨0xC044, 1, [(0x00, 0x00)], .octets 32, .ro, 0, 0, .any, false⟩,
  ⟨0xC045, 1, [(0x00, 0x00)], .u64, .ro, 0, 0, .any, false⟩]

def catD_0 : List Entry := [
  ⟨0xD000, 1, [(0x00, 0x07)], .u8, .ro, 0, 0, .any, false⟩,
  ⟨0xD001, 1, [(0x02, 0x02), (0x04, 0x07)], .u8, .wo, 0, 0, .rng 1 2, false⟩,
  ⟨0xD002, 1, [(0x02, 0x02), (0x04, 0x07)], .u64, .rw, 0, 0, .any, false⟩,
  ⟨0xD003, 1, [(0x02, 0x02), (0x04, 0x07)], .u64, .rw, 0, 0, .any, false⟩,
  ⟨0xD004, 1, [(0x02, 0x02), (0x04, 0x07)], .u8, .rw, 0, 14, .special, false⟩,
  ⟨0xD005, 1, [(0x00, 0x00)], .u64, .rw, 0, 0xffffffffffffffff, .any, false⟩,
  ⟨0xD006, 1, [(0x02, 0x02), (0x04, 0x07)], .u8, .ro, 0, 0, .any, false⟩,
  ⟨0xD007, 1, [(0x02, 0x02), (0x04, 0x07)], .u8, .ro, 0, 0, .any, false⟩,
  ⟨0xD008, 1, [(0x02, 0x02), (0x04, 0x07)], .u64, .ro, 0, 0, .any, false⟩,
  ⟨0xD009, 1, [(0x02, 0x02), (0x04, 0x07)], .u64, .ro, 0, 0, .any, false⟩,
  ⟨0xD00A, 1, [(0x02, 0x02), (0x04, 0x07)], .u64, .ro, 0, 0, .any, false⟩,
  ⟨0xD010, 1, [(0x00, 0x00)], .u8, .wo, 0, 0, .rng 1 3, false⟩,
  ⟨0xD011, 1, [(0x00, 0x00)], .u8, .ro, 0, 0, .any, false⟩,
  ⟨0xD012, 1, [(0x00, 0x00)], .u8, .ro, 0, 0, .any, false⟩,
  ⟨0xD013, 1, [(0x00, 0x00)], .u64, .ro, 0, 0, .any, false⟩,
  ⟨0xD014, 1, [(0x00, 0x00)], .u64, .ro, 0, 0, .any, false⟩,
  ⟨0xD015, 1, [(0x00, 0x00)], .u64, .ro, 0, 0, .any, false⟩,
  ⟨0xD016, 1, [(0x00, 0x00)], .u16, .rw, 0, 64, .rng 16 8000, false⟩,
  ⟨0xD020, 1, [(0x00, 0x00)], .bool, .ro, 0, 0, .rng 0 1, false⟩,
  ⟨0xD021, 1, [(0x00, 0x00)], .u8, .ro, 0, 0, .any, false⟩,
  ⟨0xD022, 1, [(0x00, 0x00)], .u8, .wo, 0, 0, .rng 0 1, false⟩,
  ⟨0xD023, 1, [(0x00, 0x00)], .u8, .ro, 0, 0, .any, false⟩,
  ⟨0xD024, 1, [(0x00, 0x00)], .table 128, .wo, 131072, 0, .any, false⟩,
  ⟨0xD025, 1, [(0x00, 0x00)], .bool, .wo, 0, 0, .rng 0 1, false⟩,
  ⟨0xD026, 1, [(0x00, 0x00)], .bool, .wo, 0, 0, .rng 0 1, false⟩,
  ⟨0xD027, 1, [(0x00, 0x00)], .u8, .ro, 0, 0, .any, false⟩,
  ⟨0xD030, 1, [(0x00, 0x00)], .u32, .ro, 0, 0, .any, false⟩,
  ⟨0xD031, 1, [(0x00, 0x00)], .u32, .ro, 0, 0, .any, false⟩,
  ⟨0xD032, 1, [(0x00, 0x00)], .u32, .ro, 0, 0, .any, false⟩,
  ⟨0xD033, 1, [(0x00, 0x03)], .s16, .ro, 0, 0, .any, false⟩]

def catD_1 : List Entry := [
  ⟨0xD034, 1, [(0x00, 0x00)], .s16, .rw, 0, 26880, .srng 17920 26880, false⟩,
  ⟨0xD035, 1, [(0x00, 0x00)], .bool, .ro, 0, 0, .rng 0 1, false⟩]

def catE_0 : List Entry := [
  ⟨0xE000, 1, [(0x00, 0x3F)], .u8, .rw, 0, 0, .special, false⟩,
  ⟨0xE001, 1, [(0x00, 0x3F)], .u8, .rw, 0, 0, .special, false⟩,
  ⟨0xE002, 1, [(0x00, 0x3F)], .u64, .rw, 0, 0xff00ff00ff00ff, .any, false⟩,
  ⟨0xE003, 1, [(0x00, 0x3F)], .u8, .rw, 0, 8, .rng 1 32, false⟩,
  ⟨0xE005, 1, [(0x00, 0x3F)], .u8, .ro, 0, 0, .any, false⟩,
  ⟨0xE006, 1, [(0x00, 0x3F)], .u64, .ro, 0, 0, .any, false⟩,
  ⟨0xE007, 1, [(0x00, 0x3F)], .u64, .ro, 0, 0, .any, false⟩,
  ⟨0xE008, 1, [(0x00, 0x3F)], .u64, .ro, 0, 0, .any, false⟩,
  ⟨0xE009, 1, [(0x00, 0x3F)], .u64, .ro, 0, 0, .any, false⟩,
  ⟨0xE00A, 4, [(0x00, 0x3F)], .u64, .ro, 0, 0, .any, false⟩,
  ⟨0xE00E, 1, [(0x00, 0x3F)], .bool, .wo, 0, 0, .rng 0 1, false⟩,
  ⟨0xE00F, 1, [(0x00, 0x3F)], .u64, .ro, 0, 0, .any, false⟩,
  ⟨0xE010, 1, [(0x00, 0x3F)], .u8, .rw, 0, 0, .rng 0 3, false⟩,
  ⟨0xE011, 1, [(0x00, 0x3F)], .u32, .rw, 0, 0, .zeroOr 128 4294967295, false⟩,
  ⟨0xE012, 1, [(0x00, 0x3F)], .u8, .rw, 0, 8, .rng 1 64, false⟩,
  ⟨0xE013, 1, [(0x00, 0x3F)], .bool, .wo, 0, 0, .rng 0 1, false⟩,
  ⟨0xE014, 1, [(0x00, 0x3F)], .u64, .ro, 0, 0, .any, false⟩,
  ⟨0xE020, 1, [(0x00, 0x3F)], .u8, .rw, 0, 0, .rng 0 3, false⟩,
  ⟨0xE100, 1, [(0x00, 0x00)], .bool, .wo, 0, 0, .rng 0 1, false⟩,
  ⟨0xE101, 1, [(0x00, 0x00)], .u8, .rw, 0, 72, .rng 0 79, false⟩,
  ⟨0xE102, 1, [(0x00, 0x00)], .octets 16, .ro, 0, 0, .any, false⟩,
  ⟨0xE103, 1, [(0x00, 0x00)], .u64, .ro, 0, 0, .any, false⟩,
  ⟨0xE104, 1, [(0x00, 0x00)], .u64, .ro, 0, 0, .any, false⟩]

/-- The entries of one 4,096-index subject range, in ascending index (R42). -/
def entriesOf (range : Nat) : List Entry :=
  match range with
  | 0 => cat0_0 ++ cat0_1
  | 1 => cat1_0
  | 2 => cat2_0 ++ cat2_1
  | 3 => cat3_0 ++ cat3_1
  | 4 => cat4_0 ++ cat4_1
  | 5 => cat5_0
  | 6 => cat6_0
  | 7 => cat7_0 ++ cat7_1 ++ cat7_2 ++ cat7_3
  | 8 => cat8_0 ++ cat8_1
  | 9 => cat9_0 ++ cat9_1 ++ cat9_2
  | 10 => catA_0 ++ catA_1 ++ catA_2
  | 11 => catB_0 ++ catB_1
  | 12 => catC_0
  | 13 => catD_0 ++ catD_1
  | 14 => catE_0
  | _ => []

/-- The entry of an index, whatever the sub-index. -/
def entryAt (idx : Nat) : Option Entry :=
  (entriesOf (idx / 4096)).find? (fun e => decide (e.idx ≤ idx) && decide (idx < e.idx + e.count))

/-- The object an accession number names (R41). -/
def entryOf (idx sub : Nat) : Option Entry :=
  (entriesOf (idx / 4096)).find? (fun e =>
    decide (e.idx ≤ idx) && decide (idx < e.idx + e.count) && e.subs.any (fun r => decide (r.1 ≤ sub) && decide (sub ≤ r.2)))

/-- The address of a value in the register file: index, sub-index, row. -/
def objKey (idx sub row : Nat) : Nat := (idx * 256 + sub) * 2 ^ 24 + row

def keyIdx (k : Nat) : Nat := k / 2 ^ 32
def keySub (k : Nat) : Nat := k / 2 ^ 24 % 256
def keyRow (k : Nat) : Nat := k % 2 ^ 24

/-- EventLevelMap: the level sources of R397. -/
def levelMapWord (w : Nat) : Nat :=
  match w with
  | 12 => 0x00029800
  | 13 => 0x000000B0
  | 14 => 0x00000022
  | 15 => 0x00000011
  | _ => 0

/-- The default row of VLAN 1 (R163): every port a member. -/
def vlanOneRow : Nat := 0xffffffffffffffffffffffffffffffff0000000000000001

/-- SHA-256 over 256 rows of zeros, first byte least significant (R404, R415). -/
def emptyMapDigest : Nat :=
  0xad83b1363c2f7942cdffd32a5720bd8355a5844d840931eea5c81a99a90aa0e5

/-- Defaults that differ within one line of an object table (R264, R314) or stand in a source table (R163, R397). -/
def specialDefault (idx sub row : Nat) : Option Nat :=
  match idx with
  | 0x4022 => if row = 1 then some vlanOneRow else none
  | 0x7101 => some (if sub < 64 then 1 else if sub < 68 then 2 else 3)
  | 0x7104 => some (if sub < 64 then 3000 else if sub < 68 then 100 else 10)
  | 0x800E => some (if sub = 0 then 100 else 10)
  | 0xB109 => some (levelMapWord sub)
  | 0xC023 => some emptyMapDigest
  | _ => none

/-- What a Catalogue value that nothing has written reads as: its default. -/
def regDefault (k : Nat) : Nat :=
  match specialDefault (keyIdx k) (keySub k) (keyRow k) with
  | some v => v
  | none => match entryAt (keyIdx k) with
    | some e => e.dflt
    | none => 0

/-- The bytes of a value as carried (R43). -/
def encodeVal (t : Ty) (v : Nat) : Bytes := if t.big then bytesBE t.len v else bytesLE t.len v

/-- The value carried by bytes (R43). -/
def decodeVal (t : Ty) (l : Bytes) : Nat := if t.big then ofBE l else ofLE l

/-- IDCODE (R448): the switch die's stepping digit, 0x6432, the manufacturer of the BSDL file, 1. -/
def idcodeOf (steppings : Nat) : Nat :=
  field steppings 27 24 * 2 ^ 28 + 0x6432 * 2 ^ 12 + Config.jtagManufacturer.toNat * 2 + 1

end Sys2Proof.Machine
end

