-- ==== Sys2Proof/Machine/Registers.lean ====
section
/-! DEFINITION. The index of every Catalogue object under the name its chapter gives it (R40). An object whose indices run
over lane pairs, groups or outputs has the first index here. -/

namespace Sys2Proof.Machine.Reg

/-- `A:0000` VendorName (RO, 02_catalogue.md R61). -/
abbrev vendorName : Nat := 0x0000
/-- `A:0001` PartNumber (RO, 02_catalogue.md R61). -/
abbrev partNumber : Nat := 0x0001
/-- `A:0002` ModuleSerial (RO, 02_catalogue.md R61). -/
abbrev moduleSerial : Nat := 0x0002
/-- `A:0003` ModuleUid (RO, 02_catalogue.md R61). -/
abbrev moduleUid : Nat := 0x0003
/-- `A:0004` DieSteppings (RO, 02_catalogue.md R61). -/
abbrev dieSteppings : Nat := 0x0004
/-- `A:0005` ManufactureDate (RO, 02_catalogue.md R61). -/
abbrev manufactureDate : Nat := 0x0005
/-- `A:0010` CatalogueVersion (RO, 02_catalogue.md R61). -/
abbrev catalogueVersion : Nat := 0x0010
/-- `A:0011` ObjectCount (RO, 02_catalogue.md R61). -/
abbrev objectCount : Nat := 0x0011
/-- `A:0012` ObjectDirectory (RO, 02_catalogue.md R61). -/
abbrev objectDirectory : Nat := 0x0012
/-- `A:0020` FirmwareVersion (RO, 02_catalogue.md R61). -/
abbrev firmwareVersion : Nat := 0x0020
/-- `A:0021` ActiveImage (RO, 02_catalogue.md R61). -/
abbrev activeImage : Nat := 0x0021
/-- `A:0030` SessionState (RO, 02_catalogue.md R59). -/
abbrev sessionState : Nat := 0x0030
/-- `A:0031` SessionTransport (RO, 02_catalogue.md R59). -/
abbrev sessionTransport : Nat := 0x0031
/-- `A:0032` SessionPeer (RO, 02_catalogue.md R59). -/
abbrev sessionPeer : Nat := 0x0032
/-- `A:0033` SessionPort (RO, 02_catalogue.md R59). -/
abbrev sessionPort : Nat := 0x0033
/-- `A:0034` SessionViolations (RO, 02_catalogue.md R59). -/
abbrev sessionViolations : Nat := 0x0034
/-- `A:0035` SessionViolationKinds (RO, 02_catalogue.md R59). -/
abbrev sessionViolationKinds : Nat := 0x0035
/-- `A:0036` SessionViolationClear (WO, 02_catalogue.md R59). -/
abbrev sessionViolationClear : Nat := 0x0036
/-- `A:0037` SessionSelf (RO, 02_catalogue.md R59). -/
abbrev sessionSelf : Nat := 0x0037
/-- `A:0038` SessionLimit (RO, 02_catalogue.md R59). -/
abbrev sessionLimit : Nat := 0x0038
/-- `A:0039` SessionLastViolation (RO, 02_catalogue.md R59). -/
abbrev sessionLastViolation : Nat := 0x0039
/-- `A:0040` LorakKey (WO, 03_lorak_access.md R84). -/
abbrev lorakKey : Nat := 0x0040
/-- `A:0041` LorakKeyLoaded (RO, 03_lorak_access.md R84). -/
abbrev lorakKeyLoaded : Nat := 0x0041
/-- `A:0042` LorakAuthRequired (RW, 03_lorak_access.md R84). -/
abbrev lorakAuthRequired : Nat := 0x0042
/-- `A:0043` LorakKeyErase (WO, 03_lorak_access.md R84). -/
abbrev lorakKeyErase : Nat := 0x0043
/-- `A:0044` LorakAcceptMask (RW, 03_lorak_access.md R84). -/
abbrev lorakAcceptMask : Nat := 0x0044
/-- `A:0045` LorakIdleLimit (RW, 03_lorak_access.md R84). -/
abbrev lorakIdleLimit : Nat := 0x0045
/-- `A:0046` LorakSubscriptions (RO, 03_lorak_access.md R84). -/
abbrev lorakSubscriptions : Nat := 0x0046
/-- `A:0047` NotifySequence (RO, 03_lorak_access.md R84). -/
abbrev notifySequence : Nat := 0x0047
/-- `A:0048` LorakFormatDrops (RO, 03_lorak_access.md R84). -/
abbrev lorakFormatDrops : Nat := 0x0048
/-- `A:0049` LorakAuthFailures (RO, 03_lorak_access.md R84). -/
abbrev lorakAuthFailures : Nat := 0x0049
/-- `A:004A` LorakMaskDrops (RO, 03_lorak_access.md R84). -/
abbrev lorakMaskDrops : Nat := 0x004A
/-- `A:004B` LorakHopDrops (RO, 03_lorak_access.md R84). -/
abbrev lorakHopDrops : Nat := 0x004B
/-- `A:004C` LorakUnreachable (RO, 03_lorak_access.md R84). -/
abbrev lorakUnreachable : Nat := 0x004C
/-- `A:004D` LorakRelayed (RO, 03_lorak_access.md R84). -/
abbrev lorakRelayed : Nat := 0x004D
/-- `A:0050` MgtMode (RW, 03_lorak_access.md R84). -/
abbrev mgtMode : Nat := 0x0050
/-- `A:0051` MgtLinkState (RO, 03_lorak_access.md R84). -/
abbrev mgtLinkState : Nat := 0x0051
/-- `A:0052` MgtMacAddress (RO, 03_lorak_access.md R84). -/
abbrev mgtMacAddress : Nat := 0x0052
/-- `A:0053` MgtOtherDrops (RO, 03_lorak_access.md R84). -/
abbrev mgtOtherDrops : Nat := 0x0053
/-- `A:1000` TickNumber (RO, 01_tick_and_openings.md R38). -/
abbrev tickNumber : Nat := 0x1000
/-- `A:1001` TickSequence (RO, 01_tick_and_openings.md R38). -/
abbrev tickSequence : Nat := 0x1001
/-- `A:1002` TickOverrunCount (RO, 01_tick_and_openings.md R38). -/
abbrev tickOverrunCount : Nat := 0x1002
/-- `A:1003` TickJobOverruns (RO, 01_tick_and_openings.md R38). -/
abbrev tickJobOverruns : Nat := 0x1003
/-- `A:1004` TickJobMaxTime (RO, 01_tick_and_openings.md R38). -/
abbrev tickJobMaxTime : Nat := 0x1004
/-- `A:1005` TickMaxClear (WO, 01_tick_and_openings.md R38). -/
abbrev tickMaxClear : Nat := 0x1005
/-- `A:1010` ShadowState (RO, 01_tick_and_openings.md R38). -/
abbrev shadowState : Nat := 0x1010
/-- `A:1011` ShadowCount (RO, 01_tick_and_openings.md R38). -/
abbrev shadowCount : Nat := 0x1011
/-- `A:1012` ShadowDigest (RO, 01_tick_and_openings.md R38). -/
abbrev shadowDigest : Nat := 0x1012
/-- `A:1013` ShadowDiscard (WO, 01_tick_and_openings.md R38). -/
abbrev shadowDiscard : Nat := 0x1013
/-- `A:1014` StagedObjectLimit (RO, 01_tick_and_openings.md R38). -/
abbrev stagedObjectLimit : Nat := 0x1014
/-- `A:1015` StagedRowLimit (RO, 01_tick_and_openings.md R38). -/
abbrev stagedRowLimit : Nat := 0x1015
/-- `A:1020` ArmLead (RW, 01_tick_and_openings.md R38). -/
abbrev armLead : Nat := 0x1020
/-- `A:1021` ArmedOpeningId (RO, 01_tick_and_openings.md R38). -/
abbrev armedOpeningId : Nat := 0x1021
/-- `A:1022` ArmedOpeningTick (RO, 01_tick_and_openings.md R38). -/
abbrev armedOpeningTick : Nat := 0x1022
/-- `A:1023` ArmedState (RO, 01_tick_and_openings.md R38). -/
abbrev armedState : Nat := 0x1023
/-- `A:1024` OpeningRecord (RO, 01_tick_and_openings.md R38). -/
abbrev openingRecord : Nat := 0x1024
/-- `A:1025` OpeningRefusals (RO, 01_tick_and_openings.md R38). -/
abbrev openingRefusals : Nat := 0x1025
/-- `A:1026` OpeningCancels (RO, 01_tick_and_openings.md R38). -/
abbrev openingCancels : Nat := 0x1026
/-- `A:1030` InventoryLead (RW, 01_tick_and_openings.md R38). -/
abbrev inventoryLead : Nat := 0x1030
/-- `A:1031` InventoryBankState (RO, 01_tick_and_openings.md R38). -/
abbrev inventoryBankState : Nat := 0x1031
/-- `A:1032` InventoryBankId (RO, 01_tick_and_openings.md R38). -/
abbrev inventoryBankId : Nat := 0x1032
/-- `A:1033` InventoryBankTick (RO, 01_tick_and_openings.md R38). -/
abbrev inventoryBankTick : Nat := 0x1033
/-- `A:1034` InventoryImageSize (RO, 01_tick_and_openings.md R38). -/
abbrev inventoryImageSize : Nat := 0x1034
/-- `A:1035` InventoryRelease (WO, 01_tick_and_openings.md R38). -/
abbrev inventoryRelease : Nat := 0x1035
/-- `A:1040` ResetAtOpening (RS, 01_tick_and_openings.md R38). -/
abbrev resetAtOpening : Nat := 0x1040
/-- `A:2000` LaneEnable (RW, 04_lanes.md R112). -/
abbrev laneEnable : Nat := 0x2000
/-- `A:2001` LaneState (RO, 04_lanes.md R112). -/
abbrev laneState : Nat := 0x2001
/-- `A:2002` LaneRate (RO, 04_lanes.md R112). -/
abbrev laneRate : Nat := 0x2002
/-- `A:2003` LaneTrainMode (RS, 04_lanes.md R112). -/
abbrev laneTrainMode : Nat := 0x2003
/-- `A:2004` LaneTxPrecode (RS, 04_lanes.md R112). -/
abbrev laneTxPrecode : Nat := 0x2004
/-- `A:2005` LaneRxPrecode (RS, 04_lanes.md R112). -/
abbrev laneRxPrecode : Nat := 0x2005
/-- `A:2006` LanePolarityMode (RS, 04_lanes.md R112). -/
abbrev lanePolarityMode : Nat := 0x2006
/-- `A:2007` LanePolarityFound (RO, 04_lanes.md R112). -/
abbrev lanePolarityFound : Nat := 0x2007
/-- `A:2008` LaneTxInvert (RS, 04_lanes.md R112). -/
abbrev laneTxInvert : Nat := 0x2008
/-- `A:2009` LaneReversal (RO, 04_lanes.md R112). -/
abbrev laneReversal : Nat := 0x2009
/-- `A:200A` LaneReversalMode (RS, 04_lanes.md R112). -/
abbrev laneReversalMode : Nat := 0x200A
/-- `A:200B` PortGroupTxSwap (RS, 04_lanes.md R112). -/
abbrev portGroupTxSwap : Nat := 0x200B
/-- `A:2010` LaneTxFfe (RW, 04_lanes.md R112). -/
abbrev laneTxFfe : Nat := 0x2010
/-- `A:2011` LaneRxCtle (RO, 04_lanes.md R112). -/
abbrev laneRxCtle : Nat := 0x2011
/-- `A:2012` LaneRxFfeTaps (RO, 04_lanes.md R112). -/
abbrev laneRxFfeTaps : Nat := 0x2012
/-- `A:2013` LaneRxDfeTaps (RO, 04_lanes.md R112). -/
abbrev laneRxDfeTaps : Nat := 0x2013
/-- `A:2014` LaneAdaptFrozen (RO, 04_lanes.md R112). -/
abbrev laneAdaptFrozen : Nat := 0x2014
/-- `A:2015` LaneFreezeCount (RO, 04_lanes.md R112). -/
abbrev laneFreezeCount : Nat := 0x2015
/-- `A:2016` LaneFreezeTransitionMin (RW, 04_lanes.md R112). -/
abbrev laneFreezeTransitionMin : Nat := 0x2016
/-- `A:2017` LaneFreezeLevelMin (RW, 04_lanes.md R112). -/
abbrev laneFreezeLevelMin : Nat := 0x2017
/-- `A:2018` LaneBringUpFails (RO, 04_lanes.md R112). -/
abbrev laneBringUpFails : Nat := 0x2018
/-- `A:2019` LaneLastFail (RO, 04_lanes.md R112). -/
abbrev laneLastFail : Nat := 0x2019
/-- `A:201A` LaneLinkDowns (RO, 04_lanes.md R112). -/
abbrev laneLinkDowns : Nat := 0x201A
/-- `A:2020` LaneEyeWidth (RO, 04_lanes.md R112). -/
abbrev laneEyeWidth : Nat := 0x2020
/-- `A:2021` LaneEyeHeightUpper (RO, 04_lanes.md R112). -/
abbrev laneEyeHeightUpper : Nat := 0x2021
/-- `A:2022` LaneEyeHeightMiddle (RO, 04_lanes.md R112). -/
abbrev laneEyeHeightMiddle : Nat := 0x2022
/-- `A:2023` LaneEyeHeightLower (RO, 04_lanes.md R112). -/
abbrev laneEyeHeightLower : Nat := 0x2023
/-- `A:2024` LanePreFecBer (RO, 04_lanes.md R112). -/
abbrev lanePreFecBer : Nat := 0x2024
/-- `A:2025` LaneEyeAge (RO, 04_lanes.md R112). -/
abbrev laneEyeAge : Nat := 0x2025
/-- `A:2026` LaneBerSource (RO, 04_lanes.md R112). -/
abbrev laneBerSource : Nat := 0x2026
/-- `A:2030` LaneRxPmaDelay (RO, 04_lanes.md R112). -/
abbrev laneRxPmaDelay : Nat := 0x2030
/-- `A:2031` LaneTxPmaDelay (RO, 04_lanes.md R112). -/
abbrev laneTxPmaDelay : Nat := 0x2031
/-- `A:2032` LaneSkew (RO, 04_lanes.md R112). -/
abbrev laneSkew : Nat := 0x2032
/-- `A:2040` ReserveState (RO, 04_lanes.md R112). -/
abbrev reserveState : Nat := 0x2040
/-- `A:2041` ReserveHandovers (RO, 04_lanes.md R112). -/
abbrev reserveHandovers : Nat := 0x2041
/-- `A:2042` ReserveAborts (RO, 04_lanes.md R112). -/
abbrev reserveAborts : Nat := 0x2042
/-- `A:2043` ReserveRequest (WO, 04_lanes.md R112). -/
abbrev reserveRequest : Nat := 0x2043
/-- `A:2050` FecCorrectedCodewords (RO, 04_lanes.md R112). -/
abbrev fecCorrectedCodewords : Nat := 0x2050
/-- `A:2051` FecUncorrectable (RO, 04_lanes.md R112). -/
abbrev fecUncorrectable : Nat := 0x2051
/-- `A:2052` FecCorrectedSymbols (RO, 04_lanes.md R112). -/
abbrev fecCorrectedSymbols : Nat := 0x2052
/-- `A:2053` LaneFecMode (RS, 04_lanes.md R112). -/
abbrev laneFecMode : Nat := 0x2053
/-- `A:3000` PortGroupMode (RS, 05_ports.md R134). -/
abbrev portGroupMode : Nat := 0x3000
/-- `A:3001` PortCount (RO, 05_ports.md R134). -/
abbrev portCount : Nat := 0x3001
/-- `A:3002` PortMap (RO, 05_ports.md R134). -/
abbrev portMap : Nat := 0x3002
/-- `A:3003` PortSpeed (RO, 05_ports.md R134). -/
abbrev portSpeed : Nat := 0x3003
/-- `A:3004` PortLinkState (RO, 05_ports.md R134). -/
abbrev portLinkState : Nat := 0x3004
/-- `A:3005` PortGroupFlushed (RO, 05_ports.md R134). -/
abbrev portGroupFlushed : Nat := 0x3005
/-- `A:3010` PortMaxFrame (RS, 05_ports.md R134). -/
abbrev portMaxFrame : Nat := 0x3010
/-- `A:3011` PortDefaultVid (RS, 05_ports.md R134). -/
abbrev portDefaultVid : Nat := 0x3011
/-- `A:3012` PortDefaultPcp (RS, 05_ports.md R134). -/
abbrev portDefaultPcp : Nat := 0x3012
/-- `A:3013` PortDefaultClass (RS, 05_ports.md R134). -/
abbrev portDefaultClass : Nat := 0x3013
/-- `A:3014` PortFlowMode (RS, 05_ports.md R134). -/
abbrev portFlowMode : Nat := 0x3014
/-- `A:3020` ClassRules (RS, 05_ports.md R134). -/
abbrev classRules : Nat := 0x3020
/-- `A:3021` ClassRuleHits (RO, 05_ports.md R134). -/
abbrev classRuleHits : Nat := 0x3021
/-- `A:3022` ClassRuleHitClear (WO, 05_ports.md R134). -/
abbrev classRuleHitClear : Nat := 0x3022
/-- `A:3030` RxFrames (RO, 05_ports.md R134). -/
abbrev rxFrames : Nat := 0x3030
/-- `A:3031` RxOctets (RO, 05_ports.md R134). -/
abbrev rxOctets : Nat := 0x3031
/-- `A:3032` RxUnicast (RO, 05_ports.md R134). -/
abbrev rxUnicast : Nat := 0x3032
/-- `A:3033` RxMulticast (RO, 05_ports.md R134). -/
abbrev rxMulticast : Nat := 0x3033
/-- `A:3034` RxBroadcast (RO, 05_ports.md R134). -/
abbrev rxBroadcast : Nat := 0x3034
/-- `A:3035` RxRunts (RO, 05_ports.md R134). -/
abbrev rxRunts : Nat := 0x3035
/-- `A:3036` RxOversize (RO, 05_ports.md R134). -/
abbrev rxOversize : Nat := 0x3036
/-- `A:3037` RxStomped (RO, 05_ports.md R134). -/
abbrev rxStomped : Nat := 0x3037
/-- `A:3038` RxFcsErrors (RO, 05_ports.md R134). -/
abbrev rxFcsErrors : Nat := 0x3038
/-- `A:3039` RxPauseFrames (RO, 05_ports.md R134). -/
abbrev rxPauseFrames : Nat := 0x3039
/-- `A:303A` RxPfcFrames (RO, 05_ports.md R134). -/
abbrev rxPfcFrames : Nat := 0x303A
/-- `A:303B` RxControlOther (RO, 05_ports.md R134). -/
abbrev rxControlOther : Nat := 0x303B
/-- `A:303C` RxDefaultClass (RO, 05_ports.md R134). -/
abbrev rxDefaultClass : Nat := 0x303C
/-- `A:3040` TxFrames (RO, 05_ports.md R134). -/
abbrev txFrames : Nat := 0x3040
/-- `A:3041` TxOctets (RO, 05_ports.md R134). -/
abbrev txOctets : Nat := 0x3041
/-- `A:3042` TxStomped (RO, 05_ports.md R134). -/
abbrev txStomped : Nat := 0x3042
/-- `A:3043` TxPauseFrames (RO, 05_ports.md R134). -/
abbrev txPauseFrames : Nat := 0x3043
/-- `A:3044` TxPfcFrames (RO, 05_ports.md R134). -/
abbrev txPfcFrames : Nat := 0x3044
/-- `A:3048` TxHeldTime (RO, 05_ports.md R134). -/
abbrev txHeldTime : Nat := 0x3048
/-- `A:3050` RxPfcClassFrames (RO, 05_ports.md R134). -/
abbrev rxPfcClassFrames : Nat := 0x3050
/-- `A:305F` PortCounterClear (WO, 05_ports.md R134). -/
abbrev portCounterClear : Nat := 0x305F
/-- `A:4000` CutThroughClassMask (RS, 06_switch_core.md R167). -/
abbrev cutThroughClassMask : Nat := 0x4000
/-- `A:4001` MaxResidence (RS, 06_switch_core.md R167). -/
abbrev maxResidence : Nat := 0x4001
/-- `A:4002` PfcAlpha (RS, 06_switch_core.md R167). -/
abbrev pfcAlpha : Nat := 0x4002
/-- `A:4003` PfcXonDelta (RS, 06_switch_core.md R167). -/
abbrev pfcXonDelta : Nat := 0x4003
/-- `A:4004` PfcQuanta (RS, 06_switch_core.md R167). -/
abbrev pfcQuanta : Nat := 0x4004
/-- `A:4008` GuaranteeCells (RS, 06_switch_core.md R167). -/
abbrev guaranteeCells : Nat := 0x4008
/-- `A:4010` HeadroomCells (RS, 06_switch_core.md R167). -/
abbrev headroomCells : Nat := 0x4010
/-- `A:4018` PortLearnEnable (RS, 06_switch_core.md R167). -/
abbrev portLearnEnable : Nat := 0x4018
/-- `A:4019` FdbAgeTime (RW, 06_switch_core.md R167). -/
abbrev fdbAgeTime : Nat := 0x4019
/-- `A:4020` ForwardingTable (RS, 06_switch_core.md R167). -/
abbrev forwardingTable : Nat := 0x4020
/-- `A:4021` ForwardingTableDirect (RW, 06_switch_core.md R167). -/
abbrev forwardingTableDirect : Nat := 0x4021
/-- `A:4022` VlanTable (RS, 06_switch_core.md R167). -/
abbrev vlanTable : Nat := 0x4022
/-- `A:4023` MulticastGroups (RS, 06_switch_core.md R167). -/
abbrev multicastGroups : Nat := 0x4023
/-- `A:4024` FdbFlushLearned (WO, 06_switch_core.md R167). -/
abbrev fdbFlushLearned : Nat := 0x4024
/-- `A:4030` BufferFreeCells (RO, 06_switch_core.md R167). -/
abbrev bufferFreeCells : Nat := 0x4030
/-- `A:4031` BufferMinFreeCells (RO, 06_switch_core.md R167). -/
abbrev bufferMinFreeCells : Nat := 0x4031
/-- `A:4032` SharedCells (RO, 06_switch_core.md R167). -/
abbrev sharedCells : Nat := 0x4032
/-- `A:4033` SharedFreeCells (RO, 06_switch_core.md R167). -/
abbrev sharedFreeCells : Nat := 0x4033
/-- `A:4034` BufferOvercommit (RO, 06_switch_core.md R167). -/
abbrev bufferOvercommit : Nat := 0x4034
/-- `A:4035` ManagementReserve (RO, 06_switch_core.md R167). -/
abbrev managementReserve : Nat := 0x4035
/-- `A:4036` ManagementDrops (RO, 06_switch_core.md R167). -/
abbrev managementDrops : Nat := 0x4036
/-- `A:4037` SleepDiscards (RO, 06_switch_core.md R167). -/
abbrev sleepDiscards : Nat := 0x4037
/-- `A:4040` IngressSharedUse (RO, 06_switch_core.md R167). -/
abbrev ingressSharedUse : Nat := 0x4040
/-- `A:4048` IngressHeadroomUse (RO, 06_switch_core.md R167). -/
abbrev ingressHeadroomUse : Nat := 0x4048
/-- `A:4050` XoffState (RO, 06_switch_core.md R167). -/
abbrev xoffState : Nat := 0x4050
/-- `A:4058` XoffCount (RO, 06_switch_core.md R167). -/
abbrev xoffCount : Nat := 0x4058
/-- `A:4060` HeadroomDrops (RO, 06_switch_core.md R167). -/
abbrev headroomDrops : Nat := 0x4060
/-- `A:4068` QueueDepthCells (RO, 06_switch_core.md R167). -/
abbrev queueDepthCells : Nat := 0x4068
/-- `A:4070` QueuePeakCells (RO, 06_switch_core.md R167). -/
abbrev queuePeakCells : Nat := 0x4070
/-- `A:4078` AgedFrames (RO, 06_switch_core.md R167). -/
abbrev agedFrames : Nat := 0x4078
/-- `A:4080` CutThroughFrames (RO, 06_switch_core.md R167). -/
abbrev cutThroughFrames : Nat := 0x4080
/-- `A:4081` StoreForwardFrames (RO, 06_switch_core.md R167). -/
abbrev storeForwardFrames : Nat := 0x4081
/-- `A:4082` ResidueCopies (RO, 06_switch_core.md R167). -/
abbrev residueCopies : Nat := 0x4082
/-- `A:4083` LinkDownDiscards (RO, 06_switch_core.md R167). -/
abbrev linkDownDiscards : Nat := 0x4083
/-- `A:4090` IngressFiltered (RO, 06_switch_core.md R167). -/
abbrev ingressFiltered : Nat := 0x4090
/-- `A:4091` ForwardDiscards (RO, 06_switch_core.md R167). -/
abbrev forwardDiscards : Nat := 0x4091
/-- `A:4092` FloodedFrames (RO, 06_switch_core.md R167). -/
abbrev floodedFrames : Nat := 0x4092
/-- `A:4093` MulticastFrames (RO, 06_switch_core.md R167). -/
abbrev multicastFrames : Nat := 0x4093
/-- `A:40A0` FdbLearnedEntries (RO, 06_switch_core.md R167). -/
abbrev fdbLearnedEntries : Nat := 0x40A0
/-- `A:40A1` FdbLearnBucketFull (RO, 06_switch_core.md R167). -/
abbrev fdbLearnBucketFull : Nat := 0x40A1
/-- `A:40A2` FdbAgedEntries (RO, 06_switch_core.md R167). -/
abbrev fdbAgedEntries : Nat := 0x40A2
/-- `A:40A3` FdbMoves (RO, 06_switch_core.md R167). -/
abbrev fdbMoves : Nat := 0x40A3
/-- `A:40B0` CoreCounterClear (WO, 06_switch_core.md R167). -/
abbrev coreCounterClear : Nat := 0x40B0
/-- `A:5010` GateControlList (RS, 07_scheduled_traffic.md R180). -/
abbrev gateControlList : Nat := 0x5010
/-- `A:5011` GateListLength (RS, 07_scheduled_traffic.md R180). -/
abbrev gateListLength : Nat := 0x5011
/-- `A:5012` GateCycleTime (RS, 07_scheduled_traffic.md R180). -/
abbrev gateCycleTime : Nat := 0x5012
/-- `A:5013` GateSwitchPending (RO, 07_scheduled_traffic.md R180). -/
abbrev gateSwitchPending : Nat := 0x5013
/-- `A:5014` GateEntryNow (RO, 07_scheduled_traffic.md R180). -/
abbrev gateEntryNow : Nat := 0x5014
/-- `A:5015` GateStatesNow (RO, 07_scheduled_traffic.md R180). -/
abbrev gateStatesNow : Nat := 0x5015
/-- `A:5020` StarveLimit (RS, 07_scheduled_traffic.md R180). -/
abbrev starveLimit : Nat := 0x5020
/-- `A:5028` StarvePromotions (RO, 07_scheduled_traffic.md R180). -/
abbrev starvePromotions : Nat := 0x5028
/-- `A:5030` StarvePromoted (RO, 07_scheduled_traffic.md R180). -/
abbrev starvePromoted : Nat := 0x5030
/-- `A:5031` GateOverruns (RO, 07_scheduled_traffic.md R180). -/
abbrev gateOverruns : Nat := 0x5031
/-- `A:5040` GuardDeferrals (RO, 07_scheduled_traffic.md R180). -/
abbrev guardDeferrals : Nat := 0x5040
/-- `A:505F` GateCounterClear (WO, 07_scheduled_traffic.md R180). -/
abbrev gateCounterClear : Nat := 0x505F
/-- `A:6001` CombinerStoreBytes (RO, 08_combiner.md R208). -/
abbrev combinerStoreBytes : Nat := 0x6001
/-- `A:6002` CombinerStoreUsed (RO, 08_combiner.md R208). -/
abbrev combinerStoreUsed : Nat := 0x6002
/-- `A:6003` CombinerOvercommit (RO, 08_combiner.md R208). -/
abbrev combinerOvercommit : Nat := 0x6003
/-- `A:6004` CombinerSwitchPending (RO, 08_combiner.md R208). -/
abbrev combinerSwitchPending : Nat := 0x6004
/-- `A:6008` CombinerAsleepDiscards (RO, 08_combiner.md R208). -/
abbrev combinerAsleepDiscards : Nat := 0x6008
/-- `A:6009` CombinerUnsetDiscards (RO, 08_combiner.md R208). -/
abbrev combinerUnsetDiscards : Nat := 0x6009
/-- `A:6010` WindowTable (RS, 08_combiner.md R208). -/
abbrev windowTable : Nat := 0x6010
/-- `A:6011` WindowCount (RS, 08_combiner.md R208). -/
abbrev windowCount : Nat := 0x6011
/-- `A:6020` GroupTable (RS, 08_combiner.md R208). -/
abbrev groupTable : Nat := 0x6020
/-- `A:6021` GroupState (RO, 08_combiner.md R208). -/
abbrev groupState : Nat := 0x6021
/-- `A:6030` ContributorTable (RS, 08_combiner.md R208). -/
abbrev contributorTable : Nat := 0x6030
/-- `A:6040` ContributorAccepted (RO, 08_combiner.md R208). -/
abbrev contributorAccepted : Nat := 0x6040
/-- `A:6041` ContributorLate (RO, 08_combiner.md R208). -/
abbrev contributorLate : Nat := 0x6041
/-- `A:6042` ContributorEarly (RO, 08_combiner.md R208). -/
abbrev contributorEarly : Nat := 0x6042
/-- `A:6043` ContributorMalformed (RO, 08_combiner.md R208). -/
abbrev contributorMalformed : Nat := 0x6043
/-- `A:6044` ContributorDuplicate (RO, 08_combiner.md R208). -/
abbrev contributorDuplicate : Nat := 0x6044
/-- `A:6050` GroupWindows (RO, 08_combiner.md R208). -/
abbrev groupWindows : Nat := 0x6050
/-- `A:6051` GroupPartial (RO, 08_combiner.md R208). -/
abbrev groupPartial : Nat := 0x6051
/-- `A:6052` GroupEmptyWindows (RO, 08_combiner.md R208). -/
abbrev groupEmptyWindows : Nat := 0x6052
/-- `A:6053` GroupSaturations (RO, 08_combiner.md R208). -/
abbrev groupSaturations : Nat := 0x6053
/-- `A:6054` GroupInputClips (RO, 08_combiner.md R208). -/
abbrev groupInputClips : Nat := 0x6054
/-- `A:6055` GroupForcedCloses (RO, 08_combiner.md R208). -/
abbrev groupForcedCloses : Nat := 0x6055
/-- `A:6056` GroupOutputFrames (RO, 08_combiner.md R208). -/
abbrev groupOutputFrames : Nat := 0x6056
/-- `A:6057` GroupOutputDrops (RO, 08_combiner.md R208). -/
abbrev groupOutputDrops : Nat := 0x6057
/-- `A:6058` GroupDownlinkFrames (RO, 08_combiner.md R208). -/
abbrev groupDownlinkFrames : Nat := 0x6058
/-- `A:605F` CombinerCounterClear (WO, 08_combiner.md R208). -/
abbrev combinerCounterClear : Nat := 0x605F
/-- `A:6060` CombinerPartialGroups (RO, 08_combiner.md R208). -/
abbrev combinerPartialGroups : Nat := 0x6060
/-- `A:7000` TdcChannelCount (RO, 09_phase_measurement.md R237). -/
abbrev tdcChannelCount : Nat := 0x7000
/-- `A:7001` TdcChannelState (RO, 09_phase_measurement.md R237). -/
abbrev tdcChannelState : Nat := 0x7001
/-- `A:7002` TdcStandIn (RO, 09_phase_measurement.md R237). -/
abbrev tdcStandIn : Nat := 0x7002
/-- `A:7003` TdcFeedbackSelect (RW, 09_phase_measurement.md R237). -/
abbrev tdcFeedbackSelect : Nat := 0x7003
/-- `A:7004` TdcPrescale (RW, 09_phase_measurement.md R237). -/
abbrev tdcPrescale : Nat := 0x7004
/-- `A:7005` TdcNominalPeriod (RW, 09_phase_measurement.md R237). -/
abbrev tdcNominalPeriod : Nat := 0x7005
/-- `A:7010` TdcTickResult (RO, 09_phase_measurement.md R237). -/
abbrev tdcTickResult : Nat := 0x7010
/-- `A:7011` TdcPulseStamp (RO, 09_phase_measurement.md R237). -/
abbrev tdcPulseStamp : Nat := 0x7011
/-- `A:7012` TdcMissedEdges (RO, 09_phase_measurement.md R237). -/
abbrev tdcMissedEdges : Nat := 0x7012
/-- `A:7020` TdcMeasureConfig (RW, 09_phase_measurement.md R237). -/
abbrev tdcMeasureConfig : Nat := 0x7020
/-- `A:7021` TdcMeasureStart (WO, 09_phase_measurement.md R237). -/
abbrev tdcMeasureStart : Nat := 0x7021
/-- `A:7022` TdcMeasureResult (RO, 09_phase_measurement.md R237). -/
abbrev tdcMeasureResult : Nat := 0x7022
/-- `A:7023` TdcEarlyStops (RO, 09_phase_measurement.md R237). -/
abbrev tdcEarlyStops : Nat := 0x7023
/-- `A:7030` FreqMeasureConfig (RW, 09_phase_measurement.md R237). -/
abbrev freqMeasureConfig : Nat := 0x7030
/-- `A:7031` FreqMeasureStart (WO, 09_phase_measurement.md R237). -/
abbrev freqMeasureStart : Nat := 0x7031
/-- `A:7032` FreqMeasureResult (RO, 09_phase_measurement.md R237). -/
abbrev freqMeasureResult : Nat := 0x7032
/-- `A:7040` TdcCalSource (RO, 09_phase_measurement.md R237). -/
abbrev tdcCalSource : Nat := 0x7040
/-- `A:7041` TdcResidualInl (RO, 09_phase_measurement.md R237). -/
abbrev tdcResidualInl : Nat := 0x7041
/-- `A:7042` TdcLastCalShift (RO, 09_phase_measurement.md R237). -/
abbrev tdcLastCalShift : Nat := 0x7042
/-- `A:7043` TdcCalRequest (WO, 09_phase_measurement.md R237). -/
abbrev tdcCalRequest : Nat := 0x7043
/-- `A:7044` TdcReserveAborts (RO, 09_phase_measurement.md R237). -/
abbrev tdcReserveAborts : Nat := 0x7044
/-- `A:7045` TdcTapTable (RO, 09_phase_measurement.md R237). -/
abbrev tdcTapTable : Nat := 0x7045
/-- `A:7046` TdcPhaseOffsets (RO, 09_phase_measurement.md R237). -/
abbrev tdcPhaseOffsets : Nat := 0x7046
/-- `A:7050` TimeBaseSource (RO, 09_phase_measurement.md R237). -/
abbrev timeBaseSource : Nat := 0x7050
/-- `A:7051` XoscFrequency (RO, 09_phase_measurement.md R237). -/
abbrev xoscFrequency : Nat := 0x7051
/-- `A:7052` AgeingRate (RW, 09_phase_measurement.md R237). -/
abbrev ageingRate : Nat := 0x7052
/-- `A:7053` AgeingEpoch (RW, 09_phase_measurement.md R237). -/
abbrev ageingEpoch : Nat := 0x7053
/-- `A:7054` TimeBaseCorrection (RO, 09_phase_measurement.md R237). -/
abbrev timeBaseCorrection : Nat := 0x7054
/-- `A:7055` TimeBaseTemperature (RO, 09_phase_measurement.md R237). -/
abbrev timeBaseTemperature : Nat := 0x7055
/-- `A:7056` XoscLosses (RO, 09_phase_measurement.md R237). -/
abbrev xoscLosses : Nat := 0x7056
/-- `A:7100` RefEnable (RW, 10_references_and_holdover.md R262). -/
abbrev refEnable : Nat := 0x7100
/-- `A:7101` RefType (RO, 10_references_and_holdover.md R262). -/
abbrev refType : Nat := 0x7101
/-- `A:7102` RefRank (RW, 10_references_and_holdover.md R262). -/
abbrev refRank : Nat := 0x7102
/-- `A:7103` RefBand (RW, 10_references_and_holdover.md R262). -/
abbrev refBand : Nat := 0x7103
/-- `A:7104` RefBandwidth (RW, 10_references_and_holdover.md R262). -/
abbrev refBandwidth : Nat := 0x7104
/-- `A:7105` RefWaitToRestore (RW, 10_references_and_holdover.md R262). -/
abbrev refWaitToRestore : Nat := 0x7105
/-- `A:7108` RefState (RO, 10_references_and_holdover.md R262). -/
abbrev refState : Nat := 0x7108
/-- `A:7109` RefFlags (RO, 10_references_and_holdover.md R262). -/
abbrev refFlags : Nat := 0x7109
/-- `A:710A` RefOffset (RO, 10_references_and_holdover.md R262). -/
abbrev refOffset : Nat := 0x710A
/-- `A:710B` RefWitnessMask (RO, 10_references_and_holdover.md R262). -/
abbrev refWitnessMask : Nat := 0x710B
/-- `A:710C` RefDisqualifications (RO, 10_references_and_holdover.md R262). -/
abbrev refDisqualifications : Nat := 0x710C
/-- `A:710D` RefSoftAlarms (RO, 10_references_and_holdover.md R262). -/
abbrev refSoftAlarms : Nat := 0x710D
/-- `A:710E` RefPhaseJumps (RO, 10_references_and_holdover.md R262). -/
abbrev refPhaseJumps : Nat := 0x710E
/-- `A:7120` WitnessLimit (RW, 10_references_and_holdover.md R262). -/
abbrev witnessLimit : Nat := 0x7120
/-- `A:7121` RefRevertive (RW, 10_references_and_holdover.md R262). -/
abbrev refRevertive : Nat := 0x7121
/-- `A:7122` RefForce (RW, 10_references_and_holdover.md R262). -/
abbrev refForce : Nat := 0x7122
/-- `A:7123` RefSelected (RO, 10_references_and_holdover.md R262). -/
abbrev refSelected : Nat := 0x7123
/-- `A:7124` RefPhaseJumpLimit (RW, 10_references_and_holdover.md R262). -/
abbrev refPhaseJumpLimit : Nat := 0x7124
/-- `A:7125` RefSwitches (RO, 10_references_and_holdover.md R262). -/
abbrev refSwitches : Nat := 0x7125
/-- `A:7126` WitnessVotes (RO, 10_references_and_holdover.md R262). -/
abbrev witnessVotes : Nat := 0x7126
/-- `A:7127` WitnessUnresolved (RO, 10_references_and_holdover.md R262). -/
abbrev witnessUnresolved : Nat := 0x7127
/-- `A:7130` LoopState (RO, 10_references_and_holdover.md R262). -/
abbrev loopState : Nat := 0x7130
/-- `A:7131` LoopControl (RO, 10_references_and_holdover.md R262). -/
abbrev loopControl : Nat := 0x7131
/-- `A:7132` LoopPhaseError (RO, 10_references_and_holdover.md R262). -/
abbrev loopPhaseError : Nat := 0x7132
/-- `A:7134` RegainSlew (RW, 10_references_and_holdover.md R262). -/
abbrev regainSlew : Nat := 0x7134
/-- `A:7135` RegainFreqLimit (RW, 10_references_and_holdover.md R262). -/
abbrev regainFreqLimit : Nat := 0x7135
/-- `A:7140` HoldoverWindow (RW, 10_references_and_holdover.md R262). -/
abbrev holdoverWindow : Nat := 0x7140
/-- `A:7141` HoldoverGuard (RW, 10_references_and_holdover.md R262). -/
abbrev holdoverGuard : Nat := 0x7141
/-- `A:7142` HoldoverValue (RO, 10_references_and_holdover.md R262). -/
abbrev holdoverValue : Nat := 0x7142
/-- `A:7143` HoldoverBins (RO, 10_references_and_holdover.md R262). -/
abbrev holdoverBins : Nat := 0x7143
/-- `A:7144` HoldoverFlags (RO, 10_references_and_holdover.md R262). -/
abbrev holdoverFlags : Nat := 0x7144
/-- `A:7145` HoldoverEntryTick (RO, 10_references_and_holdover.md R262). -/
abbrev holdoverEntryTick : Nat := 0x7145
/-- `A:7146` HoldoverEntries (RO, 10_references_and_holdover.md R262). -/
abbrev holdoverEntries : Nat := 0x7146
/-- `A:7147` HoldoverHistory (RO, 10_references_and_holdover.md R262). -/
abbrev holdoverHistory : Nat := 0x7147
/-- `A:7150` TodBaud (RW, 10_references_and_holdover.md R262). -/
abbrev todBaud : Nat := 0x7150
/-- `A:7151` TodLabel (RO, 10_references_and_holdover.md R262). -/
abbrev todLabel : Nat := 0x7151
/-- `A:7152` TodErrors (RO, 10_references_and_holdover.md R262). -/
abbrev todErrors : Nat := 0x7152
/-- `A:7153` TodMessages (RO, 10_references_and_holdover.md R262). -/
abbrev todMessages : Nat := 0x7153
/-- `A:7200` SynConfig (RS, 11_clock_outputs.md R283). -/
abbrev synConfig : Nat := 0x7200
/-- `A:7201` SynOffset (RW, 11_clock_outputs.md R283). -/
abbrev synOffset : Nat := 0x7201
/-- `A:7202` SynState (RO, 11_clock_outputs.md R283). -/
abbrev synState : Nat := 0x7202
/-- `A:7203` SynRate (RO, 11_clock_outputs.md R283). -/
abbrev synRate : Nat := 0x7203
/-- `A:7204` SynAnchor (RO, 11_clock_outputs.md R283). -/
abbrev synAnchor : Nat := 0x7204
/-- `A:7205` SynFrequency (RO, 11_clock_outputs.md R283). -/
abbrev synFrequency : Nat := 0x7205
/-- `A:7206` SynRelocks (RO, 11_clock_outputs.md R283). -/
abbrev synRelocks : Nat := 0x7206
/-- `A:7207` SynRelockCause (RO, 11_clock_outputs.md R283). -/
abbrev synRelockCause : Nat := 0x7207
/-- `A:7208` SynLockFails (RO, 11_clock_outputs.md R283). -/
abbrev synLockFails : Nat := 0x7208
/-- `A:7209` SynClips (RO, 11_clock_outputs.md R283). -/
abbrev synClips : Nat := 0x7209
/-- `A:7210` OutConfig (RS, 11_clock_outputs.md R283). -/
abbrev outConfig : Nat := 0x7210
/-- `A:7211` OutCoarseDelay (RS, 11_clock_outputs.md R283). -/
abbrev outCoarseDelay : Nat := 0x7211
/-- `A:7212` OutFineDelay (RS, 11_clock_outputs.md R283). -/
abbrev outFineDelay : Nat := 0x7212
/-- `A:7213` OutEnable (RW, 11_clock_outputs.md R283). -/
abbrev outEnable : Nat := 0x7213
/-- `A:7214` OutState (RO, 11_clock_outputs.md R283). -/
abbrev outState : Nat := 0x7214
/-- `A:7215` OutFrequency (RO, 11_clock_outputs.md R283). -/
abbrev outFrequency : Nat := 0x7215
/-- `A:7300` PlsMode (RS, 11_clock_outputs.md R283). -/
abbrev plsMode : Nat := 0x7300
/-- `A:7301` PlsSource (RS, 11_clock_outputs.md R283). -/
abbrev plsSource : Nat := 0x7301
/-- `A:7302` PlsOffset (RS, 11_clock_outputs.md R283). -/
abbrev plsOffset : Nat := 0x7302
/-- `A:7303` PlsPeriod (RS, 11_clock_outputs.md R283). -/
abbrev plsPeriod : Nat := 0x7303
/-- `A:7304` PlsWidth (RS, 11_clock_outputs.md R283). -/
abbrev plsWidth : Nat := 0x7304
/-- `A:7305` PlsRealign (RS, 11_clock_outputs.md R283). -/
abbrev plsRealign : Nat := 0x7305
/-- `A:7306` PlsAutoAlign (RW, 11_clock_outputs.md R283). -/
abbrev plsAutoAlign : Nat := 0x7306
/-- `A:7307` PlsAnchorError (RO, 11_clock_outputs.md R283). -/
abbrev plsAnchorError : Nat := 0x7307
/-- `A:7308` PlsState (RO, 11_clock_outputs.md R283). -/
abbrev plsState : Nat := 0x7308
/-- `A:7309` PlsCount (RO, 11_clock_outputs.md R283). -/
abbrev plsCount : Nat := 0x7309
/-- `A:730A` PlsRealignments (RO, 11_clock_outputs.md R283). -/
abbrev plsRealignments : Nat := 0x730A
/-- `A:730B` PlsMissed (RO, 11_clock_outputs.md R283). -/
abbrev plsMissed : Nat := 0x730B
/-- `A:8000` ServoState (RO, 12_fabric_time.md R313). -/
abbrev servoState : Nat := 0x8000
/-- `A:8001` ServoMode (RW, 12_fabric_time.md R313). -/
abbrev servoMode : Nat := 0x8001
/-- `A:8002` TimeNow (RO, 12_fabric_time.md R313). -/
abbrev timeNow : Nat := 0x8002
/-- `A:8003` TimeIncrement (RO, 12_fabric_time.md R313). -/
abbrev timeIncrement : Nat := 0x8003
/-- `A:8004` TimeIncrementSet (RW, 12_fabric_time.md R313). -/
abbrev timeIncrementSet : Nat := 0x8004
/-- `A:8005` TimeStep (WO, 12_fabric_time.md R313). -/
abbrev timeStep : Nat := 0x8005
/-- `A:8006` TimeSet (WO, 12_fabric_time.md R313). -/
abbrev timeSet : Nat := 0x8006
/-- `A:8007` ServoStateSet (RW, 12_fabric_time.md R313). -/
abbrev servoStateSet : Nat := 0x8007
/-- `A:8008` ServoCommand (WO, 12_fabric_time.md R313). -/
abbrev servoCommand : Nat := 0x8008
/-- `A:8009` AcceptStep (WO, 12_fabric_time.md R313). -/
abbrev acceptStep : Nat := 0x8009
/-- `A:800A` StepLimit (RW, 12_fabric_time.md R313). -/
abbrev stepLimit : Nat := 0x800A
/-- `A:800B` StepMin (RW, 12_fabric_time.md R313). -/
abbrev stepMin : Nat := 0x800B
/-- `A:800C` SlewLimit (RW, 12_fabric_time.md R313). -/
abbrev slewLimit : Nat := 0x800C
/-- `A:800D` AcquireSlewLimit (RW, 12_fabric_time.md R313). -/
abbrev acquireSlewLimit : Nat := 0x800D
/-- `A:800E` ServoBandwidth (RW, 12_fabric_time.md R313). -/
abbrev servoBandwidth : Nat := 0x800E
/-- `A:800F` LockThreshold (RW, 12_fabric_time.md R313). -/
abbrev lockThreshold : Nat := 0x800F
/-- `A:8010` PendingStep (RO, 12_fabric_time.md R313). -/
abbrev pendingStep : Nat := 0x8010
/-- `A:8011` ServoFlags (RO, 12_fabric_time.md R313). -/
abbrev servoFlags : Nat := 0x8011
/-- `A:8012` TimeOffset (RO, 12_fabric_time.md R313). -/
abbrev timeOffset : Nat := 0x8012
/-- `A:8013` ServoFrequency (RO, 12_fabric_time.md R313). -/
abbrev servoFrequency : Nat := 0x8013
/-- `A:8014` ServoCorrection (RO, 12_fabric_time.md R313). -/
abbrev servoCorrection : Nat := 0x8014
/-- `A:8015` RateExcess (RO, 12_fabric_time.md R313). -/
abbrev rateExcess : Nat := 0x8015
/-- `A:8016` FreerunIncrement (RO, 12_fabric_time.md R313). -/
abbrev freerunIncrement : Nat := 0x8016
/-- `A:8017` StateEntryTick (RO, 12_fabric_time.md R313). -/
abbrev stateEntryTick : Nat := 0x8017
/-- `A:8020` StepsApplied (RO, 12_fabric_time.md R313). -/
abbrev stepsApplied : Nat := 0x8020
/-- `A:8021` StepRefusals (RO, 12_fabric_time.md R313). -/
abbrev stepRefusals : Nat := 0x8021
/-- `A:8022` ServoStateChanges (RO, 12_fabric_time.md R313). -/
abbrev servoStateChanges : Nat := 0x8022
/-- `A:8023` IncrementMisses (RO, 12_fabric_time.md R313). -/
abbrev incrementMisses : Nat := 0x8023
/-- `A:8024` TimeSetRefusals (RO, 12_fabric_time.md R313). -/
abbrev timeSetRefusals : Nat := 0x8024
/-- `A:8025` LastStep (RO, 12_fabric_time.md R313). -/
abbrev lastStep : Nat := 0x8025
/-- `A:8026` SaturatedTicks (RO, 12_fabric_time.md R313). -/
abbrev saturatedTicks : Nat := 0x8026
/-- `A:8030` TimeSource (RO, 12_fabric_time.md R313). -/
abbrev timeSource : Nat := 0x8030
/-- `A:8031` TimeSourcePort (RO, 12_fabric_time.md R313). -/
abbrev timeSourcePort : Nat := 0x8031
/-- `A:8032` RootTimeSource (RW, 12_fabric_time.md R313). -/
abbrev rootTimeSource : Nat := 0x8032
/-- `A:8033` PpsiDelay (RW, 12_fabric_time.md R313). -/
abbrev ppsiDelay : Nat := 0x8033
/-- `A:8034` UtcOffset (RO, 12_fabric_time.md R313). -/
abbrev utcOffset : Nat := 0x8034
/-- `A:8035` UtcOffsetLocal (RW, 12_fabric_time.md R313). -/
abbrev utcOffsetLocal : Nat := 0x8035
/-- `A:8036` LeapPending (RO, 12_fabric_time.md R313). -/
abbrev leapPending : Nat := 0x8036
/-- `A:8037` PtpFabricDomain (RS, 12_fabric_time.md R313). -/
abbrev ptpFabricDomain : Nat := 0x8037
/-- `A:8038` PtpTelecomDomain (RS, 12_fabric_time.md R313). -/
abbrev ptpTelecomDomain : Nat := 0x8038
/-- `A:8039` PtpDelayOutlier (RW, 12_fabric_time.md R313). -/
abbrev ptpDelayOutlier : Nat := 0x8039
/-- `A:8040` PtpPortProfile (RS, 12_fabric_time.md R313). -/
abbrev ptpPortProfile : Nat := 0x8040
/-- `A:8041` PtpDestAddress (RS, 12_fabric_time.md R313). -/
abbrev ptpDestAddress : Nat := 0x8041
/-- `A:8042` PtpPortState (RO, 12_fabric_time.md R313). -/
abbrev ptpPortState : Nat := 0x8042
/-- `A:8043` PortTxDelay (RW, 12_fabric_time.md R313). -/
abbrev portTxDelay : Nat := 0x8043
/-- `A:8044` PortRxDelay (RW, 12_fabric_time.md R313). -/
abbrev portRxDelay : Nat := 0x8044
/-- `A:8045` FibreAsymmetry (RW, 12_fabric_time.md R313). -/
abbrev fibreAsymmetry : Nat := 0x8045
/-- `A:8046` PtpExchange (RO, 12_fabric_time.md R313). -/
abbrev ptpExchange : Nat := 0x8046
/-- `A:8047` PtpMeanPathDelay (RO, 12_fabric_time.md R313). -/
abbrev ptpMeanPathDelay : Nat := 0x8047
/-- `A:8048` PtpOffset (RO, 12_fabric_time.md R313). -/
abbrev ptpOffset : Nat := 0x8048
/-- `A:8050` PtpSyncSent (RO, 12_fabric_time.md R313). -/
abbrev ptpSyncSent : Nat := 0x8050
/-- `A:8051` PtpSyncReceived (RO, 12_fabric_time.md R313). -/
abbrev ptpSyncReceived : Nat := 0x8051
/-- `A:8052` PtpDelayReqSent (RO, 12_fabric_time.md R313). -/
abbrev ptpDelayReqSent : Nat := 0x8052
/-- `A:8053` PtpDelayReqReceived (RO, 12_fabric_time.md R313). -/
abbrev ptpDelayReqReceived : Nat := 0x8053
/-- `A:8054` PtpAnnounceReceived (RO, 12_fabric_time.md R313). -/
abbrev ptpAnnounceReceived : Nat := 0x8054
/-- `A:8055` PtpExchangesValid (RO, 12_fabric_time.md R313). -/
abbrev ptpExchangesValid : Nat := 0x8055
/-- `A:8056` PtpExchangesDiscarded (RO, 12_fabric_time.md R313). -/
abbrev ptpExchangesDiscarded : Nat := 0x8056
/-- `A:8057` PtpRxIgnored (RO, 12_fabric_time.md R313). -/
abbrev ptpRxIgnored : Nat := 0x8057
/-- `A:805F` PtpCounterClear (WO, 12_fabric_time.md R313). -/
abbrev ptpCounterClear : Nat := 0x805F
/-- `A:9000` FabricAddress (RO, 13_fabric.md R334). -/
abbrev fabricAddress : Nat := 0x9000
/-- `A:9001` FabricAddressSource (RO, 13_fabric.md R334). -/
abbrev fabricAddressSource : Nat := 0x9001
/-- `A:9002` FabricAddressStraps (RO, 13_fabric.md R334). -/
abbrev fabricAddressStraps : Nat := 0x9002
/-- `A:9003` FabricRootPriority (RW, 13_fabric.md R334). -/
abbrev fabricRootPriority : Nat := 0x9003
/-- `A:9004` FabricRootUid (RO, 13_fabric.md R334). -/
abbrev fabricRootUid : Nat := 0x9004
/-- `A:9005` FabricRootAddress (RO, 13_fabric.md R334). -/
abbrev fabricRootAddress : Nat := 0x9005
/-- `A:9006` IsFabricRoot (RO, 13_fabric.md R334). -/
abbrev isFabricRoot : Nat := 0x9006
/-- `A:9008` ZutumEnable (RW, 13_fabric.md R334). -/
abbrev zutumEnable : Nat := 0x9008
/-- `A:9009` NeighbourUid (RO, 13_fabric.md R334). -/
abbrev neighbourUid : Nat := 0x9009
/-- `A:900A` NeighbourAddress (RO, 13_fabric.md R334). -/
abbrev neighbourAddress : Nat := 0x900A
/-- `A:900B` NeighbourPort (RO, 13_fabric.md R334). -/
abbrev neighbourPort : Nat := 0x900B
/-- `A:900C` AdjacencyState (RO, 13_fabric.md R334). -/
abbrev adjacencyState : Nat := 0x900C
/-- `A:9010` DatabaseOrigins (RO, 13_fabric.md R334). -/
abbrev databaseOrigins : Nat := 0x9010
/-- `A:9011` DatabaseDigest (RO, 13_fabric.md R334). -/
abbrev databaseDigest : Nat := 0x9011
/-- `A:9012` DatabaseOverflow (RO, 13_fabric.md R334). -/
abbrev databaseOverflow : Nat := 0x9012
/-- `A:9013` RouteDigest (RO, 13_fabric.md R334). -/
abbrev routeDigest : Nat := 0x9013
/-- `A:9014` RouteOpeningId (RO, 13_fabric.md R334). -/
abbrev routeOpeningId : Nat := 0x9014
/-- `A:9015` RouteArmedTick (RO, 13_fabric.md R334). -/
abbrev routeArmedTick : Nat := 0x9015
/-- `A:9016` RouteOpenings (RO, 13_fabric.md R334). -/
abbrev routeOpenings : Nat := 0x9016
/-- `A:9017` RouteRefusals (RO, 13_fabric.md R334). -/
abbrev routeRefusals : Nat := 0x9017
/-- `A:9018` RouteCancels (RO, 13_fabric.md R334). -/
abbrev routeCancels : Nat := 0x9018
/-- `A:901A` ZutumSettle (RW, 13_fabric.md R334). -/
abbrev zutumSettle : Nat := 0x901A
/-- `A:901B` RouteLead (RW, 13_fabric.md R334). -/
abbrev routeLead : Nat := 0x901B
/-- `A:901C` RouteArmLead (RW, 13_fabric.md R334). -/
abbrev routeArmLead : Nat := 0x901C
/-- `A:9020` ManagementRoutes (RO, 13_fabric.md R334). -/
abbrev managementRoutes : Nat := 0x9020
/-- `A:9021` RegistrarTable (RW, 13_fabric.md R334). -/
abbrev registrarTable : Nat := 0x9021
/-- `A:9022` RegistrarFull (RO, 13_fabric.md R334). -/
abbrev registrarFull : Nat := 0x9022
/-- `A:9023` AddressConflicts (RO, 13_fabric.md R334). -/
abbrev addressConflicts : Nat := 0x9023
/-- `A:9030` ClockPriority1 (RW, 13_fabric.md R334). -/
abbrev clockPriority1 : Nat := 0x9030
/-- `A:9031` ClockPriority2 (RW, 13_fabric.md R334). -/
abbrev clockPriority2 : Nat := 0x9031
/-- `A:9032` PtpLocalPriority (RW, 13_fabric.md R334). -/
abbrev ptpLocalPriority : Nat := 0x9032
/-- `A:9033` GrandmasterIdentity (RO, 13_fabric.md R334). -/
abbrev grandmasterIdentity : Nat := 0x9033
/-- `A:9034` GrandmasterEntry (RO, 13_fabric.md R334). -/
abbrev grandmasterEntry : Nat := 0x9034
/-- `A:9035` TimeTreeDepth (RO, 13_fabric.md R334). -/
abbrev timeTreeDepth : Nat := 0x9035
/-- `A:9036` TimeTreeOrphan (RO, 13_fabric.md R334). -/
abbrev timeTreeOrphan : Nat := 0x9036
/-- `A:9040` ZutumFramesSent (RO, 13_fabric.md R334). -/
abbrev zutumFramesSent : Nat := 0x9040
/-- `A:9041` ZutumFramesReceived (RO, 13_fabric.md R334). -/
abbrev zutumFramesReceived : Nat := 0x9041
/-- `A:9042` ZutumDrops (RO, 13_fabric.md R334). -/
abbrev zutumDrops : Nat := 0x9042
/-- `A:9100` TwinEnable (RS, 14_twins.md R349). -/
abbrev twinEnable : Nat := 0x9100
/-- `A:9101` TwinPairId (RS, 14_twins.md R349). -/
abbrev twinPairId : Nat := 0x9101
/-- `A:9102` TwinPeerUid (RS, 14_twins.md R349). -/
abbrev twinPeerUid : Nat := 0x9102
/-- `A:9103` TwinPeerAddress (RS, 14_twins.md R349). -/
abbrev twinPeerAddress : Nat := 0x9103
/-- `A:9104` TwinHbPort (RS, 14_twins.md R349). -/
abbrev twinHbPort : Nat := 0x9104
/-- `A:9105` TwinNoticePorts (RS, 14_twins.md R349). -/
abbrev twinNoticePorts : Nat := 0x9105
/-- `A:9106` TwinProtectedPorts (RS, 14_twins.md R349). -/
abbrev twinProtectedPorts : Nat := 0x9106
/-- `A:9107` TwinClockMask (RS, 14_twins.md R349). -/
abbrev twinClockMask : Nat := 0x9107
/-- `A:9108` TwinPulseMask (RS, 14_twins.md R349). -/
abbrev twinPulseMask : Nat := 0x9108
/-- `A:9109` TwinTimeRole (RS, 14_twins.md R349). -/
abbrev twinTimeRole : Nat := 0x9109
/-- `A:910A` TwinSelfTestLanes (RS, 14_twins.md R349). -/
abbrev twinSelfTestLanes : Nat := 0x910A
/-- `A:910B` TwinHbDelay (RW, 14_twins.md R349). -/
abbrev twinHbDelay : Nat := 0x910B
/-- `A:910C` TwinShadowLimit (RW, 14_twins.md R349). -/
abbrev twinShadowLimit : Nat := 0x910C
/-- `A:910D` TwinArbitrate (RW, 14_twins.md R349). -/
abbrev twinArbitrate : Nat := 0x910D
/-- `A:910E` TwinRoleSwap (RS, 14_twins.md R349). -/
abbrev twinRoleSwap : Nat := 0x910E
/-- `A:9110` TwinRole (RO, 14_twins.md R349). -/
abbrev twinRole : Nat := 0x9110
/-- `A:9111` TwinRank (RO, 14_twins.md R349). -/
abbrev twinRank : Nat := 0x9111
/-- `A:9112` TwinPathState (RO, 14_twins.md R349). -/
abbrev twinPathState : Nat := 0x9112
/-- `A:9113` TwinHealthWord (RO, 14_twins.md R349). -/
abbrev twinHealthWord : Nat := 0x9113
/-- `A:9114` TwinHealthFigure (RO, 14_twins.md R349). -/
abbrev twinHealthFigure : Nat := 0x9114
/-- `A:9115` TwinPeerHealthWord (RO, 14_twins.md R349). -/
abbrev twinPeerHealthWord : Nat := 0x9115
/-- `A:9116` TwinPeerHealthFigure (RO, 14_twins.md R349). -/
abbrev twinPeerHealthFigure : Nat := 0x9116
/-- `A:9117` TwinPeerRole (RO, 14_twins.md R349). -/
abbrev twinPeerRole : Nat := 0x9117
/-- `A:9118` TwinShadowOffset (RO, 14_twins.md R349). -/
abbrev twinShadowOffset : Nat := 0x9118
/-- `A:9119` TwinFlags (RO, 14_twins.md R349). -/
abbrev twinFlags : Nat := 0x9119
/-- `A:9120` TwinFailovers (RO, 14_twins.md R349). -/
abbrev twinFailovers : Nat := 0x9120
/-- `A:9121` TwinDegradedAlarms (RO, 14_twins.md R349). -/
abbrev twinDegradedAlarms : Nat := 0x9121
/-- `A:9122` TwinStepDowns (RO, 14_twins.md R349). -/
abbrev twinStepDowns : Nat := 0x9122
/-- `A:9123` TwinDualActiveTicks (RO, 14_twins.md R349). -/
abbrev twinDualActiveTicks : Nat := 0x9123
/-- `A:9124` TwinHbMissed (RO, 14_twins.md R349). -/
abbrev twinHbMissed : Nat := 0x9124
/-- `A:9125` TwinHbErrors (RO, 14_twins.md R349). -/
abbrev twinHbErrors : Nat := 0x9125
/-- `A:9126` TwinStandbyDiscards (RO, 14_twins.md R349). -/
abbrev twinStandbyDiscards : Nat := 0x9126
/-- `A:9127` TwinSelfTestLaneErrors (RO, 14_twins.md R349). -/
abbrev twinSelfTestLaneErrors : Nat := 0x9127
/-- `A:9130` TwinFollowTable (RO, 14_twins.md R349). -/
abbrev twinFollowTable : Nat := 0x9130
/-- `A:A000` RecalDelta (RW, 15_calibration.md R365). -/
abbrev recalDelta : Nat := 0xA000
/-- `A:A001` CalAutoEnable (RW, 15_calibration.md R365). -/
abbrev calAutoEnable : Nat := 0xA001
/-- `A:A002` CalFailLimit (RW, 15_calibration.md R365). -/
abbrev calFailLimit : Nat := 0xA002
/-- `A:A003` CalRetryTicks (RW, 15_calibration.md R365). -/
abbrev calRetryTicks : Nat := 0xA003
/-- `A:A004` CalMaxLaneRuns (RW, 15_calibration.md R365). -/
abbrev calMaxLaneRuns : Nat := 0xA004
/-- `A:A005` CalCrystalRankMax (RW, 15_calibration.md R365). -/
abbrev calCrystalRankMax : Nat := 0xA005
/-- `A:A006` CalRunsActive (RO, 15_calibration.md R365). -/
abbrev calRunsActive : Nat := 0xA006
/-- `A:A007` CalPendingCount (RO, 15_calibration.md R365). -/
abbrev calPendingCount : Nat := 0xA007
/-- `A:A008` CalDiscardSets (WO, 15_calibration.md R365). -/
abbrev calDiscardSets : Nat := 0xA008
/-- `A:A100` CalState (RO, 15_calibration.md R365). -/
abbrev calState : Nat := 0xA100
/-- `A:A101` CalSource (RO, 15_calibration.md R365). -/
abbrev calSource : Nat := 0xA101
/-- `A:A102` CalTemperature (RO, 15_calibration.md R365). -/
abbrev calTemperature : Nat := 0xA102
/-- `A:A103` CalLastRunTemp (RO, 15_calibration.md R365). -/
abbrev calLastRunTemp : Nat := 0xA103
/-- `A:A104` CalLastRunTick (RO, 15_calibration.md R365). -/
abbrev calLastRunTick : Nat := 0xA104
/-- `A:A105` CalRuns (RO, 15_calibration.md R365). -/
abbrev calRuns : Nat := 0xA105
/-- `A:A106` CalFails (RO, 15_calibration.md R365). -/
abbrev calFails : Nat := 0xA106
/-- `A:A107` CalConsecutiveFails (RO, 15_calibration.md R365). -/
abbrev calConsecutiveFails : Nat := 0xA107
/-- `A:A108` CalSets (RO, 15_calibration.md R365). -/
abbrev calSets : Nat := 0xA108
/-- `A:A10A` CalQuality (RO, 15_calibration.md R365). -/
abbrev calQuality : Nat := 0xA10A
/-- `A:A309` CalRequest (WO, 15_calibration.md R365). -/
abbrev calRequest : Nat := 0xA309
/-- `A:B000` CounterClearAll (WO, 16_counters_and_sampling.md R386). -/
abbrev counterClearAll : Nat := 0xB000
/-- `A:B001` InventoryDirectoryCount (RO, 16_counters_and_sampling.md R386). -/
abbrev inventoryDirectoryCount : Nat := 0xB001
/-- `A:B002` InventoryDirectory (RO, 16_counters_and_sampling.md R386). -/
abbrev inventoryDirectory : Nat := 0xB002
/-- `A:B010` PerfConfig (RW, 16_counters_and_sampling.md R386). -/
abbrev perfConfig : Nat := 0xB010
/-- `A:B011` PerfGateTicks (RW, 16_counters_and_sampling.md R386). -/
abbrev perfGateTicks : Nat := 0xB011
/-- `A:B012` PerfCounter (RW, 16_counters_and_sampling.md R386). -/
abbrev perfCounter : Nat := 0xB012
/-- `A:B013` PerfResult (RO, 16_counters_and_sampling.md R386). -/
abbrev perfResult : Nat := 0xB013
/-- `A:B014` PerfThreshold (RW, 16_counters_and_sampling.md R386). -/
abbrev perfThreshold : Nat := 0xB014
/-- `A:B015` PerfOverflow (RO, 16_counters_and_sampling.md R386). -/
abbrev perfOverflow : Nat := 0xB015
/-- `A:B016` PerfOverflowClear (WO, 16_counters_and_sampling.md R386). -/
abbrev perfOverflowClear : Nat := 0xB016
/-- `A:B017` PerfGateCount (RO, 16_counters_and_sampling.md R386). -/
abbrev perfGateCount : Nat := 0xB017
/-- `A:B020` ArchiveMode (RW, 16_counters_and_sampling.md R386). -/
abbrev archiveMode : Nat := 0xB020
/-- `A:B021` ArchiveSampleEvery (RW, 16_counters_and_sampling.md R386). -/
abbrev archiveSampleEvery : Nat := 0xB021
/-- `A:B022` ArchiveFilter (RW, 16_counters_and_sampling.md R386). -/
abbrev archiveFilter : Nat := 0xB022
/-- `A:B023` ArchiveTriggerSource (RW, 16_counters_and_sampling.md R386). -/
abbrev archiveTriggerSource : Nat := 0xB023
/-- `A:B024` ArchiveBurst (RW, 16_counters_and_sampling.md R386). -/
abbrev archiveBurst : Nat := 0xB024
/-- `A:B025` ArchiveTrigger (WO, 16_counters_and_sampling.md R386). -/
abbrev archiveTrigger : Nat := 0xB025
/-- `A:B026` ArchiveStopOnFull (RW, 16_counters_and_sampling.md R386). -/
abbrev archiveStopOnFull : Nat := 0xB026
/-- `A:B027` ArchiveWriteIndex (RO, 16_counters_and_sampling.md R386). -/
abbrev archiveWriteIndex : Nat := 0xB027
/-- `A:B028` ArchiveReadIndex (RW, 16_counters_and_sampling.md R386). -/
abbrev archiveReadIndex : Nat := 0xB028
/-- `A:B029` ArchiveWatermark (RW, 16_counters_and_sampling.md R386). -/
abbrev archiveWatermark : Nat := 0xB029
/-- `A:B02A` ArchiveState (RO, 16_counters_and_sampling.md R386). -/
abbrev archiveState : Nat := 0xB02A
/-- `A:B02B` ArchiveSkipped (RO, 16_counters_and_sampling.md R386). -/
abbrev archiveSkipped : Nat := 0xB02B
/-- `A:B02C` ArchiveOverwritten (RO, 16_counters_and_sampling.md R386). -/
abbrev archiveOverwritten : Nat := 0xB02C
/-- `A:B02D` ArchiveRecords (RO, 16_counters_and_sampling.md R386). -/
abbrev archiveRecords : Nat := 0xB02D
/-- `A:B02E` ArchiveClear (WO, 16_counters_and_sampling.md R386). -/
abbrev archiveClear : Nat := 0xB02E
/-- `A:B100` EventPending (RO, 17_events.md R398). -/
abbrev eventPending : Nat := 0xB100
/-- `A:B101` EventClear (WO, 17_events.md R398). -/
abbrev eventClear : Nat := 0xB101
/-- `A:B102` EventLive (RO, 17_events.md R398). -/
abbrev eventLive : Nat := 0xB102
/-- `A:B103` EventMaskA (RW, 17_events.md R398). -/
abbrev eventMaskA : Nat := 0xB103
/-- `A:B104` EventMaskB (RW, 17_events.md R398). -/
abbrev eventMaskB : Nat := 0xB104
/-- `A:B105` EventMaskNotify (RW, 17_events.md R398). -/
abbrev eventMaskNotify : Nat := 0xB105
/-- `A:B106` EventHold (RW, 17_events.md R398). -/
abbrev eventHold : Nat := 0xB106
/-- `A:B107` EventSummary (RO, 17_events.md R398). -/
abbrev eventSummary : Nat := 0xB107
/-- `A:B108` EventPinState (RO, 17_events.md R398). -/
abbrev eventPinState : Nat := 0xB108
/-- `A:B109` EventLevelMap (RO, 17_events.md R398). -/
abbrev eventLevelMap : Nat := 0xB109
/-- `A:B10A` EventCounts (RO, 17_events.md R398). -/
abbrev eventCounts : Nat := 0xB10A
/-- `A:B10B` EventCountClear (WO, 17_events.md R398). -/
abbrev eventCountClear : Nat := 0xB10B
/-- `A:B10C` EventNotifySent (RO, 17_events.md R398). -/
abbrev eventNotifySent : Nat := 0xB10C
/-- `A:C000` VitrineVersion (RO, 18_vitrine.md R415). -/
abbrev vitrineVersion : Nat := 0xC000
/-- `A:C001` VitrineMicrocodeDigest (RO, 18_vitrine.md R415). -/
abbrev vitrineMicrocodeDigest : Nat := 0xC001
/-- `A:C002` VitrineState (RO, 18_vitrine.md R415). -/
abbrev vitrineState : Nat := 0xC002
/-- `A:C010` SealState (RO, 18_vitrine.md R415). -/
abbrev sealState : Nat := 0xC010
/-- `A:C011` SealEvents (RO, 18_vitrine.md R415). -/
abbrev sealEvents : Nat := 0xC011
/-- `A:C012` SealWrites (RO, 18_vitrine.md R415). -/
abbrev sealWrites : Nat := 0xC012
/-- `A:C013` SealLog (RO, 18_vitrine.md R415). -/
abbrev sealLog : Nat := 0xC013
/-- `A:C014` LogIndex (RO, 18_vitrine.md R415). -/
abbrev logIndex : Nat := 0xC014
/-- `A:C020` TenantMap (SEAL, 18_vitrine.md R415). -/
abbrev tenantMap : Nat := 0xC020
/-- `A:C021` VitrineInterval (SEAL, 18_vitrine.md R415). -/
abbrev vitrineInterval : Nat := 0xC021
/-- `A:C022` VitrinePending (RO, 18_vitrine.md R415). -/
abbrev vitrinePending : Nat := 0xC022
/-- `A:C023` TenantMapDigest (RO, 18_vitrine.md R415). -/
abbrev tenantMapDigest : Nat := 0xC023
/-- `A:C030` IntervalCounts (RO, 18_vitrine.md R415). -/
abbrev intervalCounts : Nat := 0xC030
/-- `A:C031` IntervalOpenTime (RO, 18_vitrine.md R415). -/
abbrev intervalOpenTime : Nat := 0xC031
/-- `A:C032` IntervalQuality (RO, 18_vitrine.md R415). -/
abbrev intervalQuality : Nat := 0xC032
/-- `A:C040` VitrineRecords (RO, 18_vitrine.md R415). -/
abbrev vitrineRecords : Nat := 0xC040
/-- `A:C041` RecordSequence (RO, 18_vitrine.md R415). -/
abbrev recordSequence : Nat := 0xC041
/-- `A:C042` OldestSequence (RO, 18_vitrine.md R415). -/
abbrev oldestSequence : Nat := 0xC042
/-- `A:C043` TailDigest (RO, 18_vitrine.md R415). -/
abbrev tailDigest : Nat := 0xC043
/-- `A:C044` LastDigest (RO, 18_vitrine.md R415). -/
abbrev lastDigest : Nat := 0xC044
/-- `A:C045` FlushCount (RO, 18_vitrine.md R415). -/
abbrev flushCount : Nat := 0xC045
/-- `A:D000` DomainState (RO, 19_power_and_startup.md R432). -/
abbrev domainState : Nat := 0xD000
/-- `A:D001` DomainSleepRequest (WO, 19_power_and_startup.md R432). -/
abbrev domainSleepRequest : Nat := 0xD001
/-- `A:D002` DomainSleepAtTick (RW, 19_power_and_startup.md R432). -/
abbrev domainSleepAtTick : Nat := 0xD002
/-- `A:D003` DomainWakeAtTick (RW, 19_power_and_startup.md R432). -/
abbrev domainWakeAtTick : Nat := 0xD003
/-- `A:D004` WakeSources (RW, 19_power_and_startup.md R432). -/
abbrev wakeSources : Nat := 0xD004
/-- `A:D005` WakeLaneMask (RW, 19_power_and_startup.md R432). -/
abbrev wakeLaneMask : Nat := 0xD005
/-- `A:D006` SleepStatus (RO, 19_power_and_startup.md R432). -/
abbrev sleepStatus : Nat := 0xD006
/-- `A:D007` LastWakeSource (RO, 19_power_and_startup.md R432). -/
abbrev lastWakeSource : Nat := 0xD007
/-- `A:D008` SleepEntries (RO, 19_power_and_startup.md R432). -/
abbrev sleepEntries : Nat := 0xD008
/-- `A:D009` SleepAbandonedCount (RO, 19_power_and_startup.md R432). -/
abbrev sleepAbandonedCount : Nat := 0xD009
/-- `A:D00A` DomainWakes (RO, 19_power_and_startup.md R432). -/
abbrev domainWakes : Nat := 0xD00A
/-- `A:D010` ResetNow (WO, 19_power_and_startup.md R432). -/
abbrev resetNow : Nat := 0xD010
/-- `A:D011` LastResetCause (RO, 19_power_and_startup.md R432). -/
abbrev lastResetCause : Nat := 0xD011
/-- `A:D012` CuratorResetCause (RO, 19_power_and_startup.md R432). -/
abbrev curatorResetCause : Nat := 0xD012
/-- `A:D013` CuratorResets (RO, 19_power_and_startup.md R432). -/
abbrev curatorResets : Nat := 0xD013
/-- `A:D014` DatapathResets (RO, 19_power_and_startup.md R432). -/
abbrev datapathResets : Nat := 0xD014
/-- `A:D015` ResetDiscards (RO, 19_power_and_startup.md R432). -/
abbrev resetDiscards : Nat := 0xD015
/-- `A:D016` CuratorWatchdogTicks (RW, 19_power_and_startup.md R432). -/
abbrev curatorWatchdogTicks : Nat := 0xD016
/-- `A:D020` BootSelStrap (RO, 19_power_and_startup.md R432). -/
abbrev bootSelStrap : Nat := 0xD020
/-- `A:D021` BootPreference (RO, 19_power_and_startup.md R432). -/
abbrev bootPreference : Nat := 0xD021
/-- `A:D022` BootPreferSet (WO, 19_power_and_startup.md R432). -/
abbrev bootPreferSet : Nat := 0xD022
/-- `A:D023` BootOutcome (RO, 19_power_and_startup.md R432). -/
abbrev bootOutcome : Nat := 0xD023
/-- `A:D024` ImageBlock (WO, 19_power_and_startup.md R432). -/
abbrev imageBlock : Nat := 0xD024
/-- `A:D025` ImageErase (WO, 19_power_and_startup.md R432). -/
abbrev imageErase : Nat := 0xD025
/-- `A:D026` ImageCommit (WO, 19_power_and_startup.md R432). -/
abbrev imageCommit : Nat := 0xD026
/-- `A:D027` ImageState (RO, 19_power_and_startup.md R432). -/
abbrev imageState : Nat := 0xD027
/-- `A:D030` InputVoltage (RO, 19_power_and_startup.md R432). -/
abbrev inputVoltage : Nat := 0xD030
/-- `A:D031` InputCurrent (RO, 19_power_and_startup.md R432). -/
abbrev inputCurrent : Nat := 0xD031
/-- `A:D032` InputPower (RO, 19_power_and_startup.md R432). -/
abbrev inputPower : Nat := 0xD032
/-- `A:D033` DieTemperature (RO, 19_power_and_startup.md R432). -/
abbrev dieTemperature : Nat := 0xD033
/-- `A:D034` OvertempLimit (RW, 19_power_and_startup.md R432). -/
abbrev overtempLimit : Nat := 0xD034
/-- `A:D035` PowerGood (RO, 19_power_and_startup.md R432). -/
abbrev powerGood : Nat := 0xD035
/-- `A:E000` PatGenSelect (RW, 04_lanes.md R112). -/
abbrev patGenSelect : Nat := 0xE000
/-- `A:E001` PatChkSelect (RW, 04_lanes.md R112). -/
abbrev patChkSelect : Nat := 0xE001
/-- `A:E002` PatUser (RW, 04_lanes.md R112). -/
abbrev patUser : Nat := 0xE002
/-- `A:E003` PatSquareHalf (RW, 04_lanes.md R112). -/
abbrev patSquareHalf : Nat := 0xE003
/-- `A:E005` ChkState (RO, 04_lanes.md R112). -/
abbrev chkState : Nat := 0xE005
/-- `A:E006` ChkBits (RO, 04_lanes.md R112). -/
abbrev chkBits : Nat := 0xE006
/-- `A:E007` ChkBitErrors (RO, 04_lanes.md R112). -/
abbrev chkBitErrors : Nat := 0xE007
/-- `A:E008` ChkSymbols (RO, 04_lanes.md R112). -/
abbrev chkSymbols : Nat := 0xE008
/-- `A:E009` ChkSymbolErrors (RO, 04_lanes.md R112). -/
abbrev chkSymbolErrors : Nat := 0xE009
/-- `A:E00A` ChkLevelErrors0–3 (RO, 04_lanes.md R112). -/
abbrev chkLevelErrors : Nat := 0xE00A
/-- `A:E00E` ChkClear (WO, 04_lanes.md R112). -/
abbrev chkClear : Nat := 0xE00E
/-- `A:E00F` ChkLockLosses (RO, 04_lanes.md R112). -/
abbrev chkLockLosses : Nat := 0xE00F
/-- `A:E010` InjectMode (RW, 04_lanes.md R112). -/
abbrev injectMode : Nat := 0xE010
/-- `A:E011` InjectInterval (RW, 04_lanes.md R112). -/
abbrev injectInterval : Nat := 0xE011
/-- `A:E012` InjectBurstLength (RW, 04_lanes.md R112). -/
abbrev injectBurstLength : Nat := 0xE012
/-- `A:E013` InjectFire (WO, 04_lanes.md R112). -/
abbrev injectFire : Nat := 0xE013
/-- `A:E014` InjectCount (RO, 04_lanes.md R112). -/
abbrev injectCount : Nat := 0xE014
/-- `A:E020` LoopbackMode (RW, 04_lanes.md R112). -/
abbrev loopbackMode : Nat := 0xE020
/-- `A:E100` TdcSelfTestStart (WO, 09_phase_measurement.md R237). -/
abbrev tdcSelfTestStart : Nat := 0xE100
/-- `A:E101` TdcSelfTestChannel (RW, 09_phase_measurement.md R237). -/
abbrev tdcSelfTestChannel : Nat := 0xE101
/-- `A:E102` TdcSelfTestResult (RO, 09_phase_measurement.md R237). -/
abbrev tdcSelfTestResult : Nat := 0xE102
/-- `A:E103` TdcSelfTestRuns (RO, 09_phase_measurement.md R237). -/
abbrev tdcSelfTestRuns : Nat := 0xE103
/-- `A:E104` TdcSelfTestFails (RO, 09_phase_measurement.md R237). -/
abbrev tdcSelfTestFails : Nat := 0xE104
end Sys2Proof.Machine.Reg
end

