-- ==== Sys2Proof/Machine/State.lean ====
section
/-! DEFINITION. The state of the BX6432 as plain data, its reset, and the reasons a command can stop. Values of
Catalogue objects stand in ONE register file, `regs`; every section has a structure for what it holds beside them. -/

namespace Sys2Proof.Machine

/-- Why a command stops with a fault. No meaning raises one: the spec gives every command an effect. -/
inductive Fault where
  /-- Raised by no meaning; safe. -/
  | none
deriving DecidableEq, Repr

/-- Why a command is refused. -/
inductive Refusal where
  /-- Raised by Dispatch for a command without a meaning; safe (nothing is claimed of it). -/
  | notModelled (mnemonic : String)
deriving DecidableEq, Repr

/-- A requester as the module knows it (R73: transport, SrcAddr, SrcTag), with the port and MAC it arrived by. -/
structure Peer where
  transport : Transport
  srcAddr : Nat
  srcTag : Nat
  port : Nat
  mac : Nat
deriving DecidableEq, Repr

/-- A Lorak request as received: its opcode byte, envelope and PDU, and the reading of the counter then. -/
structure Req where
  opcode : Nat
  env : Envelope
  pdu : Pdu
  received : Nat
deriving DecidableEq, Repr

/-- What leaves the module. -/
inductive Emission where
  /-- A Lorak PDU to a requester on MGT or SVC (R65), with the bytes that leave: an Ethernet frame on MGT (R82), the
  escaped characters between their delimiters on SVC (R83). -/
  | lorak (dest : Peer) (opcode : Nat) (pdu : Pdu) (wire : Bytes)
  /-- A Lorak PDU to a requester on SVC by the byte stream of the test access port, with its characters (R448, R449). -/
  | tapStream (dest : Peer) (opcode : Nat) (pdu : Pdu) (wire : Bytes)
  /-- An Ethernet frame on a port slot; `good` is false for a stomped FCS (R129), and for a frame that arrives with a bad
  FCS because injected errors struck it (R108). -/
  | frame (slot : Nat) (bytes : Bytes) (good : Bool)
  /-- A PAUSE (class none) or PFC frame on a port slot: the enable vector and times (R151), and its 64 bytes (R128). -/
  | control (slot : Nat) (pfc : Bool) (enable : Nat) (times : List Nat) (bytes : Bytes)
  /-- A heartbeat on the TWIN_HB pair, as its characters (R338). -/
  | heartbeat (chars : List HbChar)
  /-- A PTP message on a logical port: message type and fields (R302). -/
  | ptp (port : Nat) (type : Nat) (msg : PtpMsg)
  /-- An Announce message (R302). -/
  | announce (port : Nat) (msg : AnnounceMsg)
  /-- A pulse on a pulse output: the counter's reading in 2^-40 ns and the instant in ps at which it starts (R278-R280). -/
  | pulse (pls : Nat) (reading : Nat) (start : Nat)
deriving DecidableEq, Repr

/-! Tick, openings and inventories (chapter 1). -/

/-- An ARM waiting for its shadow (R26), with the serial number of the session that sent it; `deadline` is the tick
T − ArmLead as it was when the ARM was accepted. -/
structure WaitingArm where
  id : Nat
  tick : Nat
  deadline : Nat
  count : Nat
  digest : Nat
  participants : Nat
  serial : Nat
  peer : Peer
deriving DecidableEq, Repr

/-- An armed opening and the entries that wait in the sections' staged copies (R21). -/
structure ArmedOpening where
  id : Nat
  tick : Nat
  count : Nat
  digest : Nat
  originator : Nat
  entries : List (Nat × Nat)
  cancelLate : Bool
deriving DecidableEq, Repr

/-- An outcome to notify (R76): Result, the sender of the ARM by its session's serial number where it goes there, and
whether it goes to subscribers. -/
structure Notice where
  id : Nat
  tick : Nat
  result : Nat
  toArmer : Option (Nat × Peer)
  toSubscribers : Bool
deriving DecidableEq, Repr

/-- A COLLECT held until its bank is full (R71): the request. -/
structure HeldCollect where
  req : Req
  slot : Nat
deriving DecidableEq, Repr

/-- A snapshot bank beside its Catalogue objects (R35, R36, R376): whether it has captured, the registers and the
header values it captured, the domains marked asleep, T and the TickNumber of the capture, the COLLECTs held. -/
structure Bank where
  captured : Bool
  snap : List (Nat × Nat)
  counter : Nat
  sequence : Nat
  asleep : Nat
  servo : Nat
  tick : Nat
  takenAt : Nat
  held : List HeldCollect
deriving DecidableEq, Repr

structure Opn where
  shadow : List (Nat × Nat)
  waiting : List WaitingArm
  armed : Option ArmedOpening
  notices : List Notice
  bank0 : Bank
  bank1 : Bank
deriving DecidableEq, Repr

/-! Lorak (chapter 3). -/

/-- The answer to a request as it is kept for retransmission (R74). -/
structure StoredAnswer where
  opcode : Nat
  pdu : Pdu
deriving DecidableEq, Repr

/-- A session slot beside its Catalogue objects (R73-R77): the requester, the number of the OPEN, L of R74 with the stored
answers and the requests held, the number of the closing, the key slot and SK of an authenticated session, the instant of
its last request in ps. -/
structure Session where
  peer : Peer
  serial : Nat
  last : Nat
  answers : List (Nat × StoredAnswer)
  held : List Req
  closedAt : Nat
  key : Option Nat
  sk : Bytes
  lastReq : Nat
deriving DecidableEq, Repr

/-- A path recorded under R80: the tag as relayed, and where its requester is. -/
structure RelayPath where
  tag : Nat
  peer : Peer
deriving DecidableEq, Repr

structure Lrk where
  /-- OPENs and closings so far. -/
  stamp : Nat
  sessions : List (Nat × Session)
  keys : List (Nat × Nat)
  relay : List RelayPath
  /-- Requests the Curator originated: session and sequence (R457). -/
  own : List (Nat × Nat)
deriving DecidableEq, Repr

/-! Events (chapter 17). -/

structure EvSt where
  /-- Bits risen since the last notification, per word (R394). -/
  risen : List (Nat × Nat)
  /-- EventHold has been released since the last body. -/
  released : Bool
  /-- Copies of the last body not yet sent: slots, with the body. -/
  copies : List Nat
  body : Bytes
  /-- TickSequence + 1 of the tick in which the last body was built; 0 before the first. -/
  builtAt : Nat
  /-- The core cycle + 1 of the last occurrence of each edge source (R389). -/
  edges : List (Nat × Nat)
  /-- The core cycle + 1 of the last clear of each pending word, and the bits that it cleared (R389, R392). -/
  clearAt : List (Nat × Nat)
  cleared : List (Nat × Nat)
deriving DecidableEq, Repr

/-! Ports and switch core (chapters 5 and 6). -/

/-- Where a frame in the buffer came from, and so which cells it is charged to (R147, R149, R199). -/
inductive FrameOrigin where
  | ingress (slot : Nat)
  | management
  | combiner
deriving DecidableEq, Repr

/-- A frame in the buffer: what was decided when its first cell was written (R162), its cells and the bank of each
(R136), its arrival stamp in µs (R155), whether it is whole, and the port slots that still hold a reference (R160). -/
structure Frame where
  id : Nat
  origin : FrameOrigin
  cls : Nat
  vid : Nat
  bytes : Bytes
  cells : Nat
  banks : List Nat
  arrival : Nat
  whole : Bool
  /-- Its copies end with a stomped FCS (R119, R120, R152). -/
  stomp : Bool
  refs : List Nat
  /-- The PC_ID that the copy to a slot carries (R202), and its place in the frame. -/
  pcIds : List (Nat × Nat)
  pcAt : Nat
  /-- The Sequence of the Archive record that follows the frame (R382). -/
  selected : Option Nat
  /-- The instant at which its timestamp point crossed the ingress ball, in units of 2^-16 ps (R382, R305). -/
  startAt : Int
deriving DecidableEq, Repr

/-- A copy of a frame in an output queue: its class, whether it cuts through, whether it is a residue copy (R158), and
whether it has been counted in GateDeferred as the head of its queue (R173). -/
structure QEntry where
  frame : Nat
  cls : Nat
  cut : Bool
  residue : Bool
  deferred : Bool
deriving DecidableEq, Repr

/-- A frame in reception: its entry in the buffer (none when the core has taken or discarded it), the PortMaxFrame in
force at its first byte (R122), the copies decided to cut through and the rest (R156), its class and VLAN, what took it. -/
structure RxSt where
  frame : Option Nat
  limit : Nat
  startAt : Nat
  cls : Nat
  vid : Nat
  cut : List Nat
  rest : List Nat
  /-- The contributor row that took the frame (R183). -/
  contrib : Option Nat
  /-- Step 1 of R139 let the frame pass (R144). -/
  admitted : Bool
  /-- The Sequence of the Archive record that follows the frame (R382). -/
  selected : Option Nat
  /-- Ports of its egress set (R158). -/
  copies : Nat
  /-- What the Vitrine's tap found at the first cell: the tenant, and RecordSequence, which tells the interval (R399). -/
  tenant : Nat
  interval : Nat
deriving DecidableEq, Repr

/-- A frame in transmission (R129); `struck` bounds the FEC symbols that injected errors have struck in it (R108). -/
structure TxSt where
  frame : Nat
  cls : Nat
  cut : Bool
  residue : Bool
  startAt : Nat
  struck : Nat
deriving DecidableEq, Repr

/-- A control frame waiting for the frame in progress to end (R128, R151). -/
structure Control where
  pfc : Bool
  enable : Nat
  times : List Nat
deriving DecidableEq, Repr

/-- A port slot beside its Catalogue objects. Timers are end instants in ps, 0 when stopped. -/
structure PortSt where
  pauseEnd : Nat
  pfcEnd : List (Nat × Nat)
  /-- The instant + 1 from which class c is held. -/
  heldFrom : List (Nat × Nat)
  rx : Option RxSt
  tx : Option TxSt
  controls : List Control
  queue : List QEntry
  /-- The instant of the next refresh (R151), 0 for none. -/
  refresh : Nat
  /-- PortMaxFrame as it was before its last change, and the instant of that change (R122). -/
  limitWas : Nat
  limitAt : Nat
  /-- The instant until which a frame of the module's own occupies the line (R128, R302). -/
  lineUntil : Nat
deriving DecidableEq, Repr

/-- The charge of one ingress port and class (R149): guarantee, shared and headroom cells, and Xoff (R150). -/
structure Acct where
  g : Nat
  s : Nat
  h : Nat
  xoff : Bool
deriving DecidableEq, Repr

structure CoreSt where
  frames : List (Nat × Frame)
  nextId : Nat
  /-- By slot × 8 + class. -/
  accts : List (Nat × Acct)
  /-- The instant of the next FDB sweep in ps, 0 for none (R145), and the time that remained at sleep of D4. -/
  sweepAt : Nat
  sweepLeft : Nat
  /-- The counter's reading up to which closing gates have been judged (R176). -/
  judgedTo : Nat
  /-- By pipeline: the instants in ps up to which it places references, and up to which it holds later frames (R161). -/
  pipes : List (Nat × (Nat × Nat))
  /-- The rows that ForwardingTableDirect has written in the core cycle of its last write, and that cycle + 1 (R164). -/
  directAt : Nat
  directRows : List Nat
deriving DecidableEq, Repr

/-! Power (chapter 19). -/

/-- What the Curator does: runs its image, boots or waits for its image, or has found no image that passes (R420). -/
inductive CuratorState where
  | running
  | booting
  | noImage
deriving DecidableEq, Repr

/-- Where the module stands in R416-R431: conversion off, held in reset by RESET_N, or on. -/
inductive PowerPhase where
  | off
  | held
  | on
deriving DecidableEq, Repr

/-- A sleep accepted for a domain (R424): the tick named (0 for the next boundary), and whether its entry boundary has been
raised and the entry is yet to be made (log 12). -/
structure SleepPlan where
  tick : Nat
  due : Bool
deriving DecidableEq, Repr

structure PwrSt where
  phase : PowerPhase
  /-- VIN has not yet stood above the brownout release: the reduced state of R417. -/
  reduced : Bool
  /-- Step 4 of R418 is done: lanes that are enabled have left OFF. -/
  served : Bool
  curator : CuratorState
  /-- The cause of the next full module reset (R431). -/
  cause : Nat
  /-- A pending reset: its kind and the boundary number (TickSequence) at which it acts (R430). -/
  resetNow : Option (Nat × Nat)
  sleeps : List (Nat × SleepPlan)
  /-- Domains that wake: the deadline in ps and the LastWakeSource code. -/
  waking : List (Nat × Nat × Nat)
  /-- Lane banks whose wake waits for D4, with their LastWakeSource codes (R423). -/
  waitD4 : List (Nat × Nat)
  /-- Domains whose scheduled wake has had its boundary raised and has yet to fire (log 12). -/
  wakeDue : List Nat
  /-- Whether images A and B are known to pass their checks, and the blocks written to them (R420, R421). -/
  imageA : Bool
  imageB : Bool
  blocks : List (Nat × Nat)
  /-- Consecutive ticks in which the heartbeat job has not completed (R430). -/
  watchdog : Nat
deriving DecidableEq, Repr

/-! The test access port (chapter 20). -/

/-- The TAP (R448): the instruction in force, what its data register presents, the balls under the boundary register (R450),
and that register's cells as the last instruction that selects it left them. -/
structure TapSt where
  instruction : Nat
  data : Nat
  held : Bool
  cells : Nat
deriving DecidableEq, Repr

/-! Gates (chapter 7). -/

/-- A gate control list in force: (GateStates, Interval) of the entries in use, and the cycle in ns (R169-R171). -/
structure Sched where
  entries : List (Nat × Nat)
  cycle : Nat
deriving DecidableEq, Repr

/-- The gate engine of a slot: the list it keeps running while a switch is pending, and S as a counter reading (R174). -/
structure GateSt where
  retained : Option Sched
  switchAt : Nat
deriving DecidableEq, Repr

/-! Combiner (chapter 8). -/

/-- GroupTable, WindowTable (by table × 64 + row) and WindowCount as they were before an opening (R205). -/
structure CombTables where
  groups : List (Nat × Nat)
  windows : List (Nat × Nat)
  counts : List (Nat × Nat)
deriving DecidableEq, Repr

/-- An open window (R190-R196): its group, millisecond and row, its opening and close as counter readings, the group row
with which it opened, the accumulators by stream × 512 + PRB (24 values: I then Q of each element), the PRBs each
contributor has supplied as (contributor × 4 + stream) × 512 + PRB, and the contributors present as
contributor × 4 + stream. -/
structure Window where
  group : Nat
  ms : Nat
  row : Nat
  openAt : Nat
  closeAt : Nat
  groupRow : Nat
  acc : List (Nat × List Int)
  supplied : List Nat
  present : List Nat
deriving DecidableEq, Repr

/-- A contribution that waits in the buffer: its frame, its ContributorTable row and its arrival instant (R190). -/
structure Contribution where
  frame : Nat
  row : Nat
  arrival : Nat
deriving DecidableEq, Repr

structure CombSt where
  retained : Option CombTables
  switchAt : Nat
  windows : List Window
  waiting : List Contribution
  /-- SEQ_ID by group × 4 + stream (R184). -/
  seq : List (Nat × Nat)
  /-- The opening of the window last opened, and the reading at or before which no window opens (R203, R204). -/
  lastOpen : Nat
  barrier : Nat
  /-- The last opening + 1 of each window row, by group × 64 + row. -/
  opened : List (Nat × Nat)
deriving DecidableEq, Repr

/-! Programmable counters and Archive (chapter 16). -/

/-- A programmable counter beside its objects (R370, R371): enabled; its gate running, the ticks left, and whether its end has
been reached; the cycles of a level source not yet counted; the instant in ps from which the Curator's jobs count. -/
structure PerfSt where
  live : Bool
  started : Bool
  left : Nat
  due : Bool
  cycles : Nat
  since : Nat
deriving DecidableEq, Repr

/-- The Archive beside its objects (R380, R381, R385): the periodic count, the burst and its trigger code, the core
cycle + 1 of the last selection, the fill at the previous tick; and the latches of the high halves of counters, by
reader × 16 + block (R367): reader 0 is the central reader, reader 1 the JTAG debug path. -/
structure ArchSt where
  count : Nat
  burst : Nat
  trigger : Nat
  lastCycle : Nat
  prevFill : Nat
  latches : List (Nat × Nat)
deriving DecidableEq, Repr

/-! The Vitrine (chapter 18). -/

/-- What waits while a fuse burns, since the Catalogue executes one request at a time in the order of arrival (R53, R408,
R410): a write to an object and row; a Lorak request that has come to a write of a SEAL object among its own, with its slot, the
number of its session and the place of that write; a request that has come to its turn behind those. -/
inductive SealWait where
  | write (idx sub row : Nat) (req : WriteReq)
  | request (slot serial : Nat) (req : Req) (place : Nat)
  | arrived (slot : Nat) (req : Req)
deriving DecidableEq, Repr

/-- What a fuse is being burned for (R408). -/
inductive BurnKind where
  | unseal
  | firstWrite
deriving DecidableEq, Repr

structure VitSt where
  /-- TenantMap and VitrineInterval as the engine took them up (R404). -/
  mapInUse : List (Nat × Nat)
  interval : Nat
  partialOpen : Bool
  stepped : Bool
  sealSeen : Bool
  freerunAt : Option Nat
  /-- SEAL_N is low, since this instant. -/
  low : Bool
  lowAt : Nat
  /-- A write has been applied in this open period. -/
  wrote : Bool
  burning : Option BurnKind
  waiting : List SealWait
  /-- Records of closes not yet in flash, as (row, value) (R405). -/
  unflashed : List (Nat × Nat)
  /-- The TickSequence by which they are. -/
  flashBy : Nat
  /-- The 64 kB of microcode by byte address, an address that is not listed holding 0, and the digest of it fused at
  manufacture; the TickSequence at which the digest is next computed (R414). -/
  microcode : List (Nat × Nat)
  fused : Nat
  checkAt : Nat
  nextLog : Nat
  /-- No interval is open until the first tick boundary (R412). -/
  unopened : Bool
  /-- The highest reading of a boundary raised in the open interval (R402, R403), and whether the last one reached the close
  instant (R402). -/
  reached : Nat
  closing : Bool
  /-- UtcOffset as it was in force at the close that is due (R405). -/
  closeUtc : Nat
deriving DecidableEq, Repr

/-! Lanes (chapter 4). -/

/-- The objects of R99 as a lane uses them: training, polarity and precoding modes, LaneTxInvert, PortGroupTxSwap and
LaneReversalMode of its group. -/
structure LaneUse where
  train : Nat
  polarity : Nat
  txPrecode : Nat
  rxPrecode : Nat
  invert : Nat
  swap : Nat
  reversal : Nat
deriving DecidableEq, Repr

/-- A lane beside its objects: when it entered its state (ps), the polarity trial in progress, what training frames have
told it, the 16 frames still to send, the taps of the last window that passed, the passing windows since a freeze, the
handover's restarts and second phase D, whether a calibration run uses it and its handover has completed, the tracked
part of the PMA delays (R89, R351), and whether the receive lanes of its port are exchanged (R96). -/
structure LaneSt where
  enteredAt : Nat
  trialInverted : Bool
  rxReady : Bool
  rxIndex : Option Nat
  training : Bool
  framesLeft : Nat
  ctle : Nat
  ffe : Nat
  dfe : Nat
  passRun : Nat
  restarts : Nat
  secondD : Bool
  calRun : Bool
  calDone : Bool
  rxTracked : Int
  txTracked : Int
  exchanged : Bool
  /-- RunTicks of the sets whose quality is the next eye scan's (R364). -/
  scanFor : List Nat
  /-- Converged windows since a freeze in this EQUALISE; none where no freeze came (R101). -/
  convRun : Option Nat
  /-- The checker has been locked at some time in this tick (R107). -/
  chkHeard : Bool
  /-- The draw that stands for where the generated pattern began (R106). -/
  genAt : Nat
  /-- Errors of the lane's own injections not yet counted by its own checker in near-end loopback: bits, symbols, and
  symbols by expected level (R107, R108). -/
  loopBits : Nat
  loopSymbols : Nat
  loopLevels : List Nat
  /-- Bits corrected and bits received by TickSequence, over the last 8,000 ticks (R105). -/
  berWin : List (Nat × Nat × Nat)
  /-- The lane's objects as it took them when it last entered CDR (R99). -/
  used : LaneUse
  /-- The offset codes its samplers stood at when their values last changed, and that instant (R359). -/
  codesFrom : List Int
  codesAt : Nat
deriving DecidableEq, Repr

/-! Calibration (chapter 15). -/

/-- A measured or factory set: its temperature, its values in their unit (R357, R358), the RunTick. -/
structure CalSet where
  temp : Int
  values : List Int
  tick : Nat
  quality : Nat
deriving DecidableEq, Repr

/-- An instance beside its objects, by class code × 256 + sub-index: pending, running since a TickSequence, held on
factory, last run failed, its sets, the retry's TickSequence (0 for none), the temperature at the last recomputation,
the values in force, the sums of its temperatures and of LoopControl over a run's ticks with their number, RefSwitches at its
start, the reserve a run uses. -/
structure CalSt where
  pending : Bool
  running : Option Nat
  held : Bool
  failed : Bool
  sets : List CalSet
  retryAt : Nat
  lastTemp : Option Int
  values : List Int
  sumT : Int
  sumL : Int
  ticks : Nat
  switches : Nat
  reserve : Option Nat
deriving DecidableEq, Repr

/-- The calibration section: the instances, the 64-tick histories of the sensors (0-31 port groups, 32-41 TDC blocks,
48-63 output drivers, 64 the crystal), and the factory sets of the one-time-programmable memory by instance; under class code 6
stand the two differences, transmit and receive, between a lane's replica and its real paths (R351). -/
structure CalAll where
  insts : List (Nat × CalSt)
  sensors : List (Nat × List Int)
  factory : List (Nat × List CalSet)
deriving DecidableEq, Repr

/-! Time-to-digital converters (chapter 9). -/

/-- A stand-in in progress (R217): the step (0 while its reserve calibrates alone), the TickSequence at which the step
began, the reserve (none in place), d, the tables in use before the run as (row, value), ε before it and TdcCalSource
before it, the values the run measured with their residual, whether a self-test drives it, the state to return to. -/
structure StandIn where
  step : Nat
  since : Nat
  reserve : Option Nat
  d : Int
  oldTaps : List (Nat × Nat)
  oldEps : Nat
  oldSource : Nat
  measured : List Int
  residual : Nat
  selfTest : Bool
  back : Nat
  /-- The differences compared in step 1 or 3, other instrument less the published one, units of 2^-16 ns. -/
  diffs : List Rat
deriving DecidableEq, Repr

/-- A measurement slot (R224-R229): armed; the start and the stop stamp taken, each on the extended count in units of
2^-16 ns with its flags (Reserve + 2 × FactorySet); the time-clock cycle of the first edge taken. -/
structure MeasSlot where
  armed : Bool
  start : Option (Int × Nat)
  stop : Option (Int × Nat)
  firstCycle : Nat
deriving DecidableEq, Repr

/-- The line fitted to a channel's edges of one tick (R220, R231, R305), on the extended count in 2^-25 ns: the tick; M;
where edge number 0 would lie and the period; the last edge stamped and its number, carried across ticks. -/
structure LineFit where
  tick : Nat
  mid : Int
  zero : Rat
  period : Rat
  lastX : Int
  lastN : Int
  /-- The tick's result is Valid. -/
  valid : Bool
deriving DecidableEq, Repr

/-- A bound of a frequency gate (R231): the first fitted edge at or after M and its number, M's time-clock cycle, and the
time counter less its steps at M, units of 2^-40 ns. -/
structure GateBound where
  edge : Rat
  number : Int
  cycle : Rat
  slew : Rat
deriving DecidableEq, Repr

/-- A frequency slot (R230-R232): running, the gate's first tick once it has begun, bounds left, its first bound and its
latest, Gap, Commensurate and Reserve seen. -/
structure FreqSlot where
  running : Bool
  startTick : Option Nat
  left : Nat
  first : Option GateBound
  last : Option GateBound
  gap : Bool
  commensurate : Bool
  reserve : Bool
deriving DecidableEq, Repr

structure TdcSt where
  /-- The last edge stamped by channel, on the extended count in 2^-25 ns (R210). -/
  lastStamp : List (Nat × Int)
  standIns : List (Nat × StandIn)
  meas : List (Nat × MeasSlot)
  freq : List (Nat × FreqSlot)
  /-- The fits of each channel in its last two ticks with one, at channel × 2 + the tick's parity (R220, R305). -/
  fits : List (Nat × LineFit)
  /-- The time-clock cycle of the last full module reset, at which the coarse counter stood at 0 (R212). -/
  coarseZero : Nat
  /-- The channel under self-test, and the TickSequence at which the test proper began. -/
  selfTest : Option (Nat × Nat)
  /-- A channel whose self-test begins at the next tick boundary (R217, R236). -/
  testDue : Option Nat
  /-- The last self-test that ended failed (R342). -/
  testFailed : Bool
  /-- Input edges since the last that a prescaler passed, by channel (R209). -/
  divs : List (Nat × Nat)
  /-- The edges a channel has taken in this tick, each stamped or missed (R210). -/
  taken : List (Nat × List (Int × Bool))
  /-- y_f of R235 in 10^-18, factory. -/
  yf : Int
deriving DecidableEq, Repr

/-! References and the loop (chapter 10). -/

/-- A reference input beside its objects: present (R240); consecutive ticks without a Valid result; the FreqOffsets of
the last 64 ticks, none for a tick without a Valid result, or of the last 8 edges, newest last (R243); the values of the last 8,000 ticks as (FreqOffset,
RefOffset), newest first (R247, R248); ticks within the band in WAITING and beyond it in BEYOND (R245); for a per-edge
input its last edge on the extended count in 2^-16 ns, that edge's instant in ps and the run of good
spacings (R240). -/
structure RefIn where
  present : Bool
  invalid : Nat
  offs : List (Option Int)
  hist : List (Option (Int × Int))
  waited : Nat
  beyond : Nat
  lastEdge : Option Int
  edgeAt : Nat
  good : Nat
  /-- RefEnable as the last tick's evaluation took it (R251). -/
  enabled : Bool
deriving DecidableEq, Repr

/-- The last accepted ToD message of an input: Seconds and the PulseCount it labels (R242). -/
structure TodSt where
  seconds : Nat
  pulses : Nat
deriving DecidableEq, Repr

structure RefsSt where
  ins : List (Nat × RefIn)
  /-- The flagged pairs that are put to a vote, lower input × 128 + higher: the winner. -/
  winners : List (Nat × Nat)
  /-- The pairs at whose last vote no input beside them could vote (R249). -/
  unvoted : List Nat
  /-- The cleaned clock's phase over the time clock's, ps, and the instant up to which it is accumulated (R253, R304). -/
  clean : Rat
  cleanAt : Nat
  /-- I of R253 in units of 10^-18; A and φ0 in units of 2^-16 ns; the last update's φ. -/
  integ : Rat
  acc : Rat
  build : Rat
  lastPhi : Option Rat
  /-- Consecutive updates within RegainFreqLimit (R254), and whether this tick's update has been made. -/
  okRun : Nat
  done : Bool
  /-- H and ȳ of R258. -/
  holdH : Rat
  holdY : Rat
  /-- The bin in progress (R257): sums, ticks, all in TRACK; a bin end not yet recorded, as its TickSequence. -/
  sumLoop : Int
  sumCorr : Int
  ticks : Nat
  allTrack : Bool
  binDue : Option Nat
  tod : List (Nat × TodSt)
deriving DecidableEq, Repr

/-! Clock outputs (chapter 11). -/

/-- A synthesiser beside its objects (R271-R275): e_k in force, its target and its anchor in units of 10^-18; step 3
reached; the instant of the sequence's step 1 or 2; step 4 due; the target is being clipped; every output is held low until
step 4 (R275, R282). -/
structure SynSt where
  e : Rat
  target : Rat
  anchor : Rat
  locked : Bool
  relockAt : Nat
  restartDue : Bool
  clipped : Bool
  low : Bool
  /-- An instant of a reference-aligned VCO edge, ps on the time-clock scale; none before the first step 4 (R273). -/
  align : Option Rat
deriving DecidableEq, Repr

/-- A clock output beside its objects (R268-R275): an instant of a rising edge of its running divider, ps on the time-clock
scale; the delay in force, in half-periods of f_SYN and in ps; it waits for a restart; it is held low until then; the last
period lengthened, as the instant it begins and Δ in ps (R268); the edge at which the pin started or stopped (R269). -/
structure OutSt where
  edge : Rat
  coarse : Nat
  fine : Nat
  waits : Bool
  low : Bool
  stretch : Option (Rat × Rat)
  pinAt : Rat
  /-- The place on the fine delay line that gives the fine delay, ps (R352). -/
  line : Rat
  /-- The end of the period in progress when it last began to wait (R273 step 2). -/
  endsAt : Rat
deriving DecidableEq, Repr

/-- A pulse output beside its objects (R278-R281): A minus the time counter in 2^-40 ns; aligned; A at the last pulse, or
just short of A at an alignment; the start and the end of the last pulse, ps, and the instant from which the next pulse was
known; a follower's pulses placed and not yet sent, each with the instant at which it was placed, ps; the instant from which
missed periods count, ps; an automatic alignment due. -/
structure PlsSt where
  off : Int
  aligned : Bool
  lastA : Int
  startAt : Nat
  endAt : Nat
  knownAt : Nat
  due : List (Nat × Nat)
  missFrom : Nat
  alignDue : Bool
  /-- The place on the pulse interpolator that gave the last pulse, ps (R352). -/
  line : Rat
deriving DecidableEq, Repr

/-! Fabric time (chapter 12). -/

/-- The latest Sync of a port in SLAVE or UNCALIBRATED (R307): sequenceId, t1 once known, t2, in 2^-40 ns; marks; the
number of steps the counter had made. -/
structure SyncSt where
  seq : Nat
  t1 : Option Int
  corr : Int
  t2 : Int
  twoStep : Bool
  coarse : Bool
  partnerCoarse : Bool
  steps : Nat
  /-- What the counter read right after the last step before t2, if there was one (R308). -/
  stepTo : Option Int
deriving DecidableEq, Repr

/-- The latest Delay_Req sent: sequenceId, t3 in 2^-40 ns, the steps made and the tick (R307, R309); the Sync it is paired
with; what the counter read right before the first step after t3 (R308). -/
structure ReqSt where
  seq : Nat
  t3 : Int
  steps : Nat
  tick : Nat
  sync : Option SyncSt
  stepFrom : Option Int
deriving DecidableEq, Repr

/-- A Delay_Req received that is to be answered: requester, sequenceId, t4 in 2^-40 ns (R302). -/
structure RespSt where
  source : Nat
  seq : Nat
  t4 : Int
deriving DecidableEq, Repr

/-- A PTP frame that waits for the frame in progress, or for a waiting PAUSE or PFC frame (R302). -/
inductive PtpSend where
  | sync | delayReq | delayResp | announce
deriving DecidableEq, Repr

/-- A port's PTP beside its objects: the frames of its own that wait, oldest first; the exchange in progress, answers due, D/2 of its last 15 valid exchanges in 2^-40 ns
(R308), the sequence numbers and TickSequences + 1 of what it sent, the latest Announce with its TickSequence. -/
structure PtpPort where
  waiting : List PtpSend
  sync : Option SyncSt
  req : Option ReqSt
  resps : List RespSt
  delays : List Rat
  syncSeq : Nat
  reqSeq : Nat
  annSeq : Nat
  syncAt : Nat
  reqAt : Nat
  annAt : Nat
  announce : Option (AnnounceMsg × Nat)
deriving DecidableEq, Repr

/-- The servo beside its objects: steps the counter has made; c_I, c and F_n as fractions; runs of valid exchanges, of
valid exchanges within LockThreshold without a step; the TickSequences of valid exchanges in the last 8,000 ticks, of the
last one beyond LockThreshold + 1 and of the last step + 1 (R292); I_F and y_F (R294); the increments of the last 64
ticks; the parent lane's FreqOffsets of the last 64 ticks (R288) and the port they are of; runs of saturated and of other
ticks; what is decided for the next apply point (R286): increment, sum of steps, TimeSet, ServoMode; External mode in
effect; TimeIncrementSet written in this tick; AcceptStep in force; R_p in 10^-13; a leap applied, as the old offset
(R298); TimeSet has given the time. -/
structure ServoSt where
  steps : Nat
  cI : Rat
  c : Rat
  f : Rat
  consec : Nat
  goodRun : Nat
  exchanges : List Nat
  lastBad : Nat
  lastStepAt : Nat
  iF : Rat
  yF : Int
  incs : List Nat
  laneFreqs : List (Option Int)
  satRun : Nat
  unsatRun : Nat
  nextInc : Option Nat
  nextStep : Option Int
  nextSet : Option Nat
  nextMode : Option Nat
  external : Bool
  incWritten : Bool
  accept : Bool
  rateParent : Int
  leapFrom : Option Int
  timeSet : Bool
  /-- The steps the counter had made when a pulse input's latest edge was stamped. -/
  stampSteps : List (Nat × Nat)
  /-- The grandmaster identity the parent announced last (R292). -/
  parentGm : Option (BitVec 64)
  /-- The servo state it announced last, and whether its timescale keeps it from being used (R295, R299). -/
  parentState : Option Nat
  parentUnused : Bool
  /-- FREERUN was entered from LOCKED (R325). -/
  freeAfterLocked : Bool
  /-- The sum of the counter's steps since reset (R231), and what it read right after the last one (R308). -/
  stepSum : Int
  stepTo : Option Int
  /-- The next servo job is the first since Internal mode returned (R290). -/
  joining : Bool
  /-- The TickSequence at which the parent was taken (R292). -/
  parentSince : Nat
  /-- The increment before the last apply point (R305). -/
  incWas : Nat
deriving DecidableEq, Repr

/-! Zutum (chapter 13). -/

/-- A stored LINKSTATE part: its body, its LsSequence and the TickSequence at which it came (R318, R319). -/
structure LsPart where
  uid : Nat
  part : Nat
  seq : Nat
  body : Bytes
  freshAt : Nat
deriving DecidableEq, Repr

/-- A Zutum frame that the next Zutum job sends on every two-way port but one (R319, R329). -/
structure Flood where
  except : Option Nat
  kind : Nat
  body : Bytes
deriving DecidableEq, Repr

/-- The grandmaster's fields of R326. -/
structure GmSt where
  priority1 : Nat
  clockClass : Nat
  accuracy : Nat
  variance : Nat
  priority2 : Nat
  identity : Nat
  steps : Nat
  entryAddr : Nat
deriving DecidableEq, Repr

/-- Candidate tables (R325-R328): the rows of ManagementRoutes, the port states by slot, the grandmaster, the depth. -/
structure RouteCand where
  routes : List (Nat × Nat)
  states : List (Nat × Nat)
  gm : Option GmSt
  depth : Nat
  orphan : Bool
  /-- The database that they were computed from, with the addresses that the ARM grants (R329, R333). -/
  basis : List (Nat × LsPart)
deriving DecidableEq, Repr

/-- A route opening held: waiting until its candidates are there, then armed; `deadline` is the tick T − RouteArmLead as it
was when the ARM came (R330). -/
structure RouteArm where
  id : Nat
  tick : Nat
  deadline : Nat
  digest : Nat
  originator : Nat
  grants : List (Nat × Nat)
  cand : Option RouteCand
deriving DecidableEq, Repr

/-- A Zutum frame received and not yet acted on (R333): the slot, the kind, SenderPort and the body. -/
structure ZutIn where
  slot : Nat
  /-- TickNumber at its arrival. -/
  tick : Nat
  kind : Nat
  sender : Nat
  body : Bytes
deriving DecidableEq, Repr

structure ZutSt where
  inbox : List ZutIn
  /-- Stored parts by OriginUid × 2 + Part. -/
  parts : List (Nat × LsPart)
  ownSeq : Nat
  /-- The own state as last originated, and when. -/
  ownBodies : List Bytes
  originateDue : Bool
  originAt : Nat
  helloDue : Bool
  /-- TickSequence + 1 of the last HELLO, by slot. -/
  heardAt : List (Nat × Nat)
  out : List Flood
  /-- The armed route opening, and the ROUTE-ARMs that wait for their digest (R330). -/
  arm : Option RouteArm
  waits : List RouteArm
  /-- T of the last route opening that this module originated (R329). -/
  noneBefore : Nat
  /-- ROUTE-ARM Ids seen with the answer port's slot, and ROUTE-CANCEL Ids seen. -/
  armsSeen : List (Nat × Option Nat)
  cancelsSeen : List Nat
  /-- The root's books of READY answers; READY answers held to be merged, by Id. -/
  ready : List Nat
  merge : List (Nat × List Nat)
  settleAt : Nat
  lastId : Nat
  conflicts : List Nat
  gm : Option GmSt
  /-- Routes and port states in force on every module, as far as their adjacencies have stood since the last route opening
  (R329, R332). -/
  tables : List (Nat × List (Nat × Nat) × List (Nat × Nat))
  /-- The slots whose adjacency has stood since a route opening: only they carry PDUs (R332). -/
  carries : List Nat
deriving DecidableEq, Repr

/-! Twins (chapter 14). -/

/-- A heartbeat path (R339, R340): the TickLow values heard, consecutive misses, consecutive good ticks. -/
structure TwPath where
  heard : List Nat
  misses : Nat
  goodRun : Nat
deriving DecidableEq, Repr

/-- A TWIN-ACTIVE notice heard (R346): pair, sender, its rank, the logical port. -/
structure TwNotice where
  pair : Nat
  uid : Nat
  rank : Nat
  port : Nat
deriving DecidableEq, Repr

/-- A message of the peer or of another pair's twin that waits for the heartbeat job of the next tick (R345): a heartbeat that
kept its framing with the reading at its arrival, a TWIN-ACTIVE with its port, a DUAL-ACTIVE. -/
inductive TwMsg where
  | heartbeat (path : HbPath) (body : Bytes) (arrival : Nat)
  | active (port : Nat) (body : Bytes)
  | dual (body : Bytes)
deriving DecidableEq, Repr

/-- An arbitration in force (R346): pair, the twin followed and the other, the ports blocked, those added with the TickSequence
from which they are blocked too, ticks without a notice of the lower twin. -/
structure TwArb where
  pair : Nat
  follow : Nat
  low : Nat
  ports : Nat
  added : Nat
  since : Nat
  silent : Nat
deriving DecidableEq, Repr

/-- The twin logic beside its objects: the messages that wait for the next heartbeat job; the TickSequence of the first tick
whose misses count (R339); the role stood active when the last tick ended, and whether TWIN_ROLE_CHANGE has noted that of
the tick that ends; the paths; of what the job takes (a heartbeat of Role standby, a
TWIN-ACTIVE of the peer, one from an outranking peer or such a heartbeat, a DUAL-ACTIVE against this twin, the pair's
time difference) and what of it arrived in the tick before; runs; decisions due; the role decided for the next boundary;
paths that are Degraded; the TickSequence until which DualActiveHeard stands; shadow differences of the last 64 good
ticks; the last lane error, as TickSequence + 1; notices of this tick and the one before; arbitrations by row. -/
structure TwSt where
  inbox : List TwMsg
  judgeFrom : Nat
  wasActive : Bool
  noted : Bool
  pair : TwPath
  inband : TwPath
  gotStandby : Bool
  gotActive : Bool
  gotOutranked : Bool
  prevOutranked : Bool
  gotDual : Bool
  gotShadow : Option Int
  standbyRun : Nat
  peerOutranks : Bool
  failDue : Bool
  degradeDue : Nat
  takeoverDue : Bool
  roleNext : Option Nat
  degraded : Nat
  dualUntil : Nat
  shadow : List Int
  overRun : Nat
  underRun : Nat
  shadowFault : Bool
  laneErrAt : Nat
  notices : List TwNotice
  prevNotices : List TwNotice
  arb : List (Nat × TwArb)
  /-- The next channel of the TDC self-test (R343). -/
  nextTest : Nat
deriving DecidableEq, Repr

/-- The machine. -/
structure State where
  /-- Time in ps since D1 left reset at the first power-up. -/
  now : Nat
  /-- The time counter in units of 2^-40 ns (R284, R44). -/
  counter : Nat
  /-- The increment in force, units of 2^-40 ns per time-clock cycle (R284). -/
  increment : Nat
  /-- The tick whose boundary was last raised, or the tick a backward step left the counter in (R14). -/
  tickPos : Nat
  /-- The instant of the latest boundary, ps, and what the counter read there. -/
  boundaryAt : Nat
  boundaryReading : Nat
  /-- The apply point of this tick has passed (R286). -/
  applied : Bool
  /-- The boundary has been raised and the work of its tick awaits the capture and the opening due at it (R23): the
  number of the tick that ended. -/
  workDue : Option Nat
  /-- Unfinished work of each job class, ns (R16). -/
  jobs : List (Nat × Nat)
  /-- The live value of every Catalogue object, by `objKey`. -/
  regs : List (Nat × Nat)
  /-- The model's own counter of free values drawn (log 6). -/
  free : Nat
  /-- What has left the module, oldest first: the model's own record. -/
  sent : List Emission
  opn : Opn
  lrk : Lrk
  ev : EvSt
  ports : List (Nat × PortSt)
  core : CoreSt
  pwr : PwrSt
  gates : List (Nat × GateSt)
  comb : CombSt
  perf : List (Nat × PerfSt)
  arch : ArchSt
  vit : VitSt
  lanes : List (Nat × LaneSt)
  cal : CalAll
  tdc : TdcSt
  refs : RefsSt
  syns : List (Nat × SynSt)
  outs : List (Nat × OutSt)
  plss : List (Nat × PlsSt)
  ptp : List (Nat × PtpPort)
  servo : ServoSt
  zut : ZutSt
  tw : TwSt
  tap : TapSt
  /-- The commands that wait, first in first out. -/
  pending : List Instr
deriving DecidableEq, Repr

/-- The TAP after its reset (R448): IDCODE. -/
def TapSt.reset : TapSt :=
  { instruction := 2, data := idcodeOf (regDefault (objKey Reg.dieSteppings 0 0)), held := false, cells := 0 }

/-- A snapshot bank that is free (R34). -/
def Bank.free : Bank :=
  { captured := false, snap := [], counter := 0, sequence := 0, asleep := 0, servo := 0, tick := 0,
    takenAt := 0, held := [] }

/-- The section of chapter 1 after a full module reset (R31, R36). -/
def Opn.reset : Opn := { shadow := [], waiting := [], armed := none, notices := [], bank0 := Bank.free, bank1 := Bank.free }

/-- The loop after a full module reset (R253, R257, R261). -/
def RefsSt.reset : RefsSt :=
  { ins := [], winners := [], unvoted := [], clean := 0, cleanAt := 0, integ := 0, acc := 0, build := 0, lastPhi := none, okRun := 0, done := false, holdH := 0,
    holdY := 0, sumLoop := 0, sumCorr := 0, ticks := 0, allTrack := true, binDue := none, tod := [] }

/-- The servo after a full module reset (R284, R291): UNSET. -/
def ServoSt.reset : ServoSt :=
  { steps := 0, cI := 0, c := 0, f := 0, consec := 0, goodRun := 0, exchanges := [], lastBad := 0, lastStepAt := 0,
    iF := 0, yF := 0, incs := [], laneFreqs := [], satRun := 0, unsatRun := 0, nextInc := none, nextStep := none,
    nextSet := none, nextMode := none, external := false, incWritten := false, accept := false, rateParent := 0,
    leapFrom := none, timeSet := false, stampSteps := [], parentGm := none, parentState := none, parentUnused := false,
    freeAfterLocked := false, stepSum := 0, stepTo := none, joining := false, parentSince := 0, incWas := 2 ^ 41 }

/-- The Zutum section without a database (R318). -/
def ZutSt.reset : ZutSt :=
  { inbox := [], parts := [], ownSeq := 0, ownBodies := [], originateDue := false, originAt := 0, helloDue := false, heardAt := [],
    out := [], arm := none, waits := [], noneBefore := 0, armsSeen := [], cancelsSeen := [], ready := [], merge := [], settleAt := 0, lastId := 0,
    conflicts := [], gm := none, tables := [], carries := [] }

/-- The twin logic after a full module reset (R341). -/
def TwSt.reset : TwSt :=
  { inbox := [], judgeFrom := 0, wasActive := false, noted := false, pair := { heard := [], misses := 0, goodRun := 0 }, inband := { heard := [], misses := 0, goodRun := 0 },
    gotStandby := false, gotActive := false, gotOutranked := false, prevOutranked := false, gotDual := false,
    gotShadow := none, standbyRun := 0, peerOutranks := false, failDue := false, degradeDue := 0, takeoverDue := false,
    roleNext := none, degraded := 0, dualUntil := 0, shadow := [], overRun := 0, underRun := 0, shadowFault := false,
    laneErrAt := 0, notices := [], prevNotices := [], arb := [], nextTest := 0 }

/-- The power stage at the first power-up: D1 has left reset, VIN has yet to pass the brownout release, the Curator
boots, the other domains are unpowered (R417, R418). -/
def PwrSt.reset : PwrSt :=
  { phase := .on, reduced := true, served := false, curator := .booting, cause := 1, resetNow := none, sleeps := [], waking := [],
    waitD4 := [], wakeDue := [], imageA := true, imageB := true, blocks := [], watchdog := 0 }

/-- SHA-256 over 64 kB of zeros, as a Catalogue value: the digest of the microcode of log 20. -/
def blankDigest : Nat := 0x31cca99cae231c73ac9e484fdef03d9f0bdc0575b9c2477779afa06460252fde

/-- The Vitrine at its first power-up, its first interval opened at the start boundary (R412, R13). -/
def VitSt.reset : VitSt :=
  { mapInUse := [], interval := 15, partialOpen := true, stepped := false, sealSeen := false, freerunAt := none,
    low := false, lowAt := 0, wrote := false, burning := none, waiting := [], unflashed := [], flashBy := 0, microcode := [], fused := blankDigest,
    checkAt := 8000, nextLog := 1, unopened := false, reached := 0, closing := false, closeUtc := 0 }

/-- Values at reset that differ from the Catalogue's default: ModuleUid and the images' versions (log 20), the microcode's digest
(R414), the log entry of the first power-up (R410, R412), the unpowered domains (R417) and the cause power-up (R431). -/
def State.resetRegs : List (Nat × Nat) :=
  (objKey Reg.moduleUid 0 0, 1) :: (objKey Reg.firmwareVersion 1 0, 65536) :: (objKey Reg.firmwareVersion 2 0, 65536) ::
  [(objKey Reg.vitrineMicrocodeDigest 0 0, blankDigest), (objKey Reg.sealLog 0 0, 0x040400000000),
   (objKey Reg.domainState 2 0, 4), (objKey Reg.domainState 4 0, 4), (objKey Reg.domainState 5 0, 4),
   (objKey Reg.domainState 6 0, 4), (objKey Reg.domainState 7 0, 4), (objKey Reg.lastResetCause 0 0, 1)]

/-- The machine right after the reset that its first power-up makes (R31, R54, R284, R418 step 2): the time counter at 0
with the nominal increment, the start boundary raised (R13), every Catalogue value at its default. -/
def State.reset : State :=
  { now := 0, counter := 0, increment := 2 ^ 41, tickPos := 0, boundaryAt := 0, boundaryReading := 0, applied := false, workDue := none, jobs := [],
    regs := State.resetRegs, free := 0, sent := [], opn := Opn.reset,
    lrk := { stamp := 0, sessions := [], keys := [], relay := [], own := [] },
    ev := { risen := [], released := false, copies := [], body := [], builtAt := 0, edges := [], clearAt := [], cleared := [] },
    ports := [], core := { frames := [], nextId := 0, accts := [], sweepAt := 0, sweepLeft := 0, judgedTo := 0, pipes := [], directAt := 0, directRows := [] },
    pwr := PwrSt.reset, gates := [],
    comb := { retained := none, switchAt := 0, windows := [], waiting := [], seq := [], lastOpen := 0, barrier := 0, opened := [] },
    perf := [], arch := { count := 0, burst := 0, trigger := 0, lastCycle := 0, prevFill := 0, latches := [] }, vit := VitSt.reset,
    lanes := [], cal := { insts := [], sensors := [], factory := [] },
    tdc := { lastStamp := [], standIns := [], meas := [], freq := [], fits := [], coarseZero := 0, selfTest := none,
             testDue := none, testFailed := false, divs := [], taken := [], yf := 0 },
    refs := RefsSt.reset, syns := [], outs := [], plss := [], ptp := [], servo := ServoSt.reset, zut := ZutSt.reset,
    tw := TwSt.reset, tap := TapSt.reset, pending := [] }

end Sys2Proof.Machine
end

