-- ==== Sys2Proof/Machine/Ops.lean ====
section
/-! DEFINITION. The named operations over State: the register file, time, domains, port numbers and emissions. Every
meaning is written over these. -/

namespace Sys2Proof.Machine

/-! The register file. -/

/-- The live value of an object or row. -/
def rd (s : State) (idx sub row : Nat) : Nat := tget regDefault s.regs (objKey idx sub row)

/-- Write a live value. -/
def wr (idx sub row v : Nat) (s : State) : State :=
  { s with regs := tset regDefault s.regs (objKey idx sub row) v }

/-- The value at sub-index `sub` of an object that is no TABLE. -/
def r1 (s : State) (idx sub : Nat) : Nat := rd s idx sub 0

/-- The value of an object with sub-index 0x00 only. -/
def r0 (s : State) (idx : Nat) : Nat := rd s idx 0 0

def w1 (idx sub v : Nat) (s : State) : State := wr idx sub 0 v s
def w0 (idx v : Nat) (s : State) : State := wr idx 0 0 v s

/-- Add n to a 64-bit counter that wraps (R133, R166). -/
def count (idx sub row n : Nat) (s : State) : State := wr idx sub row ((rd s idx sub row + n) % 2 ^ 64) s

/-- Add 1 to a counter at a sub-index. -/
def inc (idx sub : Nat) (s : State) : State := count idx sub 0 1 s

/-- Add 1 to a counter with sub-index 0x00 only. -/
def inc0 (idx : Nat) (s : State) : State := count idx 0 0 1 s

/-- Return every value of an index to its default. -/
def dropIdx (idx : Nat) (s : State) : State :=
  { s with regs := s.regs.filter (fun e => keyIdx e.1 ≠ idx) }

/-- Return every value of the indices lo to hi to its default. -/
def dropRange (lo hi : Nat) (s : State) : State :=
  { s with regs := s.regs.filter (fun e => !(decide (lo ≤ keyIdx e.1) && decide (keyIdx e.1 ≤ hi))) }

/-- Return the values of the indices lo to hi at one sub-index to their defaults. -/
def dropSub (lo hi sub : Nat) (s : State) : State :=
  { s with regs := s.regs.filter (fun e =>
      !(decide (lo ≤ keyIdx e.1) && decide (keyIdx e.1 ≤ hi) && decide (keySub e.1 = sub))) }

/-- The rows of a table that differ from the default, as (row, value). -/
def rowsOf (s : State) (idx sub : Nat) : List (Nat × Nat) :=
  (s.regs.filter (fun e => decide (keyIdx e.1 = idx) && decide (keySub e.1 = sub))).map (fun e => (keyRow e.1, e.2))

/-! Time. -/

/-- Units of the time counter in one nanosecond (R44). -/
def unitsPerNs : Nat := 2 ^ 40

/-- Units of the time counter in one frame tick (R3). -/
def tickUnits : Nat := 125000 * 2 ^ 40

/-- The tick in which a reading lies (R3). -/
def tickOfReading (v : Nat) : Nat := v / tickUnits

def tickNo (s : State) : Nat := r0 s Reg.tickNumber

/-- The time clock cycle of an instant (2.000 ns, R2). -/
def cycleOf (t : Nat) : Nat := t / 2000

/-- The instant of the first time-clock cycle in which the counter reads v or later; now if it does. -/
def instantOfReading (s : State) (v : Nat) : Nat :=
  if v ≤ s.counter then s.now
  else (cycleOf s.now + ceilDiv (v - s.counter) (max s.increment 1)) * 2000

/-- The counter as a TIME128 value (R44). -/
def time128 (v : Nat) : Nat :=
  let ns := v / 2 ^ 40
  if ns / 10 ^ 9 < 2 ^ 64 then (ns / 10 ^ 9) * 2 ^ 64 + (ns % 10 ^ 9) * 2 ^ 32 + (v % 2 ^ 40) / 2 ^ 8
  else Config.outOfFormat 128 v % 2 ^ 128

/-- The reading a TIME128 value stands for. -/
def readingOf128 (v : Nat) : Nat :=
  (field v 127 64 * 10 ^ 9 + field v 63 32) * 2 ^ 40 + field v 31 0 * 2 ^ 8

/-- Core cycles of 0.8 ns since reset (R22). -/
def coreCycle (s : State) : Nat := s.now / 800

/-! Domains (R422). -/

def domainState (s : State) (d : Nat) : Nat := r1 s Reg.domainState d

/-- The domain runs: awake, or with a sleep requested. -/
def running (s : State) (d : Nat) : Bool := domainState s d ≤ 1

/-- The domain is asleep or unpowered (R24). -/
def asleep (s : State) (d : Nat) : Bool := domainState s d = 2 || domainState s d = 4

/-- The lane bank of a lane. -/
def bankDomain (lane : Nat) : Nat := if lane < 32 then 5 else 6

/-! Port groups and logical ports (R113, R114). Slot 2g is the lower slot of group g, 2g + 1 its upper slot. -/

def groupMode (s : State) (g : Nat) : Nat := r1 s Reg.portGroupMode g

/-- Slots that a mode occupies. -/
def slotsOfMode (m g : Nat) : List Nat :=
  if m = 0 then [] else if m = 1 ∨ m = 3 then [2 * g] else [2 * g, 2 * g + 1]

/-- The slots of the logical ports, P00 first. -/
def portSlots (s : State) : List Nat := (List.range 32).flatMap (fun g => slotsOfMode (groupMode s g) g)

def portCountOf (s : State) : Nat := (portSlots s).length

/-- The slot of a logical port; none for an absent number. -/
def slotOf (s : State) (port : Nat) : Option Nat := (portSlots s)[port]?

/-- The place of an element in a list. -/
def placeIn (x : Nat) : List Nat → Option Nat
  | [] => none
  | a :: t => if a = x then some 0 else (placeIn x t).map (· + 1)

/-- The logical port of a slot. -/
def portOf (s : State) (slot : Nat) : Option Nat := placeIn slot (portSlots s)

/-- The lanes of a slot's port: both of the group in a one-port mode, else the one of the slot. -/
def lanesOfSlot (s : State) (slot : Nat) : List Nat :=
  let m := groupMode s (slot / 2)
  if m = 0 then []
  else if m = 1 ∨ m = 3 then (if slot % 2 = 0 then [slot, slot + 1] else [])
  else [slot]

/-- The slot whose port uses a lane. -/
def slotOfLane (s : State) (lane : Nat) : Option Nat :=
  let m := groupMode s (lane / 2)
  if m = 0 then none else if m = 1 ∨ m = 3 then some (2 * (lane / 2)) else some lane

/-- PortSpeed code of a mode (R117). -/
def speedCode (m : Nat) : Nat :=
  match m with
  | 1 => 5 | 2 => 4 | 3 => 4 | 4 => 3 | 5 => 2 | 6 => 1 | _ => 0

/-- Picoseconds that one bit takes at a port speed code: 100, 40, 20, 10 and 5 ps. -/
def psPerBit (code : Nat) : Nat :=
  match code with
  | 1 => 100 | 2 => 40 | 3 => 20 | 4 => 10 | _ => 5

/-- The speed code of a slot. -/
def slotSpeed (s : State) (slot : Nat) : Nat := speedCode (groupMode s (slot / 2))

/-- Time in ps that n bytes take at the speed of a slot. -/
def bytesTime (s : State) (slot n : Nat) : Nat := n * 8 * psPerBit (slotSpeed s slot)

/-- LaneState of a lane (R92): 0x07 is UP. -/
def laneUp (s : State) (lane : Nat) : Bool := r1 s Reg.laneState lane = 7

/-- A lane is in TEST (0x08). -/
def laneTest (s : State) (lane : Nat) : Bool := r1 s Reg.laneState lane = 8

/-- PortLinkState of a slot (R117). -/
def linkStateOf (s : State) (slot : Nat) : Nat :=
  let ls := lanesOfSlot s slot
  if ls.isEmpty then 0
  else if ls.all (laneUp s) then 1
  else if ls.any (laneTest s) then 2
  else 0

/-! Ports, frames, accounts. -/

def portInit : PortSt :=
  { pauseEnd := 0, pfcEnd := [], heldFrom := [], rx := none, tx := none, controls := [], queue := [], refresh := 0
    limitWas := 0, limitAt := 0, lineUntil := 0 }

def getPort (s : State) (slot : Nat) : PortSt := tget (fun _ => portInit) s.ports slot

def setPort (slot : Nat) (p : PortSt) (s : State) : State :=
  { s with ports := tset (fun _ => portInit) s.ports slot p }

def modPort (slot : Nat) (f : PortSt → PortSt) (s : State) : State := setPort slot (f (getPort s slot)) s

def acctInit : Acct := { g := 0, s := 0, h := 0, xoff := false }

def getAcct (s : State) (slot c : Nat) : Acct := tget (fun _ => acctInit) s.core.accts (slot * 8 + c)

def setAcct (slot c : Nat) (a : Acct) (s : State) : State :=
  { s with core := { s.core with accts := tset (fun _ => acctInit) s.core.accts (slot * 8 + c) a } }

def getFrame (s : State) (id : Nat) : Option Frame := (s.core.frames.find? (fun e => e.1 = id)).map (·.2)

def setFrame (f : Frame) (s : State) : State :=
  { s with core := { s.core with frames := tput s.core.frames f.id f } }

def dropFrame (id : Nat) (s : State) : State :=
  { s with core := { s.core with frames := tdel s.core.frames id } }

/-! Emissions and free values. -/

/-- What leaves the module; while a test instruction holds the balls none of its outputs reaches one (R450). -/
def emit (e : Emission) (s : State) : State := if s.tap.held then s else { s with sent := s.sent ++ [e] }

/-- SVC_PORT is in force: the byte stream of the TAP is the service port's line, and its serial balls are disconnected (R449). -/
def svcPortSelected (s : State) : Bool := decide (s.tap.instruction = 0x21)

/-- Draw a free value: the index at which the opaque functions of Config are applied (log 6). -/
def draw (s : State) : Nat × State := (s.free, { s with free := s.free + 1 })

/-- The fabric address in force (R322). -/
def ownAddress (s : State) : Nat := r0 s Reg.fabricAddress

/-- The Curator runs its image and answers (R460). -/
def curatorRuns (s : State) : Bool := s.pwr.curator = .running

end Sys2Proof.Machine
end

