-- ==== Sys2Proof/Machine/Flags.lean ====
section
/-! DEFINITION. Event sources (R387-R398): pending bits, live conditions, counts, pins and the rises that a
notification carries. -/

namespace Sys2Proof.Machine

/-- The sources of a word that are not reserved (R397). -/
def sourceMask (w : Nat) : Nat :=
  if w < 12 then 0xFFFFFFFF
  else if w = 12 then 0x0003FFFF
  else if w = 13 then 0x000001FF
  else if w = 14 then 0x0000007F
  else if w = 15 then 0x0000007F
  else 0

/-- The power domain of a source (R459); 3 stands for every always-on one. -/
def sourceDomain (n : Nat) : Nat :=
  if n < 384 ∨ n = 449 then 4
  else if n = 393 ∨ n = 394 then 2
  else if 450 ≤ n ∧ n ≤ 453 then 7
  else 3

/-- A trigger of the Archive (R380): in triggered mode the burst count starts afresh; `kind` is the Trigger code. -/
def archTrigger (kind : Nat) (s : State) : State :=
  if r0 s Reg.archiveMode = 2 then
    { s with arch := { s.arch with burst := r0 s Reg.archiveBurst, trigger := kind } }
  else s

/-- The rise of the pending bit named by ArchiveTriggerSource is a trigger (R380). -/
def archEventTrigger (w rise : Nat) (s : State) : State :=
  let src := r0 s Reg.archiveTriggerSource
  if 0x100 ≤ src ∧ src < 0x300 ∧ (src - 0x100) / 32 = w ∧ rise.testBit ((src - 0x100) % 32) then archTrigger 3 s else s

/-- The bits of a word that a clear took away in this core cycle (R389). -/
def clearedNow (s : State) (w : Nat) : Nat :=
  if tget (fun _ => 0) s.ev.clearAt w = coreCycle s + 1 then tget (fun _ => 0) s.ev.cleared w else 0

/-- The bits of a word whose edge source has occurred in this core cycle (R389). -/
def edgesNow (s : State) (w : Nat) : Nat :=
  (List.range 32).foldl (fun a b => if tget (fun _ => 0) s.ev.edges (32 * w + b) = coreCycle s + 1 then a + 2 ^ b else a) 0

/-- Set pending bits of a word; a bit that rises under EventMaskNotify is marked for the next notification (R392, R394). A bit
that a clear took away in this same cycle never read 0, and does not rise (R389). -/
def pend (w bits : Nat) (s : State) : State :=
  let old := r1 s Reg.eventPending w
  let up := bits &&& ((old ||| clearedNow s w) ^^^ 0xFFFFFFFF)
  let s := archEventTrigger w up (w1 Reg.eventPending w (old ||| bits) s)
  let risen := tget (fun _ => 0) s.ev.risen w ||| (up &&& r1 s Reg.eventMaskNotify w)
  { s with ev := { s.ev with risen := tset (fun _ => 0) s.ev.risen w risen } }

/-- The core cycle of an occurrence of an edge source is kept for a clear of the same cycle (R389). -/
def noteEdge (n : Nat) (s : State) : State :=
  { s with ev := { s.ev with edges := tset (fun _ => 0) s.ev.edges n (coreCycle s + 1) } }

/-- One occurrence of an edge source (R388, R395). A source in a domain that sleeps does not occur (R396). -/
def raise (n : Nat) (s : State) : State :=
  if running s (sourceDomain n) then
    pend (n / 32) (2 ^ (n % 32)) (count Reg.eventCounts 0 n 1 (noteEdge n s))
  else s

/-- The condition of a level source as it is now: its live bit, the count of its 0-to-1 changes, and its pending bit,
which every core cycle of the condition sets (R388, R395). -/
def setLive (n : Nat) (cond : Bool) (s : State) : State :=
  let w := n / 32
  let b := n % 32
  let old := r1 s Reg.eventLive w
  if cond && running s (sourceDomain n) then
    let s := if old.testBit b then s else count Reg.eventCounts 0 n 1 s
    pend w (2 ^ b) (w1 Reg.eventLive w (setBit old b true) s)
  else w1 Reg.eventLive w (setBit old b false) s

/-- EventSummary (R387). -/
def eventSummaryOf (s : State) : Nat :=
  (List.range 16).foldl (fun a w => if r1 s Reg.eventPending w = 0 then a else a + 2 ^ w) 0

/-- Some pending bit passes a mask (R390). -/
def anyMasked (s : State) (mask : Nat) : Bool :=
  (List.range 16).any (fun w => r1 s Reg.eventPending w &&& r1 s mask w ≠ 0)

/-- EventPinState (R390, R393): bit 0 EVTA_N driven low, bit 1 EVTB_N. -/
def eventPins (s : State) : Nat :=
  if r0 s Reg.eventHold = 0 then
    b2n (anyMasked s Reg.eventMaskA) + 2 * b2n (anyMasked s Reg.eventMaskB)
  else 0

/-- Names of the sources of R397; per-port and per-counter sources add the number. -/
def Ev.portLink : Nat := 0
def Ev.headroom : Nat := 64
def Ev.aged : Nat := 128
def Ev.gateOverrun : Nat := 192
def Ev.perfOverflow : Nat := 256
def Ev.perfThreshold : Nat := 320
def Ev.timeBase : Nat := 384
def Ev.tdcSelfTest : Nat := 385
def Ev.todFault : Nat := 386
def Ev.softAlarm : Nat := 387
def Ev.refDisqualified : Nat := 388
def Ev.witnessAlarm : Nat := 389
def Ev.witnessUnresolved : Nat := 390
def Ev.refSwitch : Nat := 391
def Ev.holdover : Nat := 392
def Ev.synClip : Nat := 393
def Ev.synLockFail : Nat := 394
def Ev.saturation : Nat := 395
def Ev.incrementMissed : Nat := 396
def Ev.servoState : Nat := 397
def Ev.stepApplied : Nat := 398
def Ev.stepRefused : Nat := 399
def Ev.calFailed : Nat := 400
def Ev.calFactory : Nat := 401
def Ev.adjacency : Nat := 416
def Ev.rootChange : Nat := 417
def Ev.registrarFull : Nat := 418
def Ev.addressConflict : Nat := 419
def Ev.orphan : Nat := 420
def Ev.strapConflict : Nat := 421
def Ev.failover : Nat := 422
def Ev.degraded : Nat := 423
def Ev.stepDown : Nat := 424
def Ev.tickOverrun : Nat := 448
def Ev.overcommit : Nat := 449
def Ev.combPartial : Nat := 450
def Ev.combSaturation : Nat := 451
def Ev.combDrop : Nat := 452
def Ev.combOvercommit : Nat := 453
def Ev.archiveWatermark : Nat := 454
def Ev.sealOpen : Nat := 480
def Ev.sealedChange : Nat := 481
def Ev.intervalClosed : Nat := 482
def Ev.brownout : Nat := 483
def Ev.overtemp : Nat := 484
def Ev.sleepAbandoned : Nat := 485
def Ev.domainWake : Nat := 486

end Sys2Proof.Machine
end

