-- ==== Sys2Proof/Machine/Perf.lean ====
section
/-! DEFINITION. Programmable counters as the sections see them (R369-R375): what counts, an increment with its wrap and its
threshold, the end of a gate, and an occurrence of a source. Cycles of a level source stand in a counter's ledger until the
tick ends, or until something that depends on them. -/

namespace Sys2Proof.Machine

def perfInit : PerfSt := { live := false, started := false, left := 0, due := false, cycles := 0, since := 0 }

def getPerf (s : State) (k : Nat) : PerfSt := tget (fun _ => perfInit) s.perf k

def setPerf (k : Nat) (p : PerfSt) (s : State) : State := { s with perf := tset (fun _ => perfInit) s.perf k p }

/-- The domain of the selected source (R371). -/
def perfSourceDomain (cfg : Nat) : Nat :=
  match field cfg 29 26 with
  | 6 => bankDomain (field cfg 19 10)
  | 7 => 7
  | 8 => 1
  | 9 => 3
  | _ => 4

/-- The counter can count: its own domain and its source's run (R371). -/
def perfAwake (s : State) (k : Nat) : Bool := running s 4 && running s (perfSourceDomain (r1 s Reg.perfConfig k))

/-- The counter counts now (R371). -/
def perfCounts (s : State) (k : Nat) : Bool :=
  let g := r1 s Reg.perfGateTicks k
  perfAwake s k && (g = 65535 || (g ≠ 0 && (getPerf s k).started))

/-- A configuration selects a source in a mode: 0 by occurrences, 1 by cycles (R369). -/
def perfSelects (cfg mode block event inst : Nat) : Bool :=
  decide (field cfg 31 30 = mode) && decide (field cfg 29 26 = block) && decide (field cfg 25 20 = event) &&
  decide (field cfg 19 10 = inst)

/-- Set PerfOverflow and raise its event once for each wrap (R372). -/
def perfWraps (k n : Nat) (s : State) : State :=
  if n = 0 then s
  else forN n (fun _ s => raise (Ev.perfOverflow + k) s)
    (w0 Reg.perfOverflow (setBit (r0 s Reg.perfOverflow) k true) s)

/-- The threshold crossing of counter k: its event and, where named, the Archive's trigger (R375, R380). -/
def perfCross (k : Nat) (s : State) : State :=
  let s := raise (Ev.perfThreshold + k) s
  if r0 s Reg.archiveTriggerSource = 0x400 + k then archTrigger 4 s else s

/-- A gate of counter k ends: the count is copied and restarts (R371). -/
def perfGateEnd (k : Nat) (s : State) : State :=
  let s := w1 Reg.perfResult k (r1 s Reg.perfCounter k) s
  let s := inc Reg.perfGateCount k (w1 Reg.perfCounter k 0 s)
  setPerf k { getPerf s k with started := true, left := r1 s Reg.perfGateTicks k, due := false } s

/-- A gate end that is due comes before anything that counts after it (R371, log 12). -/
def perfSettle (k : Nat) (s : State) : State := if (getPerf s k).due then perfGateEnd k s else s

/-- An increment of counter k by n (R372, R375). -/
def perfAdd (k n : Nat) (s : State) : State :=
  if !perfCounts s k || n = 0 then s
  else
    let s := perfSettle k s
    let old := r1 s Reg.perfCounter k
    let new := old + n
    let th := r1 s Reg.perfThreshold k
    let s := w1 Reg.perfCounter k (new % 2 ^ 48) s
    let s := perfWraps k (new / 2 ^ 48) s
    if th ≠ 0 ∧ old < th ∧ th ≤ new ∧ new < 2 ^ 48 then perfCross k s else s

/-- n cycles of a level source are counted, an increment of 1 each (R372, R375); a gate end that is due comes first. -/
def perfCycles (k n : Nat) (s : State) : State :=
  if n = 0 then s
  else
    let s := perfSettle k s
    let old := r1 s Reg.perfCounter k
    let below := 2 ^ 48 - r1 s Reg.perfThreshold k
    let s := perfWraps k ((old + n) / 2 ^ 48) (w1 Reg.perfCounter k ((old + n) % 2 ^ 48) s)
    if r1 s Reg.perfThreshold k = 0 then s
    else forN ((old + n + below) / 2 ^ 48 - (old + below) / 2 ^ 48) (fun _ s => perfCross k s) s

/-- A source counts n in a mode: every counter that selects it counts them (R369, R370). -/
def perfCount (mode block event inst n : Nat) (s : State) : State :=
  forL s.perf (fun e s => if perfSelects (r1 s Reg.perfConfig e.1) mode block event inst then perfAdd e.1 n s else s) s

/-- n occurrences of a source (R370). -/
def perfEvent (block event inst n : Nat) (s : State) : State := perfCount 0 block event inst n s

/-- The cycles in a counter's ledger are counted; a gate end that is due comes first (R371). -/
def perfFlush (k : Nat) (s : State) : State :=
  let s := perfSettle k s
  perfCycles k (getPerf s k).cycles (setPerf k { getPerf s k with cycles := 0 } s)

/-- Every counter's ledger is counted: the counters as they stand at this instant. -/
def perfNow (s : State) : State := forL s.perf (fun e s => perfFlush e.1 s) s

end Sys2Proof.Machine
end

