-- ==== Sys2Proof/Machine/SwitchCore.lean ====
section
/-! DEFINITION. The switch core's operations (chapters 5 and 6): cells and banks, accounts and Xoff, control frames, hold
timers, queues and references, classification, forwarding and learning. -/

namespace Sys2Proof.Machine

/-! Pools (R148, R153). -/

def guaranteeOf (s : State) (slot c : Nat) : Nat := r1 s (Reg.guaranteeCells + c) slot
def headroomOf (s : State) (slot c : Nat) : Nat := r1 s (Reg.headroomCells + c) slot

/-- The sums of guarantee and headroom over present ports and all classes. -/
def reservedCells (s : State) : Nat :=
  (portSlots s).foldl (fun a p => (List.range 8).foldl (fun a c => a + guaranteeOf s p c + headroomOf s p c) a) 0

/-- Cells outside the management cells (R148). -/
def dataCells : Nat := 778240

def sharedCellsOf (s : State) : Nat := dataCells - reservedCells s
def overcommitOf (s : State) : Nat := reservedCells s - dataCells

/-- Shared cells in use over every account. -/
def sharedInUse (s : State) : Nat := s.core.accts.foldl (fun a e => a + e.2.s) 0

def sharedFreeOf (s : State) : Nat := sharedCellsOf s - sharedInUse s

/-- Cells of the frames of one origin kind. -/
def cellsWhere (s : State) (p : Frame → Bool) : Nat :=
  s.core.frames.foldl (fun a e => if p e.2 then a + e.2.cells else a) 0

def isManagement (f : Frame) : Bool :=
  match f.origin with
  | .management => true
  | _ => false

def isCombiner (f : Frame) : Bool :=
  match f.origin with
  | .combiner => true
  | _ => false

def bufferFreeOf (s : State) : Nat := dataCells - cellsWhere s (fun f => !isManagement f)

/-- BufferMinFreeCells keeps the lowest value (R167). -/
def noteMinFree (s : State) : State :=
  if bufferFreeOf s < r0 s Reg.bufferMinFreeCells then w0 Reg.bufferMinFreeCells (bufferFreeOf s) s else s

/-- The overcommit event's condition (R153). -/
def judgeOvercommit (s : State) : State := setLive Ev.overcommit (decide (0 < overcommitOf s)) s

/-! Banks (R135, R136). -/

def bankCapacity (b : Nat) : Nat := if b < 32 then 20480 else 16384

def bankUsed (s : State) (b : Nat) : Nat :=
  s.core.frames.foldl (fun a e => a + (e.2.banks.filter (· = b)).length) 0

/-- The bank of a frame's next cell: free, not among those of its previous seven cells, with the fewest cells awaiting read,
the lowest number on a tie; a full core answers none (R136). `load` gives the cells awaiting read per bank, `prev` the
banks of the frame's cells so far, `taken` those of its cells that the buffer does not hold yet. -/
def pickBank (s : State) (load prev taken : List Nat) : Option Nat :=
  let free := (List.range 40).filter (fun b => bankUsed s b + (taken.filter (· = b)).length < bankCapacity b)
  let apart := free.filter (fun b => !(lastN 7 prev).contains b)
  (if apart.isEmpty then free else apart).foldl (fun best b =>
    match best with
    | none => some b
    | some a => if load.getD b 0 < load.getD a 0 then some b else some a) none

/-- The cells awaiting read per bank where no row reports them, for a frame of the module's own: a free value (log 6). -/
def freeLoad (s : State) : List Nat × State :=
  let d := draw s
  ((List.range 40).map (fun b => Config.freeValue d.1 / 256 ^ b % 256), d.2)

/-! Control frames and Xoff (R150, R151). -/

/-- The classes of a slot in Xoff, as a mask: XoffState. -/
def xoffMask (s : State) (slot : Nat) : Nat :=
  (List.range 8).foldl (fun m c => if (getAcct s slot c).xoff then m + 2 ^ c else m) 0

/-- A PFC frame: PfcQuanta for the classes in Xoff, 0 for those that have just left (R151). -/
def pfcControl (s : State) (slot left : Nat) : Control :=
  let m := xoffMask s slot
  { pfc := true, enable := m ||| left,
    times := (List.range 8).map (fun c => if m.testBit c then r0 s Reg.pfcQuanta else 0) }

def pauseControl (quanta : Nat) : Control := { pfc := false, enable := 0, times := [quanta] }

/-- Half of PfcQuanta at the speed of a slot, ps. -/
def refreshPeriod (s : State) (slot : Nat) : Nat := r0 s Reg.pfcQuanta * 256 * psPerBit (slotSpeed s slot)

def queueControl (slot : Nat) (c : Control) (s : State) : State :=
  modPort slot (fun p => { p with controls := p.controls ++ [c] }) s

/-- PortFlowMode 0x01 sends PAUSE. -/
def sendsPause (s : State) (slot : Nat) : Bool := r1 s Reg.portFlowMode slot = 1

/-- An occurrence at a port, a queue or an account (R370): a slot that is no logical port's is no instance. -/
def portEvent (slot event n : Nat) (s : State) : State := perfEvent 1 event ((portOf s slot).getD 1023) n s
def classEvent (block slot c event n : Nat) (s : State) : State := perfEvent block event ((portOf s slot).getD 127 * 8 + c) n s

/-- An account enters Xoff: the state, the count, the control frame and the first refresh. -/
def enterXoff (slot c : Nat) (s : State) : State :=
  let first := xoffMask s slot = 0
  let s := classEvent 3 slot c 2 1 (inc (Reg.xoffCount + c) slot (setAcct slot c { getAcct s slot c with xoff := true } s))
  let s :=
    if sendsPause s slot then
      (if first then queueControl slot (pauseControl (r0 s Reg.pfcQuanta)) s else s)
    else queueControl slot (pfcControl s slot 0) s
  if first then modPort slot (fun p => { p with refresh := s.now + refreshPeriod s slot }) s else s

/-- An account leaves Xoff. -/
def leaveXoff (slot c : Nat) (s : State) : State :=
  let s := setAcct slot c { getAcct s slot c with xoff := false } s
  let last := xoffMask s slot = 0
  let s :=
    if sendsPause s slot then (if last then queueControl slot (pauseControl 0) s else s)
    else queueControl slot (pfcControl s slot (2 ^ c)) s
  if last then modPort slot (fun p => { p with refresh := 0 }) s else s

/-- The Xon condition of R150. -/
def xonHolds (s : State) (slot c : Nat) : Bool :=
  let a := getAcct s slot c
  let k := r1 s Reg.pfcAlpha c
  a.xoff && a.h = 0 && a.s * 64 ≤ sharedFreeOf s * 2 ^ k - 64 * r0 s Reg.pfcXonDelta

/-- Every account whose Xon condition holds leaves Xoff. -/
def xonSweep (s : State) : State :=
  forL (s.core.accts.map (·.1)) (fun k s => if xonHolds s (k / 8) (k % 8) then leaveXoff (k / 8) (k % 8) s else s) s

/-- Charge one cell (R149, R150): the state after it and whether it was stored (R152); a full buffer stores none, also of a
cell that starts Xoff (R153). -/
def chargeCell (slot c : Nat) (s : State) : Bool × State :=
  let a := getAcct s slot c
  let room := decide (bufferFreeOf s ≠ 0)
  if a.g < guaranteeOf s slot c then (if room then (true, setAcct slot c { a with g := a.g + 1 } s) else (false, s))
  else if !a.xoff && a.s * 64 < sharedFreeOf s * 2 ^ r1 s Reg.pfcAlpha c then
    (if room then (true, setAcct slot c { a with s := a.s + 1 } s) else (false, s))
  else
    let s := if a.xoff then s else enterXoff slot c s
    let a := getAcct s slot c
    if room && decide (a.h < headroomOf s slot c) then (true, setAcct slot c { a with h := a.h + 1 } s) else (false, s)

/-- Release n cells of a charge: headroom first, then shared, then guarantee (R149). -/
def unchargeAcct (n : Nat) (a : Acct) : Acct :=
  let h := min n a.h
  let sh := min (n - h) a.s
  { a with h := a.h - h, s := a.s - sh, g := a.g - (n - h - sh) }

/-! Archive records that follow a frame (R382-R384). -/

/-- Replace n bytes of a record at an offset. -/
def putBytes (v off n x : Nat) : Nat := withField v (8 * (off + n) - 1) (8 * off) x

/-- Bytes of a record at an offset. -/
def getBytes (v off n : Nat) : Nat := field v (8 * (off + n) - 1) (8 * off)

/-- Change a record that still stands in its slot and is not complete; a late completion is discarded (R384). -/
def archiveUpdate (seq : Nat) (f : Nat → Nat) (s : State) : State :=
  let v := rd s Reg.archiveRecords 0 (seq % 8192)
  if getBytes v 140 4 = seq ∧ v ≠ 0 then wr Reg.archiveRecords 0 (seq % 8192) (f v) s else s

/-- Complete a record with a fate (R382, R383): the Complete flag and Fate; a record complete stays as it is. -/
def archiveFate (seq : Option Nat) (fate : Nat) (s : State) : State :=
  match seq with
  | none => s
  | some q => archiveUpdate q (fun v =>
      if (getBytes v 187 1).testBit 0 then v
      else putBytes (putBytes v 135 1 fate) 187 1 (setBit (getBytes v 187 1) 0 true)) s

/-- The first copy of a frame ends otherwise than whole after its record is complete: Fate says so (R383). -/
def archiveRefate (seq : Option Nat) (port fate : Nat) (s : State) : State :=
  match seq with
  | none => s
  | some q => archiveUpdate q (fun v => if getBytes v 133 1 = port then putBytes v 135 1 fate else v) s

/-! References (R160). -/

/-- The place of the Combiner's accounts among the port slots' (R199), and of its hold on a contribution's frame. -/
def combinerSlot : Nat := 64

/-- The cells of a frame are freed and its charge is released. -/
def freeFrame (f : Frame) (s : State) : State :=
  let s := perfEvent 4 2 0 f.cells (dropFrame f.id s)
  match f.origin with
  | .ingress slot => xonSweep (setAcct slot f.cls (unchargeAcct f.cells (getAcct s slot f.cls)) s)
  | .combiner => xonSweep (setAcct combinerSlot f.cls (unchargeAcct f.cells (getAcct s combinerSlot f.cls)) s)
  | .management => s

/-- A copy on a slot ends: its reference is released, the last one frees the frame, one still in reception too: no cell
that comes later is kept (R160). -/
def releaseRef (id slot : Nat) (s : State) : State :=
  match getFrame s id with
  | none => s
  | some f =>
    let f := { f with refs := f.refs.erase slot }
    if f.refs.isEmpty then freeFrame f s else setFrame f s

/-- A copy on a slot ends without having begun, for the reason `fate`: where it is the last, the frame ended without a
copy, one still in reception too (R382, R383). -/
def endRef (id slot fate : Nat) (s : State) : State :=
  match getFrame s id with
  | none => s
  | some f => releaseRef id slot (if (f.refs.erase slot).isEmpty then archiveFate f.selected fate s else s)

/-- A pipeline places 16 references of a frame per core cycle, after those of the frames before it; a frame that comes while
it places another's is held until then (R161). The pipeline is that of the slot's 16 (log 41). -/
def placeRefs (slot refs : Nat) (s : State) : State :=
  let p := tget (fun _ => (0, 0)) s.core.pipes (slot / 16)
  let stop := max s.now p.1 + ceilDiv refs 16 * 800
  { s with core := { s.core with
      pipes := tset (fun _ => (0, 0)) s.core.pipes (slot / 16) (stop, if s.now < p.1 then p.1 else p.2) } }

/-- Count a frame of n octets sent whole on a slot (R133). -/
def countTx (slot n : Nat) (s : State) : State := portEvent slot 2 1 (count Reg.txOctets slot 0 n (inc Reg.txFrames slot s))

/-- Count a frame sent stomped (R133). -/
def countStomped (slot : Nat) (s : State) : State := portEvent slot 2 1 (inc Reg.txStomped slot s)

/-- Cells of queue c of a slot: QueueDepthCells (R166). -/
def queueDepth (s : State) (slot c : Nat) : Nat :=
  ((getPort s slot).queue.filter (fun q => q.cls = c)).foldl
    (fun a q => a + (match getFrame s q.frame with | some f => f.cells | none => 0)) 0

/-- QueuePeakCells keeps the highest depth. -/
def notePeak (slot c : Nat) (s : State) : State :=
  if r1 s (Reg.queuePeakCells + c) slot < queueDepth s slot c then
    w1 (Reg.queuePeakCells + c) slot (queueDepth s slot c) s
  else s

/-- Enqueue a copy at the tail of its queue. -/
def enqueue (slot : Nat) (q : QEntry) (s : State) : State :=
  classEvent 2 slot q.cls 1 1 (notePeak slot q.cls (modPort slot (fun p => { p with queue := p.queue ++ [q] }) s))

/-- Remove the copy of a frame from a slot's queues. -/
def dequeue (slot id : Nat) (s : State) : State :=
  modPort slot (fun p => { p with queue := p.queue.filter (fun q => q.frame ≠ id) }) s

/-- The head of queue c of a slot. -/
def headOf (s : State) (slot c : Nat) : Option QEntry := (getPort s slot).queue.find? (fun q => q.cls = c)

/-- The core's count of µs (R155): time since reset. -/
def coreMicros (s : State) : Nat := s.now / 1000000

/-! Hold timers (R124-R127). -/

/-- The instant to which class c of a slot is held; 0 for none. -/
def heldUntil (p : PortSt) (c : Nat) : Nat := max p.pauseEnd (tget (fun _ => 0) p.pfcEnd c)

/-- Queue c of a slot is held. -/
def isHeld (s : State) (slot c : Nat) : Bool := s.now < heldUntil (getPort s slot) c

/-- The hold of class c is added to TxHeldTime up to now, in whole ns: the count runs while the hold does. A hold that has
ended by now is closed (R127). -/
def settleHold (slot c : Nat) (s : State) : State :=
  let p := getPort s slot
  let from1 := tget (fun _ => 0) p.heldFrom c
  if from1 = 0 then s
  else
    let stop := heldUntil p c
    let ns := ((if stop = 0 then s.now else min stop s.now) - (from1 - 1)) / 1000
    count (Reg.txHeldTime + c) slot 0 ns (modPort slot (fun p =>
      { p with heldFrom := if stop ≤ s.now then tdel p.heldFrom c else tput p.heldFrom c (from1 + ns * 1000) }) s)

/-- After a load: a class that is now held and was not starts its hold now. -/
def startHold (slot c : Nat) (s : State) : State :=
  let p := getPort s slot
  if s.now < heldUntil p c && tget (fun _ => 0) p.heldFrom c = 0 then
    modPort slot (fun p => { p with heldFrom := tput p.heldFrom c (s.now + 1) }) s
  else s

/-- Every class of a slot: close the holds that have ended, open the ones that begin. -/
def settleHolds (slot : Nat) (s : State) : State :=
  forN 8 (fun c s => startHold slot c (settleHold slot c s)) s

/-- The end instant that a quanta field loads: one quantum is 512 bit times; 0 stops the timer (R125, R126). -/
def quantaEnd (s : State) (slot quanta : Nat) : Nat :=
  if quanta = 0 then 0 else s.now + quanta * 512 * psPerBit (slotSpeed s slot)

/-- A timer that stops before its time ends the hold at this instant. -/
def loadPause (slot quanta : Nat) (s : State) : State :=
  let s := settleHolds slot s
  settleHolds slot (modPort slot (fun p => { p with pauseEnd := quantaEnd s slot quanta }) s)

def loadPfc (slot enable : Nat) (times : List Nat) (s : State) : State :=
  let s := settleHolds slot s
  settleHolds slot (forN 8 (fun c s =>
    if enable.testBit c then
      modPort slot (fun p => { p with pfcEnd := tset (fun _ => 0) p.pfcEnd c (quantaEnd s slot (times.getD c 0)) }) s
    else s) s)

/-- All timers of a slot stop and its queues are released (R127). -/
def stopTimers (slot : Nat) (s : State) : State :=
  settleHolds slot (modPort slot (fun p => { p with pauseEnd := 0, pfcEnd := [] }) s)

/-! Frame fields (R130). -/

structure Tags where
  tagged : Bool
  vid : Nat
  pcp : Nat
  etherType : Nat
  /-- Bytes before the payload. -/
  head : Nat
deriving DecidableEq, Repr

/-- The tag fields of a frame that arrives on a slot. -/
def tagsOf (s : State) (slot : Nat) (b : Bytes) : Tags :=
  let t := beAt b 12 2
  let dv := r1 s Reg.portDefaultVid slot
  if t = 0x8100 ∨ t = 0x88A8 then
    let tci := beAt b 14 2
    let v := tci % 4096
    let second := beAt b 16 2 = 0x8100
    { tagged := v ≠ 0, vid := if v = 0 then dv else v, pcp := tci / 8192,
      etherType := if second then beAt b 20 2 else beAt b 16 2, head := if second then 22 else 18 }
  else
    { tagged := false, vid := dv, pcp := r1 s Reg.portDefaultPcp slot, etherType := t, head := 14 }

/-- The two bytes after the source address: EtherType of an untagged frame. -/
def outerType (b : Bytes) : Nat := beAt b 12 2

/-- The destination is a group address. -/
def isGroup (b : Bytes) : Bool := (beAt b 0 1) % 2 = 1

/-- Row r of ClassRules matches (R131). -/
def ruleMatches (row port : Nat) (t : Tags) (b : Bytes) : Bool :=
  let f := field row
  let ecpri := beAt b (t.head + 1) 1
  let ptp := beAt b t.head 1 % 16
  decide (f 127 127 = 1) &&
  (decide (f 126 126 = 1) || decide (f 125 120 = port)) &&
  (decide (f 119 118 = 0) || (decide (f 119 118 = 1) && !t.tagged) || (decide (f 119 118 = 2) && t.tagged)) &&
  decide (t.vid &&& f 105 94 = f 117 106 &&& f 105 94) &&
  decide (t.pcp &&& f 90 88 = f 93 91 &&& f 90 88) &&
  (decide (f 87 87 = 0) || decide (t.etherType = f 86 71)) &&
  (decide (f 62 55 = 0) || (decide (t.etherType = 0xAEFE) && decide (ecpri &&& f 62 55 = f 70 63 &&& f 62 55))) &&
  (decide (f 50 47 = 0) || (decide (t.etherType = 0x88F7) && decide (ptp &&& f 50 47 = f 54 51 &&& f 50 47)))

/-- The traffic class of a frame and the counts of its match or default (R131). Rows at their default of 0 never
match, so only the rows written need be tried. -/
def classify (slot port : Nat) (t : Tags) (b : Bytes) (s : State) : Nat × State :=
  match (rowsOf s Reg.classRules 0).find? (fun r => ruleMatches r.2 port t b) with
  | some r => (field r.2 2 0, count Reg.classRuleHits 0 r.1 1 s)
  | none => (r1 s Reg.portDefaultClass slot, inc Reg.rxDefaultClass slot s)

/-! Forwarding and learning (R139-R145). -/

/-- The bucket of an address and VLAN ID (R140). -/
def fdbBucket (mac vid : Nat) : Nat := crc32c (bytesBE 6 mac ++ bytesLE 2 vid) % 32768

/-- The row of the lowest matching way. -/
def fdbLookup (s : State) (mac vid : Nat) : Option Nat :=
  ((List.range 8).map (fun w => fdbBucket mac vid * 8 + w)).find? (fun r =>
    let v := rd s Reg.forwardingTable 0 r
    decide (field v 127 127 = 1) && decide (field v 111 100 = vid) && decide (field v 99 52 = mac))

/-- Members, FloodMask and Valid of a row of VlanTable (R142). -/
def vlanRow (s : State) (vid : Nat) : Nat := rd s Reg.vlanTable 0 vid

/-- Step 1 of R139. -/
def vlanAdmits (s : State) (port vid : Nat) : Bool :=
  let r := vlanRow s vid
  decide (vid ≠ 4095) && decide (vid ≠ 0) && r.testBit 0 && (field r 191 128).testBit port

/-- The first set of R139 steps 2 to 4, and whether the lookup missed. -/
def firstSet (s : State) (mac vid : Nat) : Nat × Bool :=
  match fdbLookup s mac vid with
  | none => (field (vlanRow s vid) 127 64, true)
  | some r =>
    let v := rd s Reg.forwardingTable 0 r
    match field v 125 124 with
    | 0 => (2 ^ (field v 5 0), false)
    | 1 => (rd s Reg.multicastGroups 0 (field v 11 0), false)
    | _ => (0, false)

/-- The egress set of logical ports (R139 step 5). -/
def egressPorts (s : State) (set vid port : Nat) : List Nat :=
  (onesList 64 (set &&& field (vlanRow s vid) 191 128)).filter (fun p => decide (p ≠ port) && decide (p < portCountOf s))

/-- A learned row of kind port with Hit set (R144). -/
def learnedRow (mac vid port : Nat) : Nat := 2 ^ 127 + 2 ^ 123 + vid * 2 ^ 100 + mac * 2 ^ 52 + port

/-- ForwardingTableDirect has written a row in this core cycle (R164). -/
def writtenDirect (s : State) (r : Nat) : Bool := decide (s.core.directAt = coreCycle s + 1) && s.core.directRows.contains r

/-- Learning writes a row, a move being counted, unless a direct write reaches it in the same core cycle, which wins (R164). -/
def learnRow (r v : Nat) (moves : Bool) (s : State) : State :=
  if writtenDirect s r then s else wr Reg.forwardingTable 0 r v (if moves then inc0 Reg.fdbMoves s else s)

/-- Learning from a legal frame (R144). A matching learned row of kind group or discard is one with another Target: it is
rewritten to kind port and counts as a move, whatever number its Target field holds (DEDUCED: log 65). -/
def learn (slot port mac vid : Nat) (s : State) : State :=
  if r1 s Reg.portLearnEnable slot = 0 then s
  else
    match fdbLookup s mac vid with
    | some r =>
      let v := rd s Reg.forwardingTable 0 r
      if v.testBit 126 then s
      else if field v 125 124 = 0 ∧ field v 11 0 = port then learnRow r (setBit v 123 true) false s
      else learnRow r (learnedRow mac vid port) true s
    | none =>
      match ((List.range 8).map (fun w => fdbBucket mac vid * 8 + w)).find?
          (fun r => !(rd s Reg.forwardingTable 0 r).testBit 127) with
      | some r => learnRow r (learnedRow mac vid port) false s
      | none => inc0 Reg.fdbLearnBucketFull s

/-- A valid row that was learned. -/
def isLearned (v : Nat) : Bool := v.testBit 127 && !v.testBit 126

/-- The number of learned rows: FdbLearnedEntries. -/
def learnedCount (s : State) : Nat := ((rowsOf s Reg.forwardingTable 0).filter (fun r => isLearned r.2)).length

/-- One ageing sweep (R145). -/
def fdbSweep (s : State) : State :=
  forL (rowsOf s Reg.forwardingTable 0) (fun r s =>
    if isLearned r.2 then
      if r.2.testBit 123 then wr Reg.forwardingTable 0 r.1 (setBit r.2 123 false) s
      else inc0 Reg.fdbAgedEntries (wr Reg.forwardingTable 0 r.1 0 s)
    else s) s

/-- Remove every learned row (R145). -/
def fdbFlush (s : State) : State :=
  forL (rowsOf s Reg.forwardingTable 0) (fun r s => if isLearned r.2 then wr Reg.forwardingTable 0 r.1 0 s else s) s

/-- Start the sweep period afresh from now: FdbAgeTime seconds, 0 for none; while D4 sleeps or wakes the period waits
whole. -/
def restartSweep (s : State) : State :=
  let a := r0 s Reg.fdbAgeTime * 10 ^ 12
  if !running s 4 then { s with core := { s.core with sweepAt := 0, sweepLeft := a } }
  else { s with core := { s.core with sweepAt := if a = 0 then 0 else s.now + a, sweepLeft := 0 } }

/-! Twins (R335, R346). -/

/-- A protected port of a standby twin (R335). -/
def twinProtects (s : State) (port : Nat) : Bool :=
  decide (r0 s Reg.twinRole = 1) && (r0 s Reg.twinProtectedPorts).testBit port

/-- A port toward the lower-ranked twin of a pair that this module arbitrates (R346). -/
def arbiterBlocks (s : State) (port : Nat) : Bool :=
  s.tw.arb.any (fun r => r.2.ports.testBit port || (decide (r.2.since ≤ r0 s Reg.tickSequence) && r.2.added.testBit port))

/-- Data neither enter nor leave by the port (R335, R346, R455). -/
def twinBlocks (s : State) (port : Nat) : Bool := twinProtects s port || arbiterBlocks s port

/-! Discarding what a slot holds. -/

/-- Discard every queued copy of a slot for which p holds; answers the number of copies (R116, R165). -/
def flushQueue (slot : Nat) (s : State) : Nat × State :=
  let q := (getPort s slot).queue
  (q.length, forL q (fun e s => endRef e.frame slot 5 s) (modPort slot (fun p => { p with queue := [] }) s))

end Sys2Proof.Machine
end

