-- ==== Sys2Proof/Machine/Operands.lean ====
section
/-! DEFINITION. The operand forms of a Catalogue access: the judgement of R55 over an object, a row and a value, the record
of a violation (R56, R60), and the one write operation that every write command goes through. -/

namespace Sys2Proof.Machine

/-- What a session asks of an object (R48). -/
inductive OpKind where
  | read | write | stage
deriving DecidableEq, Repr

/-- The opcode byte of an operation in SessionLastViolation. -/
def OpKind.code : OpKind → Nat
  | .read => 3 | .write => 4 | .stage => 5

/-- The sum of the four fields of LaneTxFfe and their ranges (R90). -/
def ffeBad (v : Nat) : Bool :=
  let post := field v 23 18; let main := field v 17 12; let pre := field v 11 6; let pre2 := field v 5 0
  decide (20 < post) || decide (main < 24) || decide (63 < main) || decide (16 < pre) || decide (8 < pre2) ||
  decide (63 < post + main + pre + pre2)

/-- GateCycleTime accepts the divisors of the tick in whole 2 ns and the multiples of the tick (R171). -/
def cycleTimeOk (v : Nat) : Bool :=
  [1000, 1250, 2500, 5000, 6250, 12500, 25000, 31250, 62500, 125000].contains v ||
  (decide (v % 125000 = 0) && decide (2 ≤ v / 125000) && decide (v / 125000 ≤ 8000))

/-- A row of the forwarding table (R141). -/
def fdbRowBad (v : Nat) : Bool :=
  decide (field v 125 124 = 3) ||
  (v.testBit 127 &&
    (decide (field v 111 100 = 0) || decide (field v 111 100 = 4095) ||
     (decide (field v 125 124 = 0) && decide (63 < field v 11 0)) ||
     (decide (field v 125 124 = 2) && decide (field v 11 0 ≠ 0))))

/-- A row of GroupTable (R181). -/
def groupRowBad (v : Nat) : Bool :=
  let valid := v.testBit 255
  let prbs := field v 245 237
  let w := field v 236 233
  let lim := field v 205 191
  decide (275 < prbs) || (valid && decide (prbs = 0)) || !(decide (w = 0) || (decide (8 ≤ w) && decide (w ≤ 14))) ||
  decide (4 < field v 232 230) || decide (4094 < field v 217 206) ||
  (if lim = 0 then valid else decide (lim < 1518) || decide (16384 < lim))

/-- The kind of a source of R370: none for an unlisted block or event, else whether it is counted by level. -/
def perfKind (block event : Nat) : Option Bool :=
  match block, event with
  | 0, 0 => some false
  | 1, 1 => some false | 1, 2 => some false | 1, 3 => some true | 1, 4 => some true | 1, 5 => some false
  | 2, 1 => some false | 2, 2 => some true | 2, 3 => some true | 2, 4 => some true | 2, 5 => some false
  | 3, 1 => some true | 3, 2 => some false | 3, 3 => some true
  | 4, 1 => some false | 4, 2 => some false | 4, 3 => some true
  | 5, 1 => some false | 5, 2 => some true
  | 6, 1 => some false | 6, 2 => some false | 6, 3 => some true | 6, 4 => some true
  | 7, 1 => some false | 7, 2 => some false | 7, 3 => some true
  | 8, 1 => some false | 8, 2 => some false
  | 9, 1 => some true | 9, 2 => some false
  | _, _ => none

/-- The highest instance of a block (R370). -/
def perfInstances (block : Nat) : Nat :=
  match block with
  | 1 => 63 | 2 => 511 | 3 => 511 | 4 => 0 | 5 => 3 | 6 => 63 | 7 => 255 | 8 => 79 | 9 => 7 | _ => 1023

/-- PerfConfig outside its range (R369). Block 0 counts nothing, whatever Event and Instance. -/
def perfConfigBad (v : Nat) : Bool :=
  let mode := field v 31 30
  let block := field v 29 26
  if block = 0 then decide (1 < mode)
  else
    match perfKind block (field v 25 20) with
    | none => true
    | some level => decide (mode ≠ b2n level) || decide (perfInstances block < field v 19 10)

/-- A write of ArchiveReadIndex beyond ArchiveWriteIndex in modulo-2^32 order (R384). -/
def readIndexBad (s : State) (v : Nat) : Bool :=
  decide (2 ^ 31 ≤ (r0 s Reg.archiveWriteIndex + 2 ^ 32 - v) % 2 ^ 32)

/-- A channel that has a per-tick result (R230). -/
def tickChannelOk (c : Nat) : Bool := decide (c ≤ 0x43) || decide (c = 0x46) || decide (c = 0x47)

/-- The VCO frequency of a SynConfig value, in units of 500 MHz, lies outside 2,400-3,200 MHz (R266). -/
def synConfigBad (v : Nat) : Bool :=
  let n := field v 27 12
  let p := field v 11 0
  decide (n = 0) || decide (p = 0) || decide (500 * n < 2400 * p) || decide (3200 * p < 500 * n)

/-- RefBandwidth by type of input (R264). -/
def refBandwidthBad (sub v : Nat) : Bool :=
  if sub < 0x40 then decide (v < 100) || decide (10000 < v)
  else if sub < 0x44 then decide (v < 10) || decide (1000 < v)
  else decide (v < 1) || decide (100 < v)


/-- Whether an object with a check of its own lies outside its range (kind 0x4). -/
def specialRange (s : State) (idx sub v : Nat) : Bool :=
  match idx with
  | 0x2010 => ffeBad v
  | 0xE000 => decide (8 < v) || (decide (v = 6) && decide (5 ≤ groupMode s (sub / 2)))
  | 0xE001 => decide (8 < v) || decide (v = 7) || (decide (v = 6) && decide (5 ≤ groupMode s (sub / 2)))
  | 0x3020 => decide (field v 119 118 = 3)
  | 0x4020 => fdbRowBad v
  | 0x4021 => fdbRowBad v
  | 0x5010 => decide (500000000 < field v 31 0)
  | 0x5012 => !cycleTimeOk v
  | 0x6010 => decide (499999 < field v 50 32) || decide (field v 18 0 = 0) || decide (500000 < field v 18 0)
  | 0x6020 => groupRowBad v
  | 0xB010 => perfConfigBad v
  | 0xB023 => decide (v ≠ 0) && !(decide (0x100 ≤ v) && decide (v < 0x300)) && !(decide (0x400 ≤ v) && decide (v < 0x440))
  | 0xB028 => readIndexBad s v
  | 0xC020 => decide (63 < field v 54 48) || decide (63 < field v 47 41)
  | 0x7003 => !(decide (v ≤ 0x0B) || (decide (0x10 ≤ v) && decide (v ≤ 0x13)) || decide (v = 0xFF))
  | 0x7020 => decide (field v 31 30 = 3) || decide (0x47 < field v 14 8) || decide (0x47 < field v 6 0)
  | 0x7030 => !tickChannelOk (field v 22 16)
  | 0x7104 => refBandwidthBad sub v
  | 0x7122 => decide (v ≠ 0xFF) && decide (0x45 < v)
  | 0x7200 => synConfigBad v
  | 0x800E => if sub = 0 then decide (v < 10) || decide (1000 < v) else decide (v < 1) || decide (100 < v)
  | 0x9104 => decide (v ≠ 0xFF) && decide (0x3F < v)
  | _ => false

/-- Whether an object with a check of its own has a reserved bit set (kind 0x5). -/
def specialReserved (idx sub v : Nat) : Bool :=
  match idx with
  | 0x2010 => decide (field v 31 24 ≠ 0)
  | 0x3020 => decide (field v 46 3 ≠ 0)
  | 0x4020 => decide (field v 122 112 ≠ 0) || decide (field v 51 12 ≠ 0)
  | 0x4021 => decide (field v 122 112 ≠ 0) || decide (field v 51 12 ≠ 0)
  | 0x4022 => decide (field v 63 1 ≠ 0)
  | 0x5010 => decide (field v 63 40 ≠ 0)
  | 0xB101 => decide (v &&& (sourceMask sub ^^^ 0xFFFFFFFF) ≠ 0)
  | 0xB103 => decide (v &&& (sourceMask sub ^^^ 0xFFFFFFFF) ≠ 0)
  | 0xB104 => decide (v &&& (sourceMask sub ^^^ 0xFFFFFFFF) ≠ 0)
  | 0xB105 => decide (v &&& (sourceMask sub ^^^ 0xFFFFFFFF) ≠ 0)
  | 0xD004 => decide (15 < v) || (decide (sub ≠ 5 ∧ sub ≠ 6) && v.testBit 0)
  | 0x6010 => decide (field v 63 51 ≠ 0) || decide (field v 31 19 ≠ 0)
  | 0x6020 => decide (field v 184 176 ≠ 0)
  | 0x6030 => decide (field v 26 0 ≠ 0)
  | 0xB010 => decide (field v 9 0 ≠ 0)
  | 0xC020 => decide (field v 16 0 ≠ 0)
  | 0x7020 => decide (field v 27 15 ≠ 0) || v.testBit 7
  | 0x7030 => decide (field v 31 23 ≠ 0)
  | 0x7200 => decide (field v 30 28 ≠ 0)
  | _ => false

/-- Kind 0x4 of R55: outside the stated range. -/
def rangeBad (s : State) (e : Entry) (idx sub v : Nat) : Bool :=
  match e.chk with
  | .any => false
  | .rng lo hi => decide (v < lo) || decide (hi < v)
  | .srng lo hi => decide (toSigned (8 * e.ty.len) v < lo) || decide (hi < toSigned (8 * e.ty.len) v)
  | .zeroOr lo hi => decide (v ≠ 0) && (decide (v < lo) || decide (hi < v))
  | .oneOf l => !l.contains v
  | .mask _ => false
  | .time => decide (999999999 < field v 63 32)
  | .special => specialRange s idx sub v

/-- Kind 0x5 of R55: a reserved bit set. -/
def reservedBad (e : Entry) (idx sub v : Nat) : Bool :=
  match e.chk with
  | .mask m => decide (v ||| m ≠ m)
  | .special => specialReserved idx sub v
  | _ => false

/-- The objects that hold nothing for an in-band session (R78). -/
def hiddenInband (idx : Nat) : Bool := [0x0040, 0x0042, 0x0043, 0x0044].contains idx

/-- The objects that answer while the Curator runs no image: those of chapter 19 and of R61 (R420). -/
def aliveWithoutImage (idx : Nat) : Bool := decide (idx ≤ 0x0021) || (decide (0xD000 ≤ idx) && decide (idx ≤ 0xDFFF))

/-- The object an access names, as the session sees it (R41, R78, R420). -/
def visible (s : State) (slot idx sub : Nat) : Option Entry :=
  if hiddenInband idx && decide (r1 s Reg.sessionTransport slot = 3) then none
  else if decide (s.pwr.curator = .noImage) && !aliveWithoutImage idx then none
  else entryOf idx sub

/-- A slot is open, authenticated or not (R58). -/
def slotOpen (s : State) (slot : Nat) : Bool := r1 s Reg.sessionState slot = 1 || r1 s Reg.sessionState slot = 2

/-- The Curator executes requests: it runs an image or has found none (R420, R460). -/
def serves (s : State) : Bool := decide (s.pwr.phase = .on) && decide (s.pwr.curator ≠ .booting)

/-- A write of a session reaches the Catalogue (R58, R72, R460). -/
def reaches (s : State) (slot : Nat) : Bool := serves s && slotOpen s slot

/-- A row outside the table, or a row of an object that is no TABLE (kind 0x1). -/
def rowBad (e : Entry) (row : Nat) : Bool :=
  match e.ty with
  | .table _ => decide (e.rowLimit ≤ row)
  | _ => decide (row ≠ 0)

/-- An operation that the access class does not accept (kind 0x2, R48). -/
def classBad (op : OpKind) (a : Acc) : Bool :=
  match op, a with
  | .read, .wo => true
  | .read, _ => false
  | .write, .ro => true
  | .write, .rs => true
  | .write, _ => false
  | .stage, .rs => false
  | .stage, _ => true

/-- The seal is open (R408). -/
def sealIsOpen (s : State) : Bool := decide (r0 s Reg.sealState = 2)

/-- The kind under which a request is a violation, none if it is accepted: the first in table order (R55). -/
def judge (s : State) (op : OpKind) (slot idx sub row : Nat) (value : Option Bytes) : Option Nat :=
  match visible s slot idx sub with
  | none => some 0
  | some e =>
    if rowBad e row then some 1
    else if classBad op e.acc then some 2
    else
      match value with
      | none => none
      | some l =>
        let v := decodeVal e.ty l
        if l.length ≠ e.ty.len then some 3
        else if rangeBad s e idx sub v then some 4
        else if reservedBad e idx sub v then some 5
        else if op = .write ∧ e.acc = .seal ∧ !sealIsOpen s then some 6
        else none

/-- Record a violation (R56, R60). -/
def violate (opcode slot idx sub row seq item kind : Nat) (s : State) : State :=
  let s := inc Reg.sessionViolations slot s
  let s := inc Reg.sessionViolationKinds (slot * 16 + kind) s
  w1 Reg.sessionLastViolation slot
    (ofLE (bytesLE 2 idx ++ bytesLE 1 sub ++ bytesLE 1 (0x80 + kind) ++ bytesLE 4 row ++ bytesLE 4 seq ++
      bytesLE 1 opcode ++ bytesLE 1 item ++ bytesLE 2 0)) s

/-- The sub-index under which an object is held: the port slot of a per-port object (R115), none for an absent port. -/
def storeSub (s : State) (idx sub : Nat) : Option Nat :=
  match entryAt idx with
  | some e => if e.perPort then slotOf s sub else some sub
  | none => some sub

/-- One write of a request that is being executed, under its opcode: a violation is counted and changes nothing; an
accepted value reaches `eff`, which is the object's effect, at the sub-index that holds the object; an absent port changes
nothing (R115). An earlier write of the same request may have closed the session: this one is judged and executed all the
same, and counted under the slot, since the request was accepted whole (R69; DEDUCED, log 63). -/
def catWriteAs (opcode : Nat) (w : WriteReq) (idx sub row : Nat) (eff : Nat → Nat → State → State) (s : State) : State :=
  match judge s .write w.slot.val idx sub row (some w.value) with
  | some kind => violate opcode w.slot.val idx sub row w.sequence.toNat w.item.toNat kind s
  | none =>
    match entryOf idx sub, storeSub s idx sub with
    | some e, some st => eff st (decodeVal e.ty w.value) s
    | _, _ => s

/-- Something comes behind what waits for a fuse (R53, R410). -/
def waitBehind (x : SealWait) (s : State) : State := { s with vit := { s.vit with waiting := s.vit.waiting ++ [x] } }

/-- A write of a session, as a WRITE carries it: it reaches the Catalogue while the session is open (R58, R72), and waits
behind what waits for a fuse (R53). -/
def catWrite (w : WriteReq) (idx sub row : Nat) (eff : Nat → Nat → State → State) (s : State) : State :=
  if !reaches s w.slot.val then s
  else if s.vit.waiting.isEmpty then catWriteAs 4 w idx sub row eff s
  else waitBehind (.write idx sub row w) s

/-- The effect of an RW object whose write only replaces the value. -/
def effStore (idx row : Nat) (st v : Nat) (s : State) : State := wr idx st row v s

/-- The effect of a BOOL command: 0x01 acts, 0x00 does nothing (R50). -/
def effBool (f : Nat → State → State) (st v : Nat) (s : State) : State := if v = 1 then f st s else s

end Sys2Proof.Machine
end

