-- ==== Sys2Proof/Machine/Gates.lean ====
section
/-! DEFINITION. Scheduled traffic (chapter 7): the position in a gate control list, admission with the guard band, the
pending switch, and promotion. -/

namespace Sys2Proof.Machine

def gateInit : GateSt := { retained := none, switchAt := 0 }

def getGate (s : State) (slot : Nat) : GateSt := tget (fun _ => gateInit) s.gates slot

def setGate (slot : Nat) (g : GateSt) (s : State) : State :=
  { s with gates := tset (fun _ => gateInit) s.gates slot g }

/-- The live list of a slot: entries 0 to GateListLength - 1 and the cycle (R170). -/
def liveSched (s : State) (slot : Nat) : Sched :=
  { entries := (List.range (r1 s Reg.gateListLength slot)).map (fun j =>
      let v := rd s Reg.gateControlList slot j
      (field v 39 32, field v 31 0)),
    cycle := r1 s Reg.gateCycleTime slot }

/-- The list the gate engine runs at a counter reading (R174). -/
def schedAt (s : State) (slot v : Nat) : Sched :=
  match (getGate s slot).retained with
  | some r => if v < (getGate s slot).switchAt then r else liveSched s slot
  | none => liveSched s slot

/-- Walk the entries from position `acc`: the entry in force at `pos`, its states and where it ends; entries of interval
0 are skipped; the last entry that counts stays in force to the cycle's end (R170). Positions in 2^-40 ns. -/
def walkEntries (cycle pos : Nat) : List (Nat × Nat) → Nat → Nat → Option (Nat × Nat × Nat) → Option (Nat × Nat × Nat)
  | [], _, _, last => last.map (fun l => (l.1, l.2.1, cycle))
  | (st, iv) :: t, j, acc, last =>
    if iv = 0 then walkEntries cycle pos t (j + 1) acc last
    else
      let stop := acc + iv * 2 * 2 ^ 40
      if pos < stop then some (j, st, min stop cycle)
      else walkEntries cycle pos t (j + 1) stop (some (j, st, cycle))

/-- The entry in force at a reading, its states, and the reading at which it ends; none while the list holds every gate
open (R170, R172). -/
def entryAtReading (sc : Sched) (v : Nat) : Option (Nat × Nat × Nat) :=
  let c := sc.cycle * 2 ^ 40
  if c = 0 then none
  else
    (walkEntries c (v % c) sc.entries 0 0 none).map (fun e => (e.1, e.2.1, v - v % c + e.2.2))

/-- GateEntryNow and GateStatesNow at a reading. -/
def gatePosition (s : State) (slot v : Nat) : Nat × Nat :=
  match entryAtReading (schedAt s slot v) v with
  | some e => (e.1, e.2.1)
  | none => (0xFFFF, 0xFF)

/-- The reading at which the running list next changes its entry; none where it never does before S. -/
def nextGateBoundary (s : State) (slot v : Nat) : Option Nat :=
  let g := getGate s slot
  let stop := (entryAtReading (schedAt s slot v) v).map (fun e => e.2.2)
  if g.retained.isSome ∧ v < g.switchAt then
    match stop with
    | some e => some (min e g.switchAt)
    | none => some g.switchAt
  else stop

/-- Bring GateEntryNow, GateStatesNow and a switch that is due to the position of the counter. -/
def syncGate (slot : Nat) (s : State) : State :=
  if !running s 4 then s
  else
    let g := getGate s slot
    let s :=
      if g.retained.isSome ∧ g.switchAt ≤ s.counter then w1 Reg.gateSwitchPending slot 0 (setGate slot gateInit s) else s
    let p := gatePosition s slot s.counter
    w1 Reg.gateEntryNow slot p.1 (w1 Reg.gateStatesNow slot p.2 s)

/-- Gate c stays open from reading v for `need` units: look ahead entry by entry, across cycle ends and across S (R175). -/
def staysOpen (s : State) (slot c : Nat) : Nat → Nat → Nat → Bool
  | 0, _, _ => true
  | fuel + 1, v, stop =>
    let sc := schedAt s slot v
    match entryAtReading sc v with
    | none =>
      match nextGateBoundary s slot v with
      | some n => if stop ≤ n then true else staysOpen s slot c fuel n stop
      | none => true
    | some e =>
      if !e.2.1.testBit c then false
      else
        match nextGateBoundary s slot v with
        | some n => if stop ≤ n then true else staysOpen s slot c fuel n stop
        | none => true

/-- The guard band of L bytes at the speed of a slot, in units of the counter, rounded up (R175). -/
def guardUnits (s : State) (slot bytes : Nat) : Nat := ceilDiv (bytesTime s slot (bytes + 20) * 2 ^ 40) 1000

/-- The gate of queue c is open at this instant. -/
def gateOpen (s : State) (slot c : Nat) : Bool := (gatePosition s slot s.counter).2.testBit c

/-- The reading of this instant, between those of two time-clock cycles: a start is known to the core cycle (R175). -/
def readingNow (s : State) : Nat := s.counter + ceilDiv (s.now % 2000 * s.increment) 2000

/-- The gate of queue c admits a frame of L bytes now (R175). -/
def gateAdmits (s : State) (slot c bytes : Nat) : Bool :=
  gateOpen s slot c && staysOpen s slot c 16384 s.counter (readingNow s + guardUnits s slot bytes)

/-! Queues as the transmitter sees them (R129, R146, R177). -/

/-- The PortMaxFrame that applies to a frame in reception on a slot, else the one in force (R122). -/
def limitOf (s : State) (slot id : Nat) : Nat :=
  match (getPort s slot).rx with
  | some x => if x.frame = some id then x.limit else r1 s Reg.portMaxFrame slot
  | none => r1 s Reg.portMaxFrame slot

/-- The bytes by which the guard band judges a copy: a stored copy's length, a cut-through copy's PortMaxFrame at its
ingress (R175). -/
def copyLength (s : State) (q : QEntry) : Nat :=
  match getFrame s q.frame with
  | none => 0
  | some f =>
    if q.cut then (match f.origin with | .ingress i => limitOf s i f.id | _ => f.bytes.length)
    else f.bytes.length

/-- The head may begin in every respect but its gate: it is whole or cuts through, and the queue is not held. -/
def readyButGate (s : State) (slot c : Nat) : Bool :=
  match headOf s slot c with
  | none => false
  | some q =>
    !isHeld s slot c && (q.cut || (match getFrame s q.frame with | some f => f.whole | none => false))

/-- Queue c is ready (R146). -/
def queueReady (s : State) (slot c : Nat) : Bool :=
  readyButGate s slot c &&
    (match headOf s slot c with | some q => gateAdmits s slot c (copyLength s q) | none => false)

/-- Queue c is promoted (R177). -/
def isPromoted (s : State) (slot c : Nat) : Bool := (r1 s Reg.starvePromoted slot).testBit c

/-- The queue a port serves next: promoted ready queues first, the higher class first (R146, R177). -/
def selectQueue (s : State) (slot : Nat) : Option Nat :=
  let down := (List.range 8).reverse
  match down.find? (fun c => isPromoted s slot c && queueReady s slot c) with
  | some c => some c
  | none => down.find? (fun c => queueReady s slot c)

/-- Age of the head of queue c in µs (R155). -/
def headAge (s : State) (slot c : Nat) : Option Nat :=
  (headOf s slot c).bind (fun q => (getFrame s q.frame).map (fun f => coreMicros s - f.arrival))

/-- Promotion ends when the queue is empty, its head is not past StarveLimit, or StarveLimit disables it (R177). -/
def judgePromotion (slot c : Nat) (s : State) : State :=
  if isPromoted s slot c then
    match headAge s slot c with
    | some a =>
      if r1 s (Reg.starveLimit + c) slot ≠ 0 ∧ r1 s (Reg.starveLimit + c) slot < a then s
      else w1 Reg.starvePromoted slot (setBit (r1 s Reg.starvePromoted slot) c false) s
    | none => w1 Reg.starvePromoted slot (setBit (r1 s Reg.starvePromoted slot) c false) s
  else s

/-- The head of queue c may begin in every respect but its gate, at an instant up to which nothing else of it changed. -/
def readyAt (s : State) (slot c t : Nat) : Bool :=
  match headOf s slot c with
  | none => false
  | some q =>
    decide (heldUntil (getPort s slot) c ≤ t) && (q.cut || (match getFrame s q.frame with | some f => f.whole | none => false))

/-- The instant at which the counter read v, at the increment in force. -/
def instantOfPast (s : State) (v : Nat) : Nat := s.now - (s.counter - v) / max s.increment 1 * 2000

/-- Between two readings gate c closed while the head of its queue was ready in every other respect: just before the close
only the guard band kept it back (R176). -/
def closedOver (s : State) (slot c : Nat) : Nat → Nat → Nat → Bool
  | 0, _, _ => false
  | fuel + 1, v, stop =>
    match nextGateBoundary s slot v with
    | none => false
    | some b =>
      if stop < b then false
      else
        ((gatePosition s slot v).2.testBit c && !(gatePosition s slot b).2.testBit c && readyAt s slot c (instantOfPast s b)) ||
        closedOver s slot c fuel b stop

/-- GuardDeferrals: once per head frame that only its guard band keeps back, now or since the gates were last judged
(R176). -/
def judgeDeferral (slot c : Nat) (s : State) : State :=
  match headOf s slot c with
  | none => s
  | some q =>
    if !q.deferred && ((readyButGate s slot c && gateOpen s slot c && !gateAdmits s slot c (copyLength s q)) ||
        closedOver s slot c 16384 s.core.judgedTo s.counter) then
      classEvent 2 slot c 5 1 (inc (Reg.guardDeferrals + c) slot
        (modPort slot (fun p =>
          { p with queue := (p.queue.map (fun e => if e.frame = q.frame then { e with deferred := true } else e)) }) s))
    else s

/-- Every queue is judged up to now, before something changes a head, a hold or a gate list (R176), and every port is
brought to the position of the counter. -/
def judgeGates (s : State) : State :=
  let s := if running s 4 then forL (portSlots s) (fun slot s => syncGate slot (forN 8 (fun c s => judgeDeferral slot c s) s)) s else s
  { s with core := { s.core with judgedTo := s.counter } }

/-! Time (R284), and the cycles of level sources in it (R370). -/

/-- Core cycles between two instants. -/
def coreSpan (a b : Nat) : Nat := b / 800 - a / 800

/-- Core cycles from instant a, at which the counter reads v, to t in which gate c of a slot is closed. -/
def closedCycles (s : State) (slot c : Nat) : Nat → Nat → Nat → Nat → Nat
  | 0, _, _, _ => 0
  | fuel + 1, v, a, t =>
    let n := nextGateBoundary s slot v
    let e := match n with | some b => min (instantOfReading s b) t | none => t
    let here := if (gatePosition s slot v).2.testBit c then 0 else coreSpan a e
    match n with
    | some b => if e < t then here + closedCycles s slot c fuel b e t else here
    | none => here

/-- Queue c of a slot holds a frame. -/
def queueFilled (s : State) (slot c : Nat) : Bool := (getPort s slot).queue.any (fun q => decide (q.cls = c))

/-- The condition of a level source that stays as it is until the next command (R370). -/
def levelHolds (s : State) (block event inst : Nat) : Bool :=
  let slot := slotOf s (if block = 1 then inst else inst / 8)
  let at1 (p : Nat → Bool) : Bool := match slot with | some k => p k | none => false
  match block, event with
  | 1, 3 => at1 (fun k => (getPort s k).tx.isSome)
  | 2, 2 => at1 (fun k => queueFilled s k (inst % 8))
  | 2, 4 => at1 (fun k => isPromoted s k (inst % 8))
  | 3, 1 => at1 (fun k => (getAcct s k (inst % 8)).xoff)
  | 3, 3 => at1 (fun k => decide (0 < (getAcct s k (inst % 8)).h))
  | 4, 3 => decide (sharedFreeOf s = 0)
  | 6, 3 => decide (r1 s Reg.laneAdaptFrozen inst = 1)
  | 6, 4 => decide (4 ≤ r1 s Reg.reserveState inst)
  | 7, 3 => s.comb.windows.any (fun w => decide (w.group = inst))
  | _, _ => false

/-- Cycles from now to instant t in which a level source holds (R370): a hold ends with its timers, a gate with its entries. The
Curator's jobs are counted when their tick ends. -/
def levelCycles (s : State) (t block event inst : Nat) : Nat :=
  match block, event with
  | 1, 4 =>
    (match slotOf s inst with
     | some k => coreSpan s.now (min t ((List.range 8).foldl (fun m c => max m (heldUntil (getPort s k) c)) 0))
     | none => 0)
  | 5, 2 => coreSpan s.now (max s.now (min t (tget (fun _ => (0, 0)) s.core.pipes inst).2))
  | 2, 3 =>
    (match slotOf s (inst / 8) with
     | some k => if queueFilled s k (inst % 8) then closedCycles s k (inst % 8) 16384 s.counter s.now t else 0
     | none => 0)
  | _, _ => if levelHolds s block event inst then coreSpan s.now t else 0

/-- A counter's ledger at instant t (R369, R371). -/
def perfPass (s : State) (t k : Nat) (p : PerfSt) : PerfSt :=
  let cfg := r1 s Reg.perfConfig k
  if perfCounts s k && decide (field cfg 31 30 = 1) then
    { p with cycles := p.cycles + levelCycles s t (field cfg 29 26) (field cfg 25 20) (field cfg 19 10) }
  else p

/-- Let time pass to instant t: the counter takes the increment in force once per time-clock cycle (R284). -/
def advanceTo (t : Nat) (s : State) : State :=
  if t ≤ s.now then s
  else { s with
    now := t, counter := s.counter + (cycleOf t - cycleOf s.now) * s.increment
    perf := s.perf.map (fun e => (e.1, perfPass s t e.1 e.2)) }

/-- Let dt ps pass. -/
def elapse (dt : Nat) (s : State) : State := advanceTo (s.now + dt) s

/-- Let time pass until the counter reads v or later. -/
def advanceToReading (v : Nat) (s : State) : State := advanceTo (instantOfReading s v) s

/-- Let dt ps pass in the switch core. -/
def passCore (dt : Nat) (s : State) : State := judgeGates (elapse dt s)

/-- A step of the counter moves every port's position; a frame in progress whose gate is closed there is an overrun
(R173). -/
def gatesAfterStep (s : State) : State :=
  let s := { s with core := { s.core with judgedTo := s.counter } }
  if !running s 4 then s
  else
    forL (portSlots s) (fun slot s =>
      let s := syncGate slot s
      match (getPort s slot).tx with
      | some t =>
        if gateOpen s slot t.cls then s
        else
          let s := inc Reg.gateOverruns slot s
          (match portOf s slot with | some p => raise (Ev.gateOverrun + p) s | none => s)
      | none => s) s

/-- The reading from which S is counted: the exact start of the tick, or the reading itself where a step left the
counter inside the tick (R11, R174). -/
def boundaryReading (s : State) : Nat :=
  let t := tickNo s * tickUnits
  if s.counter < t + 2 * s.increment then t else s.counter

/-- After an opening has put a new list of a slot live: keep the list that ran, until S (R174). -/
def pendSwitch (slot : Nat) (old : Sched) (s : State) : State :=
  let c := max 1 (r1 s Reg.gateCycleTime slot * 2 ^ 40)
  let sw := ceilDiv (boundaryReading s) c * c
  if sw ≤ s.counter then syncGate slot (w1 Reg.gateSwitchPending slot 0 (setGate slot gateInit s))
  else syncGate slot (w1 Reg.gateSwitchPending slot 1 (setGate slot { retained := some old, switchAt := sw } s))

/-! Commands. -/

/-- GATE_ENTRY_BOUNDARY (R172): the counter reaches the port's next entry boundary and the gate states change. -/
def execGateEntryBoundary (port : Fin 64) (s : State) : Host.Outcome State Fault Refusal :=
  match slotOf s port.val with
  | none => .next s
  | some slot =>
    if !running s 4 then .next s
    else
      match nextGateBoundary s slot s.counter with
      | none => .next s
      | some v => .next (judgeGates (advanceToReading v s))

/-- GATE_LIST_SWITCH (R174): at S the engine starts running the new list. -/
def execGateListSwitch (port : Fin 64) (s : State) : Host.Outcome State Fault Refusal :=
  match slotOf s port.val with
  | none => .next s
  | some slot =>
    if (getGate s slot).retained.isSome ∧ running s 4 then
      .next (judgeGates (advanceToReading (getGate s slot).switchAt s))
    else .next s

/-- STARVE_PROMOTION (R177): the head's age exceeds StarveLimit. At a limit not below MaxResidence the head is removed
before (R155). -/
def execStarvePromotion (port : Fin 64) (cls : Fin 8) (s : State) : Host.Outcome State Fault Refusal :=
  match slotOf s port.val with
  | none => .next s
  | some slot =>
    let c := cls.val
    let limit := r1 s (Reg.starveLimit + c) slot
    match (headOf s slot c).bind (fun q => getFrame s q.frame) with
    | none => .next s
    | some f =>
      if limit = 0 ∨ isPromoted s slot c ∨ r1 s Reg.maxResidence c ≤ limit then .next s
      else
        let s := advanceTo ((f.arrival + limit + 1) * 1000000) s
        .next (inc (Reg.starvePromotions + c) slot
          (w1 Reg.starvePromoted slot (setBit (r1 s Reg.starvePromoted slot) c true) s))

end Sys2Proof.Machine
end

