-- ==== Sys2Proof/Machine/Captures.lean ====
section
/-! DEFINITION. The capture of an inventory (R34, R35, R366, R368, R376-R378): what is captured, its layout, the capture that
is due at a boundary, and the clears that come after it. -/

namespace Sys2Proof.Machine

def modOpn (f : Opn → Opn) (s : State) : State := { s with opn := f s.opn }

/-! Banks (R35). -/

def getBank (s : State) (b : Nat) : Bank := if b = 0 then s.opn.bank0 else s.opn.bank1

def setBank (b : Nat) (x : Bank) (s : State) : State :=
  modOpn (fun o => if b = 0 then { o with bank0 := x } else { o with bank1 := x }) s

def bankState (s : State) (b : Nat) : Nat := r1 s Reg.inventoryBankState b

/-! Lanes whose FEC counts stand elsewhere (R105, R113). -/

def laneMode (s : State) (lane : Nat) : Nat := groupMode s (lane / 2)

/-- The group forms one port of two lanes (R113). -/
def twoLane (s : State) (lane : Nat) : Bool := decide (laneMode s lane = 1) || decide (laneMode s lane = 3)

/-- The lane is the upper lane of a two-lane port, whose FEC counts stand at the lower lane (R105). -/
def fecAtLower (s : State) (lane : Nat) : Bool := twoLane s lane && decide (lane % 2 = 1)

/-- The domains that can sleep or be unpowered (R422). -/
def switchable : List Nat := [2, 4, 5, 6, 7]

/-! What is captured. -/

/-- The index ranges of the counters outside the Vitrine and the Archive (R366, R386). -/
def counterRanges : List (Nat × Nat) := [
  (0x0034, 0x0035), (0x0048, 0x004D), (0x0053, 0x0053), (0x1002, 0x1003), (0x1025, 0x1026),
  (0x2015, 0x2015), (0x2018, 0x2018), (0x201A, 0x201A), (0x2041, 0x2042), (0x2050, 0x2052),
  (0x3005, 0x3005), (0x3021, 0x3021), (0x3030, 0x303C), (0x3040, 0x3044), (0x3048, 0x3057),
  (0x4036, 0x4037), (0x4058, 0x4067), (0x4078, 0x4083), (0x4090, 0x4093), (0x40A1, 0x40A3),
  (0x5028, 0x502F), (0x5031, 0x5031), (0x5040, 0x5047)] ++ [
  (0x6008, 0x6009), (0x6040, 0x6044), (0x6050, 0x6058), (0x7012, 0x7012), (0x7023, 0x7023), (0x7044, 0x7044),
  (0x7056, 0x7056), (0x710C, 0x710E), (0x7125, 0x7127), (0x7146, 0x7146), (0x7152, 0x7153), (0x7206, 0x7206),
  (0x7208, 0x7209), (0x7309, 0x730B), (0x8020, 0x8024), (0x8026, 0x8026), (0x8050, 0x8057), (0x9012, 0x9012),
  (0x9016, 0x9018), (0x9022, 0x9023), (0x9040, 0x9042), (0x9120, 0x9127)] ++ [
  (0xA105, 0xA106), (0xA205, 0xA206), (0xA305, 0xA306), (0xA405, 0xA406), (0xA505, 0xA506),
  (0xB012, 0xB012), (0xB017, 0xB017), (0xB10A, 0xB10A), (0xB10C, 0xB10C), (0xD008, 0xD00A), (0xD013, 0xD015),
  (0xE006, 0xE00D), (0xE00F, 0xE00F), (0xE014, 0xE014), (0xE103, 0xE104)]

def inRanges (l : List (Nat × Nat)) (i : Nat) : Bool := l.any (fun r => decide (r.1 ≤ i) && decide (i ≤ r.2))

/-- The gauges in cells that inventories copy (R166). -/
def gaugeRanges : List (Nat × Nat) := [(0x4030, 0x4034), (0x4040, 0x404F), (0x4068, 0x4077)]

/-- Every index that inventories copy: the counters outside the Vitrine, the Archive's among them, and the gauges. -/
def capturedIdx (i : Nat) : Bool :=
  inRanges counterRanges i || inRanges gaugeRanges i || decide (i = Reg.archiveSkipped) || decide (i = Reg.archiveOverwritten)

/-- A line of the directory: index, first and last sub-index, rows of a TABLE, bytes of a value, offset. -/
structure InvRow where
  idx : Nat
  lo : Nat
  hi : Nat
  rows : Nat
  bytes : Nat
  offset : Nat
deriving DecidableEq, Repr

/-- Bytes of a run, padded to a multiple of 8. -/
def InvRow.size (r : InvRow) : Nat := ceilDiv ((r.hi + 1 - r.lo) * max r.rows 1 * r.bytes) 8 * 8

/-- The lines of one object table line, without offsets. -/
def invLines (e : Entry) : List InvRow :=
  ((List.range e.count).filter (fun k => capturedIdx (e.idx + k))).flatMap (fun k =>
    e.subs.map (fun r =>
      { idx := e.idx + k, lo := r.1, hi := r.2, rows := e.rowLimit
        bytes := if inRanges gaugeRanges (e.idx + k) then 4 else 8, offset := 0 }))

/-- Lay runs out one after another from an offset. -/
def layInv : Nat → List InvRow → List InvRow
  | _, [] => []
  | off, r :: t => { r with offset := off } :: layInv (off + r.size) t

/-- InventoryDirectory, in ascending order, packed from offset 64 (R378; log 40). -/
def invRows : List InvRow := layInv 64 ((List.range 16).flatMap (fun x => (entriesOf x).flatMap invLines))

/-- A row of InventoryDirectory (R378). -/
def InvRow.value (r : InvRow) : Nat :=
  r.idx * 2 ^ 112 + r.lo * 2 ^ 104 + r.hi * 2 ^ 96 + r.rows * 2 ^ 72 + r.bytes * 2 ^ 64 + r.offset

/-- A gauge as it stands (R149, R166). -/
def gaugeValue (s : State) (idx slot : Nat) : Nat :=
  if 0x4068 ≤ idx ∧ idx ≤ 0x406F then queueDepth s slot (idx - 0x4068)
  else if 0x4070 ≤ idx ∧ idx ≤ 0x4077 then r1 s idx slot
  else if 0x4040 ≤ idx ∧ idx ≤ 0x4047 then (getAcct s slot (idx - 0x4040)).s
  else if 0x4048 ≤ idx ∧ idx ≤ 0x404F then (getAcct s slot (idx - 0x4048)).h
  else
    match idx with
    | 0x4030 => bufferFreeOf s
    | 0x4031 => r0 s Reg.bufferMinFreeCells
    | 0x4032 => sharedCellsOf s
    | 0x4033 => sharedFreeCells s
    | 0x4034 => overcommitOf s
    | _ => 0
where
  sharedFreeCells (s : State) : Nat := sharedFreeOf s

/-- The counters as they are captured, by logical port where they are one per port (R35, R115). -/
def captureCounters (s : State) : List (Nat × Nat) :=
  s.regs.filterMap (fun e =>
    let i := keyIdx e.1
    if !capturedIdx i || inRanges gaugeRanges i || (decide (0x2050 ≤ i ∧ i ≤ 0x2052) && fecAtLower s (keySub e.1)) then none
    else
      match entryAt i with
      | some x =>
        if x.perPort then (portOf s (keySub e.1)).map (fun p => (objKey i p (keyRow e.1), e.2)) else some e
      | none => none)

/-- The gauges that are not 0. -/
def captureGauges (s : State) : List (Nat × Nat) :=
  let single := (List.range 5).map (fun k => (objKey (0x4030 + k) 0 0, gaugeValue s (0x4030 + k) 0))
  let idxs := (List.range 16).map (fun k => 0x4040 + k) ++ (List.range 16).map (fun k => 0x4068 + k)
  let ports := idxs.flatMap (fun i => ((portSlots s).zipIdx).map (fun p => (objKey i p.2 0, gaugeValue s i p.1)))
  (single ++ ports).filter (fun e => decide (e.2 ≠ 0))

/-- AsleepDomains (R377). -/
def asleepDomains (s : State) : Nat := switchable.foldl (fun a d => if asleep s d then a + 2 ^ d else a) 0

/-- An armed bank captures in the boundary cycle (R35), TxHeldTime with what runs of a hold (R127), GuardDeferrals
with what is yet to be judged (R176). -/
def captureBank (b : Nat) (s : State) : State :=
  let x := getBank s b
  if bankState s b = 1 ∧ !x.captured ∧ x.tick ≤ tickNo s then
    let s := forN 64 settleHolds (judgeGates s)
    setBank b { x with captured := true, snap := captureCounters s ++ captureGauges s, counter := s.boundaryReading,
                       sequence := r0 s Reg.tickSequence, asleep := asleepDomains s, servo := r0 s Reg.servoState,
                       takenAt := tickNo s } s
  else s

/-- Every capture that is due (R14, R35). -/
def captureDue (s : State) : State := captureBank 1 (captureBank 0 s)

/-- The effect of a clear object: where a capture is due in its core cycle, the capture holds the values before the clear
(R368). -/
def effClear (f : Nat → State → State) (st v : Nat) (s : State) : State := effBool (fun k s => f k (captureDue s)) st v s

end Sys2Proof.Machine
end

