-- ==== Sys2Proof/Machine/Combiner.lean ====
section
/-! DEFINITION. The Combiner (chapter 8): tables in force, the store, contributions, windows and their output. -/

namespace Sys2Proof.Machine

/-- The tables of R205 as the live objects hold them. -/
def liveTables (s : State) : CombTables :=
  { groups := rowsOf s Reg.groupTable 0,
    windows := (List.range 16).flatMap (fun t => (rowsOf s Reg.windowTable t).map (fun r => (t * 64 + r.1, r.2))),
    counts := (List.range 16).map (fun t => (t, r1 s Reg.windowCount t)) }

/-- The tables the Combiner runs. -/
def tablesInForce (s : State) : CombTables :=
  match s.comb.retained with
  | some t => t
  | none => liveTables s

def groupRowOf (s : State) (g : Nat) : Nat := tget (fun _ => 0) (tablesInForce s).groups g
def windowRowOf (s : State) (t j : Nat) : Nat := tget (fun _ => 0) (tablesInForce s).windows (t * 64 + j)
def windowCountOf (s : State) (t : Nat) : Nat := tget (fun _ => 0) (tablesInForce s).counts t

/-! Fields of a group row (R181). -/

def grpValid (r : Nat) : Bool := r.testBit 255
def grpTable (r : Nat) : Nat := field r 253 250
def grpStreams (r : Nat) : Nat := field r 249 248 + 1
def grpDepth (r : Nat) : Nat := field r 247 246 + 1
def grpPrbs (r : Nat) : Nat := field r 245 237
def grpWidth (r : Nat) : Nat := field r 236 233

/-- Bytes of store that a group row needs (R200). -/
def storeNeed (r : Nat) : Nat := if grpValid r then grpStreams r * grpDepth r * grpPrbs r * 72 else 0

/-- Lay the store out in ascending group order (R200): GroupState, CombinerStoreUsed, CombinerOvercommit and its event.
A group that becomes active starts its SEQ_IDs at 0 (R184). -/
def layoutStore (s : State) : State :=
  let cap := r0 s Reg.combinerStoreBytes
  let step (g : Nat) (p : Nat × Nat × State) : Nat × Nat × State :=
    let r := groupRowOf p.2.2 g
    let need := storeNeed r
    let total := p.2.1 + need
    if !grpValid r then (p.1, total, wr Reg.groupState 0 g 0 p.2.2)
    else if p.1 + need ≤ cap then
      let t := p.2.2
      let t := if rd t Reg.groupState 0 g = 1 then t
        else { t with comb := { t.comb with seq := t.comb.seq.filter (fun e => e.1 / 4 ≠ g) } }
      (p.1 + need, total, wr Reg.groupState 0 g 1 t)
    else (p.1, total, wr Reg.groupState 0 g 2 p.2.2)
  let r := forN 256 step (0, 0, s)
  let s := w0 Reg.combinerOvercommit (r.2.1 - cap) (w0 Reg.combinerStoreUsed r.1 r.2.2)
  setLive Ev.combOvercommit (decide (cap < r.2.1)) s

/-! Contributions (R183-R190). -/

/-- The rows of ContributorTable that are valid, with their numbers. -/
def contributorRows (s : State) : List Nat :=
  ((rowsOf s Reg.contributorTable 0).map (·.2)).filter (fun v => v.testBit 63)

def ctrGroup (r : Nat) : Nat := field r 62 55
def ctrNumber (r : Nat) : Nat := field r 54 51
def ctrStream (r : Nat) : Nat := field r 50 49
def ctrPort (r : Nat) : Nat := field r 48 43
def ctrPcId (r : Nat) : Nat := field r 42 27

/-- A row that can match: its group valid and its stream below the group's count (R182). -/
def ctrMatches (s : State) (r : Nat) : Bool :=
  let g := groupRowOf s (ctrGroup r)
  grpValid g && decide (ctrStream r < grpStreams g)

/-- The row that takes an eCPRI frame with message type 0x00 on a port (R183). -/
def contributorFor (s : State) (port pcId : Nat) : Option Nat :=
  (contributorRows s).find? (fun r => decide (ctrPort r = port) && decide (ctrPcId r = pcId) && ctrMatches s r)

/-- The group and stream that take a downlink frame (R201). -/
def downlinkFor (s : State) (port pcId : Nat) : Option (Nat × Nat) :=
  ((List.range 256).flatMap (fun g => (List.range 4).map (fun st => (g, st)))).find? (fun p =>
    let r := groupRowOf s p.1
    grpValid r && r.testBit 254 && decide (rd s Reg.groupState 0 p.1 ≠ 2) && decide (p.2 < grpStreams r) &&
    decide (field r 190 185 = port) && decide (field r (15 + 16 * p.2) (16 * p.2) = pcId))

/-- The ports of a group's stream and the PcId of the lowest row that names each (R201, R202). -/
def downlinkPorts (s : State) (g st : Nat) : List (Nat × Nat) :=
  (contributorRows s).foldl (fun l r =>
    if ctrGroup r = g ∧ ctrStream r = st ∧ !(l.any (fun e => e.1 = ctrPort r)) then l ++ [(ctrPort r, ctrPcId r)] else l) []

/-- The contributors expected for a stream (R182). -/
def expected (s : State) (g st : Nat) : List Nat :=
  ((contributorRows s).filter (fun r => ctrGroup r = g && ctrStream r = st)).foldl
    (fun l r => if l.contains (ctrNumber r) then l else l ++ [ctrNumber r]) []

/-- Bytes of a PRB block (R186, R187). -/
def blockSize (w : Nat) : Nat := if w = 0 then 48 else 1 + 3 * w

/-- A section: its header and its PRB blocks. -/
structure Section where
  head : Nat
  body : Bytes
deriving DecidableEq, Repr

/-- Cut a payload into sections; the flag says whether they fill it exactly (R188). A PRB of a reserved CompWidth w, for which the
spec gives no length, is taken as 1 + 3w bytes, as the others are (DESIGN CHOICE, log 75). -/
def cutSections : Nat → Bytes → List Section × Bool
  | 0, l => ([], l.isEmpty)
  | fuel + 1, l =>
    if l.isEmpty then ([], true)
    else if l.length < 8 then ([{ head := ofLE l, body := [] }], false)
    else
      let h := leAt l 0 8
      let n := field h 40 32 * blockSize (field h 31 28)
      if l.length < 8 + n then ([{ head := h, body := l.drop 8 }], false)
      else
        let r := cutSections fuel (l.drop (8 + n))
        ({ head := h, body := slice l 8 n } :: r.1, r.2)

/-- A section on its own is malformed (R188). -/
def sectionBad (s : State) (g : Nat) (x : Section) : Bool :=
  let w := field x.head 31 28
  let b := blockSize w
  decide (field x.head 27 24 ≠ 1) || decide (field x.head 15 0 ≠ 0) || (decide (w ≠ 0) && (decide (w < 8) || decide (14 < w))) ||
  decide (windowCountOf s (grpTable g) ≤ field x.head 55 50) ||
  decide (grpPrbs g < field x.head 49 41 + field x.head 40 32) ||
  (decide (w ≠ 0) && (List.range (field x.head 40 32)).any (fun i => decide (16 ≤ beAt x.body (i * b) 1)))

/-- The 24 values of a PRB block on the 16-bit scale and how many were saturated (R186, R187). -/
def decodeBlock (w : Nat) (b : Bytes) : List Int × Nat :=
  if w = 0 then ((List.range 24).map (fun k => toSigned 16 (leAt b (2 * k) 2)), 0)
  else
    let e := beAt b 0 1 % 16
    let bits := ofBE (slice b 1 (3 * w))
    let raw := (List.range 24).map (fun k => toSigned w (bits / 2 ^ (w * (23 - k))) * 2 ^ e)
    (raw.map (fun x => clampInt (-32768) 32767 x), (raw.filter (fun x => x < -32768 || 32767 < x)).length)

/-- The millisecond a section names: the number equal to MsTag mod 256 nearest the arrival (R190); millisecond 0 where that would lie
before the epoch (DESIGN CHOICE, log 75). -/
def sectionMs (arrival tag : Nat) : Nat :=
  let now := arrival / (10 ^ 6 * 2 ^ 40)
  let d := (tag + 256 - now % 256) % 256
  if d ≤ 127 then now + d else now + d - 256

/-- The opening of window (m, j) of a table and its length, as counter readings (R189). -/
def windowSpan (row m : Nat) : Nat × Nat :=
  ((m * 10 ^ 6 + field row 50 32 * 2) * 2 ^ 40, field row 18 0 * 2 * 2 ^ 40)

/-- Add one to a contributor's counter (R207). -/
def ctrCount (idx row : Nat) (s : State) : State := count idx 0 (ctrGroup row * 16 + ctrNumber row) 1 s

def addLists (a b : List Int) : List Int := List.zipWith (fun x y => x + y) a b

/-- Add a section's samples to its window (R192, R196). -/
def addSection (w : Window) (ctr stream : Nat) (x : Section) : Window × Nat :=
  let start := field x.head 49 41
  let n := field x.head 40 32
  let width := field x.head 31 28
  let step (i : Nat) (p : Window × Nat) : Window × Nat :=
    let d := decodeBlock width (slice x.body (i * blockSize width) (blockSize width))
    let k := stream * 512 + (start + i)
    let old := tget (fun _ => []) p.1.acc k
    let new := if old.isEmpty then d.1 else addLists old d.1
    ({ p.1 with acc := tput p.1.acc k new, supplied := ((ctr * 4 + stream) * 512 + (start + i)) :: p.1.supplied }, p.2 + d.2)
  let r := forN n step (w, 0)
  let who := ctr * 4 + stream
  ({ r.1 with present := if r.1.present.contains who then r.1.present else who :: r.1.present }, r.2)

/-- The section covers a PRB its contributor has supplied (R196). -/
def duplicates (w : Window) (ctr stream : Nat) (x : Section) : Bool :=
  (List.range (field x.head 40 32)).any (fun i => w.supplied.contains ((ctr * 4 + stream) * 512 + (field x.head 49 41 + i)))

def replaceWindow (w : Window) (s : State) : State :=
  { s with comb := { s.comb with windows :=
    (s.comb.windows.map (fun v => if v.group = w.group ∧ v.ms = w.ms ∧ v.row = w.row then w else v)) } }

/-- A section comes late (R190). -/
def sectionLate (row : Nat) (s : State) : State := perfEvent 7 2 (ctrGroup row) 1 (ctrCount Reg.contributorLate row s)

/-- Judge one section of a contribution (R188, R190, R196). One that arrives within the span of a window that was never opened, after
a step, UNSET or a wake, is late (DESIGN CHOICE, log 75). -/
def judgeSection (row arrival : Nat) (x : Section) (s : State) : State :=
  let gi := ctrGroup row
  let g := groupRowOf s gi
  if sectionBad s g x then ctrCount Reg.contributorMalformed row s
  else
    let j := field x.head 55 50
    let m := sectionMs arrival (field x.head 63 56)
    match s.comb.windows.find? (fun w => w.group = gi && w.ms = m && w.row = j) with
    | some w =>
      if arrival < w.openAt then ctrCount Reg.contributorEarly row s
      else if w.closeAt ≤ arrival then sectionLate row s
      else if duplicates w (ctrNumber row) (ctrStream row) x then ctrCount Reg.contributorDuplicate row s
      else
        let r := addSection w (ctrNumber row) (ctrStream row) x
        perfEvent 7 1 gi 1 (count Reg.groupInputClips 0 gi r.2 (ctrCount Reg.contributorAccepted row (replaceWindow r.1 s)))
    | none =>
      if arrival < (windowSpan (windowRowOf s (grpTable g) j) m).1 then ctrCount Reg.contributorEarly row s
      else sectionLate row s

/-- The bytes of a frame from the eCPRI common header on. -/
def ecpriOf (s : State) (b : Bytes) : Bytes := b.drop (tagsOf s 0 b).head

/-- The Combiner reaches one contribution: every section is judged, the cells are freed (R183, R188, R200). A last section that is
not complete counts as one, and with a payload size beyond the frame the bytes up to its end, padding and FCS among them, are
cut into sections as well (DESIGN CHOICE, log 75). -/
def processContribution (c : Contribution) (s : State) : State :=
  match getFrame s c.frame with
  | none => s
  | some f =>
    let e := ecpriOf s f.bytes
    let size := beAt e 2 2
    let whole := decide (size + 4 ≤ e.length - 4)
    let cut := cutSections (size / 8 + 1) (slice e 8 (size - 4))
    let bad := decide (beAt e 0 1 / 16 ≠ 1) || decide (beAt e 0 1 % 2 = 1) || !whole || !cut.2 || decide (size < 4)
    let active := decide (rd s Reg.groupState 0 (ctrGroup c.row) = 1)
    let accepted (s : State) : Nat := rd s Reg.contributorAccepted 0 (ctrGroup c.row * 16 + ctrNumber c.row)
    let before := accepted s
    let s := if bad || !active then forL cut.1 (fun _ s => ctrCount Reg.contributorMalformed c.row s) s
      else forL cut.1 (fun x s => judgeSection c.row c.arrival x s) s
    endRef c.frame combinerSlot (if accepted s = before then 7 else 6) s

/-- The servo is in UNSET (R292). -/
def servoUnset (s : State) : Bool := decide (r0 s Reg.servoState = 0)

/-- A frame of the Combiner's that the Combiner cannot take: asleep, or unset (R203, R206). -/
def combinerRefuses (s : State) : Option (State → State) :=
  if !running s 7 then some (inc0 Reg.combinerAsleepDiscards)
  else if servoUnset s then some (inc0 Reg.combinerUnsetDiscards)
  else none

/-- The counter as read at the core edge at or after now: 1.25 GHz edges, the arrival instant of a contribution (R190). -/
def coreEdgeReading (s : State) : Nat :=
  s.counter + (cycleOf (ceilDiv s.now 800 * 800) - cycleOf s.now) * s.increment

/-- Every contribution that arrived before a reading is added (R198). -/
def drainBefore (v : Nat) (s : State) : State :=
  let due := s.comb.waiting.filter (fun c => c.arrival < v)
  let s := { s with comb := { s.comb with waiting := s.comb.waiting.filter (fun c => v ≤ c.arrival) } }
  forL due processContribution s

/-! Output (R193-R199). -/

/-- Step 1 and 2 of R193. -/
def outValue (shift : Nat) (a : Int) : Int :=
  clampInt (-32768) 32767 (if shift = 0 then a else (a + 2 ^ (shift - 1)) / 2 ^ shift)

def outSaturates (shift : Nat) (a : Int) : Bool :=
  let t := if shift = 0 then a else (a + 2 ^ (shift - 1)) / 2 ^ shift
  decide (t < -32768) || decide (32767 < t)

/-- A mantissa at exponent e (R194). -/
def mantissa (e : Nat) (v : Int) : Int := if e = 0 then v else (v + 2 ^ (e - 1)) / 2 ^ e

/-- The smallest exponent for which all mantissas fit w bits (R194). -/
def pickExponent (w : Nat) (vs : List Int) : Nat :=
  ((List.range 16).find? (fun e => vs.all (fun v =>
    decide (-(2 ^ (w - 1) : Int) ≤ mantissa e v) && decide (mantissa e v ≤ 2 ^ (w - 1) - 1)))).getD 15

/-- A PRB block on the wire (R186, R187). -/
def encodeBlock (w : Nat) (vs : List Int) : Bytes :=
  if w = 0 then vs.flatMap (fun v => bytesLE 2 (ofSigned 16 v))
  else
    let e := pickExponent w vs
    let bits := vs.foldl (fun a v => a * 2 ^ w + ofSigned w (mantissa e v)) 0
    BitVec.ofNat 8 e :: bytesBE (3 * w) bits

/-- Pad a frame to 60 bytes and append its FCS. -/
def sealFrame (b : Bytes) : Bytes :=
  let p := b ++ List.replicate (60 - b.length) 0
  p ++ bytesLE 4 (crc32Eth p)

/-- The bytes of one output frame (R184, R185, R197). -/
def outputFrame (s : State) (w : Window) (stream seq start : Nat) (blocks : List Bytes) (present : Nat) : Bytes :=
  let r := w.groupRow
  let tag := if field r 217 206 = 0 then [] else bytesBE 2 0x8100 ++ bytesBE 2 (field r 220 218 * 8192 + field r 217 206)
  let head := (w.ms % 256) * 2 ^ 56 + w.row * 2 ^ 50 + start * 2 ^ 41 + blocks.length * 2 ^ 32 + grpWidth r * 2 ^ 28 +
    2 ^ 24 + present * 2 ^ 16
  let payload := bytesLE 8 head ++ blocks.flatten
  let src := bytesBE 6 (r0 s Reg.mgtMacAddress)
  sealFrame (bytesBE 6 (field r 175 128) ++ src ++ tag ++ bytesBE 2 0xAEFE ++ [0x10, 0x00] ++
    bytesBE 2 (payload.length + 4) ++ bytesBE 2 (field r (79 + 16 * stream) (64 + 16 * stream)) ++ bytesBE 2 seq ++ payload)

/-- A new frame of the module's own in the buffer, for one port slot. -/
def placeFrame (origin : FrameOrigin) (cls vid : Nat) (bytes : Bytes) (slot : Nat) (s : State) : State :=
  let id := s.core.nextId
  let f : Frame :=
    { id := id, origin := origin, cls := cls, vid := vid, bytes := bytes, cells := ceilDiv bytes.length 128
      banks := [], arrival := coreMicros s, whole := true, stomp := false, refs := [slot], pcIds := [], pcAt := 0
      selected := none, startAt := s.now }
  let s := judgeGates s
  let u := forN f.cells (fun _ (p : List Nat × State) =>
    let l := freeLoad p.2
    match pickBank l.2 l.1 p.1 p.1 with
    | some b => (p.1 ++ [b], l.2)
    | none => (p.1, l.2)) ([], s)
  let s := setFrame { f with banks := u.1 } { u.2 with core := { u.2.core with nextId := id + 1 } }
  noteMinFree (perfEvent 4 1 0 f.cells (enqueue slot { frame := id, cls := cls, cut := false, residue := false, deferred := false } s))

/-- Management cells (R147). -/
def managementReserve : Nat := 8192

/-- A Lorak or Zutum frame of the module waits in queue 7 of its port, or is discarded when the management cells are in
use (R147); nothing leaves while D4 sleeps (R165). -/
def sendManagement (slot : Nat) (bytes : Bytes) (s : State) : State :=
  if !running s 4 then s
  else if managementReserve < cellsWhere s isManagement + ceilDiv bytes.length 128 then inc0 Reg.managementDrops s
  else placeFrame .management 7 0 bytes slot s

/-- A frame of the module with its FCS: destination, MgtMacAddress, EtherType, payload. -/
def ownFrame (s : State) (dst etherType : Nat) (payload : Bytes) : Bytes :=
  sealFrame (bytesBE 6 dst ++ bytesBE 6 (r0 s Reg.mgtMacAddress) ++ bytesBE 2 etherType ++ payload)

/-- An output frame enters its queue, or is discarded where the Combiner account is at its limit (R199), or on a port
that a standby twin protects (R455). One for a port that is absent, or while D4 sleeps and D7 does not, cannot enter a queue and is
counted and reported as such a discard (DESIGN CHOICE, log 75). -/
def sendOutput (g : Nat) (r : Nat) (bytes : Bytes) (s : State) : State :=
  let c := field r 223 221
  let n := ceilDiv bytes.length 128
  let a := getAcct s combinerSlot c
  let fits := decide ((a.s + n - 1) * 64 < (sharedFreeOf s - (n - 1)) * 2 ^ r1 s Reg.pfcAlpha c) && decide (n ≤ bufferFreeOf s)
  if twinBlocks s (field r 229 224) then inc0 Reg.twinStandbyDiscards s
  else
  match slotOf s (field r 229 224), fits && running s 4 with
  | some slot, true =>
    count Reg.groupOutputFrames 0 g 1
      (placeFrame .combiner c (field r 217 206) bytes slot (setAcct combinerSlot c { a with s := a.s + n } s))
  | _, _ => raise Ev.combDrop (count Reg.groupOutputDrops 0 g 1 s)

/-- Maximal runs of consecutive numbers in an ascending list, as (start, length). -/
def runsOf : List Nat → List (Nat × Nat)
  | [] => []
  | a :: t =>
    match runsOf t with
    | (b, n) :: r => if a + 1 = b then (a, n + 1) :: r else (a, 1) :: (b, n) :: r
    | [] => [(a, 1)]

/-- Cut a run into frames of at most k PRBs. -/
def cutRun : Nat → Nat → Nat → Nat → List (Nat × Nat)
  | 0, _, _, _ => []
  | fuel + 1, k, a, n => if n = 0 then [] else if n ≤ k then [(a, n)] else (a, k) :: cutRun fuel k (a + k) (n - k)

/-- Take the next SEQ_ID of a stream (R184); an output frame that is then discarded has used it (DESIGN CHOICE, log 75). -/
def nextSeq (k : Nat) (s : State) : Nat × State :=
  let v := tget (fun _ => 0) s.comb.seq k
  (v, { s with comb := { s.comb with seq := tset (fun _ => 0) s.comb.seq k ((v + 1) % 65536) } })

/-- Emit one stream of a closing window (R195, R197). The one frame of a stream of which only sections without PRBs were taken has
StartPrb 0 (DESIGN CHOICE, log 75). While D4 sleeps a window closes empty and raises no event (R451), what its
streams have taken before then too. -/
def emitStream (w : Window) (st : Nat) (s : State) : State :=
  let who := w.present.filter (fun p => p % 4 = st)
  let exp := expected s w.group st
  if who.isEmpty || !running s 4 then count Reg.groupEmptyWindows 0 w.group 1 s
  else
    let s := count Reg.groupWindows 0 w.group 1 s
    let s :=
      if who.length < exp.length then
        raise Ev.combPartial (w1 Reg.combinerPartialGroups (w.group / 32)
          (setBit (r1 s Reg.combinerPartialGroups (w.group / 32)) (w.group % 32) true) (count Reg.groupPartial 0 w.group 1 s))
      else s
    let shift := field w.groupRow 232 230
    let width := grpWidth w.groupRow
    let prbs := (w.acc.filter (fun e => e.1 / 512 = st)).map (fun e => e.1 % 512)
    let valuesOf (p : Nat) : List Int := tget (fun _ => []) w.acc (st * 512 + p)
    let sat := prbs.foldl (fun n p => n + ((valuesOf p).filter (outSaturates shift)).length) 0
    let s := count Reg.groupSaturations 0 w.group sat s
    let s := forN sat (fun _ s => raise Ev.combSaturation s) s
    let besides := if field w.groupRow 217 206 = 0 then 34 else 38
    let k := max 1 ((field w.groupRow 205 191 - besides) / blockSize width)
    let pieces := if prbs.isEmpty then [(0, 0)] else (runsOf prbs).flatMap (fun r => cutRun 512 k r.1 r.2)
    forL pieces (fun p s =>
      let q := nextSeq (w.group * 4 + st) s
      let blocks := (List.range p.2).map (fun i => encodeBlock width ((valuesOf (p.1 + i)).map (outValue shift)))
      sendOutput w.group w.groupRow (outputFrame q.2 w st q.1 p.1 blocks who.length) q.2) s

/-- A window leaves the list of open windows and its streams are emitted in ascending order (R195, R198). -/
def closeWindow (w : Window) (s : State) : State :=
  let w := ((s.comb.windows.find? (fun v => v.group = w.group && v.ms = w.ms && v.row = w.row)).getD w)
  let s := { s with comb := { s.comb with windows :=
    (s.comb.windows.filter (fun v => !(v.group = w.group && v.ms = w.ms && v.row = w.row))) } }
  forN (grpStreams w.groupRow) (fun st s => emitStream w st s) s

/-- Close windows before their time (R191, R204, R205): what arrived before the reading of the close is added first, as at
any close (R198). -/
def forceClose (ws : List Window) (s : State) : State :=
  let s := drainBefore s.counter s
  forL ws (fun w s => count Reg.groupForcedCloses 0 w.group 1 (closeWindow w s)) s

/-- A step of the counter closes every open window, at the reading before it, and bars the openings up to the last one
(R204). -/
def combinerBeforeStep (s : State) : State :=
  let s := if running s 7 then forceClose s.comb.windows s else s
  { s with comb := { s.comb with barrier := s.comb.lastOpen } }

/-- The servo enters UNSET (R203): no windows are open, and what waits is discarded and counted. The open windows go
without output (DEDUCED: log 66). -/
def combinerEntersUnset (s : State) : State :=
  let w := s.comb.waiting
  let s := { s with comb := { s.comb with windows := [], waiting := [] } }
  forL w (fun c s => endRef c.frame combinerSlot 7 (inc0 Reg.combinerUnsetDiscards s)) s

/-- The servo leaves UNSET: the first window to open is the first after the change (R203). -/
def combinerLeavesUnset (s : State) : State := { s with comb := { s.comb with barrier := max s.comb.barrier s.counter } }

/-! Configuration (R205). -/

/-- The valid bits and store needs of two sets of tables differ. -/
def layoutDiffers (a b : CombTables) : Bool :=
  (List.range 256).any (fun g =>
    let x := tget (fun _ => 0) a.groups g
    let y := tget (fun _ => 0) b.groups g
    decide (grpValid x ≠ grpValid y) || decide (storeNeed x ≠ storeNeed y))

/-- The switch to the live tables at the 1 ms boundary (R205). -/
def switchTables (s : State) : State :=
  match s.comb.retained with
  | none => s
  | some old =>
    let differs := layoutDiffers old (liveTables s)
    let s := if differs then forceClose s.comb.windows s else s
    let s := w0 Reg.combinerSwitchPending 0 { s with comb := { s.comb with retained := none, switchAt := 0 } }
    if differs then layoutStore s else s

/-- A switch whose 1 ms boundary has passed is made before D7 goes to sleep, and when it wakes (R205, R422). -/
def overdueSwitch (s : State) : State :=
  if s.comb.retained.isSome && decide (s.comb.switchAt ≤ s.counter) then switchTables s else s

/-- After an opening has changed the tables: retain the previous values until the next 1 ms boundary (R205). -/
def pendTables (old : CombTables) (s : State) : State :=
  let ms := 10 ^ 6 * 2 ^ 40
  let at_ := ceilDiv (boundaryReading s) ms * ms
  let s := w0 Reg.combinerSwitchPending 1
    { s with comb := { s.comb with retained := some (s.comb.retained.getD old), switchAt := at_ } }
  if at_ ≤ s.counter then switchTables s else s

/-! Commands. -/

/-- The next opening of row j of a group: the first window of the row that still lies ahead and is not barred. -/
def nextOpening (s : State) (g j : Nat) : Nat × Nat :=
  let row := windowRowOf s (grpTable (groupRowOf s g)) j
  let lastPlus := tget (fun _ => 0) s.comb.opened (g * 64 + j)
  let from_ := max (s.counter + 1 - s.increment) (max (s.comb.barrier + 1) lastPlus)
  let ms := 10 ^ 6 * 2 ^ 40
  let off := (windowSpan row 0).1
  let m := ceilDiv (from_ - off) ms
  (m, (windowSpan row m).1)

/-- WINDOW_OPEN (R190, R191): a window of the row opens with zeroed accumulators. -/
def execWindowOpen (group : Fin 256) (row : Fin 56) (s : State) : Host.Outcome State Fault Refusal :=
  let g := group.val
  let j := row.val
  let r := groupRowOf s g
  if !running s 7 || servoUnset s || decide (rd s Reg.groupState 0 g ≠ 1) || decide (windowCountOf s (grpTable r) ≤ j) then .next s
  else
    let n := nextOpening s g j
    let s := advanceToReading n.2 s
    let mine := s.comb.windows.filter (fun w => w.group = g)
    let s := if grpDepth r ≤ mine.length then forceClose (mine.take 1) s else s
    let w : Window :=
      { group := g, ms := n.1, row := j, openAt := n.2
        closeAt := n.2 + (windowSpan (windowRowOf s (grpTable r) j) n.1).2
        groupRow := r, acc := [], supplied := [], present := [] }
    let c := { s.comb with windows := s.comb.windows ++ [w], lastOpen := n.2 }
    .next { s with comb := { c with opened := tput c.opened (g * 64 + j) (n.2 + 1) } }

/-- COMBINER_ADD (R190): the oldest waiting contribution is parsed, judged and added. -/
def execCombinerAdd (s : State) : Host.Outcome State Fault Refusal :=
  match s.comb.waiting with
  | [] => .next s
  | c :: t =>
    if running s 7 then .next (processContribution c { s with comb := { s.comb with waiting := t } }) else .next s

/-- WINDOW_CLOSE (R195): the group's oldest open window reaches its close. -/
def execWindowClose (group : Fin 256) (s : State) : Host.Outcome State Fault Refusal :=
  match s.comb.windows.filter (fun w => w.group = group.val) with
  | [] => .next s
  | w :: t =>
    if !running s 7 then .next s
    else
      let first := t.foldl (fun a b => if b.closeAt < a.closeAt then b else a) w
      let s := advanceToReading first.closeAt s
      .next (closeWindow first (drainBefore first.closeAt s))

/-- COMBINER_CONFIG_SWITCH (R205). -/
def execCombinerConfigSwitch (s : State) : Host.Outcome State Fault Refusal :=
  if s.comb.retained.isSome ∧ running s 7 then .next (switchTables (advanceToReading s.comb.switchAt s)) else .next s

/-- Every counter of the chapter and CombinerPartialGroups to 0 (R207). -/
def clearCombiner (s : State) : State :=
  dropRange 0x6040 0x6058 (dropIdx Reg.combinerPartialGroups (dropRange 0x6008 0x6009 s))

/-- COMBINER_COUNTER_CLEAR (R207). -/
def execCombinerCounterClear (w : WriteReq) (s : State) : Host.Outcome State Fault Refusal :=
  .next (catWrite w Reg.combinerCounterClear 0 0 (effClear (fun _ s => clearCombiner s)) s)

end Sys2Proof.Machine
end

