-- ==== Sys2Proof/Machine/Counters.lean ====
section
/-! DEFINITION. Programmable counters, clears, and the Archive (chapter 16). -/

namespace Sys2Proof.Machine

/-! Programmable counters (R369-R375). -/

/-- The gates at a tick boundary: a first gate starts, a running one loses a tick and may reach its end (R371). -/
def perfGates (k : Nat) (s : State) : State :=
  let g := r1 s Reg.perfGateTicks k
  if g = 0 ∨ g = 65535 ∨ !perfAwake s k then s
  else
    let p := getPerf s k
    if !p.started then setPerf k { p with started := true, left := g, due := false } s
    else if p.left ≤ 1 then setPerf k { p with left := 0, due := true } s
    else setPerf k { p with left := p.left - 1 } s

/-- What the counters do at a tick boundary: the ledgers of the tick are counted, then the gates. -/
def perfTick (s : State) : State := forN 64 perfGates (perfNow s)

/-- The effect of a write to PerfConfig or PerfGateTicks (R374). -/
def effPerfConfig (idx last : Nat) (k v : Nat) (s : State) : State :=
  let s := w1 Reg.perfCounter k 0 (w1 idx k v (perfAdd k last (perfFlush k s)))
  setPerf k { perfInit with live := decide (r1 s Reg.perfGateTicks k ≠ 0), since := s.now } s

/-- PERF_CONFIG_WRITE (R374). -/
def execPerfConfigWrite (counter : Fin 64) (gate : Bool) (last : Nat) (w : WriteReq) (s : State) :
    Host.Outcome State Fault Refusal :=
  let idx := if gate then Reg.perfGateTicks else Reg.perfConfig
  .next (catWrite w idx counter.val 0 (effPerfConfig idx last) s)

/-- The effect of a preset: the increment of the cycle is added to it (R373); a gate end that is due takes the old value. -/
def effPerfPreset (last : Nat) (k v : Nat) (s : State) : State :=
  let s := perfFlush k s
  perfAdd k last (setPerf k { getPerf s k with since := s.now } (w1 Reg.perfCounter k v s))

/-- The effect of a write to PerfThreshold: what the counter has counted by now moved it against the old one (R375). -/
def effPerfThreshold (k v : Nat) (s : State) : State := w1 Reg.perfThreshold k v (perfFlush k s)

/-- PERF_COUNTER_PRESET (R373). -/
def execPerfCounterPreset (counter : Fin 64) (last : Nat) (w : WriteReq) (s : State) : Host.Outcome State Fault Refusal :=
  .next (catWrite w Reg.perfCounter counter.val 0 (effPerfPreset last) s)

/-- PERF_GATE_END (R371). -/
def execPerfGateEnd (counter : Fin 64) (s : State) : Host.Outcome State Fault Refusal :=
  if (getPerf s counter.val).due then .next (perfGateEnd counter.val s) else .next s

/-- The set bits clear PerfOverflow, of the wraps up to now (R372). -/
def effPerfOverflowClear (_ v : Nat) (s : State) : State :=
  let s := perfNow s
  let o := r0 s Reg.perfOverflow
  w0 Reg.perfOverflow (o - (o &&& v)) s

/-- PERF_OVERFLOW_CLEAR (R372). -/
def execPerfOverflowClear (w : WriteReq) (s : State) : Host.Outcome State Fault Refusal :=
  .next (catWrite w Reg.perfOverflowClear 0 0 effPerfOverflowClear s)

/-! Clears (R133, R166, R368, R386). -/

/-- PORT_COUNTER_CLEAR's effect: a port's counters, not ClassRuleHits nor PortGroupFlushed (R133); TxHeldTime of a hold that
runs counts on from 0. -/
def clearPortCounters (slot : Nat) (s : State) : State := dropSub 0x3030 0x3057 slot (settleHolds slot s)

/-- The gauges that CoreCounterClear brings to the present (R166). -/
def resetPeaks (s : State) : State :=
  let s := w0 Reg.bufferMinFreeCells (bufferFreeOf s) (dropRange 0x4070 0x4077 s)
  forL (portSlots s) (fun slot s => forN 8 (fun c s =>
    w1 (Reg.queuePeakCells + c) slot (queueDepth s slot c) s) s) s

/-- CORE_COUNTER_CLEAR's effect (R166). -/
def clearCoreCounters (s : State) : State :=
  resetPeaks (dropRange 0x4036 0x4037 (dropRange 0x4058 0x4067 (dropRange 0x4078 0x4093 (dropRange 0x40A1 0x40A3 s))))

/-- COUNTER_CLEAR_ALL's effect (R386): every counter outside the Vitrine to 0, after what a ledger, a gate end that is due, a
deferral or a running hold has yet to bring. QueuePeakCells and BufferMinFreeCells are gauges and stay (DEDUCED, log 71). -/
def clearAllCounters (s : State) : State :=
  let s := forN 64 settleHolds (judgeGates (perfNow s))
  dropIdx Reg.combinerPartialGroups
    { s with
      regs := s.regs.filter (fun e => !inRanges counterRanges (keyIdx e.1))
      perf := s.perf.map (fun e => (e.1, { e.2 with since := s.now })) }

/-- The counters of a slot that GateCounterClear sets to 0 (R180), after a deferral that has occurred and is yet to be judged
(R176). -/
def clearGateCounters (slot : Nat) (s : State) : State :=
  let s := judgeGates s
  dropSub Reg.starvePromotions (Reg.starvePromotions + 7) slot
    (dropSub Reg.gateOverruns Reg.gateOverruns slot (dropSub Reg.guardDeferrals (Reg.guardDeferrals + 7) slot s))

/-- GATE_COUNTER_CLEAR (R180). -/
def execGateCounterClear (port : Fin 64) (w : WriteReq) (s : State) : Host.Outcome State Fault Refusal :=
  .next (catWrite w Reg.gateCounterClear port.val 0 (effClear clearGateCounters) s)

/-- PORT_COUNTER_CLEAR (R133). -/
def execPortCounterClear (port : Fin 64) (w : WriteReq) (s : State) : Host.Outcome State Fault Refusal :=
  .next (catWrite w Reg.portCounterClear port.val 0 (effClear clearPortCounters) s)

/-- CLASS_RULE_HIT_CLEAR (R134). -/
def execClassRuleHitClear (w : WriteReq) (s : State) : Host.Outcome State Fault Refusal :=
  .next (catWrite w Reg.classRuleHitClear 0 0 (effClear (fun _ s => dropIdx Reg.classRuleHits s)) s)

/-- CORE_COUNTER_CLEAR (R166). -/
def execCoreCounterClear (w : WriteReq) (s : State) : Host.Outcome State Fault Refusal :=
  .next (catWrite w Reg.coreCounterClear 0 0 (effClear (fun _ s => clearCoreCounters s)) s)

/-- COUNTER_CLEAR_ALL (R386). -/
def execCounterClearAll (w : WriteReq) (s : State) : Host.Outcome State Fault Refusal :=
  .next (catWrite w Reg.counterClearAll 0 0 (effClear (fun _ s => clearAllCounters s)) s)

/-! The Archive (R379-R385). -/

/-- Records not yet read: ArchiveWriteIndex - ArchiveReadIndex (R384). -/
def archiveFill (s : State) : Nat := (r0 s Reg.archiveWriteIndex + 2 ^ 32 - r0 s Reg.archiveReadIndex) % 2 ^ 32

/-- Selection is stopped by a full ring (R384). -/
def archiveStopped (s : State) : Bool := r0 s Reg.archiveStopOnFull = 1 && 8192 ≤ archiveFill s

/-- ArchiveState. -/
def archiveStateOf (s : State) : Nat :=
  if r0 s Reg.archiveMode = 0 then 0 else if archiveStopped s then 2 else 1

/-- A frame matches ArchiveFilter (R379). -/
def archiveCandidate (s : State) (port cls : Nat) (egress : List Nat) : Bool :=
  let f := r0 s Reg.archiveFilter
  (f.testBit 31 || decide (field f 29 24 = port)) && (f.testBit 30 || egress.contains (field f 23 18)) &&
  (field f 17 10).testBit cls

/-- Within 15 core cycles of the last selection (R381). -/
def archiveTooSoon (s : State) : Bool := s.arch.lastCycle ≠ 0 && coreCycle s + 1 < s.arch.lastCycle + 16

/-- The sampler judges a candidate: whether it is selected, and the Trigger code (R380, R381). -/
def archiveJudge (port cls : Nat) (egress : List Nat) (s : State) : Option Nat × State :=
  if archiveStopped s || !archiveCandidate s port cls egress then (none, s)
  else
    match r0 s Reg.archiveMode with
    | 1 =>
      let every := r0 s Reg.archiveSampleEvery
      if every = 0 then (none, s)
      else if s.arch.count + 1 < every then (none, { s with arch := { s.arch with count := s.arch.count + 1 } })
      else
        let t := { s with arch := { s.arch with count := 0 } }
        if archiveTooSoon s then (none, inc0 Reg.archiveSkipped t) else (some 1, t)
    | 2 =>
      let s := if 0x400 ≤ r0 s Reg.archiveTriggerSource then perfFlush (r0 s Reg.archiveTriggerSource - 0x400) s else s
      if s.arch.burst = 0 then (none, s)
      else if archiveTooSoon s then (none, inc0 Reg.archiveSkipped s)
      else (some s.arch.trigger, { s with arch := { s.arch with burst := s.arch.burst - 1 } })
    | _ => (none, s)

/-- A selection takes the next slot of the ring with a record (R382, R384); answers its Sequence. -/
def archiveStore (record : Nat → Nat) (s : State) : Nat × State :=
  let i := r0 s Reg.archiveWriteIndex
  let slot := i % 8192
  let old := rd s Reg.archiveRecords 0 slot
  let s := if old ≠ 0 ∧ !(getBytes old 187 1).testBit 0 then inc0 Reg.archiveOverwritten s else s
  let s := wr Reg.archiveRecords 0 slot (record i) (w0 Reg.archiveWriteIndex ((i + 1) % 2 ^ 32) s)
  (i, { s with arch := { s.arch with lastCycle := coreCycle s + 1 } })

/-- The background job's watermark check (R385). -/
def archiveWatermarkTick (s : State) : State :=
  let f := archiveFill s
  let m := r0 s Reg.archiveWatermark
  let s := if s.arch.prevFill < m ∧ m ≤ f then raise Ev.archiveWatermark s else s
  { s with arch := { s.arch with prevFill := f } }

/-- A write to ArchiveMode, ArchiveFilter or ArchiveSampleEvery restarts the periodic count (R380); one to ArchiveMode ends a
burst that runs (DEDUCED, log 71). -/
def effArchiveConfig (idx : Nat) (_ v : Nat) (s : State) : State :=
  let s := w0 idx v s
  { s with arch := { s.arch with count := 0, burst := if idx = Reg.archiveMode then 0 else s.arch.burst } }

/-- ARCHIVE_CONFIG_WRITE (R380). -/
def execArchiveConfigWrite (object : Fin 3) (w : WriteReq) (s : State) : Host.Outcome State Fault Refusal :=
  let idx := if object.val = 0 then Reg.archiveMode else if object.val = 1 then Reg.archiveFilter else Reg.archiveSampleEvery
  .next (catWrite w idx 0 0 (effArchiveConfig idx) s)

/-- ARCHIVE_TRIGGER (R380). -/
def execArchiveTrigger (w : WriteReq) (s : State) : Host.Outcome State Fault Refusal :=
  .next (catWrite w Reg.archiveTrigger 0 0 (effBool (fun _ s => archTrigger 2 s)) s)

/-- ARCHIVE_READ_INDEX_WRITE (R384). -/
def execArchiveReadIndexWrite (w : WriteReq) (s : State) : Host.Outcome State Fault Refusal :=
  .next (catWrite w Reg.archiveReadIndex 0 0 (fun _ v s => w0 Reg.archiveReadIndex v s) s)

/-- ArchiveClear (R385): a record of a frame on its way goes with the ring. -/
def clearArchive (s : State) : State :=
  let s := w0 Reg.archiveWriteIndex 0 (w0 Reg.archiveReadIndex 0 (dropIdx Reg.archiveRecords s))
  { s with
    arch := { s.arch with count := 0 }
    core := { s.core with frames := s.core.frames.map (fun e => (e.1, { e.2 with selected := none })) }
    ports := s.ports.map (fun e => (e.1, { e.2 with rx := e.2.rx.map (fun x => { x with selected := none }) })) }

/-- ARCHIVE_CLEAR (R385). -/
def execArchiveClear (w : WriteReq) (s : State) : Host.Outcome State Fault Refusal :=
  .next (catWrite w Reg.archiveClear 0 0 (effClear (fun _ s => clearArchive s)) s)

end Sys2Proof.Machine
end

