-- ==== Sys2Proof/Machine/Vitrine.lean ====
section
/-! DEFINITION. The Vitrine (chapter 18): counting by tenant, intervals, records and their digest chain, the seal. -/

namespace Sys2Proof.Machine

/-! Counting (R399-R401). -/

/-- A row of TenantMap matches a counted frame (R400). -/
def tenantRowMatches (v dir slot vid : Nat) : Bool :=
  v.testBit 63 && v.testBit (62 - dir) && decide (field v 54 48 ≤ slot) && decide (slot ≤ field v 47 41) &&
  decide (field v 40 29 ≤ vid) && decide (vid ≤ field v 28 17)

/-- The tenant of a counted frame under the map in use; 64 is unmapped. -/
def tenantOf (s : State) (dir slot vid : Nat) : Nat :=
  match s.vit.mapInUse.find? (fun r => tenantRowMatches r.2 dir slot vid) with
  | some r => field r.2 60 55
  | none => 64

/-! Time (R402-R406). -/

/-- TimeQuality of a servo state (R291, R406): LOCKED, FREERUN, the others, UNSET. -/
def qualityOf (servo : Nat) : Nat :=
  match servo with
  | 0 => 4
  | 2 => 1
  | 3 => 2
  | _ => 3

/-- UtcOffset as a signed number of seconds. -/
def utcOffset (s : State) : Int := toSigned 16 (r0 s Reg.utcOffset)

/-- The number of whole intervals of m minutes in the UTC time of a reading (R402). -/
def intervalNumber (s : State) (m reading : Nat) : Int :=
  (((reading / 2 ^ 40 / 10 ^ 9 : Nat) : Int) - utcOffset s) / (60 * (m : Int))

/-- A close instant under the UtcOffset in force lies beyond what the open interval has reached, at or before a reading: its
next one, whatever steps the counter has made (R402, R403). -/
def closeReached (s : State) (reading : Nat) : Bool :=
  decide (intervalNumber s s.vit.interval s.vit.reached < intervalNumber s s.vit.interval reading)

/-- At a tick boundary: the open interval has reached its close instant, or runs on (R402, R403); the UtcOffset in force there
is the record's (R405). -/
def judgeClose (s : State) : State :=
  if s.vit.closing || s.vit.unopened then s
  else if closeReached s s.boundaryReading then { s with vit := { s.vit with closing := true, closeUtc := r0 s Reg.utcOffset } }
  else { s with vit := { s.vit with reached := max s.vit.reached s.boundaryReading } }

/-- The open interval is due to close (R402). -/
def intervalDue (s : State) : Bool := s.vit.closing

/-! Records (R405-R407). -/

/-- The tenants that some valid row of the map in use names, ascending. -/
def definedTenants (s : State) : List Nat :=
  (List.range 64).filter (fun t => s.vit.mapInUse.any (fun r => r.2.testBit 63 && field r.2 60 55 = t))

/-- SHA-256 over the 256 rows of a map (R404), as a Catalogue value. -/
def mapDigest (m : List (Nat × Nat)) : Nat :=
  ofLE (sha256 ((List.range 256).flatMap (fun r => bytesLE 8 (tget (fun _ => 0) m r))))

/-- FreerunSeconds at a close (R406). -/
def freerunSeconds (s : State) : Nat :=
  match s.vit.freerunAt with
  | some t => min ((r0 s Reg.tickSequence - t) / 8000) (2 ^ 32 - 1)
  | none => 0

/-- The first 384 bytes of a record that closes at a reading (R405). -/
def recordHead (s : State) (seq tenant close : Nat) (flushed : Bool) : Bytes :=
  let flags := b2n flushed + 2 * b2n s.vit.stepped + 4 * b2n s.vit.sealSeen + 8 * b2n s.vit.partialOpen +
    16 * b2n (r0 s Reg.vitrineState = 1)
  bytesLE 4 seq ++ bytesLE 1 (if tenant = 64 then 0xFF else tenant) ++ bytesLE 1 (r0 s Reg.intervalQuality) ++
  bytesLE 1 s.vit.interval ++ bytesLE 1 flags ++ bytesLE 16 (r0 s Reg.intervalOpenTime) ++
  bytesLE 16 (time128 close) ++ bytesLE 2 (if flushed then r0 s Reg.utcOffset else s.vit.closeUtc) ++ bytesLE 2 (r0 s Reg.sealEvents) ++
  bytesLE 4 (freerunSeconds s) ++
  (List.range 32).flatMap (fun k => bytesLE 8 (rd s Reg.intervalCounts 0 (tenant * 32 + k))) ++
  bytesLE 8 (r0 s Reg.moduleUid) ++ bytesLE 4 (r0 s Reg.vitrineVersion) ++ bytesLE 4 0 ++
  bytesLE 32 (r0 s Reg.tenantMapDigest) ++ bytesLE 32 (if seq = 0 then 0 else r0 s Reg.lastDigest)

/-- Write the record of one tenant: it waits to reach flash, the chain goes on at once (R405). -/
def writeRecord (close : Nat) (flushed : Bool) (tenant : Nat) (s : State) : State :=
  let seq := r0 s Reg.recordSequence
  let head := recordHead s seq tenant close flushed
  let digest := ofLE (sha256 head)
  let v := ofLE (head ++ bytesLE 32 digest)
  let s := w0 Reg.recordSequence ((seq + 1) % 2 ^ 32) (w0 Reg.lastDigest digest s)
  let by1 := if s.vit.unflashed.isEmpty then r0 s Reg.tickSequence + 80 else s.vit.flashBy
  raise Ev.intervalClosed { s with vit := { s.vit with unflashed := s.vit.unflashed ++ [(seq % 16384, v)], flashBy := by1 } }

/-- The records waiting reach flash: each row takes its record, and the record it replaces leaves its Digest in
TailDigest (R405, R407). -/
def flashRecords (s : State) : State :=
  let s := forL s.vit.unflashed (fun e s =>
    let old := rd s Reg.vitrineRecords 0 e.1
    let s := if old = 0 then s
      else w0 Reg.tailDigest (getBytes old 384 32) (w0 Reg.oldestSequence ((getBytes old 0 4 + 1) % 2 ^ 32) s)
    wr Reg.vitrineRecords 0 e.1 e.2 s) s
  { s with vit := { s.vit with unflashed := [] } }

/-- Records of which the 10 ms after their boundary end with this tick (R405, log 12). -/
def flashDue (s : State) : State :=
  if !s.vit.unflashed.isEmpty && decide (s.vit.flashBy ≤ r0 s Reg.tickSequence + 1) then flashRecords s else s

/-- The records of a close: each defined tenant, then the unmapped one (R405). -/
def writeRecords (close : Nat) (flushed : Bool) (s : State) : State :=
  writeRecord close flushed 64 (forL (definedTenants s) (fun t s => writeRecord close flushed t s) s)

/-- Open an interval at this boundary under the values in force, which none waits for any more (R404, R412). -/
def openInterval (isPartial : Bool) (s : State) : State :=
  let newLen := r0 s Reg.vitrineInterval
  let servo := r0 s Reg.servoState
  let v := { s.vit with mapInUse := rowsOf s Reg.tenantMap 0, interval := newLen, partialOpen := isPartial || decide (newLen ≠ s.vit.interval) }
  let s := { s with vit := { v with stepped := false, sealSeen := sealIsOpen s, unopened := false, reached := s.boundaryReading, closing := false
                                    freerunAt := if servo = 3 then s.vit.freerunAt else none } }
  let s := w0 Reg.tenantMapDigest (mapDigest s.vit.mapInUse) (w0 Reg.intervalOpenTime (time128 s.boundaryReading) s)
  w0 Reg.vitrinePending 0 (w0 Reg.intervalQuality (qualityOf servo) (dropIdx Reg.intervalCounts s))

/-- The open interval holds the worst quality of its ticks (R406); a tick whose boundary closes it is none of them. -/
def vitrineTick (s : State) : State :=
  let q := qualityOf (r0 s Reg.servoState)
  let s := if !intervalDue s && decide (r0 s Reg.intervalQuality < q) then w0 Reg.intervalQuality q s else s
  if s.vit.unopened then openInterval true s else s

/-- At the boundary of a close instant the interval closes and the next one opens (R402). -/
def closeDue (s : State) : State :=
  if intervalDue s then openInterval false (writeRecords s.boundaryReading false s) else s

/-- Count one frame sent (R399, R401). A close that is due comes first: the frame belongs to the new interval (R402). -/
def vitrineSent (slot vid cls len : Nat) (s : State) : State :=
  let s := closeDue s
  let row := tenantOf s 1 slot vid * 32 + 16 + cls * 2
  count Reg.intervalCounts 0 row 1 (count Reg.intervalCounts 0 (row + 1) len s)

/-- A record of a closed interval takes one more frame of a class and direction. -/
def amendRecord (k len v : Nat) : Nat :=
  let v := putBytes v (48 + 8 * k) 8 ((getBytes v (48 + 8 * k) 8 + 1) % 2 ^ 64)
  putBytes v (56 + 8 * k) 8 ((getBytes v (56 + 8 * k) 8 + len) % 2 ^ 64)

/-- The digests of waiting records are made anew, from the PrevDigest of the first on (R405). -/
def rechain : Nat → List (Nat × Nat) → List (Nat × Nat)
  | _, [] => []
  | prev, e :: t =>
    let v := putBytes e.2 352 32 prev
    let d := ofLE (sha256 (bytesLE 384 v))
    (e.1, putBytes v 384 32 d) :: rechain d t

/-- A record of the interval that closed at RecordSequence `interval`, of a tenant. -/
def isRecordOf (tenant interval v : Nat) : Bool :=
  decide (getBytes v 4 1 = if tenant = 64 then 0xFF else tenant) && decide ((getBytes v 0 4 + 2 ^ 32 - interval) % 2 ^ 32 < 65)

/-- The records waiting to reach flash take one more received frame of an interval that has closed. -/
def amendRecords (tenant interval k len : Nat) (s : State) : State :=
  let l := s.vit.unflashed.map (fun e => if isRecordOf tenant interval e.2 then (e.1, amendRecord k len e.2) else e)
  let l := rechain (match l with | e :: _ => getBytes e.2 352 32 | [] => 0) l
  let s := { s with vit := { s.vit with unflashed := l } }
  match l.getLast? with
  | some e => w0 Reg.lastDigest (getBytes e.2 384 32) s
  | none => s

/-- Count a received frame, whose end shows it to be legal, in the interval and for the tenant of its first cell (R399). A
close between the two is counted in the record, which reaches flash within 10 ms (R405); one that has reached it before
leaves the frame to the open interval (DESIGN CHOICE, log 38). -/
def vitrineReceived (tenant interval cls len : Nat) (s : State) : State :=
  let s := closeDue s
  if r0 s Reg.recordSequence ≠ interval ∧ s.vit.unflashed.any (fun e => isRecordOf tenant interval e.2) then
    amendRecords tenant interval (cls * 2) len s
  else count Reg.intervalCounts 0 (tenant * 32 + cls * 2) 1 (count Reg.intervalCounts 0 (tenant * 32 + cls * 2 + 1) len s)

/-- The time counter has stepped: backward, or forward across a close instant, which the record of the open interval tells
(R403). -/
def vitrineAfterStep (back : Bool) (s : State) : State :=
  let s := closeDue s
  if back || closeReached s s.counter then { s with vit := { s.vit with stepped := true } } else s

/-- The servo enters a state, which the open interval then holds (R406); a close that is due comes first. -/
def vitrineServo (servo : Nat) (s : State) : State :=
  let s := closeDue s
  if s.vit.unopened then s else w0 Reg.intervalQuality (max (r0 s Reg.intervalQuality) (qualityOf servo)) s

/-- INTERVAL_CLOSE (R402). -/
def execIntervalClose (s : State) : Host.Outcome State Fault Refusal := .next (closeDue s)

/-- VITRINE_RECORD_IN_FLASH (R405). -/
def execVitrineRecordInFlash (s : State) : Host.Outcome State Fault Refusal := .next (flashRecords s)

/-! The log and the seal (R408-R410). -/

/-- Add an entry to SealLog (R410). -/
def sealLogEntry (kind idx sub transport row digest : Nat) (s : State) : State :=
  let q := s.vit.nextLog
  let v := ofLE (bytesLE 4 q ++ bytesLE 1 kind ++ bytesLE 1 (qualityOf (r0 s Reg.servoState)) ++
    bytesLE 2 (r0 s Reg.sealEvents) ++ bytesLE 16 (time128 s.counter) ++ bytesLE 2 idx ++ bytesLE 1 sub ++
    bytesLE 1 transport ++ bytesLE 4 row ++ bytesLE 32 digest)
  let s := wr Reg.sealLog 0 (q % 8192) v (w0 Reg.logIndex q s)
  { s with vit := { s.vit with nextLog := (q + 1) % 2 ^ 32 } }

/-- The next fuse would be the 4,096th (R409). -/
def fusesSpent (s : State) : Bool := decide (4095 ≤ r0 s Reg.sealEvents)

def exhaust (s : State) : State := sealLogEntry 6 0 0 0 0 0 (w0 Reg.sealState 3 s)

/-- A write to a SEAL object takes effect: the value, the count, the event and the log entry (R48, R410). A close that is due takes
up the values from before it; the engine takes up what is written at the next one, and VitrinePending reads 1 until then (R404). -/
def applySeal (idx row : Nat) (w : WriteReq) (s : State) : State :=
  let s := closeDue s
  let s := inc0 Reg.sealWrites (wr idx 0 row (ofLE w.value) s)
  let s := raise Ev.sealedChange s
  w0 Reg.vitrinePending 1 (sealLogEntry 3 idx 0 (r1 s Reg.sessionTransport w.slot.val) row (ofLE (sha256 w.value)) s)

/-- The effect of a write to a SEAL object that no fuse holds up (R408-R410): the one whose fuse would be the 4,096th is a
violation. -/
def effSeal (opcode idx row : Nat) (w : WriteReq) (_ _ : Nat) (s : State) : State :=
  if s.vit.wrote || !fusesSpent s then applySeal idx row w s
  else violate opcode w.slot.val idx 0 row w.sequence.toNat w.item.toNat 6 (exhaust s)

/-- The SEAL objects. -/
def isSealed (idx : Nat) : Bool := decide (idx = Reg.tenantMap) || decide (idx = Reg.vitrineInterval)

/-- A write to a SEAL object waits for a fuse, by its judgement (R408, R410): during a burn all but those that the seal does
not decide, and the first of an open period, which burns one. -/
def fuseHolds (s : State) (judged : Option Nat) : Bool :=
  match judged with
  | none => s.vit.burning.isSome || (!s.vit.wrote && !fusesSpent s)
  | some k => decide (k = 6) && s.vit.burning.isSome

/-- What waits, the first of it for a fuse; the fuse of the first write of an open period begins to burn (R408). -/
def waitForFuse (waiting : List SealWait) (s : State) : State :=
  { s with vit := { s.vit with
      waiting := waiting, burning := if s.vit.burning.isSome then s.vit.burning else some .firstWrite } }

/-- SEAL_WRITE (R51). -/
def execSealWrite (interval : Bool) (row : BitVec 32) (w : WriteReq) (s : State) : Host.Outcome State Fault Refusal :=
  let idx := if interval then Reg.vitrineInterval else Reg.tenantMap
  if reaches s w.slot.val && s.vit.waiting.isEmpty && fuseHolds s (judge s .write w.slot.val idx 0 row.toNat (some w.value)) then
    .next (waitForFuse [.write idx 0 row.toNat w] s)
  else .next (catWrite w idx 0 row.toNat (effSeal 4 idx row.toNat w) s)

/-- D0 has power, and the Vitrine with it (R427). -/
def vitPowered (s : State) : Bool := decide (s.pwr.phase ≠ .off)

/-- SEAL_N_FALL (R408): the pin goes low; a seal that is not exhausted enters unsealing. An unpowered Vitrine samples the pin
when it starts (R412). -/
def execSealNFall (s : State) : Host.Outcome State Fault Refusal :=
  if s.vit.low then .next s
  else if !vitPowered s then .next { s with vit := { s.vit with low := true } }
  else
    let s := closeDue s
    let s := setLive Ev.sealOpen true { s with vit := { s.vit with low := true, lowAt := s.now } }
    .next (if r0 s Reg.sealState = 0 then w0 Reg.sealState 1 s else s)

/-- The pin has qualified (R408, R409): the fuse begins to burn, or the seal is exhausted. -/
def sealQualified (s : State) : State :=
  if fusesSpent s then exhaust s else { s with vit := { s.vit with burning := some .unseal } }

/-- SEAL_OPEN_QUALIFIED (R408, R409): low for 10 ms. -/
def execSealOpenQualified (s : State) : Host.Outcome State Fault Refusal :=
  if vitPowered s ∧ s.vit.low ∧ r0 s Reg.sealState = 1 ∧ s.vit.burning.isNone then
    .next (sealQualified (advanceTo (s.vit.lowAt + 10 ^ 10) s))
  else .next s

/-- A fuse has burned (R408): SealEvents rises; the seal opens where its pin is still low, or the open period has had the
fuse of its first write. -/
def fuseBurned (k : BurnKind) (s : State) : State :=
  let s := closeDue s
  let s := w0 Reg.sealEvents (r0 s Reg.sealEvents + 1) { s with vit := { s.vit with burning := none } }
  match k with
  | .unseal =>
    let s := sealLogEntry 1 0 0 0 0 0 s
    if s.vit.low ∧ r0 s Reg.sealState = 1 ∧ s.vit.lowAt + 10 ^ 10 ≤ s.now then
      { (w0 Reg.sealState 2 s) with vit := { s.vit with wrote := false, sealSeen := true } }
    else s
  | .firstWrite => if sealIsOpen s then { s with vit := { s.vit with wrote := true } } else s

/-- The pin has been low for 10 ms in the unsealing state, and its fuse does not burn yet (R408). -/
def sealQualifies (s : State) : Bool :=
  s.vit.low && decide (r0 s Reg.sealState = 1) && s.vit.burning.isNone && decide (s.vit.lowAt + 10 ^ 10 ≤ s.now)

/-- SEAL_N_RISE (R408, R410): the open or unsealing state ends at once; what the 10 ms before it had earned stands (log 12). -/
def execSealNRise (s : State) : Host.Outcome State Fault Refusal :=
  if !s.vit.low then .next s
  else if !vitPowered s then .next { s with vit := { s.vit with low := false, wrote := false } }
  else
    let s := closeDue s
    let s := if sealQualifies s then sealQualified s else s
    let was := r0 s Reg.sealState
    let s := setLive Ev.sealOpen false { s with vit := { s.vit with low := false, wrote := false } }
    let s := if was = 1 ∨ was = 2 then w0 Reg.sealState 0 s else s
    .next (if was = 2 then sealLogEntry 2 0 0 0 0 0 s else s)

/-- The digest of the microcode: SHA-256 over its 64 kB (R414), as a Catalogue value. -/
def microcodeDigest (m : List (Nat × Nat)) : Nat :=
  ofLE (sha256 ((List.range 65536).map (fun k => BitVec.ofNat 8 (tget (fun _ => 0) m k))))

/-- The engine computes the digest of its microcode and compares it with the fused one (R414); the next time is 8,000 ticks
on. A close that is due comes first: IntegrityFault is for the records after it. -/
def microcodeCheck (s : State) : State :=
  let s := closeDue s
  let d := microcodeDigest s.vit.microcode
  let s := w0 Reg.vitrineMicrocodeDigest d { s with vit := { s.vit with checkAt := r0 s Reg.tickSequence + 8000 } }
  if d = s.vit.fused then s else w0 Reg.vitrineState 1 s

/-- The check of the microcode is due (R414). -/
def microcodeIsDue (s : State) : Bool := vitPowered s && decide (s.vit.checkAt ≤ r0 s Reg.tickSequence)

/-- A check that its own row has not made in its tick (log 12). -/
def microcodeDue (s : State) : State := if microcodeIsDue s then microcodeCheck s else s

/-- MICROCODE_CHECK (R414), 8,000 ticks after the one before: the engine reads the microcode, of which the operand tells the bytes
that have changed in the flash since. -/
def execMicrocodeCheck (changed : List (Fin 65536 × Byte)) (s : State) : Host.Outcome State Fault Refusal :=
  if microcodeIsDue s then
    let m := changed.foldl (fun m e => tset (fun _ => 0) m e.1.val e.2.toNat) s.vit.microcode
    .next (microcodeCheck { s with vit := { s.vit with microcode := m } })
  else .next s

/-! Power (R411, R412). -/

/-- The flush a brownout orders (R411): a burn in progress ends, the open interval is written with Flushed, the log and
FlushCount tell it. A close that falls in the same boundary cycle is written first. -/
def vitrineFlush (s : State) : State :=
  let s := match s.vit.burning with
    | some _ => { (w0 Reg.sealEvents (r0 s Reg.sealEvents + 1) s) with vit := { s.vit with burning := none, waiting := [] } }
    | none => s
  let s := closeDue s
  let s := if s.vit.unopened then s else flashRecords (writeRecords s.counter true s)
  inc0 Reg.flushCount (sealLogEntry 5 0 0 0 0 0 s)

/-- The Vitrine at power-up: its interval opens at the first tick boundary (R412), a seal that is not exhausted starts closed. -/
def vitrineStarts (s : State) : State :=
  let s := { s with vit := { s.vit with unopened := true, closing := false, partialOpen := true, burning := none, waiting := [], wrote := false } }
  if r0 s Reg.sealState = 3 then s
  else w0 Reg.sealState (if s.vit.low then 1 else 0) { s with vit := { s.vit with lowAt := s.now } }

/-- The Vitrine starts at power-up (R412, R414): the check of its microcode, a log entry. -/
def vitrinePowerUp (s : State) : State := vitrineStarts (sealLogEntry 4 0 0 0 0 0 (microcodeCheck s))

end Sys2Proof.Machine
end

