-- ==== Sys2Proof/Machine/Calibration.lean ====
section
/-! DEFINITION. Calibration sets, triggers and interpolation (chapter 15). The commands that start and end runs stand in
CalRuns.lean, after the lanes and converters whose runs they are. -/

namespace Sys2Proof.Machine

/-- The class code of the object indices: 1 lane, 2 TDC, 3 port delay, 4 output delay, 5 crystal. -/
def classCode (c : CalClass) : Nat :=
  match c with
  | .lane => 1 | .tdc => 2 | .portDelay => 3 | .output => 4 | .crystal => 5

/-- Instances of a class (R350). -/
def classSize (code : Nat) : Nat :=
  match code with
  | 1 => 64 | 2 => 80 | 3 => 64 | 4 => 16 | _ => 1

/-- The index of a class's object: 0xA000 + class × 0x100 + object. -/
def calIdx (code obj : Nat) : Nat := 0xA000 + code * 256 + obj

def calInit : CalSt :=
  { pending := false, running := none, held := false, failed := false, sets := [], retryAt := 0, lastTemp := none
    values := [], sumT := 0, sumL := 0, ticks := 0, switches := 0, reserve := none }

def getCal (s : State) (code i : Nat) : CalSt := tget (fun _ => calInit) s.cal.insts (code * 256 + i)

def setCal (code i : Nat) (c : CalSt) (s : State) : State :=
  { s with cal := { s.cal with insts := tset (fun _ => calInit) s.cal.insts (code * 256 + i) c } }

/-- The sensor of an instance (R350). -/
def sensorOf (code i : Nat) : Nat :=
  match code with
  | 1 => i / 2 | 2 => 32 + i / 8 | 3 => i / 2 | 4 => 48 + i | _ => 64

/-- A sensor's last reading. -/
def sensorNow (s : State) (k : Nat) : Int := (tget (fun _ => []) s.cal.sensors k).getLast?.getD 0

/-- The mean of a sensor's last 64 readings (R354). -/
def sensorMean (s : State) (k : Nat) : Int :=
  let h := tget (fun _ => []) s.cal.sensors k
  if h.isEmpty then 0 else h.foldl (fun a x => a + x) 0 / (h.length : Int)

/-- A reading of a sensor enters its history. -/
def readSensor (k : Nat) (x : Int) (s : State) : State :=
  let h := tget (fun _ => []) s.cal.sensors k
  { s with cal := { s.cal with sensors := tset (fun _ => []) s.cal.sensors k (lastN 64 (h ++ [x])) } }

def readSensors (base : Nat) (l : List Int) (s : State) : State :=
  (l.foldl (fun (p : Nat × State) x => (p.1 + 1, readSensor (base + p.1) x p.2)) (0, s)).2

def calTemp (s : State) (code i : Nat) : Int := sensorMean s (sensorOf code i)
def lastRunTemp (s : State) (code i : Nat) : Int := toSigned 16 (r1 s (calIdx code 3) i)

/-- |CalTemperature - CalLastRunTemp|. -/
def calDrift (s : State) (code i : Nat) : Nat := (calTemp s code i - lastRunTemp s code i).natAbs

/-! Interpolation (R358, R359). -/

def absRat (x : Rat) : Rat := if x < 0 then -x else x

/-- Rounded to the nearest integer. -/
def nearest (r : Rat) : Int := (r + 1 / 2).floor

/-- Place a value between two sets. -/
def between (a b : CalSet) (t : Int) : List Int :=
  List.zipWith (fun (va vb : Int) =>
    nearest (Rat.ofInt va + Rat.ofInt (vb - va) * Rat.ofInt (t - a.temp) / Rat.ofInt (b.temp - a.temp)))
    a.values b.values

/-- The set with the highest temperature at or below t. -/
def setBelow (l : List CalSet) (t : Int) : Option CalSet :=
  l.foldl (fun best x => if x.temp ≤ t then (match best with | none => some x | some b => if b.temp < x.temp then some x else some b) else best) none

/-- The set with the lowest temperature above t. -/
def setAbove (l : List CalSet) (t : Int) : Option CalSet :=
  l.foldl (fun best x => if t < x.temp then (match best with | none => some x | some b => if x.temp < b.temp then some x else some b) else best) none

/-- The calibrated values at a temperature; outside the sets the outermost alone (R358). -/
def interpolate (l : List CalSet) (t : Int) : List Int :=
  match setBelow l t, setAbove l t with
  | some a, some b => between a b t
  | some a, none => a.values
  | none, some b => b.values
  | none, none => []

def factorySets (s : State) (code i : Nat) : List CalSet := tget (fun _ => []) s.cal.factory (code * 256 + i)

/-- A measured set lies within RecalDelta of the temperature (R361). -/
def setNear (s : State) (code i : Nat) : Bool :=
  (getCal s code i).sets.any (fun x => (x.temp - calTemp s code i).natAbs ≤ r0 s Reg.recalDelta)

/-- The factory set is in use (R361). -/
def onFactory (s : State) (code i : Nat) : Bool :=
  let c := getCal s code i
  c.sets.isEmpty || c.held || (c.failed && !setNear s code i)

/-- CalState: on the factory set 0, 4 or 5 (R361), else by what the instance does (R365). DEDUCED (log 52). -/
def calStateOf (s : State) (code i : Nat) : Nat :=
  let c := getCal s code i
  if c.held then 5
  else if onFactory s code i then (if c.failed then 4 else 0)
  else if c.running.isSome then 3 else if c.pending then 2 else if c.failed then 4 else 1

/-- Bring CalState, CalRunsActive, CalPendingCount and the held-on-factory event to the instances (R362, R365). -/
def publishCal (code i : Nat) (s : State) : State :=
  let s := w1 (calIdx code 0) i (calStateOf s code i) s
  let l := s.cal.insts.map (·.2)
  let s := w0 Reg.calRunsActive (l.filter (fun c => c.running.isSome)).length s
  let s := w0 Reg.calPendingCount (l.filter (fun c => c.pending)).length s
  setLive Ev.calFactory (l.any (fun c => c.held)) s

def modCal (code i : Nat) (f : CalSt → CalSt) (s : State) : State := publishCal code i (setCal code i (f (getCal s code i)) s)

/-- What an ordinary lane's record reads as: the lane has not been brought up. -/
def laneInit : LaneSt :=
  { enteredAt := 0, trialInverted := false, rxReady := false, rxIndex := none, training := false, framesLeft := 0
    ctle := 0, ffe := 0, dfe := 0, passRun := 0, restarts := 0, secondD := false, calRun := false, calDone := false
    rxTracked := 0, txTracked := 0, exchanged := false, scanFor := [], convRun := none, chkHeard := false, genAt := 0
    loopBits := 0, loopSymbols := 0, loopLevels := [], berWin := []
    used := { train := 0, polarity := 0, txPrecode := 0, rxPrecode := 0, invert := 0, swap := 0, reversal := 0 }
    codesFrom := [], codesAt := 0 }

def getLane (s : State) (lane : Nat) : LaneSt := tget (fun _ => laneInit) s.lanes lane

def setLane (lane : Nat) (l : LaneSt) (s : State) : State :=
  { s with lanes := tset (fun _ => laneInit) s.lanes lane l }

def modLane (lane : Nat) (f : LaneSt → LaneSt) (s : State) : State := setLane lane (f (getLane s lane)) s

/-- The published PMA delays of a lane in UP: the tracked part plus the pad delay in force (R89, R351). -/
def publishPma (lane : Nat) (s : State) : State :=
  if laneUp s lane then
    let v := (getCal s 3 lane).values
    let l := getLane s lane
    w1 Reg.laneTxPmaDelay lane (ofSigned 64 (l.txTracked + v.getD 0 0))
      (w1 Reg.laneRxPmaDelay lane (ofSigned 64 (l.rxTracked + v.getD 1 0)) s)
  else s

/-- The tap table and ε of a channel, as 256 widths and four offsets in units of 2^-24 ns (R213, R237). -/
def setTables (ch : Nat) (v : List Int) (s : State) : State :=
  let s := forN 256 (fun t s => wr Reg.tdcTapTable ch t (v.getD t 0).toNat s) s
  w1 Reg.tdcPhaseOffsets ch (ofLE ((List.range 4).flatMap (fun k => bytesLE 4 (ofSigned 32 (v.getD (256 + k) 0))))) s

/-- A word of a lane, 64 UI, ps; 0 where the lane has no rate (R102). -/
def laneWord (s : State) (lane : Nat) : Rat :=
  match speedCode (groupMode s (lane / 2)), groupMode s (lane / 2) with
  | 0, _ => 0
  | 1, _ => 64 * 10 ^ 12 / 10312500000
  | 2, _ => 64 * 10 ^ 12 / 25781250000
  | _, 3 => 64 * 10 ^ 12 / 26562500000
  | _, 4 => 64 * 10 ^ 12 / 26562500000
  | _, _ => 64 * 10 ^ 12 / 53125000000

/-- From a toward b by at most n. -/
def stepToward (n : Nat) (a b : Int) : Int := if a + n < b then a + n else if b < a - n then a - n else b

/-- The offset codes at which a lane's samplers stand: single-code steps at word boundaries toward the values in force; at once
where the lane has no words (R359). -/
def samplerCodes (s : State) (lane : Nat) : List Int :=
  let l := getLane s lane
  let v := (getCal s 1 lane).values
  let w := laneWord s lane
  if w = 0 then v
  else
    let n := (((s.now - l.codesAt : Nat) : Rat) / w).floor.toNat
    (List.range v.length).map (fun k => stepToward n (l.codesFrom.getD k 0) (v.getD k 0))

/-! The fine delay lines of the clock outputs and the interpolators of the pulse outputs (R352). -/

def outInit : OutSt :=
  { edge := 0, coarse := 0, fine := 0, waits := false, low := false, stretch := none, pinAt := 0, line := 0
    endsAt := 0 }

def getOut (s : State) (o : Nat) : OutSt := tget (fun _ => outInit) s.outs o

def setOut (o : Nat) (y : OutSt) (s : State) : State := { s with outs := tset (fun _ => outInit) s.outs o y }

/-- The place that gives a delay d ps among measured points v, from setting k on: between two points by linear interpolation; the
last setting beyond them. The points are sums of 64 stamps, 2^-30 ns, and count from `zero` (R352). -/
def placeOn (zero : Int) (d : Rat) : Nat → List Int → Rat
  | k, a :: b :: t =>
    let x := d * 2 ^ 30 / 1000
    if x < ((b - zero : Int) : Rat) then
      ((k : Rat) + (x - ((a - zero : Int) : Rat)) / ((b - a : Int) : Rat)) * (3125 / 100)
    else placeOn zero d (k + 1) (b :: t)
  | k, _ => (k : Rat) * (3125 / 100)

/-- The place on the line of output instance i (outputs 0x00-0x0B, pulses from 0x0C on) that gives d ps; d itself where the
instance has no points (R352, R358). -/
def linePlace (s : State) (i : Nat) (d : Rat) : Rat :=
  let v := (getCal s 4 i).values
  if v.length < 2 then d else placeOn (v.headD 0) d 0 v

/-- An output's delay line is set for its fine delay in force. -/
def setLine (o : Nat) (s : State) : State := setOut o { getOut s o with line := linePlace s o ((getOut s o).fine : Rat) } s

/-- Apply the values in force: tap tables and ε of a TDC channel, pad delays of a lane, the line of a clock output; a pulse takes
its place when it is sent, a lane's samplers step toward theirs (R351, R352, R359). -/
def applyValues (code i : Nat) (v : List Int) (s : State) : State :=
  match code with
  | 2 => setTables i v s
  | 3 => publishPma i s
  | 4 => if i < 12 then setLine i s else s
  | _ => s

/-- Recompute an instance's values at its temperature, with CalSource and CalState, and apply them (R358, R359, R361). -/
def recompute (code i : Nat) (s : State) : State :=
  let t := calTemp s code i
  let fac := onFactory s code i
  let v := interpolate (if fac then factorySets s code i else (getCal s code i).sets) t
  let s := w1 (calIdx code 1) i (b2n fac) s
  let s := w1 (calIdx code 0) i (calStateOf s code i) s
  let s := if code = 2 then w1 Reg.tdcCalSource i (b2n fac) s else s
  let s := if code = 1 then modLane i (fun l => { l with codesFrom := samplerCodes s i, codesAt := s.now }) s else s
  let bare := v.isEmpty && (getCal s code i).values.isEmpty
  let s := setCal code i { getCal s code i with lastTemp := some t, values := v } s
  if bare then s else applyValues code i v s

/-! Runs (R355, R357, R362, R363). -/

/-- An instance's run begins, with the reserve it uses. -/
def calBegin (code i : Nat) (reserve : Option Nat) (s : State) : State :=
  modCal code i (fun c => { c with running := some (r0 s Reg.tickSequence), pending := false, reserve := reserve, sumT := 0
                                   sumL := 0, ticks := 0, switches := r0 s Reg.refSwitches }) s

/-- The mean temperature of the run that ends (R355), to the nearest unit; the last reading where it lasted no whole tick. -/
def runMean (s : State) (code i : Nat) : Int :=
  let c := getCal s code i
  if c.ticks = 0 then sensorNow s (sensorOf code i) else nearest (Rat.ofInt c.sumT / Rat.ofInt c.ticks)

/-- The set nearest in temperature to t, the older on a tie, is the one a ninth replaces. -/
def nearestSet (l : List CalSet) (t : Int) : Option CalSet :=
  l.foldl (fun best x =>
    match best with
    | none => some x
    | some b =>
      let dx := (x.temp - t).natAbs
      let db := (b.temp - t).natAbs
      if dx < db ∨ (dx = db ∧ x.tick < b.tick) then some x else some b) none

/-- Insert a set in ascending temperature, after its equals. -/
def insertSet (x : CalSet) : List CalSet → List CalSet
  | [] => [x]
  | y :: t => if x.temp < y.temp then x :: y :: t else y :: insertSet x t

/-- Store a set: at most eight are kept (R357). -/
def storeSet (l : List CalSet) (x : CalSet) : List CalSet :=
  if l.length < 8 then insertSet x l
  else
    match nearestSet l x.temp with
    | some y => insertSet x (l.erase y)
    | none => [x]

/-- CalSets as the Catalogue shows it (R357). -/
def publishSets (code i : Nat) (s : State) : State :=
  let l := (getCal s code i).sets
  forN 8 (fun r s =>
    match l[r]? with
    | some x => wr (calIdx code 8) i r (2 ^ 127 + ofSigned 16 x.temp * 2 ^ 104 + (x.tick % 2 ^ 64) * 2 ^ 40 + (x.quality % 2 ^ 32) * 2 ^ 8) s
    | none => wr (calIdx code 8) i r 0 s) s

/-- Release the reserve TDC that a run used. -/
def freeReserve (r : Option Nat) (s : State) : State :=
  match r with
  | some k => w1 Reg.tdcStandIn k 0xFF (w1 Reg.tdcChannelState k 6 s)
  | none => s

/-- Judge the triggers of R355 for an instance that is not running. After a failed run only CalRetryTicks makes it pending again
(R362). DEDUCED (log 70). -/
def judgePendingCal (code i : Nat) (s : State) : State :=
  let c := getCal s code i
  if c.running.isSome || c.pending || r0 s Reg.calAutoEnable = 0 then s
  else if (c.sets.isEmpty && !c.failed) || (!c.sets.isEmpty && r0 s Reg.recalDelta < calDrift s code i && !c.failed) then
    modCal code i (fun c => { c with pending := true }) s
  else s

/-- A run succeeds (R357, R362). -/
def calSucceed (code i : Nat) (temp : Int) (values : List Int) (quality : Nat) (s : State) : State :=
  let c := getCal s code i
  let tick := r0 s Reg.tickSequence
  let x : CalSet := { temp := temp, values := values, tick := tick, quality := quality }
  let s := freeReserve c.reserve s
  let s := setCal code i { c with running := none, pending := false, held := false, failed := false
                                  sets := storeSet c.sets x, retryAt := 0, reserve := none } s
  let s := publishSets code i (w1 (calIdx code 3) i (ofSigned 16 temp) (w1 (calIdx code 4) i tick s))
  let s := w1 (calIdx code 0x0A) i (quality % 2 ^ 32) (w1 (calIdx code 7) i 0 (inc (calIdx code 5) i s))
  judgePendingCal code i (publishCal code i (recompute code i s))

/-- A run fails (R362). -/
def calFail (code i : Nat) (s : State) : State :=
  let c := getCal s code i
  let n := min (r1 s (calIdx code 7) i + 1) 255
  let hold := decide (r0 s Reg.calFailLimit ≤ n)
  let s := freeReserve c.reserve s
  let s := setCal code i { c with running := none, pending := false, failed := true, held := hold || c.held
                                  sets := if hold then [] else c.sets, reserve := none
                                  retryAt := r0 s Reg.tickSequence + r0 s Reg.calRetryTicks } s
  let s := publishSets code i (w1 (calIdx code 7) i n (inc (calIdx code 6) i s))
  raise Ev.calFailed (publishCal code i (recompute code i s))

/-- A run is abandoned: it leaves the instance pending (R363). -/
def calAbandon (code i : Nat) (s : State) : State :=
  let s := freeReserve (getCal s code i).reserve s
  modCal code i (fun c => { c with running := none, pending := true, reserve := none }) s

/-- A request makes an instance pending, unless its run is in progress (R355). -/
def calRequestInst (code i : Nat) (s : State) : State :=
  if (getCal s code i).running.isSome then s else modCal code i (fun c => { c with pending := true }) s

/-- An instance without its measured sets; a set that a run has stored in the tick `q` of the discard counts as stored after it
and stays (R363's coincidences). -/
def discarded (q : Nat) (c : CalSt) : CalSt :=
  let kept := c.sets.filter (fun x => x.tick = q)
  if kept.isEmpty then { c with sets := [], failed := false, pending := c.running.isNone } else { c with sets := kept }

/-- Discard every measured set: each instance returns to factory and becomes pending (R365). -/
def discardSets (s : State) : State :=
  forL [1, 2, 3, 4, 5] (fun code s => forN (classSize code) (fun i s =>
    let s := setCal code i (discarded (r0 s Reg.tickSequence) (getCal s code i)) s
    publishCal code i (recompute code i (publishSets code i s))) s) s

/-- What calibration does at a tick boundary (R354, R355, R359): temperatures, interpolation, triggers. -/
def calTick (s : State) : State :=
  forL [1, 2, 3, 4, 5] (fun code s => forN (classSize code) (fun i s =>
    let t := calTemp s code i
    let s := w1 (calIdx code 2) i (ofSigned 16 t) s
    let c := getCal s code i
    let moved := match c.lastTemp with
      | some u => decide (16 ≤ (t - u).natAbs) || decide (r1 s (calIdx code 1) i ≠ b2n (onFactory s code i))
      | none => true
    let busy := decide (code = 2) && s.tdc.standIns.any (fun e => e.1 = i && e.2.step = 3)
    let s := if moved && !busy then recompute code i s else s
    judgePendingCal code i s) s) s

/-- A free reserve TDC: state 0x06, the lowest (R217, R356). -/
def freeReserveOf (s : State) : Option Nat :=
  ((List.range 8).map (· + 0x48)).find? (fun k => r1 s Reg.tdcChannelState k = 6)

end Sys2Proof.Machine
end

