-- ==== Sys2Proof/Machine/Tdc.lean ====
section
/-! DEFINITION. Phase and time-interval measurement (chapter 9): stamps, per-tick results, pulse stamps, interval and
frequency slots. Stand-ins and code-density runs stand in CalRuns.lean, the time base in Servo.lean. -/

namespace Sys2Proof.Machine

/-! Channels. -/

/-- The channel has a per-tick result (R220). -/
def hasTickResult (ch : Nat) : Bool := decide (ch ≤ 0x43) || decide (ch = 0x46) || decide (ch = 0x47)

/-- The nominal period of a lane's divided recovered clock, units of 2^-16 ns (R209): 1,024 symbols. -/
def lanePeriod (s : State) (lane : Nat) : Rat :=
  match speedCode (groupMode s (lane / 2)), groupMode s (lane / 2) with
  | 0, _ => 0
  | 1, _ => 1024 * 65536 * 10000 / 103125
  | 2, _ => 1024 * 65536 * 100000 / 2578125
  | _, 3 => 1024 * 65536 * 10000 / 265625
  | _, 4 => 1024 * 65536 * 10000 / 265625
  | _, _ => 1024 * 65536 * 1000 / 53125

/-- The nominal period of an input, units of 2^-16 ns; 0 where none is set (R220, R238). -/
def nominalPeriod (s : State) (ch : Nat) : Rat :=
  if ch < 0x40 then lanePeriod s ch
  else if ch = 0x44 ∨ ch = 0x45 then 10 ^ 9 * 65536
  else (r1 s Reg.tdcNominalPeriod ch : Nat)

def getSI (s : State) (ch : Nat) : Option StandIn := (s.tdc.standIns.find? (fun e => e.1 = ch)).map (·.2)

def putSI (ch : Nat) (x : StandIn) (s : State) : State :=
  { s with tdc := { s.tdc with standIns := tput s.tdc.standIns ch x } }

def delSI (ch : Nat) (s : State) : State := { s with tdc := { s.tdc with standIns := tdel s.tdc.standIns ch } }

/-- The instrument that publishes for a channel and what is taken off its values, units of 2^-16 ns: the reserve in steps
2 and 3 of a stand-in, else the channel itself (R217). -/
def publisher (s : State) (ch : Nat) : Nat × Int × Bool :=
  match getSI s ch with
  | some x =>
    match x.reserve with
    | some r => if x.step = 2 ∨ x.step = 3 then (r, x.d, true) else (ch, 0, false)
    | none => (ch, 0, false)
  | none => (ch, 0, false)

/-- The flags Reserve and FactorySet of a publisher: 1 and 2. -/
def publisherFlags (s : State) (ch : Nat) : Nat :=
  let p := publisher s ch
  b2n p.2.2 + 2 * (r1 s Reg.tdcCalSource p.1 % 2)

/-! Stamps (R212-R214). -/

/-- Width w_i in use, units of 2^-24 ns. -/
def tapWidth (s : State) (ch i : Nat) : Nat := rd s Reg.tdcTapTable ch i

/-- ε_k in use, units of 2^-24 ns. -/
def phaseOffset (s : State) (ch k : Nat) : Int := toSigned 32 (r1 s Reg.tdcPhaseOffsets ch / 2 ^ (32 * k))

/-- The tap count t: the number of taps the edge has passed, 0-255 (R212). -/
def tapCount (line : BitVec 256) : Nat := min (onesList 256 line.toNat).length 255

/-- 2 × P(t), units of 2^-24 ns (R213). -/
def tapPosition2 (s : State) (ch t : Nat) : Nat :=
  2 * (List.range t).foldl (fun a i => a + tapWidth s ch i) 0 + tapWidth s ch t

/-- δ = k × 500 ps + ε_k - P(t) of an edge on an instrument, units of 2^-25 ns. -/
def edgeDelta (s : State) (ch : Nat) (e : EdgeSample) : Int :=
  (e.phase.val : Int) * 2 ^ 24 + 2 * phaseOffset s ch e.phase.val - (tapPosition2 s ch (tapCount e.line) : Int)

/-- The edge's instant relative to the sampling cycle as published, units of 2^-25 ns: d is taken off a reserve's. -/
def publishedDelta (s : State) (ch : Nat) (e : EdgeSample) : Int :=
  let p := publisher s ch
  edgeDelta s p.1 e - p.2.1 * 2 ^ 9

/-- The coarse count in an absolute time-clock cycle, extended beyond its wrap: 0 at the last full module reset (R212). -/
def coarseCount (s : State) (cycle : Nat) : Int := (cycle : Int) - (s.tdc.coarseZero : Int)

/-- The stamp of an edge sampled in a cycle of the time clock, on the extended count, units of 2^-25 ns. -/
def stampIn (s : State) (ch cycle : Nat) (e : EdgeSample) : Int := coarseCount s cycle * 2 ^ 26 + publishedDelta s ch e

/-- The stamp of an edge sampled now. -/
def fineStamp (s : State) (ch : Nat) (e : EdgeSample) : Int := stampIn s ch (cycleOf s.now) e

/-- The instant in ps of a place on the extended count, units of 2^-25 ns, to the nearest ps. -/
def instantOfStamp (s : State) (x : Rat) : Nat :=
  ((s.tdc.coarseZero : Int) * 2000 + nearest (x * 1000 / 2 ^ 25)).toNat

/-- Rounded to units of 2^-16 ns (R214). -/
def roundStamp (x : Int) : Int := (x + 2 ^ 8) / 2 ^ 9

/-- A stamp as carried: modulo 2^49 units (R214). -/
def stampField (x : Int) : Nat := (x % (2 ^ 49 : Int)).toNat

/-- An edge at x falls within 4 ns after one stamped at l (R210). -/
def within4 (l : Option Int) (x : Int) : Bool :=
  match l with
  | some l => decide (l < x) && decide (x - l < 2 ^ 27)
  | none => false

/-- The prescaler's ratio; other inputs have none (R209). -/
def prescaleOf (s : State) (ch : Nat) : Nat :=
  if 0x40 ≤ ch ∧ ch < 0x48 ∧ ch ≠ 0x44 ∧ ch ≠ 0x45 then r1 s Reg.tdcPrescale ch else 1

/-- The edges that a prescaler of ratio n passes, with c input edges since the last, and the count that is left: it passes each
n-th. Where a count stands at power-up and after a write is not stated: it runs on from 0. DESIGN CHOICE (log 67). -/
def divideEdges (n : Nat) : Nat → List TickEdge → List TickEdge × Nat
  | c, [] => ([], c)
  | c, e :: t =>
    if n ≤ c + 1 then
      let r := divideEdges n 0 t
      (e :: r.1, r.2)
    else divideEdges n (c + 1) t

/-- The input edges of a channel reach it through its prescaler (R209). -/
def prescale (s : State) (ch : Nat) (edges : List TickEdge) : List TickEdge × Nat :=
  divideEdges (prescaleOf s ch) (tget (fun _ => 0) s.tdc.divs ch) edges

def keepDivider (ch c : Nat) (s : State) : State :=
  { s with tdc := { s.tdc with divs := tset (fun _ => 0) s.tdc.divs ch c } }

/-- The instrument that measures beside the publishing one: the reserve in step 1 of a stand-in, the channel in step 3
(R217). -/
def besides (s : State) (ch : Nat) : Option Nat :=
  match getSI s ch with
  | some x => if x.step = 1 then x.reserve else if x.step = 3 then some ch else none
  | none => none

/-- The stamp of the same edge by the instrument beside, units of 2^-25 ns. -/
def alsoStamp (s : State) (ch cycle : Nat) (e : EdgeSample) : Option Int :=
  match besides s ch, e.also with
  | some r, some y => some ((coarseCount s cycle + y.shift) * 2 ^ 26 + edgeDelta s r { phase := y.phase, line := y.line })
  | _, _ => none

/-- The edges that the channel has taken in this tick: their places, and whether each was stamped. -/
def takenOf (s : State) (ch : Nat) : List (Int × Bool) := tget (fun _ => []) s.tdc.taken ch

/-- Edges are taken; those from before the boundary's dead time are forgotten. -/
def noteTaken (ch : Nat) (l : List (Int × Bool)) (s : State) : State :=
  let since := coarseCount s (cycleOf s.boundaryAt) * 2 ^ 26 - 2 ^ 27
  let new := l ++ (takenOf s ch).filter (fun e => decide (since ≤ e.1))
  { s with tdc := { s.tdc with taken := tset (fun _ => []) s.tdc.taken ch new } }

/-- The last edge that a channel has stamped. -/
def lastStampOf (s : State) (ch : Nat) : Option Int := (s.tdc.lastStamp.find? (fun e => e.1 = ch)).map (·.2)

def noteStamp (ch : Nat) (x : Int) (s : State) : State :=
  { s with tdc := { s.tdc with lastStamp := tput s.tdc.lastStamp ch x } }

/-- An edge at x falls within the dead time of one that the channel has stamped. -/
def deadTime (s : State) (ch : Nat) (x : Int) : Bool :=
  within4 (lastStampOf s ch) x || (takenOf s ch).any (fun e => e.2 && within4 (some e.1) x)

/-- Stamp an edge: the stamp in units of 2^-25 ns, or none and a missed edge inside the dead time (R210). An edge that the
channel has taken already is the same edge still, stamped or missed once, whoever gives it next (R225). -/
def stampEdge (ch : Nat) (e : EdgeSample) (s : State) : Option Int × State :=
  let x := fineStamp s ch e
  match (takenOf s ch).find? (fun y => y.1 = x) with
  | some y => (if y.2 then some x else none, s)
  | none =>
    if deadTime s ch x then (none, perfEvent 8 2 ch 1 (inc Reg.tdcMissedEdges ch (noteTaken ch [(x, false)] s)))
    else (some x, perfEvent 8 1 ch 1 (noteStamp ch x (noteTaken ch [(x, true)] s)))

/-- The channel has stamped an edge within two nominal periods, or within so many ticks. -/
def recentEdge (s : State) (ch ticks : Nat) : Bool :=
  match lastStampOf s ch with
  | some x =>
    let age : Rat := ((coarseCount s (cycleOf s.now) * 2 ^ 26 - x : Int) : Rat)
    decide (age ≤ 1024 * nominalPeriod s ch) || decide (age ≤ ((ticks * 125000 * 2 ^ 25 : Nat) : Rat))
  | none => false

/-! Per-tick phase (R220, R221). -/

/-- A feedback channel with no output selected, or with one that is disabled, squelched or off, stamps nothing (R211). -/
def noFeedback (s : State) (ch : Nat) : Bool :=
  (ch = 0x46 || ch = 0x47) &&
  (let f := r1 s Reg.tdcFeedbackSelect ch
   if f < 12 then decide (r1 s Reg.outState f ≠ 1) && decide (r1 s Reg.outState f ≠ 3)
   else decide (f < 0x10) || decide (0x13 < f) || decide (r1 s Reg.plsMode (f - 0x10) = 0) ||
     decide (r1 s Reg.plsState (f - 0x10) = 3))

/-- The stamping of a tick's edges as it runs: the edge before, the last edge stamped, the stamps with their tap counts, those
that the instrument beside took too with its stamps, and the edges missed, each newest first. -/
structure Stamping where
  before : Option Int
  last : Option Int
  stamps : List (Int × Nat)
  both : List (Int × Int)
  missed : List Int
deriving DecidableEq, Repr

/-- The instants of R220 lie 122.0703125 ns apart, units of 2^-25 ns. -/
def instantStep : Nat := 15625 * 2 ^ 18

/-- An edge at x is the first at or after one of the 1,024 instants from t0 on; `before` is the edge before it (R220). -/
def firstAfter (t0 : Int) (before : Option Int) (x : Int) : Bool :=
  decide (t0 ≤ x) &&
  match before with
  | none => true
  | some b => decide (b < t0 + min 1023 ((x - t0) / (instantStep : Int)) * (instantStep : Int))

/-- One edge of the tick: missed within the dead time of a stamped one, stamped where it is the first after an instant. -/
def takeEdge (t0 : Int) (dead : Int → Bool) (a : Stamping) (x : Int) (t : Nat) (also : Option Int) : Stamping :=
  if within4 a.last x || dead x then { a with before := some x, missed := x :: a.missed }
  else if firstAfter t0 a.before x then
    { a with before := some x, last := some x, stamps := (x, t) :: a.stamps
             both := (also.map (fun y => (x, y))).toList ++ a.both }
  else { a with before := some x }

/-- The coarse count in the boundary cycle of the tick. -/
def tickCoarse (s : State) : Int := coarseCount s (cycleOf s.boundaryAt)

/-- The stamp of an edge of the tick. -/
def tickStamp (s : State) (ch : Nat) (e : TickEdge) : Int := stampIn s ch (cycleOf s.boundaryAt + e.cycle) e.sample

/-- The edges that a channel stamps in the tick (R210, R211, R220). -/
def stampTick (s : State) (ch : Nat) (edges : List TickEdge) : Stamping :=
  let a0 : Stamping := { before := none, last := none, stamps := [], both := [], missed := [] }
  if noFeedback s ch then a0
  else edges.foldl (fun a e => takeEdge (tickCoarse s * 2 ^ 26) (deadTime s ch) a (tickStamp s ch e) (tapCount e.sample.line)
    (alsoStamp s ch (cycleOf s.boundaryAt + e.cycle) e.sample)) a0

/-- Number the edges by rounding each difference to whole nominal periods, from an edge x0 of number n0 (R220). A difference
halfway between two numbers takes the larger. DESIGN CHOICE (log 67). -/
def numberEdges (p : Rat) (x0 n0 : Int) : List Int → List (Int × Int)
  | [] => []
  | x :: t =>
    let n := n0 + nearest (((x - x0 : Int) : Rat) / p)
    (n, x) :: numberEdges p x n t

/-- The place of edge number 0 and the period of the straight line fitted by least squares; one edge alone lies on a line of
the nominal period. None where all edges bear one number, or the period would not be positive (R220, R221). -/
def lineOf (p : Rat) (l : List (Int × Int)) : Option (Rat × Rat) :=
  match l with
  | [] => none
  | [e] => some ((e.2 : Rat) - (e.1 : Rat) * p, p)
  | _ =>
    let m : Int := (l.length : Int)
    let sn := sumOf (l.map (·.1))
    let sx := sumOf (l.map (·.2))
    let snn := sumOf (l.map (fun e => e.1 * e.1))
    let snx := sumOf (l.map (fun e => e.1 * e.2))
    let den := m * snn - sn * sn
    let num := m * snx - sn * sx
    if den = 0 ∨ num * den ≤ 0 then none
    else
      let b : Rat := (num : Rat) / (den : Rat)
      some (((sx : Rat) - b * (sn : Rat)) / (m : Rat), b)
where
  sumOf (l : List Int) : Int := l.foldl (fun a x => a + x) 0

/-- No residual exceeds a quarter of the nominal period, and the fitted period lies within 1 % of it (R221). The spec gives
the second as what the first comes to. DEDUCED (log 67). -/
def fitHolds (p zero b : Rat) (l : List (Int × Int)) : Bool :=
  l.all (fun e => decide (absRat ((e.2 : Rat) - (zero + b * (e.1 : Rat))) ≤ p / 4)) && decide (absRat (b - p) ≤ p / 100)

/-- What a tick's edges come to: Phase and FreqOffset as they are carried, Valid but for the edges, and the line. -/
structure TickFit where
  phase : Nat
  freq : Nat
  valid : Bool
  line : Option LineFit
deriving DecidableEq, Repr

/-- Rounded to a register's units: exact where whole, else the floor or the next above, as Config leaves open (log 6). -/
def roundTo (x : Rat) : Int :=
  if x = (x.floor : Rat) then x.floor else x.floor + (b2n (Config.roundUp x) : Nat)

/-- M of the tick, on the extended count in 2^-25 ns: 62,500 ns after the start of its boundary cycle (R220). -/
def tickMid (s : State) : Int := tickCoarse s * 2 ^ 26 + 62500 * 2 ^ 25

/-- The first edge of a line at or after an instant: its number and its place. -/
def nextOnLine (zero b : Rat) (m : Int) : Int × Rat :=
  let k := (((m : Rat) - zero) / b).ceil
  (k, zero + b * (k : Rat))

/-- The channel's fit of tick n, and its latest. -/
def fitOf (s : State) (ch n : Nat) : Option LineFit :=
  ((s.tdc.fits.find? (fun e => e.1 = ch * 2 + n % 2)).map (·.2)).filter (fun f => f.tick = n)

def latestFit (s : State) (ch : Nat) : Option LineFit :=
  (s.tdc.fits.filter (fun e => e.1 / 2 = ch)).foldl (fun b e =>
    match b with
    | some f => if f.lastX < e.2.lastX then some e.2 else b
    | none => some e.2) none

/-- The fit of R220 over the stamps of a tick, oldest first. Where the spec states no result (no edge, no nominal period,
edges of one number, which lie far from the nominal period) the figures are free values, not Valid (log 67). -/
def fitTick (ch : Nat) (xs : List Int) (s : State) : TickFit × State :=
  let p := nominalPeriod s ch * 512
  let d0 := draw s
  let d1 := draw d0.2
  let phase := Config.freeValue d0.1 % 2 ^ 64
  let freq := if xs.length < 2 then 0 else Config.freeValue d1.1 % 2 ^ 64
  if xs.isEmpty ∨ p = 0 then ({ phase := phase, freq := freq, valid := false, line := none }, d1.2)
  else
    let l := match latestFit s ch with
      | some e => numberEdges p e.lastX e.lastN xs
      | none => numberEdges p (xs.headD 0) 0 xs
    match lineOf p l with
    | none => ({ phase := phase, freq := freq, valid := false, line := none }, d1.2)
    | some z =>
      let e := nextOnLine z.1 z.2 (tickMid s)
      let last := l.getLastD (0, 0)
      let ok := fitHolds p z.1 z.2 l
      ({ phase := ofSigned 64 (roundTo ((e.2 - (tickMid s : Rat)) / 512))
         freq := if xs.length < 2 then 0 else ofSigned 64 (roundTo ((p / z.2 - 1) * 10 ^ 18))
         valid := ok
         line := some { tick := tickNo s, mid := tickMid s, zero := z.1, period := z.2, lastX := last.2, lastN := last.1
                        valid := ok } }, s)

/-- Fewer than 64 distinct tap counts (R221). -/
def commensurate (taps : List Nat) : Bool := decide (taps.dedup.length < 64)

/-- The 24 bytes of TdcTickResult. -/
def tickResultOf (s : State) (ch : Nat) (fit : TickFit) (taps : List Nat) : Nat :=
  let fl := publisherFlags s ch
  let flags := b2n fit.valid + 2 * b2n taps.isEmpty + 4 * (fl % 2) + 8 * b2n (commensurate taps) + 16 * (fl / 2)
  fit.phase + fit.freq * 2 ^ 64 + taps.length * 2 ^ 128 + flags * 2 ^ 144 + (tickNo s % 2 ^ 32) * 2 ^ 160

def resPhase (r : Nat) : Nat := field r 63 0
def resFreq (r : Nat) : Int := toSigned 64 (field r 127 64)
def resEdges (r : Nat) : Nat := field r 143 128
def resFlags (r : Nat) : Nat := field r 151 144
def resTick (r : Nat) : Nat := field r 191 160

/-- The channel's result of tick n, if it is Valid. -/
def validResult (s : State) (ch n : Nat) : Option Nat :=
  let r := r1 s Reg.tdcTickResult ch
  if resTick r = n % 2 ^ 32 ∧ (resFlags r).testBit 0 then some r else none

/-- TdcChannelState follows the input between no input and in service (R237). -/
def noteInput (ch : Nat) (present : Bool) (s : State) : State :=
  let st := r1 s Reg.tdcChannelState ch
  if present && st = 0 then w1 Reg.tdcChannelState ch 1 s
  else if !present && st = 1 then w1 Reg.tdcChannelState ch 0 s
  else s

/-- The tracked parts of a lane's delays move with its channel's result (R89). -/
def trackDelays (ch : Nat) (met : TdcTick) (s : State) : State :=
  if ch < 0x40 && laneUp s ch then
    publishPma ch (modLane ch (fun l => { l with rxTracked := met.rxTracked, txTracked := met.txTracked }) s)
  else s

/-- A line is kept with the one of the tick before. -/
def keepLine (ch : Nat) (line : Option LineFit) (s : State) : State :=
  match line with
  | some f => { s with tdc := { s.tdc with fits := tput s.tdc.fits (ch * 2 + f.tick % 2) f } }
  | none => s

/-- Fewer than 64 edges per tick (R218). -/
def slowChannel (s : State) (ch : Nat) : Bool :=
  ch = 0x44 || ch = 0x45 || decide (resEdges (r1 s Reg.tdcTickResult ch) < 64)

/-- The per-tick phase of the instrument beside less the published one, units of 2^-16 ns: the same next edge on both lines
(R217). -/
def phaseDifference (p : Rat) (f : LineFit) (both : List (Int × Int)) : Option Rat :=
  let l := both.map (fun e => (nearest (((e.1 : Rat) - f.zero) / f.period), e.2))
  let n := nextOnLine f.zero f.period f.mid
  (lineOf p l).map (fun z => (z.1 + z.2 * (n.1 : Rat) - n.2) / 512)

/-- The differences that a tick adds to a comparison: one of a channel with 64 edges per tick, else one an edge (R217,
R218). -/
def tickDifferences (s : State) (ch : Nat) (fit : TickFit) (both : List (Int × Int)) : List Rat :=
  if slowChannel s ch then both.reverse.map (fun e => ((e.2 - e.1 : Int) : Rat) / 512)
  else if fit.valid then (fit.line.bind (fun f => phaseDifference (nominalPeriod s ch * 512) f both.reverse)).toList
  else []

/-- A stand-in in step 1 or 3 compares: up to 64 ticks, or 16 edges (R217, R218). -/
def compare (ch : Nat) (l : List Rat) (s : State) : State :=
  match getSI s ch with
  | some x =>
    if x.step = 1 ∨ x.step = 3 then putSI ch { x with diffs := (x.diffs ++ l).take (if slowChannel s ch then 16 else 64) } s
    else s
  | none => s

/-- The edges that a tick result has stamped and missed are taken; those that other commands have given count no more
(R210). -/
def countTaken (ch : Nat) (a : Stamping) (s : State) : State :=
  let l := a.stamps.map (fun e => (e.1, true)) ++ a.missed.map (fun x => (x, false))
  let new := l.filter (fun e => !(takenOf s ch).any (fun y => y.1 = e.1))
  let stamped := (new.filter (fun e => e.2)).length
  let missed := (new.filter (fun e => !e.2)).length
  perfEvent 8 1 ch stamped (perfEvent 8 2 ch missed (count Reg.tdcMissedEdges ch 0 missed (noteTaken ch new s)))

/-- The result of a tick for a channel whose edges have been stamped (R220, R221). -/
def publishTick (ch : Nat) (met : TdcTick) (a : Stamping) (s : State) : State :=
  let s := match a.last with | some x => noteStamp ch (max x ((lastStampOf s ch).getD x)) s | none => s
  let s := noteInput ch (!a.stamps.isEmpty || recentEdge s ch 0) s
  let r := fitTick ch (a.stamps.reverse.map (·.1)) s
  let s := countTaken ch a r.2
  let s := keepLine ch r.1.line (w1 Reg.tdcTickResult ch (tickResultOf s ch r.1 (a.stamps.map (·.2))) s)
  let s := compare ch (tickDifferences s ch r.1 a.both) s
  if r.1.valid then trackDelays ch met s else s

/-! Interval measurements (R224-R229). -/

def measInit : MeasSlot := { armed := false, start := none, stop := none, firstCycle := 0 }

def getMeas (s : State) (k : Nat) : MeasSlot := tget (fun _ => measInit) s.tdc.meas k

def setMeas (k : Nat) (m : MeasSlot) (s : State) : State :=
  { s with tdc := { s.tdc with meas := tset (fun _ => measInit) s.tdc.meas k m } }

def measMode (s : State) (k : Nat) : Nat := field (r1 s Reg.tdcMeasureConfig k) 31 30
def startChannel (s : State) (k : Nat) : Nat := field (r1 s Reg.tdcMeasureConfig k) 14 8
def stopChannel (s : State) (k : Nat) : Nat := field (r1 s Reg.tdcMeasureConfig k) 6 0
def startSense (s : State) (k : Nat) : Nat := field (r1 s Reg.tdcMeasureConfig k) 29 29
def stopSense (s : State) (k : Nat) : Nat := field (r1 s Reg.tdcMeasureConfig k) 28 28

/-- Single-shot, one channel and one sense: start and stop take the same edge (R225). -/
def oneEdge (s : State) (k : Nat) : Bool :=
  decide (measMode s k = 1) && decide (stopChannel s k = startChannel s k) && decide (startSense s k = stopSense s k)

/-- A channel gives edges of a sense: a lane's are stamped rising only (R209), a feedback channel's need an output (R211). -/
def givesEdge (s : State) (ch sense : Nat) : Bool := !(decide (ch < 0x40) && decide (sense = 1)) && !noFeedback s ch

/-- Set the State byte of a slot's result (R229). -/
def measState (k st : Nat) (s : State) : State := w1 Reg.tdcMeasureResult k (putBytes (r1 s Reg.tdcMeasureResult k) 29 1 st) s

/-- Twice the sum of a channel's tap widths: 512 times the mean width, units of 2^-24 ns. -/
def widthSum2 (s : State) (ch : Nat) : Nat := 2 * (List.range 256).foldl (fun a i => a + tapWidth s ch i) 0

/-- Interval and flags Coincidence and Order of two stamps (R225, R228). -/
def intervalOf (s : State) (k : Nat) (a b : Int) : Int × Nat :=
  let d := b - a
  let m := d.natAbs * 2 ^ 8 * 512
  let w := widthSum2 s (publisher s (stopChannel s k)).1
  if m < w then
    if 2 * m < w then (0, 4) else if 0 < d then (1, 4) else (-1, 6)
  else (d, if d < 0 then 2 else 0)

/-- Write a completed measurement (R229). -/
def measDone (k : Nat) (a b : Int × Nat) (same : Bool) (s : State) : State :=
  let iv := if same then (0, 4) else intervalOf s k a.1 b.1
  let fl := a.2 ||| b.2
  let n := (field (r1 s Reg.tdcMeasureResult k) 223 192 + 1) % 2 ^ 32
  let v := ofSigned 64 iv.1 + stampField a.1 * 2 ^ 64 + stampField b.1 * 2 ^ 128 + n * 2 ^ 192 +
    (1 + iv.2 + 16 * (fl % 2) + 32 * (fl / 2)) * 2 ^ 224 + 3 * 2 ^ 232
  setMeas k measInit (w1 Reg.tdcMeasureResult k v s)

/-- The start edge of slot k (R225, R226). -/
def takeStart (k : Nat) (e : EdgeSample) (s : State) : State :=
  let m := getMeas s k
  let ch := startChannel s k
  if !m.armed || m.start.isSome || !givesEdge s ch (startSense s k) then s
  else
    let fl := publisherFlags s ch
    let r := stampEdge ch e s
    match r.1 with
    | none => r.2
    | some x =>
      let a := (roundStamp x, fl)
      let s := r.2
      if oneEdge s k then measDone k a a true s
      else
        match m.stop with
        | some b => measDone k a b false s
        | none => measState k 2 (setMeas k { m with start := some a, firstCycle := cycleOf s.now } s)

/-- A stop edge of slot k (R225, R226). On the start's own channel only a later edge stops an armed measurement. -/
def takeStop (k : Nat) (e : EdgeSample) (s : State) : State :=
  let m := getMeas s k
  let ch := stopChannel s k
  if !m.armed || m.stop.isSome || !givesEdge s ch (stopSense s k) then s
  else
    let fl := publisherFlags s ch
    let r := stampEdge ch e s
    match r.1 with
    | none => r.2
    | some x =>
      let b := (roundStamp x, fl)
      let s := r.2
      match m.start with
      | none =>
        if oneEdge s k then measDone k b b true s
        else if measMode s k = 2 then inc Reg.tdcEarlyStops k s
        else setMeas k { m with stop := some b, firstCycle := cycleOf s.now } s
      | some a =>
        if measMode s k = 2 ∧ startChannel s k = ch ∧ b.1 = a.1 then s
        else if measMode s k = 2 ∧ b.1 < a.1 then inc Reg.tdcEarlyStops k s else measDone k a b false s

/-- A measurement in progress is abandoned. -/
def measAbandon (k : Nat) (s : State) : State :=
  if (getMeas s k).armed then measState k 4 (setMeas k measInit s) else s

/-- The effect of TdcMeasureConfig (R224). -/
def effTdcMeasureConfig (k v : Nat) (s : State) : State := w1 Reg.tdcMeasureConfig k v (measAbandon k s)

/-- TDC_MEASURE_CONFIG_WRITE (R224). -/
def execTdcMeasureConfigWrite (slot : Fin 8) (w : WriteReq) (s : State) : Host.Outcome State Fault Refusal :=
  .next (catWrite w Reg.tdcMeasureConfig slot.val 0 effTdcMeasureConfig s)

/-- The effect of a start command; a slot whose mode is off arms nothing. -/
def measStart (k : Nat) (s : State) : State :=
  if measMode s k = 0 then s else measState k 1 (setMeas k { measInit with armed := true } s)

/-- TDC_MEASURE_START (R224). -/
def execTdcMeasureStart (slot : Fin 8) (w : WriteReq) (s : State) : Host.Outcome State Fault Refusal :=
  .next (catWrite w Reg.tdcMeasureStart slot.val 0 (effBool measStart) s)

/-- START_EDGE_TAKEN (R226). -/
def execStartEdgeTaken (slot : Fin 8) (dt : Nat) (edge : EdgeSample) (s : State) : Host.Outcome State Fault Refusal :=
  .next (takeStart slot.val edge (elapse dt s))

/-- TDC_MEASURE_COMPLETE (R226): the edge that arrives on the stop channel. -/
def execTdcMeasureComplete (slot : Fin 8) (dt : Nat) (edge : EdgeSample) (s : State) : Host.Outcome State Fault Refusal :=
  .next (takeStop slot.val edge (elapse dt s))

/-- The stamp field of an edge taken or not, and its flags. -/
def takenField (o : Option (Int × Nat)) : Nat :=
  match o with
  | some x => stampField x.1
  | none => 0

def takenFlags (o : Option (Int × Nat)) : Nat :=
  match o with
  | some x => x.2
  | none => 0

/-- A measurement ends without its second edge (R227). -/
def measOverflow (k : Nat) (s : State) : State :=
  let m := getMeas s k
  let fl := takenFlags m.start ||| takenFlags m.stop
  let n := field (r1 s Reg.tdcMeasureResult k) 223 192
  setMeas k measInit (w1 Reg.tdcMeasureResult k (takenField m.start * 2 ^ 64 + takenField m.stop * 2 ^ 128 + n * 2 ^ 192 +
    (8 + 16 * (fl % 2) + 32 * (fl / 2)) * 2 ^ 224 + 3 * 2 ^ 232) s)

/-- TDC_MEASURE_OVERFLOW (R227): 2^32 cycles after the first edge. -/
def execTdcMeasureOverflow (slot : Fin 8) (s : State) : Host.Outcome State Fault Refusal :=
  let m := getMeas s slot.val
  if m.start.isNone && m.stop.isNone then .next s
  else .next (measOverflow slot.val (advanceTo ((m.firstCycle + 2 ^ 32) * 2000) s))

/-! Frequency measurement (R230-R232). -/

def freqInit : FreqSlot :=
  { running := false, startTick := none, left := 0, first := none, last := none, gap := false
    commensurate := false, reserve := false }

def getFreq (s : State) (k : Nat) : FreqSlot := tget (fun _ => freqInit) s.tdc.freq k

def setFreq (k : Nat) (f : FreqSlot) (s : State) : State :=
  { s with tdc := { s.tdc with freq := tset (fun _ => freqInit) s.tdc.freq k f } }

def freqChannel (s : State) (k : Nat) : Nat := field (r1 s Reg.freqMeasureConfig k) 22 16

def freqState (k st : Nat) (s : State) : State := w1 Reg.freqMeasureResult k (putBytes (r1 s Reg.freqMeasureResult k) 29 1 st) s

/-- The effect of FreqMeasureConfig (R232). -/
def effFreqMeasureConfig (k v : Nat) (s : State) : State :=
  let s := if (getFreq s k).running then freqState k 3 (setFreq k freqInit s) else s
  w1 Reg.freqMeasureConfig k v s

/-- FREQ_MEASURE_CONFIG_WRITE (R232). -/
def execFreqMeasureConfigWrite (slot : Fin 8) (w : WriteReq) (s : State) : Host.Outcome State Fault Refusal :=
  .next (catWrite w Reg.freqMeasureConfig slot.val 0 effFreqMeasureConfig s)

/-- The effect of a start command: nothing with GateTicks 0 (R230). -/
def freqStart (k : Nat) (s : State) : State :=
  if field (r1 s Reg.freqMeasureConfig k) 15 0 = 0 then s
  else freqState k 1 (setFreq k { freqInit with running := true } s)

/-- FREQ_MEASURE_START (R230). -/
def execFreqMeasureStart (slot : Fin 8) (w : WriteReq) (s : State) : Host.Outcome State Fault Refusal :=
  .next (catWrite w Reg.freqMeasureStart slot.val 0 (effBool freqStart) s)

/-- The bound that a channel's latest line gives: its edge, with the time-clock cycles and the time counter, less its steps, at
that edge (R231). The increment in force has been in force since before M (R286). -/
def gateBound (s : State) (ch : Nat) : Option GateBound :=
  (latestFit s ch).map (fun f =>
    let b := nextOnLine f.zero f.period f.mid
    let c := b.2 / 2 ^ 26
    { edge := b.2, number := b.1, cycle := c
      slew := (((s.counter : Int) - s.servo.stepSum : Int) : Rat) - ((coarseCount s (cycleOf s.now) : Rat) - c) * (s.increment : Rat) })

/-- A running gate takes the result of the tick that ended: its first tick gives the first bound alone (R231). -/
def freqTake (k ended : Nat) (f : FreqSlot) (a : Nat) (s : State) : State :=
  let ch := freqChannel s k
  match validResult s ch ended with
  | none => setFreq k { f with gap := true } s
  | some r =>
    let fl := resFlags r
    let f := { f with commensurate := f.commensurate || fl.testBit 3, reserve := f.reserve || fl.testBit 2 }
    let b := gateBound s ch
    if ended = a then setFreq k { f with first := b } s
    else setFreq k { f with left := f.left - 1, last := b } s

/-- The gates at a boundary: `ended` is the tick that ended, `begun` the one that begins. -/
def freqTick (ended begun : Nat) (s : State) : State :=
  forN 8 (fun k s =>
    let f := getFreq s k
    if !f.running || f.gap then s
    else
      match f.startTick with
      | none => setFreq k { f with startTick := some begun, left := field (r1 s Reg.freqMeasureConfig k) 15 0 } s
      | some a => if f.left = 0 then s else freqTake k ended f a s) s

/-- RelClock of a gate over E periods between two edges, as a fraction (R231). -/
def relClock (s : State) (k : Nat) (a b : GateBound) : Rat :=
  ((b.number - a.number : Int) : Rat) * nominalPeriod s (freqChannel s k) * 512 / (b.edge - a.edge) - 1

/-- RelCounter: the mean increment is that from the one bounding edge to the other (R231). -/
def relCounter (c : Rat) (a b : GateBound) : Rat := (1 + c) * (2 ^ 41 * (b.cycle - a.cycle) / (b.slew - a.slew)) - 1

/-- A gate that a tick without a Valid result broke (R231): Gap; the spec states no figure there. -/
def freqGap (k : Nat) (f : FreqSlot) (s : State) : State :=
  let d0 := draw s
  let d1 := draw d0.2
  let d2 := draw d1.2
  let v := Config.freeValue d0.1 % 2 ^ 64 + (Config.freeValue d1.1 % 2 ^ 64) * 2 ^ 64 +
    (Config.freeValue d2.1 % 2 ^ 64) * 2 ^ 128 + (f.startTick.getD 0 % 2 ^ 32) * 2 ^ 192 +
    (2 + 4 * b2n f.reserve + 8 * b2n f.commensurate) * 2 ^ 224 + 2 * 2 ^ 232
  setFreq k freqInit (w1 Reg.freqMeasureResult k v d2.2)

/-- A gate that ran whole (R231, R232). -/
def freqWhole (k : Nat) (f : FreqSlot) (a b : GateBound) (s : State) : State :=
  let c := relClock s k a b
  let v := ofSigned 64 (roundTo (c * 10 ^ 18)) + ofSigned 64 (roundTo (relCounter c a b * 10 ^ 18)) * 2 ^ 64 +
    ((b.number - a.number).toNat % 2 ^ 64) * 2 ^ 128 + (f.startTick.getD 0 % 2 ^ 32) * 2 ^ 192 +
    (1 + 4 * b2n f.reserve + 8 * b2n f.commensurate) * 2 ^ 224 + 2 * 2 ^ 232
  setFreq k freqInit (w1 Reg.freqMeasureResult k v s)

/-- FREQ_GATE_END (R231): the gate is broken, or its last bound has come. -/
def execFreqGateEnd (slot : Fin 8) (_ : Unit) (s : State) : Host.Outcome State Fault Refusal :=
  let f := getFreq s slot.val
  if !f.running then .next s
  else if f.gap then .next (freqGap slot.val f s)
  else if f.startTick.isSome && f.left = 0 then
    match f.first, f.last with
    | some a, some b => .next (freqWhole slot.val f a b s)
    | _, _ => .next s
  else .next s

end Sys2Proof.Machine
end

