-- ==== Sys2Proof/Machine/Refs.lean ====
section
/-! DEFINITION. References, the loop and holdover (chapter 10): presence, qualification, witness votes, selection, the
reference loop, the history and the time-of-day inputs. -/

namespace Sys2Proof.Machine

def refIn0 : RefIn :=
  { present := false, invalid := 0, offs := [], hist := [], waited := 0, beyond := 0, lastEdge := none, edgeAt := 0, good := 0
    enabled := false }

def getRef (s : State) (i : Nat) : RefIn := tget (fun _ => refIn0) s.refs.ins i

def setRef (i : Nat) (r : RefIn) (s : State) : State :=
  { s with refs := { s.refs with ins := tset (fun _ => refIn0) s.refs.ins i r } }

def modRef (i : Nat) (f : RefIn → RefIn) (s : State) : State := setRef i (f (getRef s i)) s

def refStateOf (s : State) (i : Nat) : Nat := r1 s Reg.refState i
def refEnabled (s : State) (i : Nat) : Bool := decide (r1 s Reg.refEnable i = 1)
def refSelected (s : State) : Nat := r0 s Reg.refSelected
def timeBaseCorrection (s : State) : Int := toSigned 64 (r0 s Reg.timeBaseCorrection)
def loopControl (s : State) : Int := toSigned 64 (r0 s Reg.loopControl)
def refOffsetOf (s : State) (i : Nat) : Int := toSigned 64 (r1 s Reg.refOffset i)

/-- Measured per edge: both pulse inputs, and external clocks below 8 kHz (R239). -/
def perEdge (s : State) (i : Nat) : Bool := decide (125000 * 65536 < nominalPeriod s i)

def sumInts (l : List Int) : Int := l.foldl (fun a x => a + x) 0

/-- The FreqOffsets that an input has. -/
def freqOffsets (x : RefIn) : List Int := x.offs.filterMap id

/-- The mean of a list, 0 of none. -/
def meanInts (l : List Int) : Rat := if l.isEmpty then 0 else (sumInts l : Rat) / (l.length : Rat)

/-! Presence (R240). -/

/-- The conditions of R240 that need no history. -/
def inputPossible (s : State) (i : Nat) : Bool :=
  if i < 0x40 then laneUp s i && running s (bankDomain i)
  else if i < 0x44 then decide (nominalPeriod s i ≠ 0)
  else true

/-- 1.5 nominal periods in ps, rounded up. -/
def edgeLimit (s : State) (i : Nat) : Nat := (nominalPeriod s i * 3 / 2 * 1000 / 65536).ceil.toNat

/-! Pulse outputs that follow an input (R279, R283). -/

def plsInit : PlsSt :=
  { off := 0, aligned := false, lastA := 0, startAt := 0, endAt := 0, knownAt := 0, due := [], missFrom := 0, alignDue := false
    line := 0 }

def getPls (s : State) (k : Nat) : PlsSt := tget (fun _ => plsInit) s.plss k

def setPls (k : Nat) (y : PlsSt) (s : State) : State := { s with plss := tset (fun _ => plsInit) s.plss k y }

def plsModeOf (s : State) (n : Nat) : Nat := r1 s Reg.plsMode n

/-- A pulse output follows an input. -/
def followsInput (s : State) (n i : Nat) : Bool := decide (plsModeOf s n = 1) && decide (r1 s Reg.plsSource n = i)

/-- PlsState (R283). -/
def publishPls (n : Nat) (s : State) : State :=
  let st := match plsModeOf s n with
    | 1 => if (getRef s (r1 s Reg.plsSource n)).present then 1 else 2
    | 2 => if (getPls s n).aligned then 1 else 3
    | _ => 0
  w1 Reg.plsState n st s

/-- The followers of an absent input send nothing more (R279). -/
def dropFollowers (i : Nat) (s : State) : State :=
  forN 4 (fun n s => if followsInput s n i then publishPls n (setPls n { getPls s n with due := [] } s) else s) s

/-- The input becomes absent: a pulse channel has no input (R237), and its followers stop. Its last offsets stand, as the means of
R243 and R279 run over them; RefEnable acts as the last tick took it (R251). Loss of the selected input is counted (R245). -/
def becomeAbsent (i : Nat) (s : State) : State :=
  let st := refStateOf s i
  let s := if i = 0x44 ∨ i = 0x45 then noteInput i false s else s
  let s := dropFollowers i (modRef i (fun r => { r with present := false, waited := 0, beyond := 0, good := 0 }) s)
  if !(getRef s i).enabled then s
  else
    let s := w1 Reg.refState i 1 s
    if refSelected s = i ∧ 2 ≤ st then raise Ev.refDisqualified (inc Reg.refDisqualifications i s) else s

/-- RefOffset of a present input (R243). -/
def publishOffset (i : Nat) (s : State) : State :=
  w1 Reg.refOffset i (ofSigned 64 (roundTo (meanInts (freqOffsets (getRef s i)) + (timeBaseCorrection s : Rat)))) s

/-- The last 64 of an input's results, nothing where none of them has an offset (R243). -/
def keepOffs (l : List (Option Int)) : List (Option Int) :=
  let k := lastN 64 l
  if k.any (·.isSome) then k else []

/-- A per-tick input takes the result of tick n (R240, R243). -/
def takeTickResult (i n : Nat) (s : State) : State :=
  match validResult s i n with
  | some r =>
    let s := modRef i (fun x => { x with invalid := 0, present := inputPossible s i
                                         offs := keepOffs (x.offs ++ [some (resFreq r)]) }) s
    if inputPossible s i then s else becomeAbsent i s
  | none =>
    let s := modRef i (fun x => { x with invalid := min (x.invalid + 1) 8
                                         offs := keepOffs (x.offs ++ [none]) }) s
    if (getRef s i).present && (decide (8 ≤ (getRef s i).invalid) || !inputPossible s i) then becomeAbsent i s else s

/-- A per-edge input at a tick: no edge for 1.5 periods makes it absent (R240). -/
def checkEdgeTimeout (i : Nat) (s : State) : State :=
  let x := getRef s i
  if x.present && (!inputPossible s i || x.edgeAt + edgeLimit s i ≤ s.now) then becomeAbsent i s else s

/-! States (R244, R245). -/

/-- |RefOffset| in units of 10^-18, and the band in them. -/
def offMagnitude (s : State) (i : Nat) : Nat := (refOffsetOf s i).natAbs
def bandOf (s : State) (i : Nat) : Nat := r1 s Reg.refBand i * 10 ^ 9

def toWaiting (i : Nat) (s : State) : State := modRef i (fun x => { x with waited := 0 }) (w1 Reg.refState i 2 s)

def toBeyond (i : Nat) (s : State) : State := modRef i (fun x => { x with beyond := 0 }) (w1 Reg.refState i 5 s)

/-- WAITING ends (R245). -/
def toQualified (i : Nat) (s : State) : State := w1 Reg.refState i 3 s

/-- BEYOND for 8,000 ticks (R245). -/
def disqualify (i : Nat) (s : State) : State :=
  raise Ev.refDisqualified (inc Reg.refDisqualifications i (w1 Reg.refState i 6 s))

/-- The transitions that the offset alone decides. -/
def judgeOffset (i : Nat) (s : State) : State :=
  let o := offMagnitude s i
  let b := bandOf s i
  match refStateOf s i with
  | 3 =>
    if b < o then toBeyond i s
    else if b * 8 < o * 10 then raise Ev.softAlarm (inc Reg.refSoftAlarms i (w1 Reg.refState i 4 s))
    else s
  | 4 => if b < o then toBeyond i s else if o * 10 < b * 7 then toQualified i s else s
  | 5 => if b < o then s else if o * 10 < b * 7 then toQualified i s else w1 Reg.refState i 4 s
  | 6 => if o ≤ b then toWaiting i s else s
  | _ => s

/-- The wait-to-restore has run when one more tick is counted. -/
def waitDone (s : State) (i : Nat) : Bool := r1 s Reg.refWaitToRestore i * 8000 ≤ (getRef s i).waited + 1

/-- The state of an input at a tick's evaluation (R245). -/
def judgeRef (i : Nat) (s : State) : State :=
  if !refEnabled s i then w1 Reg.refState i 0 s
  else if !(getRef s i).present then w1 Reg.refState i 1 s
  else
    match refStateOf s i with
    | 0 => toWaiting i s
    | 1 => toWaiting i s
    | 2 =>
      if bandOf s i < offMagnitude s i then toWaiting i s
      else if waitDone s i then toQualified i s
      else modRef i (fun x => { x with waited := x.waited + 1 }) s
    | 5 =>
      let s := judgeOffset i s
      if refStateOf s i ≠ 5 then s
      else if 8000 ≤ (getRef s i).beyond + 1 then disqualify i s
      else modRef i (fun x => { x with beyond := x.beyond + 1 }) s
    | _ => judgeOffset i s

/-- Steps 1 and 2 of R251 for one input, with RefEnable as it stands: `ended` is the tick just ended. -/
def evaluateInput (ended i : Nat) (s : State) : State :=
  let s := modRef i (fun x => { x with enabled := refEnabled s i }) s
  let s := if perEdge s i then checkEdgeTimeout i s else takeTickResult i ended s
  let s := if (getRef s i).present then publishOffset i s else s
  let s := judgeRef i s
  let x := getRef s i
  let h := if x.present then some ((freqOffsets x).getLastD 0, refOffsetOf s i) else none
  if h.isNone && x.hist.isEmpty then s else setRef i { x with hist := (h :: x.hist).take 8000 } s

/-! Witnesses and votes (R247-R249). -/

/-- Compared with witnesses: QUALIFIED, SOFT or BEYOND. -/
def compared (s : State) (i : Nat) : Bool := decide (3 ≤ refStateOf s i) && decide (refStateOf s i ≤ 5)

/-- Selectable by its state alone (R244). -/
def selectableState (s : State) (i : Nat) : Bool :=
  let st := refStateOf s i
  decide (st = 3) || decide (st = 4) || (decide (st = 5) && decide (refSelected s = i))

/-- The differences of two inputs over the last 8,000 ticks. -/
def pairDiffs : List (Option (Int × Int)) → List (Option (Int × Int)) → List Int
  | some a :: t, some b :: u => (a.1 - b.1) :: pairDiffs t u
  | _ :: t, _ :: u => pairDiffs t u
  | _, _ => []

def pairMean (s : State) (i j : Nat) : Rat := meanInts (pairDiffs (getRef s i).hist (getRef s j).hist)

/-- WitnessLimit in units of 10^-18. -/
def witnessUnits (s : State) : Rat := ((r0 s Reg.witnessLimit * 10 ^ 9 : Nat) : Rat)

def flagged (s : State) (i j : Nat) : Bool := (r1 s Reg.refWitnessMask i).testBit j

def setFlag (i j : Nat) (on : Bool) (s : State) : State :=
  let s := w1 Reg.refWitnessMask i (setBit (r1 s Reg.refWitnessMask i) j on) s
  w1 Reg.refWitnessMask j (setBit (r1 s Reg.refWitnessMask j) i on) s

/-- The flag of one pair (R247). -/
def judgePair (i j : Nat) (s : State) : State :=
  if compared s i && compared s j then
    let m := absRat (pairMean s i j)
    if flagged s i j then (if m * 10 < witnessUnits s * 8 then setFlag i j false s else s)
    else if witnessUnits s < m then raise Ev.witnessAlarm (setFlag i j true s)
    else s
  else if flagged s i j then setFlag i j false s
  else s

/-- The inputs that have anything to do with witnesses: compared now, or flagged. -/
def witnessInputs (s : State) : List Nat :=
  (List.range 70).filter (fun i => compared s i || decide (r1 s Reg.refWitnessMask i ≠ 0))

/-- Every pair of a list, lower number first. -/
def pairsOf : List Nat → List (Nat × Nat)
  | [] => []
  | a :: t => t.map (fun b => (a, b)) ++ pairsOf t

/-- RefOffset averaged over the last 8,000 ticks (R248). -/
def longOffset (s : State) (i : Nat) : Rat := meanInts ((getRef s i).hist.filterMap (fun o => o.map (·.2)))

def insertRat (x : Rat) : List Rat → List Rat
  | [] => [x]
  | y :: t => if x ≤ y then x :: y :: t else y :: insertRat x t

/-- The median; the mean of the middle two of an even number. -/
def medianRat (l : List Rat) : Rat :=
  let q := l.foldl (fun a x => insertRat x a) []
  let n := q.length
  if n % 2 = 1 then q.getD (n / 2) 0 else (q.getD (n / 2 - 1) 0 + q.getD (n / 2) 0) / 2

/-- The voters beside a pair: every other input in QUALIFIED or SOFT (R248). -/
def votersOf (s : State) (i j : Nat) : List Nat :=
  (List.range 70).filter (fun k => (decide (refStateOf s k = 3) || decide (refStateOf s k = 4)) && decide (k ≠ i) && decide (k ≠ j))

/-- The winner of a decided vote: the present winner keeps it unless the other is nearer by half of WitnessLimit. -/
def voteWinner (s : State) (i j : Nat) (old : Option Nat) (m : Rat) : Nat :=
  let di := absRat (longOffset s i - m)
  let dj := absRat (longOffset s j - m)
  match old with
  | some w =>
    let dw := if w = i then di else dj
    let dn := if w = i then dj else di
    if witnessUnits s / 2 ≤ dw - dn then (if w = i then j else i) else w
  | none =>
    if di < dj then i else if dj < di then j
    else if refSelected s = j then j else i

def setWinner (k : Nat) (v : Option Nat) (s : State) : State :=
  match v with
  | some x => { s with refs := { s.refs with winners := tput s.refs.winners k x } }
  | none => { s with refs := { s.refs with winners := tdel s.refs.winners k } }

/-- The vote of a pair is, or is no more, without a voter beside it. -/
def setOpenVote (k : Nat) (on : Bool) (s : State) : State :=
  let l := s.refs.unvoted.filter (fun x => decide (x ≠ k))
  { s with refs := { s.refs with unvoted := if on then k :: l else l } }

/-- The number of a pair in the lists of votes. -/
def pairNo (i j : Nat) : Nat := i * 128 + j

/-- The pairs of which an input is one. -/
def pairHas (i k : Nat) : Bool := decide (k / 128 = i) || decide (k % 128 = i)

/-- Put one pair of the best rank to the vote. A loser stays one while the pair stays flagged, also where no input is left to vote
(R248, R249). -/
def votePair (i j : Nat) (s : State) : State :=
  let k := pairNo i j
  let voters := votersOf s i j
  let bare := s.refs.unvoted.contains k
  if voters.isEmpty then
    if bare then s else raise Ev.witnessUnresolved (inc0 Reg.witnessUnresolved (setOpenVote k true s))
  else
    let m := medianRat (0 :: voters.map (longOffset s))
    let was := (s.refs.winners.find? (fun e => e.1 = k)).map (·.2)
    let w := voteWinner s i j was m
    if was = some w && !bare then s else inc0 Reg.witnessVotes (setWinner k (some w) (setOpenVote k false s))

/-- Outvoted in any pair (R248). -/
def outvoted (s : State) (i : Nat) : Bool := s.refs.winners.any (fun e => pairHas i e.1 && decide (e.2 ≠ i))

def unresolved (s : State) (i : Nat) : Bool := s.refs.unvoted.any (pairHas i)

def selectable (s : State) (i : Nat) : Bool := selectableState s i && !outvoted s i

/-- The best rank among selectable inputs, 16 for none. -/
def bestRank (s : State) : Nat :=
  (List.range 70).foldl (fun b i => if selectable s i then min b (r1 s Reg.refRank i) else b) 16

/-- A pair whose flag has cleared is off the vote. -/
def endVote (i j : Nat) (s : State) : State :=
  if flagged s i j then s else setOpenVote (pairNo i j) false (setWinner (pairNo i j) none s)

/-- Put the flagged pairs of rank r to the vote, where r is the best rank. -/
def voteRank (l : List (Nat × Nat)) (r : Nat) (s : State) : State :=
  if bestRank s = r then
    forL l (fun p s =>
      if flagged s p.1 p.2 && decide (r1 s Reg.refRank p.1 = r) && decide (r1 s Reg.refRank p.2 = r) then votePair p.1 p.2 s
      else s) s
  else s

/-- Step 3 of R251: the flags, then the votes of the best rank; where all of it are outvoted the next rank is voted in the same
tick (R249). -/
def witnessStep (s : State) : State :=
  let l := pairsOf (witnessInputs s)
  let s := forL l (fun p s => judgePair p.1 p.2 s) s
  forN 16 (voteRank l) (forL l (fun p s => endVote p.1 p.2 s) s)

/-! Selection (R250). -/

/-- The choice of R250; 0xFF for none. -/
def choose (s : State) : Nat :=
  let l := (List.range 70).filter (selectable s)
  let f := r0 s Reg.refForce
  let sel := refSelected s
  if f ≠ 0xFF ∧ l.contains f then f
  else
    let rank := l.foldl (fun b i => min b (r1 s Reg.refRank i)) 16
    let cand := l.filter (fun i => r1 s Reg.refRank i = rank)
    if cand.contains sel then sel
    else if l.contains sel ∧ r0 s Reg.refRevertive = 0 then sel
    else cand.headD 0xFF

/-- RefFlags of every input (R262). -/
def publishFlags (s : State) : State :=
  let f := r0 s Reg.refForce
  forN 70 (fun i s =>
    let st := refStateOf s i
    let v := b2n (decide (st = 4) || decide (st = 5)) + 2 * b2n (decide (r1 s Reg.refWitnessMask i ≠ 0)) +
      4 * b2n (outvoted s i) + 8 * b2n (unresolved s i) + 16 * b2n (decide (f = i) && !selectable s i)
    w1 Reg.refFlags i v s) s

/-! Holdover (R257-R259). -/

/-- Record the bin that has ended, newest in row 0 (R257, R263). -/
def recordBin (s : State) : State :=
  match s.refs.binDue with
  | none => s
  | some t =>
    let n : Rat := (s.refs.ticks : Rat)
    let lm := if s.refs.ticks = 0 then 0 else roundTo ((s.refs.sumLoop : Rat) / n)
    let cm := if s.refs.ticks = 0 then 0 else roundTo ((s.refs.sumCorr : Rat) / n)
    let row := (t / 8000 % 2 ^ 32) * 2 ^ 160 + ofSigned 64 lm * 2 ^ 96 + ofSigned 64 cm * 2 ^ 32 +
      (if s.refs.allTrack then 1 else 2)
    let old := rowsOf s Reg.holdoverHistory 0
    let s := dropIdx Reg.holdoverHistory s
    let s := forL old (fun r s => if r.1 + 1 < 4096 then wr Reg.holdoverHistory 0 (r.1 + 1) r.2 s else s) s
    let s := wr Reg.holdoverHistory 0 0 row s
    { s with refs := { s.refs with sumLoop := 0, sumCorr := 0, ticks := 0, allTrack := true, binDue := none } }

/-- The TRACK bins of the window at TickSequence L, as (LoopMean, CorrectionMean) (R258). -/
def windowBins (s : State) (l : Nat) : List (Int × Int) :=
  let g := 8000 * r0 s Reg.holdoverGuard
  if l < g then []
  else
    let last := (l - g) / 8000
    let first := last - r0 s Reg.holdoverWindow
    ((rowsOf s Reg.holdoverHistory 0).filter (fun r =>
      decide (field r.2 1 0 = 1) && decide (first < field r.2 191 160) && decide (field r.2 191 160 ≤ last))).map
      (fun r => (toSigned 64 (field r.2 159 96), toSigned 64 (field r.2 95 32)))

/-- No input is selectable: HOLD with a value formed from the window, or FREE (R258, R259). -/
def holdoverEntry (s : State) : State :=
  let s := recordBin s
  let l := r0 s Reg.tickSequence
  let bins := windowBins s l
  if bins.isEmpty then w0 Reg.holdoverFlags 2 (w0 Reg.holdoverBins 0 (w0 Reg.loopState 0 s))
  else
    let h := meanInts (bins.map (·.1))
    let y := meanInts (bins.map (·.2))
    let s := w0 Reg.holdoverValue (ofSigned 64 (roundTo h)) (w0 Reg.holdoverBins bins.length s)
    let s := w0 Reg.holdoverFlags (b2n (decide (bins.length < r0 s Reg.holdoverWindow))) (w0 Reg.holdoverEntryTick l s)
    let s := w0 Reg.loopState 3 (inc0 Reg.holdoverEntries s)
    raise Ev.holdover { s with refs := { s.refs with holdH := h, holdY := y } }

/-! The loop (R252-R256). -/

/-- The cleaned clock's phase over the time clock's at an instant in ps: the accumulation of LoopControl (R253). -/
def cleanPhase (s : State) (t : Rat) : Rat := s.refs.clean + (t - (s.refs.cleanAt : Rat)) * (loopControl s : Rat) / 10 ^ 18

/-- LoopControl is limited to ±150 ppm (R256); the phase up to now is accumulated under the value that ends. -/
def setLoopControl (x : Rat) (s : State) : State :=
  let s := { s with refs := { s.refs with clean := cleanPhase s (s.now : Rat), cleanAt := s.now } }
  w0 Reg.loopControl (ofSigned 64 (clampInt (-150000000000000) 150000000000000 (roundTo x))) s

/-- Reduced into (-P/2, P/2] modulo P. -/
def reducePhase (x p : Rat) : Rat := if p = 0 then x else x - p * ((x / p - 1 / 2).ceil : Rat)

/-- The update interval in ns (R253). -/
def updateNs (s : State) (i : Nat) : Rat := if perEdge s i then nominalPeriod s i / 65536 else 125000

/-- K_p of an input (R253). -/
def loopKp (s : State) (i : Nat) : Rat :=
  Config.twoPi * ((r1 s Reg.refBandwidth i : Nat) : Rat) / 1000 * (updateNs s i / 10 ^ 9)

/-- A takes LoopControl over one update interval (R253). -/
def accumulate (i : Nat) (s : State) : State :=
  let a := s.refs.acc + (loopControl s : Rat) / 10 ^ 18 * updateNs s i * 65536
  { s with refs := { s.refs with acc := a } }

/-- The phase error before the build-out is taken off. -/
def rawPhi (s : State) (i : Nat) (phase : Rat) : Rat := reducePhase (-phase - s.refs.acc) (nominalPeriod s i)

/-- φ in units of 2^-16 ns as a frequency over one update interval, units of 10^-18. -/
def phiOverT (s : State) (i : Nat) (phi : Rat) : Rat := phi / 65536 / updateNs s i * 10 ^ 18

def publishPhi (phi : Rat) (s : State) : State := w0 Reg.loopPhaseError (ofSigned 64 (roundTo phi)) s

/-- One TRACK update (R253, R255). -/
def trackUpdate (i : Nat) (phase : Rat) (s : State) : State :=
  let s := accumulate i s
  let phi := rawPhi s i phase - s.refs.build
  let lim : Rat := ((r0 s Reg.refPhaseJumpLimit * 65536 : Nat) : Rat) / 1000
  let change := match s.refs.lastPhi with | some p => phi - p | none => 0
  let jump := decide (lim ≠ 0) && decide (lim < absRat change)
  let s := if jump then
      inc Reg.refPhaseJumps i { s with refs := { s.refs with build := s.refs.build + change } }
    else s
  let phi := if jump then phi - change else phi
  let kp := loopKp s i
  let ig := s.refs.integ + kp * kp / 64 * phiOverT s i phi
  let s := { s with refs := { s.refs with integ := ig, lastPhi := some phi } }
  publishPhi phi (setLoopControl (ig + kp * phiOverT s i phi) s)

/-- Entry to TRACK (R254). -/
def enterTrack (i : Nat) (phase : Rat) (s : State) : State :=
  let s := { s with refs := { s.refs with acc := 0, integ := (loopControl s : Rat), lastPhi := some 0 } }
  let s := { s with refs := { s.refs with build := rawPhi s i phase } }
  publishPhi 0 (w0 Reg.loopState 2 s)

/-- The updates within RegainFreqLimit that end REGAIN: 8 edges, or those that begin and end 8,000 ticks (R254). -/
def regainNeed (s : State) (i : Nat) : Nat := if perEdge s i then 8 else 8001

/-- One REGAIN update (R252, R254). -/
def regainUpdate (i : Nat) (phase : Rat) (s : State) : State :=
  let f := meanInts (freqOffsets (getRef s i))
  let lc : Rat := (loopControl s : Rat)
  let slew : Rat := ((r0 s Reg.regainSlew * 10 ^ 9 : Nat) : Rat)
  let d := f - lc
  let step := if slew < d then slew else if d < -slew then -slew else d
  let s := setLoopControl (lc + step) s
  let err := absRat (f - (loopControl s : Rat))
  let ok := decide (err ≤ ((r0 s Reg.regainFreqLimit * 10 ^ 6 : Nat) : Rat))
  let n := if ok then s.refs.okRun + 1 else 0
  let s := { s with refs := { s.refs with okRun := n } }
  if regainNeed s i ≤ n then enterTrack i phase s else s

/-- The loop's update with a phase sample of the selected input. -/
def loopSample (i : Nat) (phase : Rat) (s : State) : State :=
  match r0 s Reg.loopState with
  | 1 => regainUpdate i phase s
  | 2 => trackUpdate i phase s
  | _ => s

/-- Step 5 of R251: `ended` is the tick just ended. -/
def loopTick (ended : Nat) (s : State) : State :=
  let sel := refSelected s
  if s.refs.done then { s with refs := { s.refs with done := false } }
  else
    match r0 s Reg.loopState with
    | 0 => setLoopControl (-(timeBaseCorrection s : Rat)) s
    | 3 => setLoopControl (s.refs.holdH - ((timeBaseCorrection s : Rat) - s.refs.holdY)) s
    | _ =>
      if perEdge s sel then s
      else
        match validResult s sel ended with
        | some r => loopSample sel ((resPhase r : Nat) : Rat) s
        | none => if r0 s Reg.loopState = 2 then accumulate sel s else s

/-- Step 4 of R251, with the loop state it leads to (R250, R252). Answers whether HOLD was entered at this tick. -/
def selectStep (s : State) : Bool × State :=
  let new := choose s
  let old := refSelected s
  if new = old then (false, s)
  else
    let s := raise Ev.refSwitch (inc0 Reg.refSwitches (w0 Reg.refSelected new s))
    let s := { s with refs := { s.refs with okRun := 0, done := false } }
    if new = 0xFF then (true, holdoverEntry s)
    else (false, w0 Reg.loopState 1 s)

/-- The bin in progress takes the tick just ended (R257). -/
def binTick (s : State) : State :=
  let s := recordBin s
  let track := s.refs.allTrack && decide (r0 s Reg.loopState = 2)
  let s := { s with refs := { s.refs with sumLoop := s.refs.sumLoop + loopControl s
                                          sumCorr := s.refs.sumCorr + timeBaseCorrection s
                                          ticks := s.refs.ticks + 1, allTrack := track } }
  let q := r0 s Reg.tickSequence
  if q % 8000 = 0 then { s with refs := { s.refs with binDue := some q } } else s

/-- TimeBaseCorrection (R235). -/
def updateTimeBase (s : State) : State :=
  let age : Rat :=
    if r0 s Reg.servoState = 0 then 0
    else (toSigned 32 (r0 s Reg.ageingRate) : Rat) * 10 ^ 6 *
      ((((s.counter : Int) - (readingOf128 (r0 s Reg.ageingEpoch) : Int) : Int) : Rat)) / (86400 * 10 ^ 9 * 2 ^ 40)
  let own : Int := if r0 s Reg.timeBaseSource = 1 then 0 else s.tdc.yf + (getCal s 5 0).values.getD 0 0
  w0 Reg.timeBaseCorrection (ofSigned 64 (clampInt (-(2 ^ 63)) (2 ^ 63 - 1) (roundTo ((own : Rat) + age)))) s

/-- REF_TICK_EVALUATION (R251): the order of the five steps; `ended` is the tick just ended. -/
def refTick (ended : Nat) (s : State) : State :=
  let s := binTick s
  let s := updateTimeBase s
  let s := forN 70 (evaluateInput ended) s
  let s := witnessStep s
  let r := selectStep s
  let s := if r.1 then r.2 else loopTick ended r.2
  publishFlags s

/-! Per-edge inputs (R239, R240, R243). -/

/-- The spacing of two edges lies within 1 % of the nominal period. -/
def spacingGood (s : State) (i : Nat) (d : Int) : Bool := decide (absRat ((d : Rat) - nominalPeriod s i) ≤ nominalPeriod s i / 100)

/-- The loop's update per edge (R239): an edge at stamp x on the extended count, units of 2^-16 ns, sampled at an instant in
ps. -/
def perEdgeUpdate (i : Nat) (x : Int) (t : Nat) (s : State) : State :=
  let r := getRef s i
  let s := match r.lastEdge with
    | none => s
    | some l =>
      let d := x - l
      let good := spacingGood s i d
      let off := roundTo ((1 - (d : Rat) / nominalPeriod s i) * 10 ^ 18)
      let r := { r with good := if good then r.good + 1 else 0, offs := lastN 8 (r.offs ++ [some off]) }
      let s := setRef i r s
      if r.present && !good then becomeAbsent i s
      else if !r.present && decide (2 ≤ r.good) then setRef i { r with present := true } s
      else s
  let s := modRef i (fun r => { r with lastEdge := some x, edgeAt := t }) s
  if !(getRef s i).present then s
  else
    let s := publishOffset i s
    let s := if (getRef s i).enabled then judgeOffset i s else s
    if refSelected s = i then loopSample i (x : Rat) s else s

/-- The sub-index of an input per R238 that takes pulses. -/
def pulseChannel (input : Nat) : Nat := 0x44 + input

/-- The counter reading of an edge (R223), rounded to 2^-32 ns. -/
def edgeReading (s : State) (ch : Nat) (e : EdgeSample) : Nat :=
  let x : Rat := (((s.counter : Int) * 2 ^ 26 + publishedDelta s ch e * (s.increment : Int) : Int) : Rat) / 2 ^ 34
  asReading ((x + 1 / 2).floor * 2 ^ 8)

/-- TdcPulseStamp of a rising edge (R223). -/
def writePulseStamp (ch : Nat) (e : EdgeSample) (s : State) : State :=
  let old := r1 s Reg.tdcPulseStamp ch
  let n := (field old 159 128 + 1) % 2 ^ 32
  let fl := publisherFlags s ch
  let flags := 1 + 2 * b2n (decide (r0 s Reg.servoState = 0)) + 4 * (fl % 2) + 8 * (fl / 2)
  w1 Reg.tdcPulseStamp ch (time128 (edgeReading s ch e) + n * 2 ^ 128 + flags * 2 ^ 160) s

/-! The rows of this chapter. A transition that a tick's evaluation would make may be commanded within that tick; the
evaluation makes whatever has not been commanded (log 12). -/

/-- WAIT_TO_RESTORE_EXPIRE (R245). -/
def execWaitToRestoreExpire (input : Fin 70) (s : State) : Host.Outcome State Fault Refusal :=
  let i := input.val
  if refStateOf s i = 2 ∧ offMagnitude s i ≤ bandOf s i ∧ waitDone s i then .next (toQualified i s) else .next s

/-- REF_DISQUALIFY (R245). -/
def execRefDisqualify (input : Fin 70) (s : State) : Host.Outcome State Fault Refusal :=
  let i := input.val
  if refStateOf s i = 5 ∧ bandOf s i < offMagnitude s i ∧ 8000 ≤ (getRef s i).beyond + 1 then .next (disqualify i s)
  else .next s

/-- REGAIN_TO_TRACK (R254). -/
def execRegainToTrack (s : State) : Host.Outcome State Fault Refusal :=
  let i := refSelected s
  if r0 s Reg.loopState = 1 ∧ !perEdge s i ∧ !s.refs.done then
    match validResult s i (tickNo s) with
    | some r =>
      let t := regainUpdate i ((resPhase r : Nat) : Rat) s
      if r0 t Reg.loopState = 2 then .next { t with refs := { t.refs with done := true } } else .next s
    | none => .next s
  else .next s

/-- HOLDOVER_BIN_END (R257). -/
def execHoldoverBinEnd (s : State) : Host.Outcome State Fault Refusal := .next (recordBin s)

/-! Time of day (R241, R242, R264). -/

/-- A ToD message is well formed (R241). -/
def todWellFormed (b : Bytes) (framingError : Bool) : Bool :=
  !framingError && decide (b.length = 20) && decide (beAt b 0 3 = 0x4B5401) && decide (leAt b 3 1 < 8) &&
  decide (leAt b 13 3 = 0) && decide (leAt b 16 4 = crc32c (b.take 16))

/-- The message falls 10 ms to 900 ms after the latest edge (R242). -/
def todInTime (s : State) (i : Nat) : Bool :=
  let x := getRef s i
  x.lastEdge.isSome && decide (x.edgeAt + 10 * 10 ^ 9 ≤ s.now) && decide (s.now ≤ x.edgeAt + 900 * 10 ^ 9)

/-- An accepted message is written to TodLabel (R242, R264). -/
def acceptTod (i : Nat) (b : Bytes) (s : State) : State :=
  let sec := leAt b 4 6
  let n := field (r1 s Reg.tdcPulseStamp i) 159 128
  let fault := match s.refs.tod.find? (fun e => e.1 = i) with
    | some e => decide ((sec : Int) - (e.2.seconds : Int) ≠ (((n + 2 ^ 32 - e.2.pulses) % 2 ^ 32 : Nat) : Int))
    | none => false
  let v := sec * 2 ^ 64 + n * 2 ^ 128 + leAt b 10 2 * 2 ^ 160 + leAt b 12 1 * 2 ^ 176 + (leAt b 3 1 + 8 * b2n fault) * 2 ^ 184
  let s := inc Reg.todMessages i (w1 Reg.todLabel i v s)
  let s := { s with refs := { s.refs with tod := tput s.refs.tod i { seconds := sec, pulses := n } } }
  if fault then raise Ev.todFault s else s

end Sys2Proof.Machine
end

