-- ==== Sys2Proof/Machine/Clocks.lean ====
section
/-! DEFINITION. Clock synthesis and pulse outputs (chapter 11). -/

namespace Sys2Proof.Machine

def synInit : SynSt :=
  { e := 0, target := 0, anchor := 0, locked := false, relockAt := 0, restartDue := false, clipped := false, low := false
    align := none }

def getSyn (s : State) (k : Nat) : SynSt := tget (fun _ => synInit) s.syns k

def setSyn (k : Nat) (y : SynSt) (s : State) : State := { s with syns := tset (fun _ => synInit) s.syns k y }

/-- The module is the standby of a twin pair (R335). -/
def twinStandby (s : State) : Bool := decide (r0 s Reg.twinRole = 1)

/-- An output is to run: OutEnable, unless the standby role disables it (R269, R335). -/
def outWanted (s : State) (o : Nat) : Bool :=
  decide (r1 s Reg.outEnable o = 1) && !(twinStandby s && (r0 s Reg.twinClockMask).testBit o)

/-! Synthesisers (R265-R266, R271-R275). -/

def synEnabled (s : State) (k : Nat) : Bool := (r1 s Reg.synConfig k).testBit 31
def synN (v : Nat) : Nat := field v 27 12
def synP (v : Nat) : Nat := field v 11 0

/-- (1 + LoopControl) × (1 + r_k) - 1 in units of 10^-18, before the limit (R265). -/
def synWanted (s : State) (k : Nat) : Rat :=
  let l : Rat := (loopControl s : Rat) / 10 ^ 18
  let r : Rat := (toSigned 32 (r1 s Reg.synOffset k) : Rat) / 2 ^ 41
  ((1 + l) * (1 + r) - 1) * 10 ^ 18

/-- ±200 ppm in units of 10^-18, and 50 ppm and 1 ppm. -/
def synLimit : Rat := 200000000000000
def synTolerance : Rat := 50000000000000
def synSlew : Rat := 2199023 * 10 ^ 18 / 2 ^ 41

/-- The target of SYNk from its objects; a target beyond the limit is clipped and counted when it becomes so, and at
each write that sets one (R265). -/
def synRetarget (k : Nat) (write : Bool) (s : State) : State :=
  let w := synWanted s k
  let clip := decide (synLimit < absRat w)
  let t := if synLimit < w then synLimit else if w < -synLimit then -synLimit else w
  let y := getSyn s k
  let s := if clip && (write || !y.clipped) then raise Ev.synClip (inc Reg.synClips k s) else s
  setSyn k { y with target := t, clipped := clip } s

/-- f_SYN in µHz on the time-clock scale (R266). -/
def synMicroHz (s : State) (k : Nat) : Rat :=
  let v := r1 s Reg.synConfig k
  250000000000000 * (synN v : Rat) / (synP v : Rat) * (1 + (getSyn s k).e / 10 ^ 18)

/-- The outputs that a synthesiser drives (R267). -/
def outputsOf (s : State) (k : Nat) : List Nat := (List.range 12).filter (fun o => field (r1 s Reg.outConfig o) 27 26 = k)

def outDivider (s : State) (o : Nat) : Nat := field (r1 s Reg.outConfig o) 23 0 + 1
def outSource (s : State) (o : Nat) : Nat := field (r1 s Reg.outConfig o) 27 26

/-- OutFrequency of an output (R283). -/
def publishOut (o : Nat) (s : State) : State :=
  let f := if r1 s Reg.outState o = 1 then (roundTo (synMicroHz s (outSource s o) / (outDivider s o : Rat))).toNat else 0
  w1 Reg.outFrequency o f s

/-- SynRate, SynAnchor, SynFrequency and the frequencies of its outputs. -/
def publishSyn (k : Nat) (s : State) : State :=
  let y := getSyn s k
  let s := w1 Reg.synRate k (ofSigned 64 (roundTo y.e)) (w1 Reg.synAnchor k (ofSigned 64 (roundTo y.anchor)) s)
  let f := if r1 s Reg.synState k = 0 then 0 else (roundTo (synMicroHz s k)).toNat
  forL (outputsOf s k) publishOut (w1 Reg.synFrequency k f s)

/-! The dividers (R267-R269). -/

/-- Half a period of f_SYN in ps, on the time-clock scale; 0 where the synthesiser has no frequency. -/
def synHalf (s : State) (k : Nat) : Rat := 10 ^ 18 / (2 * synMicroHz s k)

/-- The period of an output in ps: 2 D half-periods. -/
def outPeriod (s : State) (o : Nat) : Rat := 2 * (outDivider s o : Rat) * synHalf s (outSource s o)

/-- A delay in ps: the coarse part modulo 2 D (R268). -/
def delayOf (s : State) (o coarse fine : Nat) : Rat :=
  ((coarse % (2 * outDivider s o) : Nat) : Rat) * synHalf s (outSource s o) + (fine : Rat)

/-- Reduced into [0, p). -/
def reduceInto (x p : Rat) : Rat := if p = 0 then 0 else x - p * ((x / p).floor : Rat)

/-- The first instant at or after t that lies a whole number of periods from an edge. -/
def edgeFrom (edge p t : Rat) : Rat := t + reduceInto (edge - t) p

/-- An instant of a lattice of period p that has the phase at now which x had in the lattice of period `was`. -/
def rescale (now x was p : Rat) : Rat := now + (x - now) * p / was

/-- The divider's phase is kept where its period changes, also ahead of and within a lengthened period (R269, R271): `was` is the
period before. -/
def keepPhase (o : Nat) (was : Rat) (s : State) : State :=
  let y := getOut s o
  let p := outPeriod s o
  let now : Rat := s.now
  if y.waits ∨ was = 0 ∨ p = was then s
  else
    match y.stretch with
    | some (t, d) =>
      if now ≤ t then
        let u := rescale now t was p
        setOut o { y with edge := u + d, stretch := some (u, d) } s
      else if now < t + d + was then
        let u := rescale now (t + d + was) was p - p
        setOut o { y with edge := u, stretch := some (t, u - t) } s
      else setOut o { y with edge := rescale now y.edge was p, stretch := none } s
    | none => setOut o { y with edge := rescale now y.edge was p } s

/-- One period of f_ref = f_c / P in ps. -/
def refPeriod (s : State) (k : Nat) : Rat := 2000 * (synP (r1 s Reg.synConfig k) : Rat) / (1 + (getSyn s k).e / 10 ^ 18)

/-- The reference-aligned edges keep their phase where the reference period changes. -/
def keepAlign (k : Nat) (was : Rat) (s : State) : State :=
  let y := getSyn s k
  if was = 0 then s else setSyn k { y with align := y.align.map (fun x => rescale (s.now : Rat) x was (refPeriod s k)) } s

/-- What a change of rate does to SYNk and its outputs: each keeps its phase. -/
def keepingPhases (k : Nat) (f : State → State) (s : State) : State :=
  let t := keepAlign k (refPeriod s k) (f s)
  forL (outputsOf s k) (fun o t => keepPhase o (outPeriod s o) t) t

/-- The programmed delay of an output is in force (R273). -/
def takeDelay (o : Nat) (s : State) : State :=
  setLine o (setOut o { getOut s o with coarse := r1 s Reg.outCoarseDelay o, fine := r1 s Reg.outFineDelay o } s)

/-- The first instant at or after t at which the divider is h into a period; a lengthened period (t0, Δ) has none in its added
part, which is low (R268). -/
def nextTurn (y : OutSt) (p h t : Rat) : Rat :=
  match y.stretch with
  | some (t0, d) => if t ≤ t0 + h then edgeFrom (t0 + h) p t else max (t0 + d + p + h) (edgeFrom (y.edge + h) p t)
  | none => edgeFrom (y.edge + h) p t

/-- An opening has changed an output's delay (R268): the first period that begins after the boundary is lengthened by Δ, and by
an earlier Δ that it still has to take. An output that waits for its restart takes the delay there (R275). -/
def outDelayed (o : Nat) (s : State) : State :=
  let y := getOut s o
  if y.waits then s
  else
    let p := outPeriod s o
    let d := reduceInto (delayOf s o (r1 s Reg.outCoarseDelay o) (r1 s Reg.outFineDelay o) - delayOf s o y.coarse y.fine) p
    let t := nextTurn y p 0 (s.now : Rat)
    let d := d + match y.stretch with | some (u, e) => if u = t then e else 0 | none => 0
    takeDelay o (setOut o { y with edge := t + d, stretch := some (t, d) } s)

/-- The synthesiser is locked: SynState 0x01 or 0x02. -/
def synRuns (s : State) (k : Nat) : Bool := decide (r1 s Reg.synState k = 1) || decide (r1 s Reg.synState k = 2)

def synRelocking (s : State) (k : Nat) : Bool := decide (r1 s Reg.synState k = 3) || decide (r1 s Reg.synState k = 4)

/-! The relock sequence (R269-R275). -/

/-- OutState of an output that is to run and has been enabled before: held low, bounded or running (R269, R273). -/
def outFollows (s : State) (o : Nat) : Nat :=
  let y := getOut s o
  let k := outSource s o
  if !(synRuns s k || synRelocking s k) then 2 else if y.waits then (if y.low then 2 else 3) else 1

/-- OutState after its enable or its restart state may have changed. An enable that arrives while the output is held low is
pending until the restart; under a bounded relock the pin follows the running divider (R269). -/
def judgeOut (o : Nat) (s : State) : State :=
  let was := r1 s Reg.outState o
  let st := if !outWanted s o then 0
    else
      let f := outFollows s o
      if f = 2 ∧ (was = 0 ∨ was = 4) then 4 else f
  let y := getOut s o
  let p := outPeriod s o
  let s := if was = 0 ∧ (st = 1 ∨ st = 3) then setOut o { y with pinAt := nextTurn y p 0 (s.now : Rat) } s
    else if st = 0 ∧ (was = 1 ∨ was = 3) then setOut o { y with pinAt := nextTurn y p (p / 2) (s.now : Rat) } s
    else s
  publishOut o (w1 Reg.outState o st s)

/-- An output enters steps 1 and 2 of the relock sequence: bounded by its RelockMode, else held low; an output already held
low stays low; `low` holds it low whatever its RelockMode (R273, R275, R282). -/
def outRelock (o : Nat) (low : Bool) (s : State) : State :=
  let y := getOut s o
  let bounded := (r1 s Reg.outConfig o).testBit 25
  let ends := if y.waits then y.endsAt else nextTurn y (outPeriod s o) 0 (s.now : Rat)
  judgeOut o (setOut o { y with waits := true, low := (y.waits && y.low) || low || !bounded, endsAt := ends } s)

/-- SYN_RELOCK (R272, R273 steps 1 and 2); `low` holds every output low. -/
def synRelock (k cause : Nat) (low : Bool) (s : State) : State :=
  let s := w1 Reg.synRelockCause k cause (inc Reg.synRelocks k s)
  let y := getSyn s k
  let s := setSyn k { y with e := y.target, anchor := y.target, locked := false, relockAt := s.now, restartDue := false
                             low := y.low || low } s
  let s := w1 Reg.synState k 3 s
  publishSyn k (forL (outputsOf s k) (fun o s => outRelock o (getSyn s k).low s) s)

/-- SYNk stops: its outputs are held low (R272, R282). -/
def synStop (k : Nat) (s : State) : State :=
  let s := w1 Reg.synState k 0 (setSyn k { getSyn s k with locked := false, restartDue := false } s)
  publishSyn k (forL (outputsOf s k) (fun o s => outRelock o true s) s)

/-- The target lies more than 50 ppm from the anchor. -/
def synBeyond (s : State) (k : Nat) : Bool := decide (synTolerance < absRat ((getSyn s k).target - (getSyn s k).anchor))

/-- SynState while locked: ramping where e_k differs from its target (R271). -/
def synJudge (k : Nat) (s : State) : State :=
  if synRuns s k then w1 Reg.synState k (if (getSyn s k).e = (getSyn s k).target then 1 else 2) s else s

/-- The rotator moves toward its target by at most 1 ppm (R271). -/
def rotate (k : Nat) (s : State) : State :=
  let y := getSyn s k
  let d := y.target - y.e
  setSyn k { y with e := y.e + (if synSlew < d then synSlew else if d < -synSlew then -synSlew else d) } s

/-- One tick of SYNk: the target follows LoopControl; beyond the tolerance it relocks, in a relock too, else the rotator
moves (R271, R272, R275). -/
def synTick (k : Nat) (s : State) : State :=
  if !synEnabled s k || !running s 2 then s
  else
    let s := synRetarget k false s
    if synRuns s k || synRelocking s k then
      if synBeyond s k then synRelock k 2 false s
      else publishSyn k (synJudge k (keepingPhases k (rotate k) s))
    else s

/-- An output waits for a restart, and the period in which it began to has ended before this boundary (R270). -/
def outEnded (s : State) (o : Nat) : Bool := (getOut s o).waits && decide ((getOut s o).endsAt < (s.boundaryAt : Rat))

/-- Some output of SYNk is due for a restart of its own (R270). -/
def outputsWait (s : State) (k : Nat) : Bool := (outputsOf s k).any (outEnded s)

/-- An output that waits restarts: its first rising edge comes at an instant plus its delay (R273). In a restart without a relock
(`own`) only one past its step 2 does (R270). -/
def outRestart (own : Bool) (t : Rat) (o : Nat) (s : State) : State :=
  if !(getOut s o).waits || (own && !outEnded s o) then s
  else
    let s := takeDelay o s
    let y := getOut s o
    judgeOut o (setOut o { y with edge := t + delayOf s o y.coarse y.fine, waits := false, low := false, stretch := none } s)

/-- The first reference-aligned VCO edge at or after the boundary. Where in the reference period, P cycles of f_c, it lies after a
relock is a free value; without a relock it stays (R270, R273, R274; log 67). -/
def alignedEdge (k : Nat) (relock : Bool) (s : State) : Rat × State :=
  match (if relock then none else (getSyn s k).align) with
  | some x => (edgeFrom x (refPeriod s k) (s.boundaryAt : Rat), s)
  | none =>
    let d := draw s
    let t := (s.boundaryAt : Rat) + ((Config.freeValue d.1 % 2 ^ 32 : Nat) : Rat) / 2 ^ 32 * refPeriod s k
    (t, setSyn k { getSyn d.2 k with align := some t } d.2)

/-- Step 4: the outputs that wait restart together, at that edge (R273, R274). -/
def synRestart (k : Nat) (s : State) : State :=
  let relock := synRelocking s k
  let s := if relock then synJudge k (w1 Reg.synState k 1 s) else s
  let s := setSyn k { getSyn s k with locked := false, restartDue := false, low := false } s
  let e := alignedEdge k relock s
  publishSyn k (forL (outputsOf s k) (outRestart (!relock) e.1) e.2)

/-- What a tick boundary makes due: a restart after lock, or of outputs that wait while the synthesiser is locked; one
left over is made first. -/
def synBoundary (k : Nat) (s : State) : State :=
  let s := if (getSyn s k).restartDue then synRestart k s else s
  if (synRelocking s k && (getSyn s k).locked) || (synRuns s k && outputsWait s k) then
    setSyn k { getSyn s k with restartDue := true } s
  else s

/-- The outputs of a synthesiser that starts are no longer held low by its stop (R272, R273). -/
def freeOutputs (k : Nat) (s : State) : State :=
  setSyn k { getSyn s k with low := false }
    (forL (outputsOf s k) (fun o s => setOut o { getOut s o with waits := false, low := false } s) s)

/-- An opening has changed SynConfig from `old` (R272). -/
def synConfigured (k old : Nat) (s : State) : State :=
  let v := r1 s Reg.synConfig k
  if !v.testBit 31 then (if old.testBit 31 then synStop k s else s)
  else if old.testBit 31 && synN v = synN old && synP v = synP old then s
  else if running s 2 then
    synRelock k 1 false (synRetarget k false (if r1 s Reg.synState k = 0 then freeOutputs k s else s))
  else s

/-- An opening has changed an output's Source or divider (R270): it restarts under its RelockMode; a source that is stopped,
or that holds its outputs low, gives it no edges until its own step 4. -/
def outConfigured (o old : Nat) (s : State) : State :=
  let v := r1 s Reg.outConfig o
  if field v 27 26 = field old 27 26 ∧ field v 23 0 = field old 23 0 then s
  else
    let k := outSource s o
    outRelock o (!(synRuns s k || synRelocking s k) || (getSyn s k).low) s

/-- D2 goes to sleep, and wakes; a follower waits for its next edge (R282). -/
def clocksSleep (s : State) : State := forN 4 (fun k s => if synEnabled s k then synStop k s else s) s

def clocksWake (s : State) : State :=
  let s := forN 4 (fun n s => setPls n { getPls s n with due := [] } s) s
  forN 4 (fun k s => if synEnabled s k then synRelock k 3 true (synRetarget k false s) else s) s

/-- SYN_OFFSET_WRITE's effect (R271, R272). -/
def effSynOffset (k v : Nat) (s : State) : State :=
  let s := w1 Reg.synOffset k v s
  if !synEnabled s k || !running s 2 then s
  else
    let s := synRetarget k true s
    if synBeyond s k then synRelock k 2 false s else synJudge k s

/-- SYN_OFFSET_WRITE (R271). -/
def execSynOffsetWrite (syn : Fin 4) (w : WriteReq) (s : State) : Host.Outcome State Fault Refusal :=
  .next (catWrite w Reg.synOffset syn.val 0 effSynOffset s)

/-- SYN_RELOCK_TRIGGER (R272): the target beyond the tolerance, else the lock detector. -/
def execSynRelockTrigger (syn : Fin 4) (s : State) : Host.Outcome State Fault Refusal :=
  if synEnabled s syn.val && (synRuns s syn.val || synRelocking s syn.val) then
    .next (synRelock syn.val (if synBeyond s syn.val then 2 else 4) false s)
  else .next s

/-- SYN_LOCK_ACHIEVED (R273 step 3): the anchor is the e_k in force (R271). -/
def execSynLockAchieved (syn : Fin 4) (s : State) : Host.Outcome State Fault Refusal :=
  let k := syn.val
  if synRelocking s k then .next (publishSyn k (setSyn k { getSyn s k with locked := true, anchor := (getSyn s k).e } s))
  else .next s

/-- SYN_OUTPUT_RESTART (R273 step 4). -/
def execSynOutputRestart (syn : Fin 4) (s : State) : Host.Outcome State Fault Refusal :=
  if (getSyn s syn.val).restartDue then .next (synRestart syn.val s) else .next s

/-- The limit of step 3: 500 µs + 256 cycles of f_ref (R273), ps. -/
def lockLimit (s : State) (k : Nat) : Nat := 500000000 + (256 * refPeriod s k).ceil.toNat

/-- SYN_LOCK_TIMEOUT (R275). -/
def execSynLockTimeout (syn : Fin 4) (s : State) : Host.Outcome State Fault Refusal :=
  let k := syn.val
  if synRelocking s k && !(getSyn s k).locked then
    let s := advanceTo ((getSyn s k).relockAt + lockLimit s k) s
    let s := raise Ev.synLockFail (inc Reg.synLockFails k (w1 Reg.synState k 4 s))
    let s := setSyn k { getSyn s k with relockAt := s.now, restartDue := false, low := true } s
    .next (forL (outputsOf s k) (fun o s => outRelock o true s) s)
  else .next s

/-- OUT_ENABLE_WRITE's effect (R269). -/
def effOutEnable (o v : Nat) (s : State) : State := judgeOut o (w1 Reg.outEnable o v s)

/-- OUT_ENABLE_WRITE (R269). -/
def execOutEnableWrite (output : Fin 12) (w : WriteReq) (s : State) : Host.Outcome State Fault Refusal :=
  .next (catWrite w Reg.outEnable output.val 0 effOutEnable s)

/-! Pulse outputs (R278-R281). -/

/-- PlsOffset in whole picoseconds (R278). -/
def plsOffsetPs (s : State) (n : Nat) : Int := roundToPs (toSigned 64 (r1 s Reg.plsOffset n))
where
  /-- Units of 2^-16 ns to the nearest picosecond. -/
  roundToPs (x : Int) : Int := (x * 1000 + 2 ^ 15) / 2 ^ 16

/-- PlsAnchorError: A minus the time counter, rounded to units of 2^-16 ns (R280). -/
def publishAnchor (n : Nat) (s : State) : State :=
  w1 Reg.plsAnchorError n (ofSigned 64 ((getPls s n).off / 2 ^ 24)) s

/-- A of an anchored output. -/
def anchorOf (s : State) (n : Nat) : Int := (s.counter : Int) + (getPls s n).off

/-- Realignment sets A to the time counter; none in UNSET (R281). A pulse due at that A itself is still to come. -/
def realign (n : Nat) (s : State) : State :=
  if plsModeOf s n ≠ 2 ∨ r0 s Reg.servoState = 0 then s
  else
    let p := getPls s n
    let s := setPls n { p with off := 0, aligned := true, lastA := (s.counter : Int) - 1, knownAt := s.now, alignDue := false } s
    publishPls n (publishAnchor n (inc Reg.plsRealignments n s))

/-- PLS_REALIGN: what an opening does with PlsRealign, which returns to 0 (R281). -/
def realignAtOpening (s : State) : State :=
  let v := r0 s Reg.plsRealign
  if v = 0 then s else w0 Reg.plsRealign 0 (forL (onesList 4 v) realign s)

/-- An opening has changed PlsMode or another object of the output: mode 0x02 leaves it unaligned (R281). -/
def plsConfigured (n : Nat) (modeSet : Bool) (s : State) : State :=
  let p := getPls s n
  let p := if modeSet then { p with aligned := false, due := [], missFrom := s.now, alignDue := false }
    else { p with lastA := anchorOf s n, knownAt := s.now }
  publishPls n (setPls n p s)

/-- A step of the counter by d leaves every A where it is (R280). -/
def anchorsKeep (d : Int) (s : State) : State :=
  forN 4 (fun n s => publishAnchor n (setPls n { getPls s n with off := (getPls s n).off - d } s)) s

/-- The end of the last pulse once the next is known to be due at t: 8 ns before it, as soon as that is known (R278). -/
def pulseEnd (p : PlsSt) (t known : Nat) : Nat := max p.startAt (min p.endAt (max (t - 8000) known))

/-- The pins of the pulse outputs are held low: D2 sleeps, or the standby role holds this one (R282, R335). -/
def pulseHeld (s : State) (n : Nat) : Bool :=
  !running s 2 || (twinStandby s && (r0 s Reg.twinPulseMask).testBit n)

/-- A pulse due at an instant t in ps, known since `known`, at a reading of the counter; `next` is the instant of the one after
it. It is not sent where it falls within 8 ns of the last pulse's end or its pin is held low (R278, R282, R335). -/
def sendPulse (n t known next : Nat) (reading : Int) (s : State) : State :=
  let p := getPls s n
  if pulseHeld s n || (decide (p.endAt ≠ 0) && decide (t < pulseEnd p t known + 8000)) then s
  else
    let stop := min (t + r1 s Reg.plsWidth n * 1000) (max (next - 8000) t)
    let place := linePlace s (12 + n) ((t % 2000 : Nat) : Rat)
    let p := { p with startAt := t, endAt := stop, knownAt := t, missFrom := t, line := place }
    emit (.pulse n (asReading reading) t) (inc Reg.plsCount n (setPls n p s))

/-- The next value of A at which an anchored output pulses, after the last (R280), units of 2^-40 ns. -/
def nextAnchorPulse (s : State) (n : Nat) : Int :=
  let per : Int := (r1 s Reg.plsPeriod n : Int) * 2 ^ 40
  let off : Int := plsOffsetPs s n * 2 ^ 40 / 1000
  let base := max (anchorOf s n) ((getPls s n).lastA + 1) - off
  (base + per - 1) / per * per + off

/-- The instant in ps, to the nearest, at which the counter reads v, at the increment in force (R278: resolution 1 ps). -/
def pulseInstant (s : State) (v : Int) : Nat :=
  ((cycleOf s.now * 2000 : Nat) + nearest (((v - (s.counter : Int) : Int) : Rat) * 2000 / (max s.increment 1 : Nat))).toNat

/-- PULSE_ANCHORED_EMIT (R280): the clock runs to the next pulse. -/
def execPulseAnchoredEmit (pls : Fin 4) (s : State) : Host.Outcome State Fault Refusal :=
  let n := pls.val
  if plsModeOf s n ≠ 2 ∨ !(getPls s n).aligned then .next s
  else
    let a := nextAnchorPulse s n
    let v := a - (getPls s n).off
    let s := advanceToReading v.toNat s
    let next := pulseInstant s (v + (r1 s Reg.plsPeriod n : Int) * 2 ^ 40)
    .next (sendPulse n (pulseInstant s v) (getPls s n).knownAt next v (setPls n { getPls s n with lastA := a } s))

/-- The mean spacing of a per-edge input's last 8 edges, units of 2^-16 ns (R279). -/
def meanSpacing (s : State) (i : Nat) : Rat := nominalPeriod s i * (1 - meanInts (freqOffsets (getRef s i)) / 10 ^ 18)

/-- The place in ps of a follower's pulse after an edge at stamp x, units of 2^-16 ns: at least 20 µs after it, to the nearest
ps (R278, R279). -/
def followerPlace (s : State) (n i : Nat) (x : Int) : Nat :=
  let off : Rat := (plsOffsetPs s n : Rat) * 65536 / 1000
  let need : Rat := 20000 * 65536 - off
  let p := meanSpacing s i
  let q : Int := if need ≤ 0 ∨ p = 0 then 0 else (need / p).ceil
  instantOfStamp s (((x : Rat) + (q : Rat) * p + off) * 512)

/-- An edge of input i at stamp x places a pulse on every follower of it; none while D2 sleeps (R279, R282). -/
def placeFollowers (i : Nat) (x : Int) (s : State) : State :=
  forN 4 (fun n s =>
    if followsInput s n i then
      let s := if (getRef s i).present ∧ perEdge s i ∧ running s 2 then
          setPls n { getPls s n with due := (getPls s n).due ++ [(followerPlace s n i x, s.now)] } s
        else s
      publishPls n s
    else s) s

/-- The counter's reading at an instant in ps, at the increment in force. -/
def readingAtInstant (s : State) (t : Nat) : Int :=
  (s.counter : Int) + ((t : Int) - (cycleOf s.now * 2000 : Nat)) * (s.increment : Int) / 2000

/-- PULSE_FOLLOWER_EMIT (R279): the clock runs to the oldest pulse placed. -/
def execPulseFollowerEmit (pls : Fin 4) (s : State) : Host.Outcome State Fault Refusal :=
  let n := pls.val
  match (getPls s n).due with
  | [] => .next s
  | x :: t =>
    let s := advanceTo x.1 (setPls n { getPls s n with due := t } s)
    if plsModeOf s n ≠ 1 then .next s
    else
      let gap := (meanSpacing s (r1 s Reg.plsSource n) * 1000 / 65536).floor.toNat
      let next := match t with | y :: _ => y.1 | [] => x.1 + gap
      .next (sendPulse n x.1 x.2 next (readingAtInstant s x.1) s)

/-- PULSE_MISSED (R279): the clock runs to one nominal period after the last pulse or the last one missed. -/
def execPulseMissed (pls : Fin 4) (s : State) : Host.Outcome State Fault Refusal :=
  let n := pls.val
  let i := r1 s Reg.plsSource n
  if plsModeOf s n ≠ 1 ∨ (getRef s i).present then .next s
  else
    let s := advanceTo ((getPls s n).missFrom + (nominalPeriod s i * 1000 / 65536).floor.toNat) s
    .next (publishPls n (inc Reg.plsMissed n (setPls n { getPls s n with missFrom := s.now } s)))

/-- What a tick boundary makes due for an anchored output (R281); one left over is made first. -/
def plsBoundary (n : Nat) (s : State) : State :=
  let s := if (getPls s n).alignDue then realign n s else s
  if plsModeOf s n = 2 ∧ !(getPls s n).aligned ∧ r1 s Reg.plsAutoAlign n = 1 ∧ r0 s Reg.servoState = 2 then
    setPls n { getPls s n with alignDue := true } s
  else s

/-- PULSE_AUTO_ALIGN (R281). -/
def execPulseAutoAlign (pls : Fin 4) (s : State) : Host.Outcome State Fault Refusal :=
  if (getPls s pls.val).alignDue then .next (realign pls.val s) else .next s

end Sys2Proof.Machine
end

