-- ==== Sys2Proof/Machine/Servo.lean ====
section
/-! DEFINITION. Fabric time (chapter 12): the increment, steps and states of the servo, its time sources, and the PTP
messages. APPLY_POINT stands in Tick.lean, beside the boundary that a forward step raises. -/

namespace Sys2Proof.Machine

def ptpInit : PtpPort :=
  { waiting := [], sync := none, req := none, resps := [], delays := [], syncSeq := 0, reqSeq := 0, annSeq := 0, syncAt := 0
    reqAt := 0, annAt := 0, announce := none }

def getPtp (s : State) (slot : Nat) : PtpPort := tget (fun _ => ptpInit) s.ptp slot

def setPtp (slot : Nat) (p : PtpPort) (s : State) : State := { s with ptp := tset (fun _ => ptpInit) s.ptp slot p }

def modServo (f : ServoSt → ServoSt) (s : State) : State := { s with servo := f s.servo }

def servoStateOf (s : State) : Nat := r0 s Reg.servoState
def tickSeq (s : State) : Nat := r0 s Reg.tickSequence

/-- 2 ns in units of the counter. -/
def nominalIncrement : Nat := 2 ^ 41

def incMin : Nat := 0x01FFBE76C8B4
def incMax : Nat := 0x02004189374C

/-- A bit of ServoFlags (R314). -/
def servoFlag (s : State) (i : Nat) : Bool := (r0 s Reg.servoFlags).testBit i
def setServoFlag (i : Nat) (on : Bool) (s : State) : State := w0 Reg.servoFlags (setBit (r0 s Reg.servoFlags) i on) s

/-- A time of 2^-40 ns as a PHASE64 value. -/
def phase64 (x : Rat) : Nat := ofSigned 64 (roundTo (x / 2 ^ 24))

/-- Picoseconds to the nearest unit of 2^-40 ns. -/
def psUnits (ps : Int) : Int := (ps * 2 ^ 41 + 1000) / 2000

/-- Whole ns of a step, saturating at 64 bits (R313). -/
def stepNs (d : Int) : Nat := ofSigned 64 (clampInt (-(2 ^ 63)) (2 ^ 63 - 1) ((d + 2 ^ 39) / 2 ^ 40))

def clampRat (l x : Rat) : Rat := if l < x then l else if x < -l then -l else x

/-! States (R291, R292). -/

/-- The mean increment over the last 64 ticks (R294). -/
def meanIncrement (s : State) : Rat :=
  if s.servo.incs.isEmpty then (s.increment : Rat)
  else ((s.servo.incs.foldl (fun a x => a + x) 0 : Nat) : Rat) / (s.servo.incs.length : Rat)

/-- A change of ServoState (R292); FREERUN records I_F and y_F (R294). In LOCKED and FREERUN the counter never steps, so a step
that still waits for its apply point is dropped on entry (R293, DEDUCED; log 68). -/
def enterServo (st : Nat) (s : State) : State :=
  let old := servoStateOf s
  if st = old then s
  else
    let s := vitrineServo st s
    let s := if old = 0 then combinerLeavesUnset s else if st = 0 then combinerEntersUnset s else s
    let s := if st = 3 then
        let m := meanIncrement s
        let s := w0 Reg.freerunIncrement (roundTo m).toNat s
        let s := { s with vit := { s.vit with freerunAt := some (tickSeq s) } }
        modServo (fun v => { v with iF := m, yF := timeBaseCorrection s, freeAfterLocked := decide (old = 2) }) s
      else s
    let s := modServo (fun v => { v with consec := 0, goodRun := 0,
                                          nextStep := if st = 2 ∨ st = 3 then none else v.nextStep }) s
    raise Ev.servoState (inc0 Reg.servoStateChanges (w0 Reg.stateEntryTick (tickSeq s) (w0 Reg.servoState st s)))

/-- The time source is lost or changes (R292); External mode leaves the state to the host (R290). -/
def sourceLost (s : State) : State :=
  let st := servoStateOf s
  if !s.servo.external && (st = 1 || st = 2 || st = 4) then enterServo 3 s else modServo (fun v => { v with consec := 0 }) s

/-- The correction limit of a state (R289). -/
def slewLimitOf (s : State) : Rat :=
  match servoStateOf s with
  | 2 => (r0 s Reg.slewLimit : Rat) / 10 ^ 9
  | 1 => (r0 s Reg.acquireSlewLimit : Rat) / 10 ^ 9
  | 4 => (r0 s Reg.acquireSlewLimit : Rat) / 10 ^ 9
  | 5 => (r0 s Reg.acquireSlewLimit : Rat) / 10 ^ 9
  | _ => 0

/-! Steps (R286, R293, R458). -/

/-- A step decided for the next apply point adds to what is decided. -/
def decideStep (d : Int) (s : State) : State :=
  modServo (fun v => { v with nextStep := some (v.nextStep.getD 0 + d), goodRun := 0 }) s

/-- The step would carry the counter below the epoch (R458). -/
def belowEpoch (s : State) (d : Int) : Bool := decide ((s.counter : Int) + s.servo.nextStep.getD 0 + d < 0)

/-- A step is refused (R293): PendingStep, StepRefused, counted on the first. -/
def refuseStep (d : Int) (s : State) : State :=
  let first := !servoFlag s 1
  let s := w0 Reg.pendingStep (stepNs d) (setServoFlag 1 true s)
  let s := if first then inc0 Reg.stepRefusals s else s
  modServo (fun v => { v with c := v.cI, goodRun := 0 }) (setLive Ev.stepRefused true s)

def clearRefused (s : State) : State :=
  if servoFlag s 1 then
    modServo (fun v => { v with accept := false }) (setLive Ev.stepRefused false (w0 Reg.pendingStep 0 (setServoFlag 1 false s)))
  else s

/-- The exchanges under way learn of a step: what the counter read before the first one after t3 (R308). -/
def exchangesStep (s : State) : State :=
  { s with ptp := s.ptp.map (fun e => (e.1, { e.2 with req := e.2.req.map (fun q =>
      if q.stepFrom.isSome then q else { q with stepFrom := some (s.counter : Int) }) })) }

/-- The counter takes a step of d in this cycle; every section that steps concern follows (R286). Open windows close, and
gates are judged, at the reading before it (R198, R204, R176). -/
def stepCounter (d : Int) (s : State) : State :=
  let was := s.counter
  let s := exchangesStep (combinerBeforeStep (judgeGates s))
  let s := { s with counter := ((s.counter : Int) + d).toNat }
  let s := modServo (fun v => { v with steps := v.steps + 1, lastStepAt := tickSeq s + 1, goodRun := 0,
                                        stepSum := v.stepSum + ((s.counter : Int) - (was : Int)), stepTo := some (s.counter : Int) }) s
  vitrineAfterStep (decide (s.counter < was)) (gatesAfterStep (anchorsKeep d s))

/-! The correction loop (R289). -/

/-- The bandwidth of a kind of source: 0 fabric parent, 1 telecom parent, 2 pulse input; and T in ns. -/
def sourceInterval (kind : Nat) : Nat :=
  match kind with
  | 0 => 8000000
  | 1 => 62500000
  | _ => 1000000000

/-- One exchange is fed to R289; θ in units of 2^-40 ns. -/
def loopFeed (kind : Nat) (theta : Rat) (s : State) : State :=
  let t : Rat := (sourceInterval kind : Rat)
  let kp := Config.twoPi * (r1 s Reg.servoBandwidth kind : Rat) / 1000 * (t / 10 ^ 9)
  let x := theta / 2 ^ 40 / t
  let l := slewLimitOf s
  let ci := clampRat l (s.servo.cI - kp * kp / 64 * x)
  modServo (fun v => { v with cI := ci, c := clampRat l (ci - kp * x) }) s

/-- The slot of the port in SLAVE or UNCALIBRATED. -/
def parentSlot (s : State) : Option Nat :=
  (portSlots s).find? (fun p => decide (r1 s Reg.ptpPortState p = 8) || decide (r1 s Reg.ptpPortState p = 9))

/-- The parent that the servo may follow: one whose Announce clears ptpTimescale is not used (R299). -/
def usedParent (s : State) : Option Nat := if s.servo.parentUnused then none else parentSlot s

/-- A change of PtpPortState: the exchange of a port that leaves SLAVE and UNCALIBRATED is gone (R309). -/
def setPortState (slot st : Nat) (s : State) : State :=
  let s := if st = 8 ∨ st = 9 then s
    else w1 Reg.ptpExchange slot 0 (setPtp slot { getPtp s slot with sync := none, req := none } s)
  w1 Reg.ptpPortState slot st s

/-- What was heard of the parent is forgotten: it is gone or another takes its place (R292, R295, R299). -/
def dropParent (s : State) : State :=
  setServoFlag 3 false (modServo (fun v => { v with parentGm := none, parentState := none, parentUnused := false
                                                    laneFreqs := [], parentSince := tickSeq s }) s)

/-- The parent, if there is one, announces LOCKED or FREERUN; one in the telecom profile says nothing of it (R292, R295). -/
def parentSteady (s : State) : Bool :=
  match parentSlot s with
  | none => true
  | some slot => decide (r1 s Reg.ptpPortProfile slot = 2) || s.servo.parentState = some 2 || s.servo.parentState = some 3

/-- The lock condition of R292; `pulse` for a root on a pulse input. -/
def lockHolds (s : State) (pulse : Bool) : Bool :=
  let v := s.servo
  let now := tickSeq s
  if pulse then decide (8 ≤ v.goodRun)
  else
    decide (8 ≤ (v.exchanges.filter (fun t => now < t + 8000)).length) &&
    (decide (v.lastBad = 0) || decide (v.lastBad + 8000 ≤ now + 1)) &&
    (decide (v.lastStepAt = 0) || decide (v.lastStepAt + 8000 ≤ now + 1)) && parentSteady s

/-- ACQUIRING and RECOVERY move to LOCKED when the lock condition holds. -/
def judgeLock (pulse : Bool) (s : State) : State :=
  let st := servoStateOf s
  if !s.servo.external && (st = 1 || st = 4) && lockHolds s pulse then enterServo 2 s else s

/-- The books of a valid exchange (R292). -/
def noteExchange (theta : Rat) (s : State) : State :=
  let now := tickSeq s
  let good := decide (absRat theta * 1000 ≤ (r0 s Reg.lockThreshold : Rat) * 2 ^ 40)
  modServo (fun v => { v with consec := v.consec + 1, goodRun := if good then v.goodRun + 1 else 0
                              exchanges := (now :: v.exchanges.filter (fun t => now < t + 8000)).take 8000
                              lastBad := if good then v.lastBad else now + 1 }) s

/-- The nearest whole unit of -θ: the step that takes it away. -/
def stepOf (theta : Rat) : Int := -nearest theta

/-- R293 in ACQUIRING, RECOVERY and TEST. -/
def stepOrSlew (kind : Nat) (theta : Rat) (s : State) : State :=
  let a := absRat theta
  let small := decide (a ≤ (r0 s Reg.stepMin : Rat) * 2 ^ 40)
  let d := stepOf theta
  if !(small && !s.servo.accept) && belowEpoch s d then refuseStep d s
  else if s.servo.accept then clearRefused (loopFeed kind 0 (decideStep d s))
  else if small then clearRefused (loopFeed kind theta s)
  else if a ≤ (r0 s Reg.stepLimit : Rat) * 2 ^ 40 then clearRefused (loopFeed kind 0 (decideStep d s))
  else refuseStep d s

/-- A valid exchange reaches the servo (R290, R292, R293); θ in units of 2^-40 ns. -/
def servoExchange (kind : Nat) (theta : Rat) (s : State) : State :=
  let s := noteExchange theta (w0 Reg.timeOffset (phase64 theta) s)
  if s.servo.external then s
  else
    match servoStateOf s with
    | 0 =>
      let d := stepOf theta
      if belowEpoch s d then refuseStep d s else enterServo 1 (clearRefused (decideStep d s))
    | 2 => loopFeed kind theta s
    | 3 => if 8 ≤ s.servo.consec then enterServo 4 s else s
    | _ => judgeLock (decide (kind = 2)) (stepOrSlew kind theta s)

/-! Time sources (R297, R298). -/

/-- The pulse input of a root: R297. -/
def pulseSource (s : State) : Option Nat :=
  if (parentSlot s).isSome then none
  else
    match r0 s Reg.rootTimeSource with
    | 1 => some 0x44
    | 2 => some 0x45
    | _ => none

/-- TimeSource and TimeSourcePort. -/
def updateSource (s : State) : State :=
  match (portSlots s).find? (fun p => !s.servo.parentUnused && decide (r1 s Reg.ptpPortState p = 9)) with
  | some slot => w0 Reg.timeSource 1 (w0 Reg.timeSourcePort ((portOf s slot).getD 0xFF) s)
  | none =>
    let s := w0 Reg.timeSourcePort 0xFF s
    match pulseSource s with
    | some i => if (getRef s i).present then w0 Reg.timeSource (i - 0x42) s else w0 Reg.timeSource (if s.servo.timeSet then 4 else 0) s
    | none => w0 Reg.timeSource (if s.servo.timeSet && (parentSlot s).isNone then 4 else 0) s

/-- The offset, its validity and the leap flags of the time source, where it gives any (R298). -/
def sourceUtc (s : State) : Option (Int × Bool × Nat) :=
  match usedParent s with
  | some slot =>
    match (getPtp s slot).announce with
    | some a =>
      let leap := if a.1.leap61 then 1 else if a.1.leap59 then 2 else 0
      if a.1.utcValid then some (toSigned 16 a.1.utcOffset.toNat, true, leap) else some (utcOffset s, false, leap)
    | none => some (utcOffset s, false, 0)
  | none =>
    match pulseSource s with
    | some i =>
      let l := r1 s Reg.todLabel i
      if (s.refs.tod.find? (fun e => e.1 = i)).isSome then
        some (toSigned 16 (field l 175 160), (field l 191 184).testBit 0, field l 186 185)
      else none
    | none => none

/-- UtcOffset, UtcValid and LeapPending follow the source; a leap applied stays until the source has moved (R298). -/
def updateUtc (s : State) : State :=
  let u := (sourceUtc s).getD (toSigned 16 (r0 s Reg.utcOffsetLocal), false, 0)
  let s := setServoFlag 0 u.2.1 (w0 Reg.leapPending (if u.2.2 = 1 then 1 else if u.2.2 = 2 then 2 else 0) s)
  if s.servo.leapFrom = some u.1 ∧ u.2.2 ≠ 0 then s
  else modServo (fun v => { v with leapFrom := none }) (w0 Reg.utcOffset (ofSigned 16 u.1) s)

/-- A root's pulse input may have become absent (R292). -/
def checkPulse (s : State) : State :=
  let was := r0 s Reg.timeSource
  let s := updateSource s
  if (was = 2 ∨ was = 3) ∧ r0 s Reg.timeSource ≠ was then sourceLost s else s

/-- RootTimeSource changes. -/
def effRootTimeSource (_ v : Nat) (s : State) : State :=
  let old := r0 s Reg.rootTimeSource
  let s := updateUtc (updateSource (w0 Reg.rootTimeSource v s))
  if v = old ∨ (parentSlot s).isSome then s else sourceLost s

/-- A labelled pulse is one exchange (R297); one that a step parts from its label is discarded (R293, R308). -/
def pulseExchange (i : Nat) (s : State) : State :=
  if pulseSource s ≠ some i ∨ !(getRef s i).present then s
  else if tget (fun _ => 0) s.servo.stampSteps i ≠ s.servo.steps ∨ s.servo.nextStep.isSome then
    modServo (fun v => { v with consec := 0, goodRun := 0 }) s
  else
    let l := r1 s Reg.todLabel i
    let stamp : Int := (readingOf128 (field (r1 s Reg.tdcPulseStamp i) 127 0) : Int)
    let truth : Int := (readingOf128 (field l 127 0) : Int) + psUnits (toSigned 32 (r1 s Reg.ppsiDelay i))
    if (field l 191 184).testBit 0 then updateSource (servoExchange 2 ((stamp - truth : Int) : Rat) s) else s

/-! The servo job (R288, R290, R294). -/

/-- The lane of a port that arrives last (R89). -/
def lastLane (s : State) (slot : Nat) : Nat :=
  ((lanesOfSlot s slot).find? (fun l => r1 s Reg.laneSkew l = 0)).getD slot

/-- The parent's lane frequency over the last 64 ticks: its Valid ticks (R288). -/
def takeLaneFreq (ended : Nat) (s : State) : State :=
  match parentSlot s with
  | none => modServo (fun v => { v with laneFreqs := [] }) s
  | some slot =>
    let r := (validResult s (lastLane s slot) ended).map resFreq
    modServo (fun v => { v with laneFreqs := lastN 64 (v.laneFreqs ++ [r]) }) s

/-- F_n as a fraction (R288). -/
def frequencyOf (s : State) : Rat :=
  match usedParent s with
  | none => (loopControl s : Rat) / 10 ^ 18
  | some slot =>
    let l := s.servo.laneFreqs.filterMap id
    if l.isEmpty then s.servo.f
    else
      let f := meanInts l / 10 ^ 18
      if r1 s Reg.ptpPortProfile slot = 1 then (1 + f) * (1 + (s.servo.rateParent : Rat) / 10 ^ 13) - 1 else f

/-- RateExcess from the increment in force (R295). -/
def publishRate (s : State) : State :=
  let x : Rat := ((s.increment : Rat) / 2 ^ 41 - 1) * 10 ^ 18 - (loopControl s : Rat)
  w0 Reg.rateExcess (ofSigned 64 (roundTo x)) s

/-- Saturation (R285, R289). -/
def judgeSaturation (sat clipped : Bool) (s : State) : State :=
  let s := if sat then inc0 Reg.saturatedTicks s else s
  let s := modServo (fun v => { v with satRun := if sat then v.satRun + 1 else 0, unsatRun := if sat then 0 else v.unsatRun + 1 }) s
  if clipped || decide (8000 ≤ s.servo.satRun) then setLive Ev.saturation true (setServoFlag 2 true s)
  else if servoFlag s 2 && decide (8000 ≤ s.servo.unsatRun) then setLive Ev.saturation false (setServoFlag 2 false s)
  else s

/-- SERVO_JOB in Internal mode: the increment of this tick (R288, R294). The first job since Internal mode returned sets c_I
so that it computes the increment in force (R290). -/
def servoJobInternal (s : State) : State :=
  let f := frequencyOf s
  let l := slewLimitOf s
  let st := servoStateOf s
  let joining := s.servo.joining
  let ci := (s.increment : Rat) / 2 ^ 41 - 1 - f
  let s := if joining then modServo (fun v => { v with joining := false, cI := ci, c := ci }) s else s
  let c := if joining then ci else if st = 0 ∨ st = 3 then 0 else clampRat l (if servoFlag s 1 then s.servo.cI else s.servo.c)
  let want : Rat :=
    if joining then (s.increment : Rat) else if st = 3 then s.servo.iF * (1 - ((timeBaseCorrection s - s.servo.yF : Int) : Rat) / 10 ^ 18)
    else 2 ^ 41 * (1 + f + c)
  let raw := roundTo want
  let i := (clampInt (incMin : Int) (incMax : Int) raw).toNat
  let clipped := decide ((i : Int) ≠ raw)
  let s := modServo (fun v => { v with f := f, nextInc := some i }) s
  let s := w0 Reg.servoFrequency (ofSigned 64 (roundTo (f * 10 ^ 18))) (w0 Reg.servoCorrection (ofSigned 64 (roundTo (c * 10 ^ 18))) s)
  judgeSaturation (clipped || (decide (l ≠ 0) && decide (absRat c = l))) clipped s

/-- SERVO_JOB in External mode: F_n is still measured; a tick without a write of TimeIncrementSet is missed (R290). -/
def servoJobExternal (s : State) : State :=
  let f := frequencyOf s
  let s := w0 Reg.servoFrequency (ofSigned 64 (roundTo (f * 10 ^ 18))) (modServo (fun v => { v with f := f }) s)
  let s := if s.servo.incWritten then s
    else setLive Ev.incrementMissed true (setServoFlag 4 true (inc0 Reg.incrementMisses s))
  modServo (fun v => { v with incWritten := false }) s

/-- SERVO_JOB (R288): `ended` is the tick just ended. -/
def servoJob (ended : Nat) (s : State) : State :=
  let s := takeLaneFreq ended (updateUtc (checkPulse s))
  let s := modServo (fun v => { v with incs := lastN 64 (v.incs ++ [s.increment]) }) s
  if s.servo.external then servoJobExternal (publishRate s)
  else servoJobInternal (judgeLock (pulseSource s).isSome (publishRate s))

/-- ServoMode takes effect at the apply point (R290). -/
def switchMode (m : Nat) (s : State) : State :=
  if m = 1 then
    modServo (fun v => { v with external := true, incWritten := true, joining := false }) (w0 Reg.servoStateSet (servoStateOf s) s)
  else modServo (fun v => { v with external := false, joining := true }) s

/-- The counter has been set by a host (R296, R297): UNSET becomes FREERUN, but for External mode, which leaves the state to
the host. -/
def timeGiven (s : State) : State :=
  let s := modServo (fun x => { x with timeSet := true }) s
  updateSource (if servoStateOf s = 0 ∧ !s.servo.external then enterServo 3 s else s)

/-- What the apply point puts in force (R286): the increment, the mode, and the TimeSet or the sum of the steps. Answers the
step made. -/
def applyDecided (s : State) : Int × State :=
  let s := modServo (fun v => { v with incWas := s.increment }) s
  let s := match s.servo.nextInc with
    | some i => publishRate (w0 Reg.timeIncrement i { s with increment := i })
    | none => s
  let s := match s.servo.nextMode with | some m => switchMode m s | none => s
  let set := s.servo.nextSet
  let sum := s.servo.nextStep
  let s := modServo (fun v => { v with nextInc := none, nextMode := none, nextSet := none, nextStep := none })
    { s with applied := true }
  match set with
  | some v =>
    let d := (v : Int) - (s.counter : Int)
    (d, timeGiven (stepCounter d s))
  | none =>
    match sum with
    | none => (0, s)
    | some d =>
      if (s.counter : Int) + d < 0 then (0, inc0 Reg.stepRefusals s)
      else
        let s := stepCounter d s
        (d, raise Ev.stepApplied (inc0 Reg.stepsApplied (w0 Reg.lastStep (stepNs d) s)))

/-! Writes of this chapter. -/

/-- TIME_INCREMENT_SET_WRITE's effect (R290). -/
def effTimeIncrementSet (_ v : Nat) (s : State) : State :=
  let s := w0 Reg.timeIncrementSet v s
  if s.servo.external then
    setLive Ev.incrementMissed false (setServoFlag 4 false (modServo (fun x => { x with nextInc := some v, incWritten := true }) s))
  else s

/-- TIME_INCREMENT_SET_WRITE (R290). -/
def execTimeIncrementSetWrite (w : WriteReq) (s : State) : Host.Outcome State Fault Refusal :=
  .next (catWrite w Reg.timeIncrementSet 0 0 effTimeIncrementSet s)

/-- TIME_STEP_WRITE's effect (R290, R293): by the state the host has set; AcceptStep permits one step of any size. -/
def effTimeStep (_ v : Nat) (s : State) : State :=
  if !s.servo.external then s
  else
    let d := toSigned 64 v * 2 ^ 24
    match servoStateOf s with
    | 2 => s
    | 3 => s
    | 0 => decideStep d s
    | _ =>
      if s.servo.accept ∨ d.natAbs ≤ r0 s Reg.stepLimit * 2 ^ 40 then clearRefused (decideStep d s) else refuseStep d s

/-- TIME_STEP_WRITE (R290). -/
def execTimeStepWrite (w : WriteReq) (s : State) : Host.Outcome State Fault Refusal :=
  .next (catWrite w Reg.timeStep 0 0 effTimeStep s)

/-- SERVO_STATE_SET_WRITE's effect (R290). -/
def effServoStateSet (_ v : Nat) (s : State) : State :=
  let s := w0 Reg.servoStateSet v s
  if s.servo.external then enterServo v s else s

/-- SERVO_STATE_SET_WRITE (R290). -/
def execServoStateSetWrite (w : WriteReq) (s : State) : Host.Outcome State Fault Refusal :=
  .next (catWrite w Reg.servoStateSet 0 0 effServoStateSet s)

/-- SERVO_MODE_WRITE's effect (R290). -/
def effServoMode (_ v : Nat) (s : State) : State :=
  modServo (fun x => { x with nextMode := if decide (v = 1) = x.external then none else some v }) (w0 Reg.servoMode v s)

/-- SERVO_MODE_WRITE (R290). -/
def execServoModeWrite (w : WriteReq) (s : State) : Host.Outcome State Fault Refusal :=
  .next (catWrite w Reg.servoMode 0 0 effServoMode s)

/-- TIME_SET's effect (R296): the later of two for one apply point stands; the state moves when the counter is set (log 53). -/
def effTimeSet (_ v : Nat) (s : State) : State :=
  let st := servoStateOf s
  if st = 0 ∨ st = 5 then modServo (fun x => { x with nextSet := some (readingOf128 v) }) s
  else inc0 Reg.timeSetRefusals s

/-- TIME_SET (R296). -/
def execTimeSet (w : WriteReq) (s : State) : Host.Outcome State Fault Refusal :=
  .next (catWrite w Reg.timeSet 0 0 effTimeSet s)

/-- ServoCommand (R292, R296); External mode leaves the state to the host. -/
def effServoCommand (_ v : Nat) (s : State) : State :=
  let st := servoStateOf s
  if s.servo.external then s
  else if v = 1 ∧ st ≠ 0 then enterServo 5 s
  else if v = 2 ∧ st = 5 then enterServo 1 s
  else if v = 3 ∧ st = 2 then enterServo 4 s
  else s

/-- SERVO_ENTER_TEST (R296): ServoCommand 0x01. -/
def execServoEnterTest (w : WriteReq) (s : State) : Host.Outcome State Fault Refusal :=
  .next (catWrite w Reg.servoCommand 0 0 effServoCommand s)

/-- SERVO_LEAVE_TEST (R296): ServoCommand 0x02. -/
def execServoLeaveTest (w : WriteReq) (s : State) : Host.Outcome State Fault Refusal :=
  .next (catWrite w Reg.servoCommand 0 0 effServoCommand s)

/-- SERVO_ENTER_RECOVERY (R296): ServoCommand 0x03. -/
def execServoEnterRecovery (w : WriteReq) (s : State) : Host.Outcome State Fault Refusal :=
  .next (catWrite w Reg.servoCommand 0 0 effServoCommand s)

/-- AcceptStep (R293): nothing without a refusal pending. -/
def acceptStepNow (s : State) : State := if servoFlag s 1 then modServo (fun v => { v with accept := true }) s else s

/-- ACCEPT_STEP (R293). -/
def execAcceptStep (w : WriteReq) (s : State) : Host.Outcome State Fault Refusal :=
  .next (catWrite w Reg.acceptStep 0 0 (effBool (fun _ s => acceptStepNow s)) s)

/-! Pulse inputs. -/

/-- An edge that follows one without a valid label breaks the runs of R292. -/
def breakRuns (i : Nat) (s : State) : State :=
  let n := field (r1 s Reg.tdcPulseStamp i) 159 128
  let labelled := s.refs.tod.any (fun e => decide (e.1 = i) && decide (e.2.pulses = n)) &&
    (field (r1 s Reg.todLabel i) 191 184).testBit 0
  if pulseSource s = some i ∧ !labelled then modServo (fun v => { v with consec := 0, goodRun := 0 }) s else s

/-- An edge of a per-edge input reaches the loop and the followers (R239, R279): its stamp in 2^-16 ns and its instant. -/
def edgeTaken (i : Nat) (x : Int) (t : Nat) (s : State) : State := placeFollowers i x (perEdgeUpdate i x t s)

/-- TDC_TICK_RESULT (R221): the edges of the tick are stamped and fitted; each stamped edge of an external clock below 8 kHz
is a phase sample of its own (R239). -/
def execTdcTickResult (channel : Fin 80) (met : TdcTick) (s : State) : Host.Outcome State Fault Refusal :=
  let ch := channel.val
  if !hasTickResult ch then .next s
  else
    let e := prescale s ch met.edges
    let a := stampTick s ch e.1
    let s := publishTick ch met a (keepDivider ch e.2 s)
    if 0x40 ≤ ch ∧ ch < 0x44 ∧ perEdge s ch then
      .next (forL a.stamps.reverse (fun e s => edgeTaken ch (roundStamp e.1) (instantOfStamp s (e.1 : Rat)) s) s)
    else .next s

/-- PPSI_EDGE (R223, R239). -/
def execPpsiEdge (input : Fin 2) (dt : Nat) (edge : EdgeSample) (s : State) : Host.Outcome State Fault Refusal :=
  let ch := pulseChannel input.val
  let s := elapse dt s
  let r := stampEdge ch edge s
  match r.1 with
  | none => .next r.2
  | some x =>
    let s := breakRuns ch (noteInput ch true r.2)
    let s := modServo (fun v => { v with stampSteps := tset (fun _ => 0) v.stampSteps ch v.steps }) (writePulseStamp ch edge s)
    let s := compare ch ((alsoStamp s ch (cycleOf s.now) edge).map (fun y => ((y - x : Int) : Rat) / 512)).toList s
    .next (checkPulse (edgeTaken ch (roundStamp x) s.now s))

/-- REF_ABSENT_TIMEOUT (R240): a transition that a tick's evaluation would make may be commanded within that tick (log 12). -/
def execRefAbsentTimeout (input : Fin 70) (s : State) : Host.Outcome State Fault Refusal :=
  let i := input.val
  let x := getRef s i
  if !x.present then .next s
  else if perEdge s i then .next (checkPulse (becomeAbsent i (advanceTo (x.edgeAt + edgeLimit s i) s)))
  else if (validResult s i (tickNo s)).isNone && decide (8 ≤ x.invalid + 1) then .next (becomeAbsent i s)
  else .next s

/-- TOD_MESSAGE (R242): the last byte arrives now. An input whose receiver is off hears nothing. -/
def execTodMessage (input : Fin 2) (dt : Nat) (bytes : Bytes) (framingError : Bool) (s : State) :
    Host.Outcome State Fault Refusal :=
  let i := pulseChannel input.val
  let s := elapse dt s
  if r1 s Reg.todBaud i = 0 then .next s
  else if todWellFormed bytes framingError && todInTime s i then
    let n := field (r1 s Reg.tdcPulseStamp i) 159 128
    let again := s.refs.tod.any (fun e => decide (e.1 = i) && decide (e.2.pulses = n))
    let s := updateUtc (acceptTod i bytes s)
    .next (if again then s else pulseExchange i s)
  else .next (inc Reg.todErrors i s)

/-- LEAP_SECOND (R298): the clock runs to the end of the UTC day. -/
def execLeapSecond (s : State) : Host.Outcome State Fault Refusal :=
  let p := r0 s Reg.leapPending
  if p = 0 ∨ s.servo.leapFrom.isSome then .next s
  else
    let old := utcOffset s
    let utc : Int := ((s.counter / 2 ^ 40 / 10 ^ 9 : Nat) : Int) - old
    let day : Int := (utc / 86400 + 1) * 86400 - (if p = 2 then 1 else 0)
    let s := advanceToReading (((day + old) * 10 ^ 9 * 2 ^ 40).toNat) s
    let s := w0 Reg.utcOffset (ofSigned 16 (if p = 1 then old + 1 else old - 1)) s
    .next (modServo (fun v => { v with leapFrom := some old }) s)

/-! The time base (R234, R287). -/

/-- XOSC_LOSS (R234): the time base changes to the crystal; the increment in force and I_F take the measured ratio, and
the 64-tick means start again (R287). -/
def execXoscLoss (ratioNum ratioDen : Nat) (s : State) : Host.Outcome State Fault Refusal :=
  if r0 s Reg.timeBaseSource ≠ 1 then .next s
  else
    let k : Rat := (ratioNum : Rat) / (ratioDen : Rat)
    let scale := fun (i : Nat) => (roundTo ((i : Rat) * k)).toNat
    let s := raise Ev.timeBase (inc0 Reg.xoscLosses (w0 Reg.timeBaseSource 2 s))
    let s := { s with increment := scale s.increment }
    let s := modServo (fun v => { v with laneFreqs := [], incs := [], iF := v.iF * k, nextInc := v.nextInc.map scale }) s
    .next (publishRate (w0 Reg.timeIncrement s.increment s))

/-! Instants at the balls (R88, R89, R304, R305), in units of 2^-16 ps. -/

/-- Receive latency between ball and MII boundary without the PMA part, ps (R88). -/
def rxLatency (s : State) (slot : Nat) : Nat :=
  match groupMode s (slot / 2) with
  | 1 => 128000
  | 2 => 230400
  | 3 => 230400
  | 4 => 435200
  | 5 => if r1 s Reg.laneFecMode slot = 1 then 844800 else 25600
  | _ => 25600

/-- Transmit latency between MII boundary and ball without the PMA part, ps (R88). -/
def txLatency (s : State) (slot : Nat) : Nat :=
  match groupMode s (slot / 2) with
  | 1 => 38400
  | 2 => 64000
  | 3 => 64000
  | 4 => 115200
  | 5 => if r1 s Reg.laneFecMode slot = 1 then 217600 else 12800
  | _ => 12800

/-- Ball instant of a timestamp point that crossed the receive MII boundary at t ps. -/
def ingressBall (s : State) (slot t : Nat) : Int :=
  ((t : Int) - (rxLatency s slot : Int)) * 65536 - toSigned 64 (r1 s Reg.laneRxPmaDelay (lastLane s slot)) * 1000

/-- The first symbol of a slot's lanes at or after an instant in ps: the symbol clock runs on the cleaned clock, whose phase is
accumulated exactly, at the fixed ratio of the lane rate (R253, R304). Symbol 0 lies at phase 0. DESIGN CHOICE (log 68). -/
def txSymbol (s : State) (slot : Nat) (x : Rat) : Rat :=
  let u := lanePeriod s slot * 1000 / 65536 / 1024
  if u = 0 then x
  else
    let phase := x + cleanPhase s x
    x + (((phase / u).ceil : Rat) * u - phase) / (1 + (loopControl s : Rat) / 10 ^ 18)

/-- Ball instant of a timestamp point that crosses the transmit MII boundary at t ps: its symbol, and LaneTxPmaDelay (R304). -/
def egressBall (s : State) (slot t : Nat) : Int :=
  nearest (txSymbol s slot ((t + txLatency s slot : Nat) : Rat) * 65536) +
    toSigned 64 (r1 s Reg.laneTxPmaDelay (lastLane s slot)) * 1000

/-- A reading known for a cycle of the time clock and the increment in force from or up to it. -/
structure CounterMark where
  reading : Nat
  cycle : Nat
  increment : Nat
deriving DecidableEq, Repr

/-- The mark from which the reading at an instant follows: before the apply point of the tick the increment that it replaced
was in force. -/
def markFor (s : State) (x : Rat) : CounterMark :=
  if s.applied && decide (x < ((s.boundaryAt + 18000000 : Nat) : Rat)) then
    { reading := s.boundaryReading, cycle := cycleOf s.boundaryAt, increment := s.servo.incWas }
  else { reading := s.counter, cycle := cycleOf s.now, increment := s.increment }

/-- The counter's reading at an instant in ps: V + δ × I / 2 ns with the increment in force then, to the nearest 2^-32 ns
(R223). -/
def readingAt (s : State) (x : Rat) : Int :=
  let m := markFor s x
  nearest (((m.reading : Rat) + (x - ((m.cycle * 2000 : Nat) : Rat)) * (m.increment : Rat) / 2000) / 256) * 256

/-- What the counter reads in the time-clock cycle of an instant in ps (R344). -/
def cycleReading (s : State) (t : Nat) : Nat :=
  let m := markFor s (t : Rat)
  asReading ((m.reading : Int) + ((cycleOf t : Int) - (m.cycle : Int)) * (m.increment : Int))

/-- A ball instant as a reading of the counter (R304, R305). -/
def ballReading (s : State) (x : Int) : Nat := asReading (readingAt s ((x : Rat) / 65536))

/-! PTP ports (R299-R309). -/

/-- The line fitted for the tick in which a recovered-clock edge at an instant in ps fell, where that tick's result is Valid
(R305). -/
def lineAt (s : State) (lane : Nat) (x : Rat) : Option LineFit :=
  (fitOf s lane (if x < (s.boundaryAt : Rat) then tickNo s - 1 else tickNo s)).filter (·.valid)

/-- E + k × U in ps: the crossing less the latencies ties it to the right edge (R305). -/
def symbolInstant (s : State) (f : LineFit) (k : Nat) (rough : Rat) : Rat :=
  let after := (k : Rat) * (f.period / 1024)
  let x := (rough - ((s.tdc.coarseZero * 2000 : Nat) : Rat)) * 2 ^ 25 / 1000
  let n := nearest ((x - after - f.zero) / f.period)
  (f.zero + (n : Rat) * f.period + after) * 1000 / 2 ^ 25 + ((s.tdc.coarseZero * 2000 : Nat) : Rat)

/-- The ball instant in ps of the symbol at place k after its edge, of a point that crossed the MII boundary at t ps, and Coarse
where the edge's tick has no Valid result. The row comes with the tick's results at hand: a tick that has none yet has no Valid
one. DESIGN CHOICE (log 68). -/
def receiveInstant (s : State) (slot t k : Nat) : Rat × Bool :=
  let rough : Rat := (ingressBall s slot t : Rat) / 65536
  let lane := lastLane s slot
  match lineAt s lane (rough - (k : Rat) * (lanePeriod s lane * 1000 / 65536 / 1024)) with
  | some f => (symbolInstant s f k rough, false)
  | none => (rough, true)

/-- The receive timestamp at the ball, and Coarse (R305). -/
def receiveStamp (s : State) (slot : Nat) (st : BallStamp) : Int × Bool :=
  let i := receiveInstant s slot st.mii st.symbol.val
  (readingAt s i.1, i.2)

/-- The instant at which a frame of the module's own can begin: now, or when the one before it leaves the line (R128, R302). -/
def lineStart (s : State) (slot : Nat) : Nat := max s.now (getPort s slot).lineUntil

/-- A frame of n bytes of the module's own occupies the line, with its preamble and gap (R302). -/
def occupyLine (slot n : Nat) (s : State) : State :=
  modPort slot (fun p => { p with lineUntil := lineStart s slot + bytesTime s slot (n + 20) }) s

/-- No frame of the module's own occupies the line. -/
def lineFree (s : State) (slot : Nat) : Bool := decide ((getPort s slot).lineUntil ≤ s.now)

/-- The transmit timestamp at the ball of a frame that begins now, or as soon as the line is free (R303, R304): its ninth byte
crosses the MII boundary. -/
def sendStamp (s : State) (slot : Nat) : Int :=
  readingAt s ((egressBall s slot (lineStart s slot + bytesTime s slot 8) : Rat) / 65536)

/-- The profile of a slot, its domain and its intervals in ticks (R300). -/
def ptpProfile (s : State) (slot : Nat) : Nat := r1 s Reg.ptpPortProfile slot

def ptpDomain (s : State) (slot : Nat) : Nat :=
  if ptpProfile s slot = 1 then r0 s Reg.ptpFabricDomain else r0 s Reg.ptpTelecomDomain

def syncInterval (s : State) (slot : Nat) : Nat := if ptpProfile s slot = 1 then 64 else 500

/-- The module's clockIdentity: MgtMacAddress with FF-FE after the third octet (R326). -/
def clockIdentity (s : State) : Nat :=
  let m := r0 s Reg.mgtMacAddress
  (m / 2 ^ 24) * 2 ^ 40 + 0xFFFE * 2 ^ 24 + m % 2 ^ 24

/-- The portIdentity of a slot: port numbers start at 1 (log 30). -/
def portIdentity (s : State) (slot : Nat) : BitVec 80 := BitVec.ofNat 80 (clockIdentity s * 2 ^ 16 + (portOf s slot).getD 0 + 1)

/-- PtpDestAddress of a slot (R300). -/
def ptpDest (s : State) (slot : Nat) : Nat := if r1 s Reg.ptpDestAddress slot = 0 then 0x0180C200000E else 0x011B19000000

/-- The MAC taps a PTP frame of a slot and hands it to the servo job: a profile is set, the frame is untagged, with EtherType
0x88F7 and the port's PtpDestAddress, and the domain is its own (R300, R301). The frame itself comes by the frame rows, which
count it (log 68). -/
def ptpTaken (s : State) (slot : Nat) (m : PtpMsg) : Bool :=
  decide (ptpProfile s slot ≠ 0) && !m.line.tagged && decide (m.line.etherType.toNat = 0x88F7) &&
  decide (m.line.dest.toNat = ptpDest s slot) && decide (m.domain.toNat = ptpDomain s slot)

/-- The frame around a PTP message that the module sends (R302). -/
def ptpLine (s : State) (slot length : Nat) : PtpLine :=
  { dest := BitVec.ofNat 48 (ptpDest s slot), sender := BitVec.ofNat 48 (r0 s Reg.mgtMacAddress), tagged := false
    etherType := 0x88F7, length := length }

/-- logMessageInterval (R300): Announce −3; Sync and Delay_Req by the profile, and Delay_Resp as the Delay_Req it answers. -/
def logInterval (s : State) (slot : Nat) (announce : Bool) : Int :=
  if announce then -3 else if ptpProfile s slot = 1 then -7 else -4

/-- A port state in which exchanges run. -/
def ptpFollows (s : State) (slot : Nat) : Bool :=
  decide (r1 s Reg.ptpPortState slot = 8) || decide (r1 s Reg.ptpPortState slot = 9)

/-- A port that sends as master: MASTER, in UP. -/
def ptpMaster (s : State) (slot : Nat) : Bool := decide (r1 s Reg.ptpPortState slot = 6) && decide (linkStateOf s slot = 1)

/-- Seconds and nanoseconds of a time in 2^-40 ns as PTP carries them. -/
def wireTime (t : Int) : Int := (t / 2 ^ 40) * 2 ^ 40
def partnerTime (m : PtpMsg) : Int := ((m.seconds.toNat * 10 ^ 9 + m.nanos.toNat) : Nat) * 2 ^ 40

/-- The sub-nanosecond part in units of 2^-16 ns, to the nearest (R306). -/
def subNs (t : Int) : Int := ((t % 2 ^ 40) + 2 ^ 23) / 2 ^ 24

/-- A PTP message of this module with a time in its timestamp field, in a frame of a length. -/
def ptpMsg (s : State) (slot length seq : Nat) (t : Int) (corr : Int) (specific : Nat) (requesting : Nat) : PtpMsg :=
  { line := ptpLine s slot length, logInterval := logInterval s slot (decide (length = 82)), domain := BitVec.ofNat 8 (ptpDomain s slot), sequenceId := BitVec.ofNat 16 seq, twoStep := false
    seconds := BitVec.ofNat 48 ((t / 2 ^ 40).toNat / 10 ^ 9), nanos := BitVec.ofNat 32 ((t / 2 ^ 40).toNat % 10 ^ 9)
    correction := corr, specific := BitVec.ofNat 32 specific, source := portIdentity s slot
    requesting := BitVec.ofNat 80 requesting }

def txDelayUnits (s : State) (slot : Nat) : Int := psUnits (toSigned 32 (r1 s Reg.portTxDelay slot))
def rxDelayUnits (s : State) (slot : Nat) : Int := psUnits (toSigned 32 (r1 s Reg.portRxDelay slot))

/-- RateExcess as Sync carries it: units of 10^-13, limited (R295). -/
def wireRate (s : State) : Nat :=
  ofSigned 32 (clampInt (-(2 ^ 31 - 1)) (2 ^ 31 - 1) (nearest ((toSigned 64 (r0 s Reg.rateExcess) : Rat) / 10 ^ 5)))

/-- The next message of a kind is due: none sent yet, or its interval has passed. -/
def ptpDue (s : State) (sentAt interval : Nat) : Bool := decide (sentAt = 0) || decide (sentAt + interval ≤ tickSeq s + 1)

/-- Nothing stands before a PTP frame: no frame in progress, no PAUSE or PFC frame waiting (R302). -/
def ptpMayBegin (s : State) (slot : Nat) : Bool := (getPort s slot).tx.isNone && (getPort s slot).controls.isEmpty

/-- A frame of the module's own waits for the line (R302). -/
def ptpWait (slot : Nat) (k : PtpSend) (s : State) : State :=
  let p := getPtp s slot
  setPtp slot { p with waiting := p.waiting ++ [k] } s

/-- A Sync begins (R302, R306). -/
def sendSync (port slot : Nat) (s : State) : State :=
  let p := getPtp s slot
  let t := sendStamp s slot + txDelayUnits s slot
  let m := ptpMsg s slot 64 p.syncSeq t (subNs t) (if ptpProfile s slot = 1 then wireRate s else 0) 0
  let s := setPtp slot { p with syncSeq := (p.syncSeq + 1) % 2 ^ 16 } s
  emit (.ptp port 0 m) (countTx slot 64 (occupyLine slot 64 <| inc Reg.ptpSyncSent slot s))

/-- An exchange is discarded: it breaks a run of valid ones (R292, R308). -/
def discardExchange (slot : Nat) (s : State) : State :=
  modServo (fun v => { v with consec := 0 }) (inc Reg.ptpExchangesDiscarded slot s)

/-- A Delay_Req begins (R302, R306): it is paired with the latest Sync that no Delay_Req has followed (R307); where the one
before it was never answered, its exchange lacks a message (R308). -/
def sendDelayReq (port slot : Nat) (s : State) : State :=
  let s := if (getPtp s slot).req.isSome then discardExchange slot s else s
  let p := getPtp s slot
  let t := sendStamp s slot + txDelayUnits s slot
  let m := ptpMsg s slot 64 p.reqSeq t (subNs t) 0 0
  let q : ReqSt := { seq := p.reqSeq, t3 := t, steps := s.servo.steps, tick := tickNo s, sync := p.sync, stepFrom := none }
  let s := setPtp slot { p with reqSeq := (p.reqSeq + 1) % 2 ^ 16, req := some q, sync := none } s
  emit (.ptp port 1 m) (countTx slot 64 (occupyLine slot 64 <| inc Reg.ptpDelayReqSent slot s))

/-- The oldest Delay_Req that waits is answered (R302, R306). -/
def sendDelayResp (port slot : Nat) (s : State) : State :=
  let p := getPtp s slot
  match p.resps with
  | [] => s
  | r :: rest =>
    let s := setPtp slot { p with resps := rest } s
    emit (.ptp port 9 (ptpMsg s slot 72 r.seq r.t4 (-subNs r.t4) 0 r.source)) (countTx slot 72 (occupyLine slot 72 s))

/-- PTP_SYNC_SEND (R302): a Sync is due; it begins, or waits for the line. -/
def execPtpSyncSend (port : Fin 64) (_ : Unit) (s : State) : Host.Outcome State Fault Refusal :=
  match slotOf s port.val with
  | none => .next s
  | some slot =>
    let p := getPtp s slot
    if ptpProfile s slot ≠ 0 ∧ ptpMaster s slot ∧ servoStateOf s ≠ 0 ∧ ptpDue s p.syncAt (syncInterval s slot) then
      let s := setPtp slot { p with syncAt := tickSeq s + 1 } s
      .next (if ptpMayBegin s slot then sendSync port.val slot s else ptpWait slot .sync s)
    else .next s

/-- PTP_DELAY_REQ_SEND (R302): a Delay_Req is due; it begins, or waits for the line. -/
def execPtpDelayReqSend (port : Fin 64) (_ : Unit) (s : State) : Host.Outcome State Fault Refusal :=
  match slotOf s port.val with
  | none => .next s
  | some slot =>
    let p := getPtp s slot
    if ptpProfile s slot ≠ 0 ∧ ptpFollows s slot ∧ linkStateOf s slot = 1 ∧ ptpDue s p.reqAt (syncInterval s slot) then
      let s := setPtp slot { p with reqAt := tickSeq s + 1 } s
      .next (if ptpMayBegin s slot then sendDelayReq port.val slot s else ptpWait slot .delayReq s)
    else .next s

/-- PTP_DELAY_RESP_SEND (R302): the oldest Delay_Req that waits is answered, at once or as soon as the line is free; a port
that is no master any more answers none. -/
def execPtpDelayRespSend (port : Fin 64) (s : State) : Host.Outcome State Fault Refusal :=
  match slotOf s port.val with
  | none => .next s
  | some slot =>
    let p := getPtp s slot
    if !ptpMaster s slot then .next (setPtp slot { p with resps := p.resps.tail } s)
    else if ptpMayBegin s slot then .next (sendDelayResp port.val slot s)
    else if (p.waiting.filter (· = .delayResp)).length < p.resps.length then .next (ptpWait slot .delayResp s)
    else .next s

/-- PTP_SYNC_RECEIVE (R305). -/
def execPtpSyncReceive (port : Fin 64) (msg : PtpMsg) (stamp : BallStamp) (s : State) : Host.Outcome State Fault Refusal :=
  match slotOf s port.val with
  | none => .next s
  | some slot =>
    if !ptpTaken s slot msg then .next s
    else
      let s := inc Reg.ptpSyncReceived slot s
      if !ptpFollows s slot then .next s
      else
        let corr := msg.correction * 2 ^ 24
        let y : SyncSt :=
          { seq := msg.sequenceId.toNat, t1 := if msg.twoStep then none else some (partnerTime msg + corr), corr := corr
            t2 := (receiveStamp s slot stamp).1 - rxDelayUnits s slot, twoStep := msg.twoStep
            coarse := (receiveStamp s slot stamp).2, partnerCoarse := decide (msg.correction % 65536 = 0)
            steps := s.servo.steps, stepTo := s.servo.stepTo }
        let s := setPtp slot { getPtp s slot with sync := some y } s
        .next (if ptpProfile s slot = 1 then modServo (fun v => { v with rateParent := toSigned 32 msg.specific.toNat }) s else s)

/-- A Follow_Up completes the two-step Sync that it belongs to. -/
def followUp (msg : PtpMsg) (y : SyncSt) : SyncSt :=
  if y.twoStep && y.t1.isNone && decide (y.seq = msg.sequenceId.toNat) then
    { y with t1 := some (partnerTime msg + y.corr + msg.correction * 2 ^ 24)
             partnerCoarse := y.partnerCoarse && decide (msg.correction % 65536 = 0) }
  else y

/-- PTP_FOLLOW_UP_RECEIVE (R299): its Sync is the latest, or the one that the Delay_Req under way is paired with. -/
def execPtpFollowUpReceive (port : Fin 64) (msg : PtpMsg) (s : State) : Host.Outcome State Fault Refusal :=
  match slotOf s port.val with
  | none => .next s
  | some slot =>
    if !ptpTaken s slot msg then .next s
    else
      let p := getPtp s slot
      .next (setPtp slot { p with sync := p.sync.map (followUp msg)
                                  req := p.req.map (fun q => { q with sync := q.sync.map (followUp msg) }) } s)

/-- PTP_DELAY_REQ_RECEIVE (R305). -/
def execPtpDelayReqReceive (port : Fin 64) (msg : PtpMsg) (stamp : BallStamp) (s : State) :
    Host.Outcome State Fault Refusal :=
  match slotOf s port.val with
  | none => .next s
  | some slot =>
    if !ptpTaken s slot msg then .next s
    else
      let s := inc Reg.ptpDelayReqReceived slot s
      if !ptpMaster s slot then .next s
      else
        let r : RespSt := { source := msg.source.toNat, seq := msg.sequenceId.toNat, t4 := (receiveStamp s slot stamp).1 - rxDelayUnits s slot }
        let p := getPtp s slot
        .next (setPtp slot { p with resps := p.resps ++ [r] } s)

/-- The median of the last valid delays; none of none (R308). -/
def medianDelay (l : List Rat) : Option Rat := if l.isEmpty then none else some (medianRat l)

/-- An exchange with all four timestamps (R307-R309). A step lies between them when it came between t2 and t3, less than the
fibre delay before t2, or less than the fibre delay after t3. DEDUCED (log 68). A parent that is not used still takes its port from
UNCALIBRATED to SLAVE (R299, R327). -/
def completeExchange (slot : Nat) (y : SyncSt) (t1 : Int) (q : ReqSt) (t4 : Int) (respCoarse : Bool) (s : State) : State :=
  let d : Rat := (((y.t2 - t1) + (t4 - q.t3) : Int) : Rat)
  let half := d / 2
  let a : Rat := (toSigned 32 (r1 s Reg.fibreAsymmetry slot) : Rat) / 10 ^ 9
  let theta : Rat := ((y.t2 - t1 : Int) : Rat) - half * (1 + a)
  let p := getPtp s slot
  let straddled := decide (y.steps ≠ q.steps) ||
    (match y.stepTo with | some r => decide ((y.t2 : Rat) - half * (1 + a) < (r : Rat)) | none => false) ||
    (match q.stepFrom with | some r => decide ((r : Rat) < (q.t3 : Rat) + half * (1 - a)) | none => false)
  let outlier := match medianDelay p.delays with
    | some m => decide ((r0 s Reg.ptpDelayOutlier : Rat) * 2 ^ 40 / 1000 < absRat (half - m))
    | none => false
  let valid := !y.coarse && !straddled && !outlier
  let flags := b2n valid + 2 * b2n outlier + 4 * b2n straddled + 8 * b2n y.twoStep +
    16 * b2n (y.partnerCoarse && respCoarse) + 32 * b2n y.coarse
  let v := time128 (asReading t1) + time128 (asReading y.t2) * 2 ^ 128 + time128 (asReading q.t3) * 2 ^ 256 +
    time128 (asReading t4) * 2 ^ 384 +
    phase64 half * 2 ^ 512 + phase64 theta * 2 ^ 576 + y.seq * 2 ^ 640 + flags * 2 ^ 656 + (q.tick % 2 ^ 32) * 2 ^ 672
  let s := w1 Reg.ptpExchange slot v (w1 Reg.ptpMeanPathDelay slot (phase64 half) (w1 Reg.ptpOffset slot (phase64 theta) s))
  if !valid then discardExchange slot s
  else
    let s := setPtp slot { p with delays := lastN 15 (p.delays ++ [half]) } (inc Reg.ptpExchangesValid slot s)
    let s := updateSource (if r1 s Reg.ptpPortState slot = 8 then w1 Reg.ptpPortState slot 9 s else s)
    if s.servo.parentUnused then s else servoExchange (if ptpProfile s slot = 1 then 0 else 1) theta s

/-- PTP_DELAY_RESP_RECEIVE (R307): it completes the exchange of the Delay_Req under way and the Sync before it, or discards it where
its sequenceId is another; without one under way it belongs to no exchange (R308). -/
def execPtpDelayRespReceive (port : Fin 64) (msg : PtpMsg) (s : State) : Host.Outcome State Fault Refusal :=
  match slotOf s port.val with
  | none => .next s
  | some slot =>
    if !ptpTaken s slot msg || !ptpFollows s slot || decide (msg.requesting ≠ portIdentity s slot) then .next s
    else
      let p := getPtp s slot
      match p.req with
      | none => .next s
      | some q =>
        let s := setPtp slot { p with req := none } s
        if q.seq ≠ msg.sequenceId.toNat then .next (discardExchange slot s)
        else
          match q.sync with
          | none => .next (discardExchange slot s)
          | some y =>
            match y.t1 with
            | none => .next (discardExchange slot s)
            | some t1 =>
              .next (completeExchange slot y t1 q (partnerTime msg - msg.correction * 2 ^ 24)
                (decide (msg.correction % 65536 = 0)) s)

/-- The parent's Announce (R292, R295, R298). -/
def parentAnnounce (slot : Nat) (m : AnnounceMsg) (s : State) : State :=
  let st := field m.head.specific.toNat 31 24
  let fabric := decide (ptpProfile s slot = 1)
  let changed := match s.servo.parentGm with | some g => decide (g ≠ m.identity) | none => false
  let s := modServo (fun v => { v with parentGm := some m.identity, parentState := some st, parentUnused := !m.ptpTimescale }) s
  let s := if fabric then setServoFlag 3 (decide (st ≠ 2)) s else setServoFlag 3 false s
  let s := if changed || !m.ptpTimescale then sourceLost s else s
  let s := if m.ptpTimescale then s else updateSource s
  let s := if fabric ∧ !s.servo.external ∧ servoStateOf s = 2 ∧ (st = 1 ∨ st = 4 ∨ st = 5) then enterServo 4 s else s
  updateUtc s

/-- PTP_ANNOUNCE_RECEIVE (R295). -/
def execPtpAnnounceReceive (port : Fin 64) (msg : AnnounceMsg) (s : State) : Host.Outcome State Fault Refusal :=
  match slotOf s port.val with
  | none => .next s
  | some slot =>
    if !ptpTaken s slot msg.head then .next s
    else
      let s := setPtp slot { getPtp s slot with announce := some (msg, tickSeq s) } (inc Reg.ptpAnnounceReceived slot s)
      .next (if ptpFollows s slot then parentAnnounce slot msg s else s)

/-- ANNOUNCE_TIMEOUT (R292): three Announce intervals of 1,000 ticks (R300) since the parent's last Announce, or since it was
taken. -/
def execAnnounceTimeout (s : State) : Host.Outcome State Fault Refusal :=
  match parentSlot s with
  | none => .next s
  | some slot =>
    let heard := max s.servo.parentSince (((getPtp s slot).announce.map (·.2)).getD 0)
    if heard + 3000 ≤ tickSeq s then .next (sourceLost s) else .next s

/-- PtpCounterClear (R313). -/
def clearPtp (slot : Nat) (s : State) : State := dropSub 0x8050 0x8057 slot s

/-- PTP_COUNTER_CLEAR (R313). -/
def execPtpCounterClear (port : Fin 64) (w : WriteReq) (s : State) : Host.Outcome State Fault Refusal :=
  .next (catWrite w Reg.ptpCounterClear port.val 0 (effClear clearPtp) s)

end Sys2Proof.Machine
end

