-- ==== Sys2Proof/Machine/Zutum.lean ====
section
/-! DEFINITION. Fabric discovery, addressing and routing (chapter 13): adjacencies, the database, the tables computed from
it, and route openings. -/

namespace Sys2Proof.Machine

def modZut (f : ZutSt → ZutSt) (s : State) : State := { s with zut := f s.zut }

def ownUid (s : State) : Nat := r0 s Reg.moduleUid

/-! Frames (R315). -/

/-- Zutum runs on a slot: its port's bit in ZutumEnable. -/
def zutumOn (s : State) (slot : Nat) : Bool :=
  match portOf s slot with
  | some p => (r0 s Reg.zutumEnable).testBit p
  | none => false

/-- Send one Zutum frame on a slot in UP where Zutum runs. -/
def sendZutum (slot kind : Nat) (body : Bytes) (s : State) : State :=
  match portOf s slot with
  | none => s
  | some p =>
    if zutumOn s slot && linkStateOf s slot = 1 then
      let payload := bytesLE 1 1 ++ bytesLE 1 kind ++ bytesLE 2 body.length ++ bytesLE 1 p ++ bytesLE 3 0 ++ body
      sendManagement slot (ownFrame s 0x034C524B0002 0x88B6 payload) (inc0 Reg.zutumFramesSent s)
    else s

def adjOf (s : State) (slot : Nat) : Nat := r1 s Reg.adjacencyState slot

def twoWaySlots (s : State) : List Nat := (portSlots s).filter (fun p => adjOf s p = 2)

/-- Send on every two-way port but one. -/
def floodNow (f : Flood) (s : State) : State :=
  forL (twoWaySlots s) (fun p s => if some p = f.except then s else sendZutum p f.kind f.body s) s

def queueFlood (f : Flood) (s : State) : State := modZut (fun z => { z with out := z.out ++ [f] }) s

/-- The body of a received payload of a kind; none where it fails the layout of R315. -/
def zutumBody (kind : Nat) (b : Bytes) : Option Bytes :=
  let n := leAt b 2 2
  if b.length < 8 + n ∨ 1400 < n ∨ leAt b 0 1 ≠ 1 ∨ leAt b 1 1 ≠ kind ∨ 63 < leAt b 4 1 ∨ leAt b 5 3 ≠ 0 ∨ b.length < 8 then none
  else some (slice b 8 n)

/-- Receive a frame of a kind on a logical port: counted, dropped where it fails, else held for the Zutum job of the next
tick (R315, R333). -/
def zutumReceive (port kind : Nat) (payload : Bytes) (ok : Bytes → Bool) (s : State) : State :=
  match slotOf s port with
  | none => s
  | some slot =>
    let s := inc0 Reg.zutumFramesReceived s
    match zutumBody kind payload with
    | some body =>
      if zutumOn s slot && ok body then
        modZut (fun z => { z with inbox := z.inbox ++ [{ slot := slot, tick := tickNo s, kind := kind, sender := leAt payload 4 1, body := body }] }) s
      else inc0 Reg.zutumDrops s
    | none => inc0 Reg.zutumDrops s

/-! The database and the graph (R318-R321). -/

/-- An adjacency entry. -/
structure AdjEntry where
  lp : Nat
  np : Nat
  profile : Bool
  uid : Nat
deriving DecidableEq, Repr

/-- An origin as its stored parts describe it. -/
structure Origin where
  uid : Nat
  addr : Nat
  strapped : Bool
  prio : Nat
  dataset : Bytes
  adjs : List AdjEntry
  exts : List Bytes
deriving DecidableEq, Repr

def adjEntry (b : Bytes) : AdjEntry :=
  { lp := leAt b 0 1, np := leAt b 1 1, profile := (leAt b 2 1).testBit 0, uid := leAt b 4 8 }

/-- The origin that one part describes. -/
def originOfPart (x : LsPart) : Origin :=
  let b := x.body
  let na := leAt b 24 1
  { uid := x.uid, addr := leAt b 8 2 % 4096, strapped := (leAt b 10 1).testBit 1, prio := leAt b 11 1, dataset := slice b 16 8
    adjs := (List.range na).map (fun k => adjEntry (slice b (28 + 12 * k) 12))
    exts := (List.range (leAt b 25 1)).map (fun k => slice b (28 + 12 * na + 20 * k) 20) }

/-- The origins of a database: a second part adds its entries. -/
def originsOf (l : List (Nat × LsPart)) : List Origin :=
  l.foldr (fun e acc =>
    let o := originOfPart e.2
    match acc with
    | a :: t => if a.uid = o.uid then { o with adjs := o.adjs ++ a.adjs, exts := o.exts ++ a.exts } :: t else o :: a :: t
    | [] => [o]) []

def findOrigin (l : List Origin) (uid : Nat) : Option Origin := l.find? (fun o => o.uid = uid)

/-- The links of an origin that both ends list as two-way: (local port, the neighbour, its port, profile at both). -/
structure Link where
  lp : Nat
  nbr : Origin
  np : Nat
  profile : Bool

def linksOf (l : List Origin) (o : Origin) : List Link :=
  o.adjs.filterMap (fun a =>
    match findOrigin l a.uid with
    | none => none
    | some v =>
      match v.adjs.find? (fun b => b.uid = o.uid && b.lp = a.np && b.np = a.lp) with
      | some b => some { lp := a.lp, nbr := v, np := a.np, profile := a.profile && b.profile }
      | none => none)

/-- Distances in hops by levels; `next` gives the neighbours of an origin. -/
def bfsFrom (next : Nat → List Nat) : Nat → List Nat → Nat → List (Nat × Nat) → List (Nat × Nat)
  | 0, _, _, seen => seen
  | fuel + 1, frontier, depth, seen =>
    let new := (frontier.flatMap next).eraseDups.filter (fun u => !seen.any (fun e => e.1 = u))
    if new.isEmpty then seen
    else bfsFrom next fuel new (depth + 1) (seen ++ new.map (fun u => (u, depth + 1)))

def neighbours (l : List Origin) (onlyProfile : Bool) (uid : Nat) : List Nat :=
  match findOrigin l uid with
  | some o => ((linksOf l o).filter (fun k => k.profile || !onlyProfile)).map (fun k => k.nbr.uid)
  | none => []

/-- Distances from an origin over its links. -/
def distances (l : List Origin) (onlyProfile : Bool) (uid : Nat) : List (Nat × Nat) :=
  bfsFrom (neighbours l onlyProfile) l.length [uid] 0 [(uid, 0)]

def distOf (d : List (Nat × Nat)) (uid : Nat) : Option Nat := (d.find? (fun e => e.1 = uid)).map (·.2)

/-- Links in ascending neighbour address, then local port: how ties are settled (R327, R328). -/
def insertLink (x : Link) : List Link → List Link
  | [] => [x]
  | y :: t => if x.nbr.addr * 64 + x.lp < y.nbr.addr * 64 + y.lp then x :: y :: t else y :: insertLink x t

def sortLinks (l : List Link) : List Link := l.foldl (fun a x => insertLink x a) []

/-- The root: lowest FabricRootPriority, then lowest ModuleUid (R321). -/
def rootOf (l : List Origin) : Option Origin :=
  l.foldl (fun b o =>
    match b with
    | none => some o
    | some a => if o.prio < a.prio ∨ (o.prio = a.prio ∧ o.uid < a.uid) then some o else some a) none

/-- DatabaseDigest (R320): LsSequence reads as 0. -/
def digestOf (l : List (Nat × LsPart)) : Nat :=
  crc32c (l.flatMap (fun e => e.2.body.take 12 ++ bytesLE 4 0 ++ e.2.body.drop 16))

/-- Addresses that two origins hold. -/
def conflictsOf (l : List Origin) : List Nat :=
  ((l.map (·.addr)).filter (fun a => a ≠ 0 && decide (2 ≤ (l.filter (fun o => o.addr = a)).length))).eraseDups

/-! The tables (R325-R328). -/

/-- A candidate for grandmaster, as its comparison key, with its origin and the telecom port that it entered by. -/
structure GmCand where
  key : List Nat
  gm : GmSt
  entryUid : Nat
  port : Option Nat

/-- The identity of an origin: the module's own from its MAC, another's open (R326, log 31). -/
def identityOf (s : State) (uid : Nat) : Nat := if uid = ownUid s then clockIdentity s else Config.originIdentity uid

def ownCand (s : State) (o : Origin) : GmCand :=
  let d := o.dataset
  let g : GmSt := { priority1 := leAt d 0 1, clockClass := leAt d 1 1, accuracy := leAt d 2 1, variance := leAt d 4 2
                    priority2 := leAt d 3 1, identity := identityOf s o.uid, steps := 0, entryAddr := o.addr }
  { key := [g.priority1, g.clockClass, g.accuracy, g.variance, g.priority2, 128, g.identity, 0, o.addr, 0]
    gm := g, entryUid := o.uid, port := none }

def extCand (o : Origin) (e : Bytes) : GmCand :=
  let g : GmSt := { priority1 := leAt e 2 1, clockClass := leAt e 3 1, accuracy := leAt e 4 1, variance := leAt e 6 2
                    priority2 := leAt e 5 1, identity := beAt e 8 8, steps := leAt e 16 2, entryAddr := o.addr }
  { key := [g.priority1, g.clockClass, g.accuracy, g.variance, g.priority2, leAt e 1 1, g.identity, g.steps, o.addr, leAt e 0 1]
    gm := g, entryUid := o.uid, port := some (leAt e 0 1) }

/-- Field by field, lower winning (R326). -/
def keyLess : List Nat → List Nat → Bool
  | a :: t, b :: u => if a = b then keyLess t u else decide (a < b)
  | _, _ => false

def grandmaster (s : State) (l : List Origin) : Option GmCand :=
  (l.flatMap (fun o => ownCand s o :: o.exts.map (extCand o))).foldl (fun b c =>
    match b with
    | none => some c
    | some a => if keyLess c.key a.key then some c else some a) none

/-- The link toward the tree parent of an origin (R327). -/
def parentLink (l : List Origin) (d : List (Nat × Nat)) (o : Origin) : Option Link :=
  match distOf d o.uid with
  | some (n + 1) => (sortLinks ((linksOf l o).filter (fun k => k.profile && distOf d k.nbr.uid = some n))).head?
  | _ => none

/-- The port states that the database gives a module, by logical port: parent, children, passive (a two-way port of the fabric
profile in neither role, also where its far end has none), the winning telecom port (R327). -/
def treeStates (l : List Origin) (g : GmCand) (o : Origin) : List (Nat × Nat) :=
  let d := distances l true g.entryUid
  let far := match distOf d o.uid with | some n => decide (32 < n) | none => true
  let par := if far then none else parentLink l d o
  let ks := linksOf l o
  let fab := (o.adjs.filter (·.profile)).map (fun a =>
    match ks.find? (fun k => k.lp = a.lp && k.profile) with
    | none => (a.lp, 7)
    | some k =>
      let up : Bool := match par with | some q => decide (q.lp = k.lp) | none => false
      let down : Bool := !far &&
        (match parentLink l d k.nbr with | some q => decide (q.lp = k.np) && decide (q.nbr.uid = o.uid) | none => false)
      (k.lp, if up then 8 else if down then 6 else 7))
  match g.port with
  | some p => if g.entryUid = o.uid then fab ++ [(p, 8)] else fab
  | none => fab

/-- A row of ManagementRoutes (R328). -/
def routeRow (hops port : Nat) : Nat := 2 ^ 31 + hops * 2 ^ 16 + port

/-- The management routes of a module as (address, row): shortest paths of at most 32 hops, none to an address in
conflict (R324, R328). -/
def routesOf (l : List Origin) (o : Origin) : List (Nat × Nat) :=
  let d := distances l false o.uid
  let ks := (sortLinks (linksOf l o)).map (fun k => (k.lp, distances l false k.nbr.uid))
  let bad := conflictsOf l
  l.filterMap (fun t =>
    if t.uid = o.uid ∨ t.addr = 0 ∨ bad.contains t.addr then none
    else
      match distOf d t.uid with
      | some (n + 1) =>
        if 32 < n + 1 then none
        else (ks.find? (fun k => distOf k.2 t.uid = some n)).map (fun k => (t.addr, routeRow (n + 1) k.1))
      | _ => none)

/-- What a database yields for every module: routes and port states (R329). -/
def fabricTables (s : State) (p : List (Nat × LsPart)) : List (Nat × List (Nat × Nat) × List (Nat × Nat)) :=
  let l := originsOf p
  l.map (fun o => (o.uid, routesOf l o, match grandmaster s l with | some g => treeStates l g o | none => []))

/-- A stored part with the address that a list of grants leaves its origin (R323, R324): the last that names it stands. -/
def grantPart (g : List (Nat × Nat)) (x : LsPart) : LsPart :=
  match (g.filter (fun e => e.1 = x.uid)).getLast? with
  | none => x
  | some e =>
    let ad := if 0x8000 ≤ e.2 then 0 else e.2 % 4096
    let fl := leAt x.body 10 1
    { x with body := x.body.take 8 ++ bytesLE 2 ad ++ bytesLE 1 (fl / 2 * 2 + b2n (decide (ad ≠ 0))) ++ x.body.drop 11 }

/-- The database as it will be once the grants of a route opening are in force (R332, R333). -/
def granted (g : List (Nat × Nat)) (p : List (Nat × LsPart)) : List (Nat × LsPart) := p.map (fun e => (e.1, grantPart g e.2))

/-- This module's candidates, under the addresses that the ARM grants (R330, R333). -/
def candidates (g : List (Nat × Nat)) (s : State) : RouteCand :=
  let basis := granted g s.zut.parts
  let l := originsOf basis
  match findOrigin l (ownUid s), grandmaster s l with
  | some o, some g =>
    let d := distances l true g.entryUid
    let depth := distOf d o.uid
    let far := match depth with | some n => decide (32 < n) | none => true
    { routes := routesOf l o, states := treeStates l g o, gm := some g.gm, depth := if far then 0xFF else depth.getD 0xFF
      orphan := far, basis := basis }
  | _, _ => { routes := [], states := [], gm := none, depth := 0xFF, orphan := false, basis := basis }

/-! The module's own LINKSTATE (R318, R325). -/

/-- clockClass and clockAccuracy (R325). -/
def ownClock (s : State) : Nat × Nat :=
  let st := servoStateOf s
  match r0 s Reg.rootTimeSource with
  | 0 => (248, 0xFE)
  | k =>
    if st = 2 then (field (r1 s Reg.todLabel (0x43 + k)) 183 176, 0x21)
    else if st = 3 ∧ s.servo.freeAfterLocked then (7, 0xFE)
    else (248, 0xFE)

/-- ClockDataset: a standby twin that sources time advertises priority1 255 (R335). -/
def ownDataset (s : State) : Bytes :=
  let c := ownClock s
  let p1 := if twinStandby s ∧ r0 s Reg.twinTimeRole = 1 then 255 else r0 s Reg.clockPriority1
  bytesLE 1 p1 ++ bytesLE 1 c.1 ++ bytesLE 1 c.2 ++ bytesLE 1 (r0 s Reg.clockPriority2) ++ bytesLE 2 0xFFFF ++ bytesLE 2 0

def ownAdjacencies (s : State) : List Bytes :=
  (twoWaySlots s).map (fun p =>
    bytesLE 1 ((portOf s p).getD 0) ++ bytesLE 1 (r1 s Reg.neighbourPort p) ++
    bytesLE 1 (b2n (decide (r1 s Reg.ptpPortProfile p = 1))) ++ bytesLE 1 0 ++ bytesLE 8 (r1 s Reg.neighbourUid p))

/-- The Announce that a port receives: one came within three intervals (R300). -/
def freshAnnounce (s : State) (p : Nat) : Option AnnounceMsg :=
  ((getPtp s p).announce.filter (fun a => decide (tickSeq s < a.2 + 3000))).map (·.1)

/-- The telecom entries: the ports that receive Announce (R325). -/
def ownTelecom (s : State) : List Bytes :=
  (portSlots s).filterMap (fun p =>
    if r1 s Reg.ptpPortProfile p ≠ 2 then none
    else
      (freshAnnounce s p).map (fun m =>
        bytesLE 1 ((portOf s p).getD 0) ++ bytesLE 1 (r1 s Reg.ptpLocalPriority p) ++ bytesLE 1 m.priority1.toNat ++
        bytesLE 1 m.clockClass.toNat ++ bytesLE 1 m.clockAccuracy.toNat ++ bytesLE 1 m.priority2.toNat ++
        bytesLE 2 m.variance.toNat ++ bytesBE 8 m.identity.toNat ++ bytesLE 2 m.stepsRemoved.toNat ++ bytesLE 2 0))

/-- Entries in order as far as they fit one body; the rest goes into the second part. -/
def splitEntries : Nat → List (Bool × Bytes) → List (Bool × Bytes) × List (Bool × Bytes)
  | _, [] => ([], [])
  | room, e :: t =>
    if e.2.length ≤ room then
      let r := splitEntries (room - e.2.length) t
      (e :: r.1, r.2)
    else ([], e :: t)

/-- The body of one part with LsSequence 0. -/
def ownPart (s : State) (part parts : Nat) (l : List (Bool × Bytes)) : Bytes :=
  let adj := (l.filter (·.1)).map (·.2)
  let ext := (l.filter (fun e => !e.1)).map (·.2)
  let a := ownAddress s
  bytesLE 8 (ownUid s) ++ bytesLE 2 a ++ bytesLE 1 (b2n (decide (a ≠ 0)) + 2 * b2n (decide (r0 s Reg.fabricAddressSource = 1))) ++
  bytesLE 1 (r0 s Reg.fabricRootPriority) ++ bytesLE 4 0 ++ ownDataset s ++ bytesLE 1 adj.length ++ bytesLE 1 ext.length ++
  bytesLE 1 part ++ bytesLE 1 parts ++ adj.flatten ++ ext.flatten

/-- The module's own parts with LsSequence 0. -/
def ownParts (s : State) : List Bytes :=
  let all := (ownAdjacencies s).map (fun b => (true, b)) ++ (ownTelecom s).map (fun b => (false, b))
  let r := splitEntries 1372 all
  if r.2.isEmpty then [ownPart s 0 1 r.1] else [ownPart s 0 2 r.1, ownPart s 1 2 r.2]

def withSeq (b : Bytes) (seq : Nat) : Bytes := b.take 12 ++ bytesLE 4 seq ++ b.drop 16

/-! After a change of the database. -/

/-- A refusal or READY answer body (R330). -/
def answerBody (id result : Nat) (uids : List Nat) : Bytes :=
  bytesLE 4 id ++ bytesLE 1 result ++ bytesLE 1 0 ++ bytesLE 2 uids.length ++ uids.flatMap (bytesLE 8)

def answerSlot (s : State) (id : Nat) : Option Nat := ((s.zut.armsSeen.find? (fun e => e.1 = id)).map (·.2)).getD none

/-- READY answers for an Id are held to be merged (R330). -/
def holdReady (id : Nat) (uids : List Nat) (s : State) : State :=
  modZut (fun z => { z with merge := tput z.merge id (tget (fun _ => []) z.merge id ++ uids) }) s

/-- Send an answer on the answer port of an Id. -/
def sendAnswer (id result : Nat) (uids : List Nat) (s : State) : State :=
  match answerSlot s id with
  | some slot => sendZutum slot 4 (answerBody id result uids) s
  | none => s

/-- A ROUTE-ARM held is refused and discarded (R330). -/
def refuseRoute (id code : Nat) (s : State) : State := sendAnswer id code [ownUid s] (inc0 Reg.routeRefusals s)

/-- A ROUTE-ARM whose digest agrees arms and is answered READY, or meets another opening armed (R330, R26). -/
def matchedArm (a : RouteArm) (s : State) : State :=
  if s.zut.arm.isSome then refuseRoute a.id 5 s
  else
    let s := modZut (fun z => { z with arm := some { a with cand := some (candidates a.grants s) } }) s
    holdReady a.id [ownUid s] (w0 Reg.routeArmedTick a.tick s)

/-- A waiting ROUTE-ARM may still arm: its digest agrees with the database, and its deadline has not come (R330). -/
def armAgrees (s : State) (a : RouteArm) : Bool := decide (a.digest = r0 s Reg.databaseDigest) && decide (tickNo s < a.deadline)

/-- The waiting ROUTE-ARMs whose digest agrees with the database leave the wait, in their order (R330). -/
def recheckArm (s : State) : State :=
  let hit := s.zut.waits.filter (armAgrees s)
  if hit.isEmpty then s
  else forL hit matchedArm (modZut (fun z => { z with waits := z.waits.filter (fun a => !armAgrees s a) }) s)

/-- A root just elected takes every address held into its RegistrarTable (R323). -/
def adoptAddresses (l : List Origin) (s : State) : State :=
  forL l (fun o s => if o.addr = 0 then s else wr Reg.registrarTable 0 o.addr o.uid s) s

/-- The logical ports that an origin's parts name: its adjacencies and its telecom entries. -/
def portsOf (l : List Origin) (uid : Nat) : List Nat :=
  match findOrigin l uid with
  | some o => o.adjs.map (·.lp) ++ o.exts.map (fun e => leAt e 0 1)
  | none => []

/-- Routes and states on ports that an origin no longer names are in force no more (R328, R332). -/
def pruneTables (l : List Origin) (t : List (Nat × List (Nat × Nat) × List (Nat × Nat))) :
    List (Nat × List (Nat × Nat) × List (Nat × Nat)) :=
  t.map (fun e =>
    let p := portsOf l e.1
    (e.1, e.2.1.filter (fun r => p.contains (r.2 % 64)), e.2.2.filter (fun x => p.contains x.1)))

/-- Root, digest, conflicts, the waiting ARM and what is in force of the tables follow the database (R320, R321, R324, R329). -/
def databaseChanged (s : State) : State :=
  let l := originsOf s.zut.parts
  let dg := digestOf s.zut.parts
  let s := if dg = r0 s Reg.databaseDigest then s else modZut (fun z => { z with settleAt := tickSeq s }) (w0 Reg.databaseDigest dg s)
  let s := w0 Reg.databaseOrigins (max l.length 1) s
  let s := match rootOf l with
    | none => s
    | some r =>
      let was := r0 s Reg.isFabricRoot
      let s := if r.uid = r0 s Reg.fabricRootUid then s else raise Ev.rootChange (w0 Reg.fabricRootUid r.uid s)
      let s := w0 Reg.fabricRootAddress r.addr (w0 Reg.isFabricRoot (b2n (decide (r.uid = ownUid s))) s)
      if was = 0 ∧ r0 s Reg.isFabricRoot = 1 then adoptAddresses l s else s
  let bad := conflictsOf l
  let s := forL (bad.filter (fun a => !s.zut.conflicts.contains a)) (fun _ s => raise Ev.addressConflict (inc0 Reg.addressConflicts s)) s
  recheckArm (modZut (fun z => { z with conflicts := bad, tables := pruneTables l z.tables }) s)

/-- LINKSTATE_ORIGINATE's effect (R318): the parts are stored and flooded under the next LsSequence. -/
def originate (s : State) : State :=
  let bodies := ownParts s
  let seq := (s.zut.ownSeq + 1) % 2 ^ 32
  let u := ownUid s
  let parts := tdel (tdel s.zut.parts (u * 2)) (u * 2 + 1)
  let parts := (bodies.foldl (fun (a : Nat × List (Nat × LsPart)) b =>
    (a.1 + 1, tput a.2 (u * 2 + a.1) { uid := u, part := a.1, seq := seq, body := withSeq b seq, freshAt := tickSeq s })) (0, parts)).2
  let s := modZut (fun z => { z with parts := parts, ownSeq := seq, ownBodies := bodies, originateDue := false, originAt := tickSeq s }) s
  let s := databaseChanged s
  forL bodies (fun b s => queueFlood { except := none, kind := 2, body := withSeq b seq } s) s

/-- Remove an origin. -/
def removeOrigin (uid : Nat) (s : State) : State :=
  databaseChanged (modZut (fun z => { z with parts := tdel (tdel z.parts (uid * 2)) (uid * 2 + 1) }) s)

/-- The origins that cannot be reached over two-way links (R319). -/
def unreachable (s : State) : List Nat :=
  let l := originsOf s.zut.parts
  let d := distances l false (ownUid s)
  (l.map (·.uid)).filter (fun u => (distOf d u).isNone)

def expiredOrigin (s : State) (uid : Nat) : Bool :=
  uid ≠ ownUid s && s.zut.parts.any (fun e => e.2.uid = uid) &&
  (s.zut.parts.filter (fun e => e.2.uid = uid)).all (fun e => decide (e.2.freshAt + 32000 ≤ tickSeq s))

/-! Adjacencies (R316, R317). -/

def setAdj (slot st : Nat) (s : State) : State :=
  if adjOf s slot = st then s
  else
    modZut (fun z => { z with originateDue := true, carries := z.carries.filter (fun k => decide (k ≠ slot)) }) (raise Ev.adjacency (w1 Reg.adjacencyState slot st s))

/-- An adjacency goes down: its neighbour is no longer heard. -/
def adjDown (slot : Nat) (s : State) : State :=
  let s := w1 Reg.neighbourUid slot 0 (w1 Reg.neighbourAddress slot 0 (w1 Reg.neighbourPort slot 0xFF s))
  setAdj slot 0 (modZut (fun z => { z with heardAt := tdel z.heardAt slot }) s)

/-- The HELLOs held from a slot that leaves UP or whose bit is cleared are heard no more (R317). -/
def dropHellos (slot : Nat) (s : State) : State :=
  modZut (fun z => { z with inbox := z.inbox.filter (fun x => decide (x.slot ≠ slot) || decide (x.kind ≠ 1)) }) s

/-- The HELLO of a slot (R316). -/
def helloBody (s : State) (slot : Nat) : Bytes :=
  let a := ownAddress s
  let root := r0 s Reg.fabricRootUid
  let prio := match findOrigin (originsOf s.zut.parts) root with | some o => o.prio | none => r0 s Reg.fabricRootPriority
  let flags := b2n (decide (a ≠ 0)) + 2 * b2n (decide (r0 s Reg.fabricAddressSource = 1)) + 4 * r0 s Reg.isFabricRoot +
    8 * b2n (decide (r1 s Reg.ptpPortProfile slot = 1))
  bytesLE 8 (ownUid s) ++ bytesLE 8 (r1 s Reg.neighbourUid slot) ++ bytesLE 8 root ++ bytesLE 2 a ++ bytesLE 1 flags ++
  bytesLE 1 prio ++ bytesLE 4 (r0 s Reg.databaseDigest) ++ bytesLE 4 (tickNo s) ++ bytesLE 4 0

def sendHellos (s : State) : State :=
  forL (portSlots s) (fun p s => sendZutum p 1 (helloBody s p) s) (modZut (fun z => { z with helloDue := false }) s)

/-- HELLO_SEND (R316): in the Zutum job of a tick whose TickSequence is a multiple of 64. -/
def execHelloSend (s : State) : Host.Outcome State Fault Refusal :=
  if s.zut.helloDue then .next (sendHellos s) else .next s

def helloOk (b : Bytes) : Bool :=
  decide (b.length = 40) && decide (leAt b 24 2 < 4096) && decide (leAt b 26 1 < 16) && decide (leAt b 36 4 = 0)

/-- A HELLO is taken (R317). -/
def takeHello (senderPort slot : Nat) (b : Bytes) (s : State) : State :=
  let uid := leAt b 0 8
  let held := r1 s Reg.neighbourUid slot
  let s := if held ≠ 0 ∧ held ≠ uid then setAdj slot 1 s else s
  let s := w1 Reg.neighbourUid slot uid (w1 Reg.neighbourAddress slot (leAt b 24 2) (w1 Reg.neighbourPort slot senderPort s))
  let s := modZut (fun z => { z with heardAt := tput z.heardAt slot (tickSeq s + 1) }) s
  setAdj slot (if leAt b 8 8 = ownUid s then 2 else 1) s

/-- HELLO_RECEIVE (R317). -/
def execHelloReceive (port : Fin 64) (payload : Bytes) (s : State) : Host.Outcome State Fault Refusal :=
  .next (zutumReceive port.val 1 payload helloOk s)

/-- No HELLO within the last 192 ticks; `late` asks for one tick more. -/
def adjExpired (s : State) (slot late : Nat) : Bool :=
  decide (adjOf s slot ≠ 0) && decide (tget (fun _ => 0) s.zut.heardAt slot + 192 + late ≤ tickSeq s + 1)

/-- ADJACENCY_TIMEOUT (R317). -/
def execAdjacencyTimeout (port : Fin 64) (s : State) : Host.Outcome State Fault Refusal :=
  match slotOf s port.val with
  | some slot => if adjExpired s slot 0 then .next (adjDown slot s) else .next s
  | none => .next s

/-- LINKSTATE_REFRESH (R318): 8,000 ticks after the last. -/
def execLinkstateRefresh (s : State) : Host.Outcome State Fault Refusal :=
  if s.zut.originAt + 8000 ≤ tickSeq s then .next (originate s) else .next s

/-- The own state differs from what was last originated (R318). -/
def ownChanged (s : State) : Bool := s.zut.originateDue || decide (ownParts s ≠ s.zut.ownBodies)

/-- LINKSTATE_ORIGINATE (R318). -/
def execLinkstateOriginate (s : State) : Host.Outcome State Fault Refusal :=
  if ownChanged s then .next (originate s) else .next s

/-- The layout of LINKSTATE (R318): lengths, reserved bits and bytes of the body, its dataset and its entries. -/
def linkstateOk (b : Bytes) : Bool :=
  let na := leAt b 24 1
  decide (leAt b 22 2 = 0) &&
  (List.range na).all (fun k => decide (leAt b (28 + 12 * k + 2) 1 < 2) && decide (leAt b (28 + 12 * k + 3) 1 = 0)) &&
  (List.range (leAt b 25 1)).all (fun k => decide (leAt b (28 + 12 * na + 20 * k + 18) 2 = 0)) &&
  decide (28 ≤ b.length) && decide (b.length = 28 + 12 * leAt b 24 1 + 20 * leAt b 25 1) && decide (leAt b 8 2 < 4096) &&
  decide (leAt b 10 1 < 4) && decide (1 ≤ leAt b 27 1) && decide (leAt b 27 1 ≤ 2) && decide (leAt b 26 1 < leAt b 27 1)

/-- LsSequence order (R319). -/
def seqNewer (new old : Nat) : Bool :=
  let d := (new + 2 ^ 32 - old) % 2 ^ 32
  decide (1 ≤ d) && decide (d ≤ 2 ^ 31)

/-- A LINKSTATE part is judged (R319). -/
def takeLinkstate (slot : Nat) (b : Bytes) (s : State) : State :=
  let uid := leAt b 0 8
  let part := leAt b 26 1
  let seq := leAt b 12 4
  if uid = ownUid s then
    if seq = s.zut.ownSeq ∨ seqNewer seq s.zut.ownSeq then originate (modZut (fun z => { z with ownSeq := seq }) s) else s
  else
    let stored := (s.zut.parts.find? (fun e => e.1 = uid * 2 + part)).map (·.2)
    let known := s.zut.parts.any (fun e => e.2.uid = uid)
    let newer := match stored with | some x => seqNewer seq x.seq | none => true
    if !newer then s
    else if !known ∧ 4096 ≤ (originsOf s.zut.parts).length then inc0 Reg.databaseOverflow s
    else
      let x : LsPart := { uid := uid, part := part, seq := seq, body := b, freshAt := tickSeq s }
      let parts := if leAt b 27 1 = 1 then tdel s.zut.parts (uid * 2 + 1) else s.zut.parts
      let s := modZut (fun z => { z with parts := tput parts (uid * 2 + part) x }) s
      databaseChanged (queueFlood { except := some slot, kind := 2, body := b } s)

/-- LINKSTATE_RECEIVE (R319). -/
def execLinkstateReceive (port : Fin 64) (payload : Bytes) (s : State) : Host.Outcome State Fault Refusal :=
  .next (zutumReceive port.val 2 payload linkstateOk s)

/-- LINKSTATE_EXPIRE (R319). -/
def execLinkstateExpire (uid : BitVec 64) (s : State) : Host.Outcome State Fault Refusal :=
  if expiredOrigin s uid.toNat then .next (removeOrigin uid.toNat s) else .next s

/-! Route openings (R323, R329-R332). -/

/-- The lowest free row of RegistrarTable whose address no origin holds (R323). -/
def freeAddress (s : State) (l : List Origin) (taken : List Nat) : Option Nat :=
  ((List.range 4094).map (· + 1)).find? (fun a =>
    rd s Reg.registrarTable 0 a = 0 && !l.any (fun o => o.addr = a) && !taken.contains a)

/-- The address of an origin to be granted one: its own row, else a free one (R323). -/
def grantFor (s : State) (l : List Origin) (taken : List Nat) (uid : Nat) : Option Nat :=
  match ((rowsOf s Reg.registrarTable 0).find? (fun r => r.2 = uid && decide (1 ≤ r.1) && decide (r.1 ≤ 0xFFE) &&
      !l.any (fun o => o.addr = r.1 && o.uid ≠ uid) && !taken.contains r.1)).map (·.1) with
  | some a => some a
  | none => freeAddress s l taken

/-- The origins whose granted address stands in conflict, to be revoked (R324). -/
def revoked (l : List Origin) : List Origin := l.filter (fun o => !o.strapped && (conflictsOf l).contains o.addr)

/-- The grants of the next route opening with the state in which RegistrarTable names them (R323, R324). -/
def makeGrants (s : State) : List (Nat × Nat) × State :=
  let l := originsOf s.zut.parts
  let rev := revoked l
  let start : List (Nat × Nat) := rev.map (fun o => (o.uid, 0x8000 + o.addr))
  let who := l.filter (fun o => decide (o.addr = 0) || rev.any (fun r => r.uid = o.uid))
  let r := who.foldl (fun (a : List (Nat × Nat) × State) o =>
    if 128 ≤ a.1.length then a
    else
      match grantFor a.2 l (a.1.map (·.2)) o.uid with
      | some ad => (a.1 ++ [(o.uid, ad)], wr Reg.registrarTable 0 ad o.uid a.2)
      | none => (a.1, raise Ev.registrarFull (inc0 Reg.registrarFull a.2))) (start.take 128, s)
  r

/-- The state of one port at a route opening (R327): `new` from the tables, by logical port; beyond 32 hops every port of the fabric
profile is PASSIVE. -/
def portStateAt (s : State) (slot : Nat) (states : List (Nat × Nat)) (orphan : Bool) : Nat :=
  let prof := r1 s Reg.ptpPortProfile slot
  let p := (portOf s slot).getD 64
  if prof = 0 ∨ linkStateOf s slot ≠ 1 then 3
  else
    match (states.find? (fun e => e.1 = p)).map (·.2) with
    | some 8 => if r1 s Reg.ptpPortState slot = 9 then 9 else 8
    | some x => x
    | none => if prof = 2 then 6 else if orphan then 7 else 4

/-- Some port of this module has a state other than its candidates give it. -/
def ownStatesDiffer (s : State) : Bool :=
  let c := candidates [] s
  (portSlots s).any (fun slot => decide (r1 s Reg.ptpPortState slot ≠ portStateAt s slot c.states c.orphan))

/-- The database yields some address, route or port state, on some module, that differs from those in force (R329). A full
Registrar yields no address. -/
def needsOpening (s : State) : Bool :=
  !(makeGrants s).1.isEmpty || ownStatesDiffer s ||
    (fabricTables s s.zut.parts).any (fun e => decide (s.zut.tables.find? (fun x => x.1 = e.1) ≠ some e))

/-- ROUTE_ARM's effect: the root arms and floods (R329). -/
def rootArm (s : State) : State :=
  let g := makeGrants s
  let s := g.2
  let id := (s.zut.lastId + 1) % 2 ^ 32
  let id := if id = 0 then 1 else id
  let t := tickNo s + r0 s Reg.routeLead
  let dg := r0 s Reg.databaseDigest
  let body := bytesLE 8 (ownUid s) ++ bytesLE 4 id ++ bytesLE 8 t ++ bytesLE 4 dg ++ bytesLE 1 g.1.length ++ bytesLE 3 0 ++
    g.1.flatMap (fun e => bytesLE 8 e.1 ++ bytesLE 2 e.2)
  let a : RouteArm := { id := id, tick := t, deadline := t - r0 s Reg.routeArmLead, digest := dg, originator := ownUid s
                        grants := g.1, cand := some (candidates g.1 s) }
  let s := modZut (fun z => { z with arm := some a, noneBefore := t, lastId := id, ready := [ownUid s]
                                     armsSeen := (id, none) :: z.armsSeen.take 63 }) s
  floodNow { except := none, kind := 3, body := body } (w0 Reg.routeArmedTick t s)

/-- The module's own database makes it the root (R321). -/
def isRoot (s : State) : Bool :=
  decide (r0 s Reg.isFabricRoot = 1) && decide ((rootOf (originsOf s.zut.parts)).map (·.uid) = some (ownUid s))

/-- ROUTE_ARM (R329): none before tick T of the last, and none while the Curator does not run. -/
def execRouteArm (s : State) : Host.Outcome State Fault Refusal :=
  if curatorRuns s ∧ isRoot s ∧ s.zut.arm.isNone ∧ s.zut.noneBefore ≤ tickNo s ∧ s.zut.settleAt + r0 s Reg.zutumSettle ≤ tickSeq s ∧ needsOpening s then
    .next (rootArm s)
  else .next s

def armOk (b : Bytes) : Bool :=
  decide (28 ≤ b.length) && decide (leAt b 24 1 ≤ 128) && decide (leAt b 25 3 = 0) && decide (b.length = 28 + 10 * leAt b 24 1) &&
  decide (leAt b 8 4 ≠ 0)

/-- A ROUTE-ARM that arrived in tick `came` is taken (R329, R330); the conditions of a refusal are met in the order of R25. -/
def takeRouteArm (slot came : Nat) (b : Bytes) (s : State) : State :=
  let id := leAt b 8 4
  if s.zut.armsSeen.any (fun e => e.1 = id) then s
  else
    let s := modZut (fun z => { z with armsSeen := (id, some slot) :: z.armsSeen.take 63 }) s
    let s := queueFlood { except := some slot, kind := 3, body := b } s
    let t := leAt b 12 8
    if leAt b 0 8 ≠ r0 s Reg.fabricRootUid then s
    else if t ≤ came + r0 s Reg.routeArmLead then refuseRoute id 4 s
    else if s.zut.arm.isSome then refuseRoute id 5 s
    else
      let a : RouteArm :=
        { id := id, tick := t, deadline := t - r0 s Reg.routeArmLead, digest := leAt b 20 4, originator := leAt b 0 8, cand := none
          grants := (List.range (leAt b 24 1)).map (fun k => (leAt b (28 + 10 * k) 8, leAt b (36 + 10 * k) 2)) }
      let s := modZut (fun z => { z with lastId := max z.lastId id }) s
      if a.digest = r0 s Reg.databaseDigest then matchedArm a s
      else modZut (fun z => { z with waits := z.waits ++ [a] }) s

/-- ROUTE_ARM_RECEIVE (R330). -/
def execRouteArmReceive (port : Fin 64) (payload : Bytes) (s : State) : Host.Outcome State Fault Refusal :=
  .next (zutumReceive port.val 3 payload armOk s)

/-- The waiting ROUTE-ARMs whose deadline has come by tick n are refused (R330). -/
def refuseWaits (n : Nat) (s : State) : State :=
  let l := s.zut.waits.filter (fun a => decide (a.deadline ≤ n))
  if l.isEmpty then s
  else forL l (fun a s => refuseRoute a.id 3 s) (modZut (fun z => { z with waits := z.waits.filter (fun a => decide (n < a.deadline)) }) s)

/-- ROUTE_ARM_DEADLINE (R330). -/
def execRouteArmDeadline (s : State) : Host.Outcome State Fault Refusal := .next (refuseWaits (tickNo s) s)

/-- The armed route opening is dropped. -/
def dropArm (s : State) : State := w0 Reg.routeArmedTick 0 (modZut (fun z => { z with arm := none, ready := [] }) s)

/-- The root floods a ROUTE-CANCEL and drops its own (R331). -/
def rootCancel (a : RouteArm) (s : State) : State :=
  let body := bytesLE 8 (ownUid s) ++ bytesLE 4 a.id ++ bytesLE 4 0
  let s := modZut (fun z => { z with cancelsSeen := a.id :: z.cancelsSeen.take 63 }) s
  let s := floodNow { except := none, kind := 5, body := body } s
  if tickNo s + 1 < a.tick then inc0 Reg.routeCancels (dropArm s) else s

def answerOk (b : Bytes) : Bool :=
  let n := leAt b 6 2
  decide (8 ≤ b.length) && decide (b.length = 8 + 8 * n) && decide (1 ≤ n) && decide (n ≤ 170) && decide (leAt b 5 1 = 0) &&
  (decide (leAt b 4 1 = 0) || (decide (n = 1) && (decide (leAt b 4 1 = 3) || decide (leAt b 4 1 = 4) || decide (leAt b 4 1 = 5))))

/-- A ROUTE-ANSWER is received by the root, or merged and relayed (R330, R331). -/
def takeAnswer (_ : Nat) (b : Bytes) (s : State) : State :=
  let id := leAt b 0 4
  let uids := (List.range (leAt b 6 2)).map (fun k => leAt b (8 + 8 * k) 8)
  match s.zut.arm with
  | some a =>
    if a.id = id ∧ a.originator = ownUid s then
      if leAt b 4 1 = 0 then modZut (fun z => { z with ready := (z.ready ++ uids).eraseDups }) s else rootCancel a s
    else if leAt b 4 1 = 0 then holdReady id uids s
    else sendAnswer id (leAt b 4 1) uids s
  | none => if leAt b 4 1 = 0 then holdReady id uids s else sendAnswer id (leAt b 4 1) uids s

/-- ROUTE_ANSWER (R330). -/
def execRouteAnswer (port : Fin 64) (payload : Bytes) (s : State) : Host.Outcome State Fault Refusal :=
  .next (zutumReceive port.val 4 payload answerOk s)

/-- The largest Hops in ManagementRoutes. -/
def largestHops (s : State) : Nat := (rowsOf s Reg.managementRoutes 0).foldl (fun a r => max a (field r.2 21 16)) 0

/-- ROUTE_CANCEL_DEADLINE (R331). -/
def execRouteCancelDeadline (s : State) : Host.Outcome State Fault Refusal :=
  match s.zut.arm with
  | some a =>
    if a.originator = ownUid s ∧ a.tick + largestHops s + 1 ≤ tickNo s + r0 s Reg.routeArmLead ∧
        (originsOf s.zut.parts).any (fun o => !s.zut.ready.contains o.uid) then
      .next (rootCancel a s)
    else .next s
  | none => .next s

def cancelOk (b : Bytes) : Bool := decide (b.length = 16) && decide (leAt b 12 4 = 0)

/-- A ROUTE-CANCEL that arrived in tick `came` is flooded on and discards what it names: an opening armed where it came before tick
T - 1 (R331), an ARM that waits at any time (R28). -/
def takeCancel (slot came : Nat) (b : Bytes) (s : State) : State :=
  let id := leAt b 8 4
  if s.zut.cancelsSeen.contains id then s
  else
    let s := modZut (fun z => { z with cancelsSeen := id :: z.cancelsSeen.take 63 }) s
    let s := queueFlood { except := some slot, kind := 5, body := b } s
    let s := modZut (fun z => { z with waits := z.waits.filter (fun a => a.id ≠ id || a.originator ≠ leAt b 0 8) }) s
    match s.zut.arm with
    | some a =>
      if a.id = id ∧ a.originator = leAt b 0 8 ∧ came + 1 < a.tick then inc0 Reg.routeCancels (dropArm s) else s
    | none => s

/-- ROUTE_CANCEL (R331). -/
def execRouteCancel (port : Fin 64) (payload : Bytes) (s : State) : Host.Outcome State Fault Refusal :=
  .next (zutumReceive port.val 5 payload cancelOk s)

/-- An address that no module ever holds (R322). -/
def neverHeld (ad : Nat) : Bool := decide (ad = 0) || decide (ad = 0xFFF)

/-- The grants that name this module, in order (R323, R324); a grant of an address that no module holds is none
(DESIGN CHOICE; log 69). -/
def applyGrants (g : List (Nat × Nat)) (s : State) : State :=
  forL g (fun e s =>
    if e.1 ≠ ownUid s ∨ (e.2 < 0x8000 ∧ neverHeld (e.2 % 4096)) then s
    else if 0x8000 ≤ e.2 then w0 Reg.fabricAddress 0 (w0 Reg.fabricAddressSource 0 s)
    else w0 Reg.fabricAddress (e.2 % 4096) (w0 Reg.fabricAddressSource 2 s)) s

/-- What a new parent's last Announce has said, where it came within three intervals (R292, R295, R299). -/
def takeParent (s : State) : State :=
  match (parentSlot s).bind (fun slot => (freshAnnounce s slot).map (fun m => (slot, m))) with
  | some x =>
    let st := field x.2.head.specific.toNat 31 24
    let s := modServo (fun v => { v with parentGm := some x.2.identity, parentState := some st, parentUnused := !x.2.ptpTimescale }) s
    setServoFlag 3 (decide (ptpProfile s x.1 = 1) && decide (st ≠ 2)) s
  | none => s

/-- ROUTE_OPENING's effect (R332): a parent that leaves, comes or changes is a change of the time source (R292). -/
def routeOpen (a : RouteArm) (c : RouteCand) (s : State) : State :=
  let was := parentSlot s
  let s := applyGrants a.grants s
  let s := dropIdx Reg.managementRoutes s
  let s := forL c.routes (fun r s => wr Reg.managementRoutes 0 r.1 r.2 s) s
  let s := forL (portSlots s) (fun slot s => setPortState slot (portStateAt s slot c.states c.orphan) s) s
  let s := w0 Reg.timeTreeDepth c.depth (w0 Reg.timeTreeOrphan (b2n c.orphan) s)
  let s := match c.gm with
    | some g => w0 Reg.grandmasterIdentity (ofLE (bytesBE 8 g.identity)) (w0 Reg.grandmasterEntry g.entryAddr s)
    | none => s
  let s := setLive Ev.orphan c.orphan s
  let s := inc0 Reg.routeOpenings (w0 Reg.routeOpeningId a.id (w0 Reg.routeDigest a.digest s))
  let s := modZut (fun z => { z with gm := c.gm, tables := fabricTables s c.basis, carries := twoWaySlots s, originateDue := z.originateDue || !a.grants.isEmpty }) (dropArm s)
  if parentSlot s = was then updateSource s
  else updateUtc (updateSource (takeParent (sourceLost (dropParent s))))

/-- The route opening that is due: armed, its tick begun. -/
def routeDue (s : State) : Option (RouteArm × RouteCand) :=
  match s.zut.arm with
  | some a =>
    match a.cand with
    | some c => if a.tick ≤ tickNo s then some (a, c) else none
    | none => none
  | none => none

/-- A route opening that is due takes effect in step 2 of R23, in the cycle of a host opening (R332). -/
def routeOpenDue (s : State) : State :=
  match routeDue s with
  | some x => routeOpen x.1 x.2 s
  | none => s

/-! What other sections cause, and the Zutum job. -/

/-- A port leaves UP (R300, R317, R332): its adjacency is down at once, its PTP state is DISABLED. -/
def zutumLinkFell (slot : Nat) (s : State) : State :=
  let was := ptpFollows s slot
  let s := dropHellos slot s
  let s := if adjOf s slot ≠ 0 then adjDown slot s else s
  let s := setPortState slot 3 (setPtp slot { getPtp s slot with announce := none, waiting := [], resps := [] } s)
  if was then updateSource (sourceLost (dropParent s)) else s

/-- A port comes up (R327). -/
def zutumLinkRose (slot : Nat) (s : State) : State :=
  if r1 s Reg.ptpPortProfile slot ≠ 0 then w1 Reg.ptpPortState slot 4 s else s

/-- ZutumEnable changes: a port whose bit is cleared goes down at once (R317). -/
def effZutumEnable (_ v : Nat) (s : State) : State :=
  let s := w0 Reg.zutumEnable v s
  forL (portSlots s) (fun slot s =>
    if zutumOn s slot then s
    else
      let s := dropHellos slot s
      if adjOf s slot ≠ 0 then adjDown slot s else s) s

/-- A Zutum frame that was held is acted on (R333). -/
def zutumAct (x : ZutIn) (s : State) : State :=
  match x.kind with
  | 1 => takeHello x.sender x.slot x.body s
  | 2 => takeLinkstate x.slot x.body s
  | 3 => takeRouteArm x.slot x.tick x.body s
  | 4 => takeAnswer x.slot x.body s
  | 5 => takeCancel x.slot x.tick x.body s
  | _ => s

/-- The frames received in the tick before are acted on, in their order (R333). -/
def zutumInbox (s : State) : State :=
  let l := s.zut.inbox
  forL l zutumAct (modZut (fun z => { z with inbox := [] }) s)

/-- ModuleUids in bodies of at most 170 (R330). -/
def answerChunks : Nat → List Nat → List (List Nat)
  | 0, _ => []
  | n + 1, l => if l.isEmpty then [] else l.take 170 :: answerChunks n (l.drop 170)

/-- The Zutum job at a boundary (R15, R319, R330, R333): the frames of the tick before, what is left over of it, then what is
queued goes out. -/
def zutumJob (s : State) : State :=
  let s := refuseWaits (tickNo s - 1) (zutumInbox s)
  let s := if s.zut.helloDue then sendHellos s else s
  let s := forL (portSlots s) (fun p s => if adjExpired s p 1 then adjDown p s else s) s
  let s := forL (unreachable s) (fun u s => removeOrigin u s) s
  let s := forL ((originsOf s.zut.parts).map (·.uid)) (fun u s => if expiredOrigin s u then removeOrigin u s else s) s
  let s := if ownChanged s || decide (s.zut.originAt + 8000 < tickSeq s) then originate s else s
  let q := s.zut.out
  let m := s.zut.merge
  let s := modZut (fun z => { z with out := [], merge := [], helloDue := decide (tickSeq s % 64 = 0) }) s
  let s := forL q floodNow s
  forL m (fun e s => forL (answerChunks e.2.length e.2) (fun l s => sendAnswer e.1 0 l s) s) s

/-- An Announce begins (R302): the grandmaster in force and the state of this servo. -/
def sendAnnounce (port slot : Nat) (s : State) : State :=
  let p := getPtp s slot
  let spec := if ptpProfile s slot = 1 then servoStateOf s * 2 ^ 24 else 0
  let g := s.zut.gm.getD { priority1 := r0 s Reg.clockPriority1, clockClass := (ownClock s).1, accuracy := (ownClock s).2
                           variance := 0xFFFF, priority2 := r0 s Reg.clockPriority2, identity := clockIdentity s
                           steps := 0, entryAddr := ownAddress s }
  let depth := r0 s Reg.timeTreeDepth
  let m : AnnounceMsg :=
    { head := ptpMsg s slot 82 p.annSeq 0 0 spec 0, utcOffset := BitVec.ofNat 16 (r0 s Reg.utcOffset), utcValid := servoFlag s 0
      leap61 := decide (r0 s Reg.leapPending = 1), leap59 := decide (r0 s Reg.leapPending = 2), ptpTimescale := true
      priority1 := BitVec.ofNat 8 g.priority1, clockClass := BitVec.ofNat 8 g.clockClass
      clockAccuracy := BitVec.ofNat 8 g.accuracy, variance := BitVec.ofNat 16 g.variance
      priority2 := BitVec.ofNat 8 g.priority2, identity := BitVec.ofNat 64 g.identity
      stepsRemoved := BitVec.ofNat 16 (g.steps + (if depth = 0xFF then 0 else depth)) }
  let s := setPtp slot { p with annSeq := (p.annSeq + 1) % 2 ^ 16 } s
  emit (.announce port m) (countTx slot 82 (occupyLine slot 82 s))

/-- PTP_ANNOUNCE_SEND (R302): an Announce is due; it begins, or waits for the line. -/
def execPtpAnnounceSend (port : Fin 64) (s : State) : Host.Outcome State Fault Refusal :=
  match slotOf s port.val with
  | none => .next s
  | some slot =>
    let p := getPtp s slot
    if ptpProfile s slot ≠ 0 ∧ ptpMaster s slot ∧ servoStateOf s ≠ 0 ∧ ptpDue s p.annAt 1000 then
      let s := setPtp slot { p with annAt := tickSeq s + 1 } s
      .next (if ptpMayBegin s slot then sendAnnounce port.val slot s else ptpWait slot .announce s)
    else .next s

/-- A PTP frame that has waited begins, where its port still has the role that sends it. -/
def sendWaiting (port slot : Nat) (k : PtpSend) (s : State) : State :=
  match k with
  | .sync => if ptpMaster s slot then sendSync port slot s else s
  | .announce => if ptpMaster s slot then sendAnnounce port slot s else s
  | .delayResp => if ptpMaster s slot then sendDelayResp port slot s else s
  | .delayReq => if ptpFollows s slot then sendDelayReq port slot s else s

/-- The line of a slot is free: the PTP frames that wait go out in their order (R302). -/
def releasePtp (slot : Nat) (s : State) : State :=
  let l := (getPtp s slot).waiting
  match portOf s slot with
  | some port =>
    if l.isEmpty || !ptpMayBegin s slot then s
    else forL l (sendWaiting port slot) (setPtp slot { getPtp s slot with waiting := [] } s)
  | none => s

end Sys2Proof.Machine
end

