-- ==== Sys2Proof/Machine/Lanes.lean ====
section
/-! DEFINITION. Serial lanes (chapter 4): bring-up, link changes, adaptation, the reserve sampler, patterns, injection and
loopback. -/

namespace Sys2Proof.Machine

/-! What a lane is (R85, R92, R113). -/

/-- The lane is enabled, its domain is awake, its group is not off: it may leave OFF (R92, R113). -/
def laneAlive (s : State) (lane : Nat) : Bool :=
  running s (bankDomain lane) && decide (r1 s Reg.laneEnable lane = 1) && decide (groupMode s (lane / 2) ≠ 0)

def laneStateOf (s : State) (lane : Nat) : Nat := r1 s Reg.laneState lane

/-- A PAM4 mode (R85). -/
def isPam4 (s : State) (lane : Nat) : Bool := decide (1 ≤ laneMode s lane) && decide (laneMode s lane ≤ 4)

/-- The lane has FEC (R85). -/
def hasFec (s : State) (lane : Nat) : Bool :=
  isPam4 s lane || (decide (laneMode s lane = 5) && decide (r1 s Reg.laneFecMode lane = 1))

/-- The objects of R99 as they stand for a lane. -/
def laneUse (s : State) (lane : Nat) : LaneUse :=
  { train := r1 s Reg.laneTrainMode lane, polarity := r1 s Reg.lanePolarityMode lane
    txPrecode := r1 s Reg.laneTxPrecode lane, rxPrecode := r1 s Reg.laneRxPrecode lane
    invert := r1 s Reg.laneTxInvert lane, swap := r1 s Reg.portGroupTxSwap (lane / 2)
    reversal := r1 s Reg.laneReversalMode (lane / 2) }

/-- The objects of R99 as a lane uses them: those of its last entry into CDR. -/
def usedBy (s : State) (lane : Nat) : LaneUse := (getLane s lane).used

def trainOn (s : State) (lane : Nat) : Bool := decide ((usedBy s lane).train = 1)

/-- The lanes of a lane's port; the lane alone where its group has no port. -/
def portLanes (s : State) (lane : Nat) : List Nat :=
  match slotOfLane s lane with
  | some slot => lanesOfSlot s slot
  | none => [lane]

/-- The lane is the lower lane of its port. -/
def lowerOfPort (s : State) (lane : Nat) : Bool := (portLanes s lane).head? == some lane

/-- A generator, checker or loopback is selected on the lane; PCS loopback counts on a port's lower lane alone (R109,
R110). -/
def testSelected (s : State) (lane : Nat) : Bool :=
  decide (r1 s Reg.patGenSelect lane ≠ 0) || decide (r1 s Reg.patChkSelect lane ≠ 0) ||
  decide (r1 s Reg.loopbackMode lane = 1) || decide (r1 s Reg.loopbackMode lane = 2) ||
  (decide (r1 s Reg.loopbackMode lane = 3) && lowerOfPort s lane)

/-- Near-end PMA loopback (R109). -/
def nearLoop (s : State) (lane : Nat) : Bool := decide (r1 s Reg.loopbackMode lane = 1)

/-- The lane's checker hears the lane's own generator: near-end loopback of a pattern (R109). -/
def hearsItself (s : State) (lane : Nat) : Bool :=
  nearLoop s lane && decide (r1 s Reg.patGenSelect lane ≠ 0) &&
  decide (r1 s Reg.patGenSelect lane = r1 s Reg.patChkSelect lane)

/-- The port of a lane is under test (R110). -/
def portTest (s : State) (lane : Nat) : Bool := (portLanes s lane).any (testSelected s)

/-- PCS loopback alone: the MAC sees link up and receives its own frames (R110). -/
def pcsLoopback (s : State) (slot : Nat) : Bool :=
  match lanesOfSlot s slot with
  | [] => false
  | l :: t =>
    decide (r1 s Reg.loopbackMode l = 3) &&
    (l :: t).all (fun k => decide (r1 s Reg.patGenSelect k = 0) && decide (r1 s Reg.patChkSelect k = 0) &&
      decide (r1 s Reg.loopbackMode k ≠ 1) && decide (r1 s Reg.loopbackMode k ≠ 2))

/-- Frames pass the port's MAC (R118): the link is up, or under test in PCS loopback. -/
def carriesFrames (s : State) (slot : Nat) : Bool :=
  decide (linkStateOf s slot = 1) || (decide (linkStateOf s slot = 2) && pcsLoopback s slot)

/-! Entering a state (R92-R99). -/

/-- A handover in progress is abandoned: the next bring-up starts on the main sampler (R103). -/
def dropHandover (lane : Nat) (s : State) : State :=
  if r1 s Reg.reserveState lane = 0 then s
  else modLane lane (fun l => { l with restarts := 0, secondD := false, calRun := false, calDone := false })
    (w1 Reg.reserveState lane 0 s)

/-- The checker of a lane that stops its test has no lock; its counts are kept (R99, R107). -/
def dropChecker (lane : Nat) (s : State) : State :=
  w1 Reg.chkState lane (if r1 s Reg.patChkSelect lane = 0 then 0 else 1) s

/-- A lane enters a state (R92): the decision on polarity is void in SIGNAL and CDR (R94), training starts in CDR (R95),
which takes the lane's objects as they stand (R99),
the equaliser starts from its defaults in EQUALISE, leaving UP or TEST abandons a handover (R103). -/
def setLaneState (lane st : Nat) (s : State) : State :=
  let old := laneStateOf s lane
  let s := w1 Reg.laneState lane st s
  let s := modLane lane (fun l => { l with enteredAt := s.now }) s
  let s := if old = 7 ∨ old = 8 then dropHandover lane s else s
  let s := if old = 8 then dropChecker lane s else s
  let s := if st = 1 ∨ st = 2 then w1 Reg.lanePolarityFound lane 0 s else s
  match st with
  | 2 => modLane lane (fun l => { l with trialInverted := false, rxReady := false, rxIndex := none
                                         training := decide (r1 s Reg.laneTrainMode lane = 1), framesLeft := 0
                                         used := laneUse s lane }) s
  | 3 =>
    modLane lane (fun l => { l with ctle := 0, ffe := 0, dfe := 0, passRun := 0, convRun := none })
      (w1 Reg.laneRxCtle lane 0 (w1 Reg.laneRxFfeTaps lane 0 (w1 Reg.laneRxDfeTaps lane 0 (w1 Reg.laneAdaptFrozen lane 0 s))))
  | 4 => modLane lane (fun l => { l with trialInverted := false }) s
  | _ => s

/-- The frame in transmission on a slot is discarded with its link (R157). -/
def discardTx (slot : Nat) (s : State) : State :=
  match (getPort s slot).tx with
  | none => s
  | some t =>
    let seq := (getFrame s t.frame).bind (·.selected)
    let s := archiveRefate seq ((portOf s slot).getD 0xFF) 5 (modPort slot (fun p => { p with tx := none }) s)
    inc Reg.linkDownDiscards slot (releaseRef t.frame slot s)

/-- What a change of a slot's link brings beside its event (R124, R157, R300, R332): `before` is its state before. A link
that leaves UP loses the frame in transmission, also where PCS loopback goes on carrying frames. -/
def linkMoved (slot before : Nat) (s : State) : State :=
  let after := linkStateOf s slot
  if before = after then s
  else
    let s := if before = 1 || !carriesFrames s slot then discardTx slot s else s
    let s := if carriesFrames s slot then s else stopTimers slot (judgeGates s)
    if before = 1 then zutumLinkFell slot s else if after = 1 then zutumLinkRose slot s else s

/-- A change of PortLinkState of a slot that keeps its number (R117, R397). -/
def linkChanged (slot before : Nat) (s : State) : State :=
  let raised := match portOf s slot with | some p => raise (Ev.portLink + p) s | none => s
  linkMoved slot before (if before = linkStateOf s slot then s else raised)

/-- Act on the lanes of a group and judge its two slots' links. -/
def withLinks (g : Nat) (f : State → State) (s : State) : State :=
  let a := linkStateOf s (2 * g)
  let b := linkStateOf s (2 * g + 1)
  linkChanged (2 * g + 1) b (linkChanged (2 * g) a (f s))

/-- The other lanes of the port of a lane that left LOCK or UP wait in REVERSAL (R98). -/
def othersWait (lane : Nat) (s : State) : State :=
  forL (portLanes s lane) (fun k s =>
    if k ≠ lane ∧ (laneStateOf s k = 6 ∨ laneStateOf s k = 7) then setLaneState k 5 s else s) s

/-- A lane starts at SIGNAL, if it may leave OFF: when LaneEnable lets it out of OFF, at the start of the module, at wake, at a
change of port-group mode and at a datapath reset (R92, R99, R422, R429). Where its port is under test R110 has it in TEST at
once (DEDUCED, log 32). -/
def startLane (lane : Nat) (s : State) : State :=
  setLaneState lane (if !laneAlive s lane then 0 else if portTest s lane then 8 else 1) s

/-- A lane goes to OFF (R92, R99). -/
def stopLane (lane : Nat) (s : State) : State :=
  if laneStateOf s lane = 0 then s else othersWait lane (setLaneState lane 0 s)

/-- Restart of bring-up at CDR (R99): lanes in OFF, SIGNAL, TEST and BACKOFF stay where they are. -/
def restartLanes (lanes : List Nat) (s : State) : State :=
  let hit := lanes.filter (fun k => decide (2 ≤ laneStateOf s k) && decide (laneStateOf s k ≤ 7))
  let s := forL hit (fun k s => setLaneState k 2 s) s
  forL hit (fun k s => forL (portLanes s k) (fun j s =>
    if !hit.contains j && (laneStateOf s j = 6 || laneStateOf s j = 7) then setLaneState j 5 s else s) s) s

/-- A staged change of one of R99's objects: idx and sub-index. A lane's object affects that lane, a group's object both its
lanes, also where the object has no effect in the mode at hand: LaneFecMode off 25.78125 Gb/s, precoding on NRZ,
LaneReversalMode on single-lane ports (DEDUCED: R99 says "a change to any of", log 64). -/
def laneObjectChanged (idx sub : Nat) (s : State) : State :=
  let group := decide (idx = Reg.laneReversalMode) || decide (idx = Reg.portGroupTxSwap)
  let lanes := if group then [2 * sub, 2 * sub + 1] else [sub]
  withLinks (if group then sub else sub / 2) (restartLanes lanes) s

/-- A group's mode has changed: both lanes start at SIGNAL (R99), or are held in OFF (R113). LaneSkew reads 0 until the next
lock: no lane of the new port leads (R89). -/
def laneModeChanged (g : Nat) (s : State) : State :=
  w1 Reg.laneSkew (2 * g) 0 (w1 Reg.laneSkew (2 * g + 1) 0 (startLane (2 * g + 1) (startLane (2 * g) s)))

/-- A lane bank's domain falls asleep: its lanes go to OFF (R99). -/
def laneBankSleep (bank : Nat) (s : State) : State :=
  forN 16 (fun i s => let g := (if bank = 5 then 0 else 16) + i
    withLinks g (fun s => stopLane (2 * g + 1) (stopLane (2 * g) s)) s) s

/-- A lane bank wakes, or is reset: its lanes start (R99). -/
def laneBankStart (bank : Nat) (s : State) : State :=
  forN 16 (fun i s => let g := (if bank = 5 then 0 else 16) + i
    withLinks g (fun s => startLane (2 * g + 1) (startLane (2 * g) s)) s) s

/-! Bring-up commands. -/

/-- Act on one lane with its group's links judged. -/
def onLane (lane : Nat) (f : State → State) (s : State) : State := withLinks (lane / 2) f s

/-- LANE_SIGNAL_DETECTED (R92). While the balls are under the boundary register no partner hears the lane: it stays in SIGNAL, and
brings up when they return to functional control (R450; DEDUCED, log 49). -/
def execLaneSignalDetected (lane : Fin 64) (s : State) : Host.Outcome State Fault Refusal :=
  if laneStateOf s lane.val = 1 ∧ s.tap.held = false then .next (onLane lane.val (setLaneState lane.val 2) s) else .next s

/-- LANE_CDR_LOCKED (R92). -/
def execLaneCdrLocked (lane : Fin 64) (s : State) : Host.Outcome State Fault Refusal :=
  if laneStateOf s lane.val = 2 then .next (onLane lane.val (setLaneState lane.val 3) s) else .next s

/-- LaneReversal of a two-port mode follows the lower lane (R96). -/
def singleReversal (lane : Nat) (s : State) : State :=
  if twoLane s lane || decide (lane % 2 = 1) then s
  else if !trainOn s lane then w1 Reg.laneReversal (lane / 2) 3 s
  else
    match (getLane s lane).rxIndex with
    | some i => w1 Reg.laneReversal (lane / 2) (if i = 1 then 2 else 0) s
    | none => s

/-- Training stops once the lane has left POLARITY and a Ready frame has come: 16 frames follow (R95). -/
def judgeTraining (lane : Nat) (s : State) : State :=
  let l := getLane s lane
  if l.training && l.rxReady && decide (5 ≤ laneStateOf s lane) && decide (laneStateOf s lane ≤ 7) then
    setLane lane { l with training := false, framesLeft := 16 } s
  else s

/-- Polarity is decided: the lane enters REVERSAL (R94). -/
def decidePolarity (lane : Nat) (s : State) : State :=
  let m := (usedBy s lane).polarity
  let found := if m ≠ 0 then m else if (getLane s lane).trialInverted then 2 else 1
  let s := setLaneState lane 5 (w1 Reg.lanePolarityFound lane found s)
  judgeTraining lane (singleReversal lane s)

/-- The taps in use, and latched (R100, R101). -/
def setTaps (lane ctle ffe dfe : Nat) (s : State) : State :=
  modLane lane (fun l => { l with ctle := ctle, ffe := ffe, dfe := dfe })
    (w1 Reg.laneRxCtle lane ctle (w1 Reg.laneRxFfeTaps lane ffe (w1 Reg.laneRxDfeTaps lane dfe s)))

/-- The 4,096 windows of R92 have converged since a freeze in this EQUALISE; where none came the row itself says so
(R101; log 64). -/
def converged (s : State) (lane : Nat) : Bool :=
  match (getLane s lane).convRun with
  | none => true
  | some n => decide (4096 ≤ n)

/-- LANE_EQUALISED (R92): POLARITY, which a forced polarity leaves at once (R94). While adaptation is frozen the taps stay
(R101). -/
def execLaneEqualised (lane : Fin 64) (ctle : Fin 16) (ffe : BitVec 96) (dfe : BitVec 32) (s : State) :
    Host.Outcome State Fault Refusal :=
  let k := lane.val
  if laneStateOf s k = 3 ∧ converged s k then
    .next (onLane k (fun s =>
      let s := setLaneState k 4 (if r1 s Reg.laneAdaptFrozen k = 1 then s else setTaps k ctle.val ffe.toNat dfe.toNat s)
      if (usedBy s k).polarity ≠ 0 then decidePolarity k s else s) s)
  else .next s

/-- POLARITY_TRIAL_SWITCH (R94): a 4 ms trial has ended without a mark. -/
def execPolarityTrialSwitch (lane : Fin 64) (s : State) : Host.Outcome State Fault Refusal :=
  if laneStateOf s lane.val = 4 then
    .next (modLane lane.val (fun l => { l with trialInverted := !l.trialInverted }) s)
  else .next s

/-- LANE_POLARITY_DECIDED (R94). -/
def execLanePolarityDecided (lane : Fin 64) (s : State) : Host.Outcome State Fault Refusal :=
  if laneStateOf s lane.val = 4 then .next (onLane lane.val (decidePolarity lane.val) s) else .next s

/-- TRAINING_FRAME_RECEIVE (R95): from a lane whose bring-up has reached POLARITY and not yet UP. -/
def execTrainingFrameReceive (lane : Fin 64) (head : BitVec 48) (s : State) : Host.Outcome State Fault Refusal :=
  let k := lane.val
  let h := head.toNat
  if trainOn s k && trainingCheck h && decide (4 ≤ laneStateOf s k) && decide (laneStateOf s k ≤ 6) then
    .next (judgeTraining k (modLane k (fun l =>
      { l with rxReady := l.rxReady || h.testBit 9, rxIndex := some (bitAt h 8) }) s))
  else .next s

/-- The order of a two-lane port: whether its receive lanes are exchanged; none while it is not known (R96). LaneTrainMode
and the LaneIndex received of the port's LOWER lane decide (DEDUCED: R96 does not say which lane's, log 64). -/
def portOrder (s : State) (low : Nat) (markersExchanged : Bool) : Option Bool :=
  match (usedBy s low).reversal with
  | 1 => some false
  | 2 => some true
  | _ => if trainOn s low then ((getLane s low).rxIndex).map (fun i => decide (i = 1)) else some markersExchanged

/-- In near-end loopback with training on a lane receives its own LaneIndex: the order is found straight; where it is forced
the order applied is reported (R96, R110). An upper lane alone decides nothing. -/
def loopOrder (lane : Nat) (s : State) : State :=
  if !trainOn s lane || (!twoLane s lane && decide (lane % 2 = 1)) then s
  else w1 Reg.laneReversal (lane / 2) (b2n (twoLane s lane && decide ((usedBy s lane).reversal = 2))) s

/-- LANE_ORDER_DECIDED (R96): every lane of the port waits in REVERSAL and the order is known; the lanes enter LOCK. -/
def execLaneOrderDecided (slot : Fin 64) (markersExchanged : Bool) (s : State) : Host.Outcome State Fault Refusal :=
  let ls := lanesOfSlot s slot.val
  if ls.isEmpty || !ls.all (fun k => decide (laneStateOf s k = 5)) then .next s
  else if ls.length = 2 then
    match portOrder s slot.val markersExchanged with
    | none => .next s
    | some x =>
      let s := w1 Reg.laneReversal (slot.val / 2) (b2n x) s
      .next (withLinks (slot.val / 2) (fun s => forL ls (fun k s =>
        setLaneState k 6 (modLane k (fun l => { l with exchanged := x }) s)) s) s)
  else if trainOn s slot.val && (getLane s slot.val).rxIndex.isNone then .next s
  else .next (withLinks (slot.val / 2) (setLaneState slot.val 6) (singleReversal slot.val s))

/-- How far lane i of a port of n lanes leads the lane whose data arrive last: 0 for that lane and on a single-lane port
(R89). -/
def laneLead (n : Nat) (arrivals : List (BitVec 64)) (i : Nat) : Nat :=
  let a (j : Nat) : Int := (arrivals.getD j 0).toInt
  if n = 2 then (max (a 0) (a 1) - a i).toNat else 0

/-- LANE_LOCKED (R92, R89): every lane of the port is in LOCK and the skew is at most 200 ns. -/
def execLaneLocked (slot : Fin 64) (rxDelay txDelay arrivals : List (BitVec 64)) (s : State) :
    Host.Outcome State Fault Refusal :=
  let ls := lanesOfSlot s slot.val
  let lead := laneLead ls.length arrivals
  if ls.isEmpty || !ls.all (fun k => decide (laneStateOf s k = 6)) ||
      decide (200 * 65536 < max (lead 0) (lead 1)) then .next s
  else
    .next (withLinks (slot.val / 2) (fun s =>
      (ls.foldl (fun (p : Nat × State) k =>
        let s := setLaneState k 7 p.2
        let s := modLane k (fun l => { l with rxTracked := (rxDelay.getD p.1 0).toInt, txTracked := (txDelay.getD p.1 0).toInt }) s
        (p.1 + 1, publishPma k (w1 Reg.laneSkew k (lead p.1) (judgeTraining k s)))) (0, s)).2) s)

/-! Limits, losses and departures (R93, R98). -/

/-- The instant at which a lane's state reaches its limit, none for a state without one; REVERSAL counts from the entry of
the port's last lane (R92). -/
def laneDeadline (s : State) (lane : Nat) : Option Nat :=
  let ms := 10 ^ 9
  let at_ := (getLane s lane).enteredAt
  match laneStateOf s lane with
  | 2 => some (at_ + 10 * ms)
  | 3 => some (at_ + 150 * ms)
  | 4 => some (at_ + 40 * ms)
  | 5 =>
    let ls := portLanes s lane
    if ls.all (fun k => decide (laneStateOf s k = 5)) then
      some (ls.foldl (fun a k => max a (getLane s k).enteredAt) 0 + 10 * ms)
    else none
  | 6 => some (at_ + 10 * ms)
  | _ => none

/-- LANE_STATE_TIMEOUT (R93): the clock runs to the limit; the failure is counted and the port's lanes go to BACKOFF. -/
def execLaneStateTimeout (lane : Fin 64) (s : State) : Host.Outcome State Fault Refusal :=
  let k := lane.val
  match laneDeadline s k with
  | none => .next s
  | some t =>
    let s := advanceTo t s
    let st := laneStateOf s k
    let ls := portLanes s k
    let who := if st = 5 ∨ st = 6 then ls.filter (fun j => decide (laneStateOf s j = st)) else [k]
    let s := forL who (fun j s => w1 Reg.laneLastFail j st (inc Reg.laneBringUpFails j s)) s
    .next (onLane k (fun s => forL ls (fun j s => if laneStateOf s j = 0 then s else setLaneState j 9 s) s) s)

/-- LANE_BACKOFF_END (R92): 16 ticks have passed. -/
def execLaneBackoffEnd (lane : Fin 64) (s : State) : Host.Outcome State Fault Refusal :=
  let k := lane.val
  if laneStateOf s k = 9 then
    .next (onLane k (setLaneState k 1) (advanceTo ((getLane s k).enteredAt + 16 * 125000000) s))
  else .next s

/-- LANE_LINK_DOWN (R98): a departure from UP is counted; hi-BER is declared on a lane without FEC alone. -/
def execLaneLinkDown (lane : Fin 64) (cause : DownCause) (s : State) : Host.Outcome State Fault Refusal :=
  let k := lane.val
  if laneStateOf s k = 7 ∧ !(decide (cause = .hiBer) && hasFec s k) then
    .next (onLane k (fun s => othersWait k (setLaneState k 1 s)) (inc Reg.laneLinkDowns k s))
  else .next s

/-- LANE_LOSS_BEFORE_UP (R98): the lane returns to SIGNAL, uncounted. -/
def execLaneLossBeforeUp (lane : Fin 64) (cause : EarlyLoss) (s : State) : Host.Outcome State Fault Refusal :=
  let k := lane.val
  let st := laneStateOf s k
  let first := match cause with | .signal => 2 | .cdr => 3
  if first ≤ st ∧ st ≤ 6 then .next (onLane k (fun s => othersWait k (setLaneState k 1 s)) s) else .next s

/-- The effect of a write to LaneEnable (R92). -/
def effLaneEnable (lane v : Nat) (s : State) : State :=
  onLane lane (fun s =>
    let s := w1 Reg.laneEnable lane v s
    if v = 0 then stopLane lane s else if laneStateOf s lane = 0 then startLane lane s else s) s

/-- LANE_ENABLE_WRITE (R92). -/
def execLaneEnableWrite (lane : Fin 64) (w : WriteReq) (s : State) : Host.Outcome State Fault Refusal :=
  .next (catWrite w Reg.laneEnable lane.val 0 effLaneEnable s)

/-! Adaptation (R100, R101). -/

/-- A statistic is below its threshold; 0 disables the check (R101). -/
def windowFails (s : State) (transitions rarest : Nat) : Bool :=
  let t := r0 s Reg.laneFreezeTransitionMin
  let l := r0 s Reg.laneFreezeLevelMin
  (decide (t ≠ 0) && decide (transitions < t)) || (decide (l ≠ 0) && decide (rarest < l))

/-- The run of converged windows after one more window, where a freeze has started it again (R101, R92). -/
def convAfter (st : Nat) (converged : Bool) (run : Option Nat) : Option Nat :=
  if st = 3 then run.map (fun n => if converged then n + 1 else 0) else run

/-- ADAPT_WINDOW_EVAL (R101) on a lane that adapts, in EQUALISE or UP (R100). A freeze in EQUALISE starts the run of
converged windows again at 0. -/
def execAdaptWindowEval (lane : Fin 64) (transitions : Fin 1025) (rarest : LevelStats) (ctle : Fin 16) (ffe : BitVec 96)
    (dfe : BitVec 32) (s : State) : Host.Outcome State Fault Refusal :=
  let k := lane.val
  let l := { getLane s k with convRun := convAfter (laneStateOf s k) rarest.converged (getLane s k).convRun }
  let s := if laneStateOf s k = 3 then setLane k l s else s
  if laneStateOf s k ≠ 3 ∧ laneStateOf s k ≠ 7 then .next s
  else if windowFails s transitions.val rarest.count.val then
    if r1 s Reg.laneAdaptFrozen k = 1 then .next (setLane k { l with passRun := 0 } s)
    else
      let s := setLane k { l with passRun := 0, convRun := if laneStateOf s k = 3 then some 0 else l.convRun } s
      .next (inc Reg.laneFreezeCount k (w1 Reg.laneAdaptFrozen k 1 (setTaps k l.ctle l.ffe l.dfe s)))
  else if r1 s Reg.laneAdaptFrozen k = 1 then
    if l.passRun + 1 < 16 then .next (setLane k { l with passRun := l.passRun + 1 } s)
    else .next (w1 Reg.laneAdaptFrozen k 0 (setLane k { l with passRun := 0 } s))
  else .next (setTaps k ctle.val ffe.toNat dfe.toNat s)

/-! The reserve sampler (R102, R103). -/

/-- A lane in UP or TEST can hand over (R102). -/
def canHandOver (s : State) (lane : Nat) : Bool := decide (laneStateOf s lane = 7) || decide (laneStateOf s lane = 8)

/-- Start a handover: phase A, or phase D on a lane held on its reserve (log 33). -/
def startHandover (lane : Nat) (cal : Bool) (s : State) : State :=
  modLane lane (fun l => { l with restarts := 0, secondD := false, calRun := cal, calDone := false })
    (w1 Reg.reserveState lane (if r1 s Reg.reserveState lane = 6 then 4 else 1) s)

/-- A handover can begin now: none runs. -/
def handoverFree (s : State) (lane : Nat) : Bool :=
  canHandOver s lane && (decide (r1 s Reg.reserveState lane = 0) || decide (r1 s Reg.reserveState lane = 6))

/-- Lane runs in progress (R356). -/
def laneRuns (s : State) : Nat :=
  (s.cal.insts.filter (fun e => decide (e.1 / 256 = 1) && e.2.running.isSome)).length

/-- A lane run can start: its lane hands over, and fewer than CalMaxLaneRuns proceed (R356). -/
def laneRunFree (s : State) (lane : Nat) : Bool :=
  handoverFree s lane && (getCal s 1 lane).running.isNone && decide (laneRuns s < r0 s Reg.calMaxLaneRuns)

/-- A lane run starts: one handover (R350). -/
def startLaneRun (lane : Nat) (s : State) : State :=
  calBegin 1 lane none (startHandover lane true s)

/-- The effect of ReserveRequest: the lane becomes pending (R355), and its handover starts at a boundary (R356). -/
def effReserveRequest (st v : Nat) (s : State) : State := effBool (calRequestInst 1) st v s

/-- RESERVE_REQUEST (R103, R355). -/
def execReserveRequest (lane : Fin 64) (w : WriteReq) (s : State) : Host.Outcome State Fault Refusal :=
  .next (catWrite w Reg.reserveRequest lane.val 0 effReserveRequest s)

/-- A handover that a run drives has failed: the run fails (R103, R362). -/
def handoverFailed (lane : Nat) (s : State) : State :=
  let cal := (getLane s lane).calRun
  let s := modLane lane (fun l => { l with restarts := 0, secondD := false, calRun := false, calDone := false })
    (inc Reg.reserveAborts lane s)
  if cal then calFail 1 lane s else s

/-- The end of a phase (R102, R103). A disagreement restarts phase B or E; the fourth one of a phase ends it at once: its
fourth restart is not run (DEDUCED: R103 says "after the fourth restart", log 64). -/
def phaseEnd (lane : Nat) (agree : Bool) (s : State) : State :=
  let l := getLane s lane
  let phase (st : Nat) (l : LaneSt) : State := setLane lane l (w1 Reg.reserveState lane st s)
  match r1 s Reg.reserveState lane with
  | 1 => phase 2 { l with restarts := 0 }
  | 2 =>
    if agree then phase 3 l
    else if l.restarts + 1 < 4 then phase 2 { l with restarts := l.restarts + 1 }
    else handoverFailed lane (w1 Reg.reserveState lane 0 s)
  | 3 => phase 4 l
  | 4 => phase 5 { l with restarts := 0 }
  | 5 =>
    if agree then
      inc Reg.reserveHandovers lane (phase 0 { l with restarts := 0, secondD := false, calDone := l.calRun })
    else if l.restarts + 1 < 4 then phase 5 { l with restarts := l.restarts + 1 }
    else if l.secondD then handoverFailed lane (w1 Reg.reserveState lane 6 s)
    else phase 4 { l with restarts := 0, secondD := true }
  | _ => s

/-- RESERVE_PHASE_END (R102). -/
def execReservePhaseEnd (lane : Fin 64) (agree : Bool) (s : State) : Host.Outcome State Fault Refusal :=
  .next (phaseEnd lane.val agree s)

/-- The first eye scan after a run gives the run's quality figure (R364). -/
def runQuality (lane : Nat) (s : State) : State :=
  let l := getLane s lane
  if l.scanFor.isEmpty then s
  else
    let q := r1 s Reg.laneEyeWidth lane
    let c := getCal s 1 lane
    let sets := c.sets.map (fun x => if l.scanFor.contains x.tick then { x with quality := q } else x)
    publishSets 1 lane (w1 (calIdx 1 0x0A) lane q (setCal 1 lane { c with sets := sets } (setLane lane { l with scanFor := [] } s)))

/-- EYE_SCAN (R104) of a lane in UP or TEST whose reserve is free. -/
def execEyeScan (lane : Fin 64) (fig : EyeFigures) (s : State) : Host.Outcome State Fault Refusal :=
  let k := lane.val
  if canHandOver s k ∧ r1 s Reg.reserveState k = 0 then
    let p := isPam4 s k
    let steps := if p then min fig.middleSteps.toNat (min fig.upperSteps.toNat fig.lowerSteps.toNat) else fig.middleSteps.toNat
    let s := w1 Reg.laneEyeWidth k (min (steps * 1000 / 128) 65535) s
    let s := w1 Reg.laneEyeHeightUpper k (if p then fig.upper.toNat else 0) s
    let s := w1 Reg.laneEyeHeightLower k (if p then fig.lower.toNat else 0) s
    .next (runQuality k (w1 Reg.laneEyeAge k 0 (w1 Reg.laneEyeHeightMiddle k fig.middle.toNat s)))
  else .next s

/-! Test facilities (R106-R110). -/

/-- Judge R110 for a lane's port: every lane that runs goes to TEST, or is released to SIGNAL. -/
def judgeTest (lane : Nat) (s : State) : State :=
  forL (portLanes s lane) (fun k s =>
    if portTest s lane then (if laneStateOf s k = 0 ∨ laneStateOf s k = 8 then s else setLaneState k 8 s)
    else if laneStateOf s k = 8 then setLaneState k 1 s else s) s

/-- A generator begins its pattern, or a loop its data: where in it is a free value (R106; log 60). -/
def startPattern (lane : Nat) (s : State) : State :=
  let d := draw s
  modLane lane (fun l => { l with genAt := d.1 }) d.2

/-- What the lane's own injections have left uncounted is void. -/
def dropLoopErrors (lane : Nat) (s : State) : State :=
  modLane lane (fun l => { l with loopBits := 0, loopSymbols := 0, loopLevels := [] }) s

/-- Set one of the three objects of R110. -/
def setTestObject (idx lane v : Nat) (s : State) : State :=
  onLane lane (fun s =>
    let s := w1 idx lane v s
    let s := if idx = Reg.patChkSelect then dropChecker lane s else s
    let s := if idx = Reg.patGenSelect && decide (v ≠ 0) then startPattern lane s else s
    let near := decide (idx = Reg.loopbackMode) && decide (v = 1)
    let s := if near && decide (r1 s Reg.patGenSelect lane = 0) then startPattern lane s else s
    let s := if near then loopOrder lane s else s
    judgeTest lane (dropLoopErrors lane s)) s

/-- TEST_SELECT_WRITE (R110). -/
def execTestSelectWrite (object : Fin 3) (lane : Fin 64) (w : WriteReq) (s : State) : Host.Outcome State Fault Refusal :=
  let idx := if object.val = 0 then Reg.patGenSelect else if object.val = 1 then Reg.patChkSelect else Reg.loopbackMode
  .next (catWrite w idx lane.val 0 (setTestObject idx) s)

/-- The levels that a lane's checker judges: in near-end loopback those of its own transmitter, which are its generator's, or
without one those of its PCS, a free value (log 6); else those of the receive side (R107, R109). -/
def laneHears (s : State) (lane : Nat) (levels : List (Fin 4)) : List Nat :=
  let g := r1 s Reg.patGenSelect lane
  let from1 := Config.freeValue (getLane s lane).genAt
  let n := max 1055 Config.ssprqPeriod
  if nearLoop s lane then
    if g ≠ 0 then patternLevels (isPam4 s lane) g (r1 s Reg.patUser lane) (r1 s Reg.patSquareHalf lane) from1 n
    else (List.range n).map (fun i => from1 / 4 ^ i % (if isPam4 s lane then 4 else 2))
  else levels.map (·.val)

/-- The sense in which the lane's checker locks to these levels, none where its criterion is not met (R107). -/
def checkerFinds (s : State) (lane : Nat) (levels : List (Fin 4)) : Option Bool :=
  checkerSense (isPam4 s lane) (r1 s Reg.patChkSelect lane) (r1 s Reg.patUser lane) (usedBy s lane).polarity
    (laneHears s lane levels)

/-- CHECKER_LOCK (R107). -/
def execCheckerLock (lane : Fin 64) (levels : List (Fin 4)) (s : State) : Host.Outcome State Fault Refusal :=
  let k := lane.val
  if r1 s Reg.chkState k = 1 ∧ laneStateOf s k = 8 then
    match checkerFinds s k levels with
    | some inverted =>
      .next (w1 Reg.chkState k (if inverted then 3 else 2) (dropLoopErrors k (modLane k (fun l => { l with chkHeard := true }) s)))
    | none => .next s
  else .next s

/-- CHECKER_LOCK_LOSS (R107): more than 256 errors in the window. -/
def execCheckerLockLoss (lane : Fin 64) (errors : Fin 1025) (s : State) : Host.Outcome State Fault Refusal :=
  let k := lane.val
  if (r1 s Reg.chkState k = 2 ∨ r1 s Reg.chkState k = 3) ∧ 256 < errors.val then
    .next (inc Reg.chkLockLosses k (w1 Reg.chkState k 1 s))
  else .next s

/-- The checker counters of a lane (R107). -/
def clearChecker (lane : Nat) (s : State) : State :=
  dropSub Reg.chkLockLosses Reg.chkLockLosses lane (dropSub Reg.chkBits (Reg.chkBits + 7) lane (dropLoopErrors lane s))

/-- CHK_CLEAR (R107). -/
def execChkClear (lane : Fin 64) (w : WriteReq) (s : State) : Host.Outcome State Fault Refusal :=
  .next (catWrite w Reg.chkClear lane.val 0 (effClear clearChecker) s)

/-- The transmitter of a lane injects: it is not squelched, and PAM4 symbol errors need a PAM4 lane (R108). -/
def injects (s : State) (lane : Nat) : Bool :=
  let m := r1 s Reg.injectMode lane
  decide (laneStateOf s lane ≠ 0) && (decide (m = 1) || decide (m = 2) || (decide (m = 3) && isPam4 s lane))

/-- The bits and the symbols that one injection strikes (R108): an inverted bit, a burst over as many symbols as its place
in them gives (a free value), or one symbol moved by one level, which changes one bit of its pair. -/
def injectionSize (s : State) (lane place : Nat) : Nat × Nat :=
  if r1 s Reg.injectMode lane = 2 then
    let n := r1 s Reg.injectBurstLength lane
    (n, if isPam4 s lane then (n + place % 2 + 1) / 2 else n)
  else (1, 1)

/-- The lane's own checker will find what an injection struck: the level that each symbol should have had is a free value
(R107, R108). -/
def loopInjection (lane : Nat) (s : State) : State :=
  if hearsItself s lane && (decide (r1 s Reg.chkState lane = 2) || decide (r1 s Reg.chkState lane = 3)) then
    let d := draw s
    let z := injectionSize s lane (Config.freeValue d.1)
    let s := modLane lane (fun l => { l with loopBits := l.loopBits + z.1, loopSymbols := l.loopSymbols + z.2 }) d.2
    forN z.2 (fun _ s =>
      let d := draw s
      modLane lane (fun l => { l with loopLevels := modAt (l.loopLevels ++ List.replicate (4 - l.loopLevels.length) 0)
                                                      (Config.freeValue d.1 % 4) (· + 1) }) d.2) s
  else s

/-- The most FEC symbols of ten bits that one injection can strike; a symbol error on a precoded lane decodes as two
consecutive ones (R108). -/
def injectionReach (s : State) (lane : Nat) : Nat :=
  match r1 s Reg.injectMode lane with
  | 2 => ceilDiv (r1 s Reg.injectBurstLength lane + 9) 10
  | 3 => 1 + (usedBy s lane).txPrecode
  | _ => 1

/-- On a lane in UP an injection strikes the frame in transmission (R108). -/
def strikeFrame (lane : Nat) (s : State) : State :=
  match (if laneStateOf s lane = 7 then slotOfLane s lane else none) with
  | some slot => modPort slot (fun p => { p with tx := p.tx.map (fun t => { t with struck := t.struck + injectionReach s lane }) }) s
  | none => s

/-- The symbols that the far decoder corrects in a codeword: RS(544,514), RS(528,514), none without FEC (R85). -/
def fecCapacity (s : State) (lane : Nat) : Nat := if isPam4 s lane then 15 else if hasFec s lane then 7 else 0

/-- A frame that injected errors struck arrives with a bad FCS: on a lane without FEC; on one with FEC where more symbols
are struck than a codeword's decoder corrects, whether they share a codeword being a free value (R108; log 60). -/
def arrivesBad (slot struck : Nat) (s : State) : Bool × State :=
  if struck ≤ fecCapacity s slot then (false, s)
  else if !hasFec s slot then (true, s)
  else
    let d := draw s
    (decide (Config.freeValue d.1 % 2 = 1), d.2)

/-- One injection (R108): it is counted, and strikes what the transmitter sends. -/
def injectOne (lane : Nat) (s : State) : State :=
  strikeFrame lane (loopInjection lane (inc Reg.injectCount lane s))

/-- The effect of InjectFire: one injection while the interval is 0 (R108). -/
def effInjectFire (st v : Nat) (s : State) : State :=
  effBool (fun k s => if injects s k && decide (r1 s Reg.injectInterval k = 0) then injectOne k s else s) st v s

/-- INJECT_FIRE (R108). -/
def execInjectFire (lane : Fin 64) (w : WriteReq) (s : State) : Host.Outcome State Fault Refusal :=
  .next (catWrite w Reg.injectFire lane.val 0 effInjectFire s)

/-- INJECT_INTERVAL_EXPIRE (R108). -/
def execInjectIntervalExpire (lane : Fin 64) (s : State) : Host.Outcome State Fault Refusal :=
  let k := lane.val
  if injects s k && decide (r1 s Reg.injectInterval k ≠ 0) then .next (injectOne k s) else .next s

/-! What a lane sends and how it reads what it receives (R86, R87, R91, R95, R106, R109). -/

/-- What a lane's transmitter sends. -/
inductive LaneSource where
  | squelched
  | pcs
  /-- PCS idle: under PCS loopback (R109). -/
  | idle
  | training
  | pattern (code : Nat)
  /-- The recovered receive data: far-end loopback (R109). -/
  | retransmit
deriving DecidableEq, Repr

/-- The source of a lane's data. -/
def laneSource (s : State) (lane : Nat) : LaneSource :=
  let l := getLane s lane
  if laneStateOf s lane = 0 then .squelched
  else if laneStateOf s lane = 8 then
    if r1 s Reg.loopbackMode lane = 2 then .retransmit
    else if r1 s Reg.patGenSelect lane ≠ 0 then .pattern (r1 s Reg.patGenSelect lane)
    else if (portLanes s lane).head?.any (fun k => decide (r1 s Reg.loopbackMode k = 3)) then .idle
    else .pcs
  else if l.training || decide (l.framesLeft ≠ 0) then .training
  else .pcs

/-- The lane whose transmit data a lane's pins carry: PortGroupTxSwap exchanges those of a group's two lanes (R91). -/
def txLane (s : State) (pins : Nat) : Nat :=
  if (usedBy s pins).swap = 1 then 4 * (pins / 2) + 1 - pins else pins

/-- The training frame that a lane sends (R95): Ready once the lane's receiver has decided polarity. Frame and LaneIndex go
with the transmit data that PortGroupTxSwap moves to the other lane's pins (DEDUCED, log 60). -/
def trainingSent (s : State) (lane : Nat) : List Bool :=
  trainingFrame (b2n (decide (r1 s Reg.lanePolarityFound lane ≠ 0))) (lane % 2)

/-- The levels a lane sends for the first symbols since its bring-up, its training or its pattern began: `pcs` gives the
bits that its PCS supplies, `heard` the levels its receiver decides, which far-end loopback sends again as they are (R109).
Test patterns and training frames are not precoded (R87, R106). -/
def laneLevels (s : State) (lane n : Nat) (pcs : List Bool) (heard : List Nat) : List Nat :=
  let p := isPam4 s lane
  match laneSource s lane with
  | .squelched => []
  | .retransmit => heard
  | .training => trainingLevels p (trainingSent s lane)
  | .pattern code =>
    patternLevels p code (r1 s Reg.patUser lane) (r1 s Reg.patSquareHalf lane) (Config.freeValue (getLane s lane).genAt) n
  | _ => let x := levelsOf p pcs; if p && decide ((usedBy s lane).txPrecode = 1) then precode x else x

/-- The levels at a lane's transmit pins for the data and the received levels of the lane that they carry: the exchange of PortGroupTxSwap, then the polarity of LaneTxInvert (R91). -/
def pinLevels (s : State) (pins n : Nat) (pcs : List Bool) (heard : List Nat) : List Nat :=
  let l := laneLevels s (txLane s pins) n pcs heard
  if (usedBy s pins).invert = 1 then l.map (invertLevel (isPam4 s pins)) else l

/-- The bits a lane reads from the levels its slicer decides: polarity first, then precoding, then the Gray code
(R87, R94, R97). -/
def laneReads (s : State) (lane : Nat) (levels : List Nat) : List Bool :=
  let p := isPam4 s lane
  let l := if r1 s Reg.lanePolarityFound lane = 2 then levels.map (invertLevel p) else levels
  bitsOf p (if p && decide ((usedBy s lane).rxPrecode = 1) then unprecode l else l)

/-! The tick (R104, R105, R107). -/

/-- Add to a 48-bit counter that stops at its end (R107). -/
def chkCount (idx lane n : Nat) (s : State) : State := w1 idx lane (satAdd 48 (r1 s idx lane) n) s

/-- LanePreFecBer of a lane with FEC: bits corrected over bits received in the last 8,000 ticks, × 10^12 (R105). -/
def fecRatio (l : List (Nat × Nat × Nat)) : Option Nat :=
  let c := l.foldl (fun a e => a + e.2.1) 0
  let n := l.foldl (fun a e => a + e.2.2) 0
  if n = 0 then none else some (roundTo (((c * 10 ^ 12 : Nat) : Rat) / ((n : Nat) : Rat))).toNat

/-- The bit error ratio of a lane after one more tick (R105). -/
def laneBer (x : LaneTick) (s : State) : State :=
  let k := x.lane.val
  let seq := r0 s Reg.tickSequence
  let show32 (v : Nat) (s : State) : State := w1 Reg.lanePreFecBer k (min v (2 ^ 32 - 1)) s
  if hasFec s k then
    let win := ((getLane s k).berWin.filter (fun e => decide (seq < e.1 + 8000))) ++ [(seq, x.fecBitsCorrected, x.fecBitsReceived)]
    let s := w1 Reg.laneBerSource k 1 (modLane k (fun l => { l with berWin := win }) s)
    match fecRatio win with
    | some v => show32 v s
    | none => s
  else show32 x.ber (w1 Reg.laneBerSource k 2 s)

/-- The decoder's counts of a tick, at the port's lower lane (R105). -/
def laneFec (x : LaneTick) (s : State) : State :=
  match (portLanes s x.lane.val).head? with
  | some low =>
    perfEvent 6 1 low x.fecCodewords (perfEvent 6 2 low x.fecUncorrectable
      (count Reg.fecCorrectedCodewords low 0 x.fecCodewords (count Reg.fecUncorrectable low 0 x.fecUncorrectable
        (count Reg.fecCorrectedSymbols low 0 x.fecSymbols s))))
  | none => s

/-- Errors of a lane's checker in a tick: bits, symbols and symbols by expected level. A lane that hears its own generator
makes no errors but its injections' (R107, R109). -/
def checkerErrors (x : LaneTick) (s : State) : Nat × Nat × List Nat :=
  if hearsItself s x.lane.val then
    let l := getLane s x.lane.val
    (l.loopBits, l.loopSymbols, l.loopLevels)
  else (x.chkBitErrors, x.chkSymbolErrors, x.chkLevelErrors)

/-- The checker has been locked in the tick that has ended (R107). -/
def checkerHeard (s : State) (lane : Nat) : Bool :=
  (getLane s lane).chkHeard || decide (r1 s Reg.chkState lane = 2) || decide (r1 s Reg.chkState lane = 3)

/-- The checker's counts of a tick (R107), also of one in which its lock was lost. -/
def laneChecker (x : LaneTick) (s : State) : State :=
  let k := x.lane.val
  if checkerHeard s k then
    let e := checkerErrors x s
    let s := chkCount Reg.chkBits k x.chkBits (chkCount Reg.chkBitErrors k e.1 s)
    let s := chkCount Reg.chkSymbols k x.chkSymbols (chkCount Reg.chkSymbolErrors k e.2.1 s)
    let s := dropLoopErrors k s
    if isPam4 s k then forN 4 (fun i s => chkCount (Reg.chkLevelErrors + i) k (e.2.2.getD i 0) s) s else s
  else s

/-- A lane's counts over the tick that has ended. -/
def laneTick (x : LaneTick) (s : State) : State :=
  let k := x.lane.val
  if !running s (bankDomain k) then s
  else laneChecker x (if laneStateOf s k = 7 then laneBer x (if hasFec s k then laneFec x s else s) else s)

/-- What the lanes do at a tick boundary: counts, the age of the eye figures, the end of the last training frames. -/
def laneTicks (l : List LaneTick) (s : State) : State :=
  let s := forL l laneTick s
  forN 64 (fun k s =>
    if !running s (bankDomain k) then s
    else
      let locked := decide (r1 s Reg.chkState k = 2) || decide (r1 s Reg.chkState k = 3)
      let s := if (getLane s k).framesLeft = 0 ∧ (getLane s k).chkHeard = locked then s
               else modLane k (fun x => { x with framesLeft := 0, chkHeard := locked }) s
      w1 Reg.laneEyeAge k (satAdd 16 (r1 s Reg.laneEyeAge k) 1) s) s

end Sys2Proof.Machine
end

