-- ==== Sys2Proof/Machine/CalRuns.lean ====
section
/-! DEFINITION. Calibration runs (chapter 15) and what the converters do in them: stand-ins, code-density runs and
self-tests (chapter 9, R215-R219, R236). -/

namespace Sys2Proof.Machine

def tickSeqOf (s : State) : Nat := r0 s Reg.tickSequence

/-! Code density (R215, R216). -/

/-- h_(k,i). -/
def histAt (h : List Nat) (k i : Nat) : Nat := h.getD (256 * k + i) 0

/-- H_k, the edges captured by phase k. -/
def phaseEdges (h : List Nat) (k : Nat) : Nat := (slotList h k).foldl (fun a x => a + x) 0
where
  /-- The 256 counts of phase k. -/
  slotList (h : List Nat) (k : Nat) : List Nat := (h.drop (256 * k)).take 256

/-- One more than the highest tap count at which phase k has captured an edge; 0 for none. -/
def phaseTop (h : List Nat) (k : Nat) : Nat :=
  (List.range 256).foldl (fun a i => if 0 < histAt h k i then i + 1 else a) 0

/-- n_i: phases that reach tap i. -/
def phasesReaching (h : List Nat) (i : Nat) : Nat := ((List.range 4).filter (fun k => decide (i < phaseTop h k))).length

def tapEdges (h : List Nat) (i : Nat) : Nat := histAt h 0 i + histAt h 1 i + histAt h 2 i + histAt h 3 i

/-- w_i in units of 2^-24 ns, 2.4 ps for a tap that no phase reaches: N = 2^22 edges over 2,000 ps (R215). -/
def tapWidthOf (h : List Nat) (i : Nat) : Int :=
  let n := phasesReaching h i
  if n = 0 then 40265 else nearest (Rat.ofInt (8 * (tapEdges h i : Int)) / Rat.ofInt n)

/-- ε_k in units of 2^-24 ns. -/
def phaseOffsetOf (h : List Nat) (k : Nat) : Int :=
  if k = 0 then 0
  else 8 * ((List.range k).foldl (fun a j => a + (phaseEdges h (j + 1) : Int)) 0) - (k : Int) * 2 ^ 23

/-- The 256 widths and four offsets of a run. -/
def codeDensityValues (h : List Nat) : List Int :=
  (List.range 256).map (tapWidthOf h) ++ (List.range 4).map (phaseOffsetOf h)

/-- w_i as the check set of 2^20 edges implies it, units of 2^-24 ns; the phases that reach a tap are the run's. -/
def checkWidth (r : CodeDensity) (i : Nat) : Rat :=
  Rat.ofInt (32 * (tapEdges r.check i : Int)) / Rat.ofInt (phasesReaching r.hist i)

/-- Twice the differences between the positions of the reached taps that the check set implies and those of R213, from the
first tap on: `d` is the difference summed over the widths below (R215). -/
def positionErrors (r : CodeDensity) : List Nat → Rat → List Rat
  | [], _ => []
  | i :: t, d =>
    if phasesReaching r.hist i = 0 then positionErrors r t d
    else
      let e := checkWidth r i - Rat.ofInt (tapWidthOf r.hist i)
      (2 * d + e) :: positionErrors r t (d + e)

/-- The mean square, over the reached taps, of the position differences, fs² (R215). -/
def residualSquare (r : CodeDensity) : Rat :=
  let l := positionErrors r (List.range 256) 0
  l.foldl (fun a x => a + x * x) 0 / (4 * Rat.ofInt (max l.length 1)) * (Rat.ofInt (10 ^ 12) / Rat.ofInt (2 ^ 48))

/-- The largest number below 2^n whose square is at most x, from r on. -/
def rootBelow : Nat → Nat → Rat → Nat
  | 0, r, _ => r
  | n + 1, r, x => if Rat.ofInt (((r + 2 ^ n) * (r + 2 ^ n) : Nat) : Int) ≤ x then rootBelow n (r + 2 ^ n) x else rootBelow n r x

/-- The root of a mean square as a U32, rounded as `roundTo` rounds (log 6). -/
def rootRounded (x : Rat) : Nat :=
  let n := rootBelow 32 0 x
  if Rat.ofInt ((n * n : Nat) : Int) = x then n else min (n + b2n (Config.roundUp x)) (2 ^ 32 - 1)

/-- TdcResidualInl in fs. -/
def residualInl (r : CodeDensity) : Nat := rootRounded (residualSquare r)

/-- The four tests of R216, exact: 0.5 ps is 500 fs. -/
def codeDensityFails (r : CodeDensity) : Bool :=
  let h := r.hist
  (List.range 256).any (fun i =>
    let n := phasesReaching h i
    decide (n ≠ 0) && (decide (8 * tapEdges h i * 1000 < 2 * 2 ^ 24 * n) || decide (32 * 2 ^ 24 * n < 8 * tapEdges h i * 10000))) ||
  (List.range 4).any (fun k => decide (8 * phaseEdges h k * 1000 < 440 * 2 ^ 24) || decide (560 * 2 ^ 24 < 8 * phaseEdges h k * 1000)) ||
  (List.range 4).any (fun k => decide (0 < histAt h k 255)) ||
  decide (Rat.ofInt (500 * 500) < residualSquare r)

/-! Stand-ins (R217-R219). -/

/-- The channel is a reserve. -/
def isReserve (ch : Nat) : Bool := decide (0x48 ≤ ch)

/-- The channel's input gives edges (R218): one was stamped within two nominal periods, or in this tick or the last.
DESIGN CHOICE (log 67). -/
def hasEdges (s : State) (ch : Nat) : Bool := !isReserve ch && recentEdge s ch 2

/-- The state of a channel in service, or of a free reserve (R237). -/
def serviceState (s : State) (ch : Nat) : Nat := if isReserve ch then 6 else b2n (hasEdges s ch)

/-- The reserve has been calibrated within RecalDelta of its temperature (R217). -/
def reserveFit (s : State) (r : Nat) : Bool :=
  setNear s 2 r && decide (calDrift s 2 r ≤ r0 s Reg.recalDelta)

/-- The reserve leaves the channel. -/
def standInRelease (x : StandIn) (s : State) : State := freeReserve x.reserve s

/-- The stand-in of a channel ends in a channel state. -/
def standInEnd (ch st : Nat) (x : StandIn) (s : State) : State :=
  w1 Reg.tdcStandIn ch 0xFF (w1 Reg.tdcChannelState ch st (delSI ch (standInRelease x s)))

/-- The tables in use now, kept for a failed run (R216). -/
def newStandIn (s : State) (ch step : Nat) (r : Option Nat) (selfTest : Bool) : StandIn :=
  { step := step, since := tickSeqOf s, reserve := r, d := 0
    oldTaps := (List.range 256).map (fun t => (t, rd s Reg.tdcTapTable ch t))
    oldEps := r1 s Reg.tdcPhaseOffsets ch, oldSource := r1 s Reg.tdcCalSource ch, measured := [], residual := 0
    selfTest := selfTest
    back := if r1 s Reg.tdcChannelState ch = 5 then 5 else serviceState s ch
    diffs := [] }

/-- Step 1 begins: the reserve stands in for the channel, and the channel's run begins (R217, R219, R356). -/
def beginStepOne (ch r : Nat) (x : StandIn) (s : State) : State :=
  let s := if x.selfTest then s else calBegin 2 ch none s
  let s := w1 Reg.tdcStandIn ch r (w1 Reg.tdcStandIn r ch s)
  w1 Reg.tdcChannelState ch 2 (w1 Reg.tdcChannelState r 7
    (putSI ch { x with step := 1, since := tickSeqOf s, reserve := some r } s))

/-- Take a reserve for a channel: step 1, or step 0 while the reserve calibrates alone and serves no channel. -/
def takeReserve (ch r : Nat) (x : StandIn) (s : State) : State :=
  if reserveFit s r then beginStepOne ch r x s
  else
    let s := putSI ch { x with step := 0, since := tickSeqOf s, reserve := some r } s
    let s := putSI r { newStandIn s r 2 none false with back := 7 } (w1 Reg.tdcChannelState r 8 s)
    calBegin 2 r none s

/-- A code-density run or a self-test begins on a channel that no reserve serves: state 8 on a reserve. -/
def runInPlace (ch : Nat) (selfTest : Bool) (s : State) : State :=
  let s := if selfTest then s else calBegin 2 ch none s
  let s := putSI ch (newStandIn s ch 2 none selfTest) s
  let s := if selfTest then { s with tdc := { s.tdc with selfTest := some (ch, tickSeqOf s) } } else s
  w1 Reg.tdcChannelState ch (if selfTest then 9 else if isReserve ch then 8 else 3) s

/-- Hand a channel over for a run or a self-test: by a reserve where it has edges, in place where it has none. -/
def beginStandIn (ch : Nat) (selfTest : Bool) (s : State) : State :=
  if hasEdges s ch then
    match freeReserveOf s with
    | some r => takeReserve ch r (newStandIn s ch 1 none selfTest) s
    | none => putSI ch (newStandIn s ch 0 none selfTest) s
  else runInPlace ch selfTest s

/-- Put the tables of before the run back (R216). -/
def restoreTables (ch : Nat) (x : StandIn) (s : State) : State :=
  let s := forL x.oldTaps (fun e s => wr Reg.tdcTapTable ch e.1 e.2 s) s
  w1 Reg.tdcPhaseOffsets ch x.oldEps (w1 Reg.tdcCalSource ch x.oldSource s)

/-- A self-test that cannot run is given up: State idle (log 34). -/
def selfTestGivenUp (ch : Nat) (s : State) : State :=
  let s := w1 Reg.tdcSelfTestResult 0 (ch * 256) s
  { s with tdc := { s.tdc with selfTest := none } }

/-- The stand-in of a run fails: the old tables, state 0x05, the failure reported; a self-test that has not ended is given
up (log 34). -/
def standInFail (ch : Nat) (x : StandIn) (s : State) : State :=
  if x.selfTest then standInEnd ch x.back x (if x.step = 3 then s else selfTestGivenUp ch s)
  else
    let s := restoreTables ch x (standInEnd ch 5 x s)
    calFail 2 ch s

/-- The loop's phase reference takes up the shift of a recalibrated selected input (R255). -/
def shiftLoop (ch : Nat) (shift : Int) (s : State) : State :=
  if refSelected s = ch ∧ r0 s Reg.loopState = 2 then
    { s with refs := { s.refs with build := s.refs.build + Rat.ofInt shift, lastPhi := none } }
  else s

/-- A stand-in ends well: the run's set is stored, and a state 0x05 of an earlier run goes; a self-test leaves it
(R216, R217). -/
def standInDone (ch : Nat) (x : StandIn) (s : State) : State :=
  let s := standInEnd ch (if x.back = 5 && !x.selfTest then serviceState s ch else x.back) x s
  if x.selfTest then s else calSucceed 2 ch (runMean s 2 ch) x.measured x.residual s

/-- A reserve that calibrated alone for a channel now stands in for it, or failed and is given up (R217): the channel, whose run has
not begun, stays pending. -/
def reserveReady (r : Nat) (ok : Bool) (s : State) : State :=
  match s.tdc.standIns.find? (fun e => e.2.reserve = some r && e.2.step = 0) with
  | none => s
  | some (ch, x) =>
    if ok then beginStepOne ch r x s
    else
      let s := delSI ch s
      if x.selfTest then selfTestGivenUp ch s else s

/-- Step 1 or 3 has run its 64 ticks, or compared 16 edges of a slow channel that has edges (R217-R219). -/
def stepEnded (s : State) (ch : Nat) (x : StandIn) : Bool :=
  if slowChannel s ch && hasEdges s ch then decide (16 ≤ x.diffs.length) else decide (x.since + 64 ≤ tickSeqOf s)

/-- The channel's input has failed in the step, or nothing could be compared in it (R219). -/
def inputFailed (s : State) (ch : Nat) (x : StandIn) : Bool := !hasEdges s ch || x.diffs.isEmpty

/-- The mean of a list; 0 of none. -/
def meanOf (l : List Rat) : Rat := l.foldl (fun a x => a + x) 0 / (l.length : Rat)

/-- The square of the standard deviation of the differences compared, each taken as equally likely (log 67). -/
def varianceOf (l : List Rat) : Rat := meanOf (l.map (fun x => (x - meanOf l) * (x - meanOf l)))

/-- The standard deviation exceeds 0.5 ps, 32.768 units of 2^-16 ns (R219). -/
def tooWide (l : List Rat) : Bool := decide (32768 * 32768 < varianceOf l * 10 ^ 6)

/-- The step that follows, from this tick on, with nothing compared. -/
def nextStep (s : State) (step : Nat) (x : StandIn) : StandIn := { x with step := step, since := tickSeqOf s, diffs := [] }

/-- TDC_STANDIN_STEP_END (R217-R219): step 1 or 3 has ended. -/
def execTdcStandinStepEnd (channel : Fin 80) (_ : Unit) (s : State) : Host.Outcome State Fault Refusal :=
  let ch := channel.val
  match getSI s ch with
  | none => .next s
  | some x =>
    let failed := inputFailed s ch x
    let bad := !failed && tooWide x.diffs
    let mean := if failed then 0 else roundTo (meanOf x.diffs)
    if !stepEnded s ch x then .next s
    else
      match x.step with
      | 1 =>
        if bad then .next (standInFail ch x (inc0 Reg.tdcReserveAborts s))
        else
          let x := { nextStep s 2 x with d := mean }
          let s := if x.selfTest then { s with tdc := { s.tdc with selfTest := some (ch, tickSeqOf s) } } else s
          .next (w1 Reg.tdcChannelState ch (if x.selfTest then 9 else 3) (putSI ch x s))
      | 3 =>
        if bad then .next (standInFail ch x s)
        else if failed then .next (standInDone ch x s)
        else .next (standInDone ch x (shiftLoop ch mean (w1 Reg.tdcLastCalShift ch (ofSigned 64 mean) s)))
      | _ => .next s

/-- TDC_CAL_RUN_END (R215, R216): the 672 ticks of a code-density run have passed. -/
def execTdcCalRunEnd (channel : Fin 80) (result : CodeDensity) (s : State) : Host.Outcome State Fault Refusal :=
  let ch := channel.val
  match getSI s ch with
  | none => .next s
  | some x =>
    if x.step ≠ 2 ∨ x.selfTest ∨ tickSeqOf s < x.since + 672 then .next s
    else
      let s := w1 Reg.tdcResidualInl ch (residualInl result) s
      if codeDensityFails result then .next (reserveReady ch false (standInFail ch x s))
      else
        let x := { x with measured := codeDensityValues result.hist, residual := residualInl result }
        match x.reserve with
        | none => .next (reserveReady ch true (standInDone ch x s))
        | some _ =>
          let s := setTables ch x.measured (putSI ch (nextStep s 3 x) s)
          .next (w1 Reg.tdcCalSource ch 0 (w1 Reg.tdcChannelState ch 4 s))

/-- TDC_CAL_REQUEST (R355). -/
def execTdcCalRequest (channel : Fin 80) (w : WriteReq) (s : State) : Host.Outcome State Fault Refusal :=
  .next (catWrite w Reg.tdcCalRequest channel.val 0 (effBool (fun ch s => calRequestInst 2 ch s)) s)

/-! Self-test (R236). -/

/-- A test runs or waits for its boundary, or a channel is being handed over for one. -/
def selfTestBusy (s : State) : Bool :=
  s.tdc.selfTest.isSome || s.tdc.testDue.isSome || s.tdc.standIns.any (fun e => e.2.selfTest)

/-- The channel is in a stand-in, or stands in itself. -/
def standsIn (s : State) (ch : Nat) : Bool := (getSI s ch).isSome || decide (r1 s Reg.tdcChannelState ch = 7)

/-- Start the test of a channel at the next tick boundary: none runs, and the channel is in no stand-in. -/
def startSelfTest (ch : Nat) (s : State) : State :=
  if selfTestBusy s || standsIn s ch then s
  else w1 Reg.tdcSelfTestResult 0 (1 + ch * 256) { s with tdc := { s.tdc with testDue := some ch } }

/-- The boundary at which a test begins, once the channel is in no stand-in (R217, R236). -/
def testBoundary (s : State) : State :=
  match s.tdc.testDue with
  | some ch => if standsIn s ch then s else beginStandIn ch true { s with tdc := { s.tdc with testDue := none } }
  | none => s

/-- TDC_SELF_TEST_START (R236). -/
def execTdcSelfTestStart (w : WriteReq) (s : State) : Host.Outcome State Fault Refusal :=
  .next (catWrite w Reg.tdcSelfTestStart 0 0 (effBool (fun _ s => startSelfTest (r0 s Reg.tdcSelfTestChannel) s)) s)

/-- The cycles of 2 ns between the edges of a pair. -/
def pairCycles (n : Fin 3) : Int := if n.val = 0 then 2 else if n.val = 1 then 7 else 64

/-- What an instrument measures of a pair, less n × 2 ns, units of 2^-25 ns. -/
def pairError (s : State) (ch : Nat) (p : SelfTestPair) : Int :=
  (p.cycles - pairCycles p.n) * 2 ^ 26 + edgeDelta s ch p.second - edgeDelta s ch p.first

/-- The mean error of the pairs of one n, units of 2^-25 ns. -/
def meanError (s : State) (ch : Nat) (l : List SelfTestPair) (n : Fin 3) : Rat :=
  meanOf ((l.filter (fun p => p.n = n)).map (fun p => (pairError s ch p : Rat)))

/-- The mean errors by n. -/
def meanErrors (s : State) (ch : Nat) (l : List SelfTestPair) : List Rat := [0, 1, 2].map (meanError s ch l)

/-- Every interval within ±12 ps, each mean within ±0.5 ps (R236). -/
def selfTestPasses (s : State) (ch : Nat) (l : List SelfTestPair) : Bool :=
  l.all (fun p => decide ((pairError s ch p).natAbs * 1000 ≤ 12 * 2 ^ 25)) &&
    (meanErrors s ch l).all (fun m => decide (absRat m * 2000 ≤ 2 ^ 25))

/-- The largest of some deviations by magnitude, the first on a tie. -/
def largest (l : List Rat) : Rat := l.foldl (fun a x => if absRat a < absRat x then x else a) 0

/-- TDC_SELF_TEST_END (R236): the 32 ticks have passed. -/
def execTdcSelfTestEnd (pairs : List SelfTestPair) (_ _ : Unit) (s : State) : Host.Outcome State Fault Refusal :=
  match s.tdc.selfTest with
  | none => .next s
  | some (ch, t0) =>
    if tickSeqOf s < t0 + 32 then .next s
    else
      let pass := selfTestPasses s ch pairs
      let mean := ofSigned 64 (roundTo (largest (meanErrors s ch pairs) / 512))
      let s := w1 Reg.tdcSelfTestResult 0 ((if pass then 2 else 3) + ch * 256 + mean * 2 ^ 64) s
      let s := inc0 Reg.tdcSelfTestRuns { s with tdc := { s.tdc with selfTest := none, testFailed := !pass } }
      let s := if pass then s else raise Ev.tdcSelfTest (inc0 Reg.tdcSelfTestFails s)
      match getSI s ch with
      | none => .next s
      | some x =>
        match x.reserve with
        | none => .next (standInEnd ch x.back x s)
        | some _ => .next (w1 Reg.tdcChannelState ch 4 (putSI ch (nextStep s 3 x) s))

/-! Starting, ending and abandoning runs (R353, R356, R362, R363). -/

/-- The crystal's conditions (R353), but for RefSwitches. -/
def crystalOk (s : State) : Bool :=
  decide (r0 s Reg.timeBaseSource ≠ 1) && decide (r0 s Reg.loopState = 2) && decide (refSelected s < 70) &&
  decide (r1 s Reg.refRank (refSelected s) ≤ r0 s Reg.calCrystalRankMax)

/-- A converter's run can begin: no stand-in or test on it; with edges it needs a free reserve (R217-R219). -/
def tdcRunFree (s : State) (ch : Nat) : Bool :=
  !standsIn s ch && (!hasEdges s ch || (freeReserveOf s).isSome)

/-- The preconditions of an instance (R356). -/
def runFree (s : State) (code i : Nat) : Bool :=
  let c := getCal s code i
  c.pending && c.running.isNone &&
  (match code with
   | 1 => laneRunFree s i
   | 2 => tdcRunFree s i
   | 3 => running s (bankDomain i) && (freeReserveOf s).isSome &&
      !(List.range 0x48).any (fun ch => (getCal s 2 ch).pending && tdcRunFree s ch && hasEdges s ch)
   | 4 => running s 2 && (freeReserveOf s).isSome &&
      !(List.range 0x48).any (fun ch => (getCal s 2 ch).pending && tdcRunFree s ch && hasEdges s ch)
   | _ => crystalOk s)

/-- The instance of a class that starts first: the largest drift, the lowest sub-index on a tie (R356). -/
def nextRun (s : State) (code : Nat) : Option Nat :=
  ((List.range (classSize code)).filter (runFree s code)).foldl (fun best i =>
    match best with
    | none => some i
    | some j => if calDrift s code j < calDrift s code i then some i else some j) none

/-- Start the run of an instance. -/
def startRun (code i : Nat) (s : State) : State :=
  match code with
  | 1 => startLaneRun i s
  | 2 => beginStandIn i false s
  | 5 => calBegin 5 i none s
  | _ =>
    match freeReserveOf s with
    | some r => w1 Reg.tdcChannelState r 7 (calBegin code i (some r) s)
    | none => s

/-- The machine stands in the cycle of a tick boundary, and the Curator whose scheduler starts runs is there (R356). -/
def atBoundary (s : State) : Bool := curatorRuns s && decide (cycleOf s.now = cycleOf s.boundaryAt)

/-- CAL_RUN_START (R356): in the boundary cycle the instance is its class's next and its preconditions hold. -/
def execCalRunStart (cls : CalClass) (inst : Fin 80) (s : State) : Host.Outcome State Fault Refusal :=
  let code := classCode cls
  if atBoundary s && decide (nextRun s code = some inst.val) then .next (startRun code inst.val s) else .next s

/-- The ageing term at the midpoint of a run of 8,000 ticks that ends now, in 10^-18 (R235, R353). -/
def ageingAt (s : State) : Rat :=
  if r0 s Reg.servoState = 0 then 0
  else
    Rat.ofInt (toSigned 32 (r0 s Reg.ageingRate)) * 10 ^ 6 *
      Rat.ofInt ((s.counter : Int) - 4000 * (tickUnits : Int) - (readingOf128 (r0 s Reg.ageingEpoch) : Int)) /
      (86400 * 10 ^ 9 * 2 ^ 40)

/-- y_T of a crystal run (R353). -/
def crystalValue (s : State) : Int :=
  let c := getCal s 5 0
  nearest (-(Rat.ofInt c.sumL / Rat.ofInt (max c.ticks 1)) - Rat.ofInt s.tdc.yf - ageingAt s)

/-- The factory values of an instance at a temperature (R361). -/
def factoryAt (s : State) (code i : Nat) (t : Int) : List Int := interpolate (factorySets s code i) t

/-- The run of an instance has lasted n ticks. -/
def runLasted (s : State) (code i n : Nat) : Bool :=
  match (getCal s code i).running with
  | some t => decide (t + n ≤ tickSeqOf s)
  | none => false

/-- The two pad delays of a lane, units of 2^-16 ns: the mean of the stamps on the replica plus the stored difference of each
path at the run's temperature (R351; that both paths share one mean is DEDUCED, log 70). -/
def padDelays (lane : Nat) (f b : List Int) (s : State) : List Int :=
  let d := factoryAt s 6 lane (runMean s 3 lane)
  [0, 1].map (fun k => nearest (meanInts (f ++ b) / 256) + d.getD k 0)

/-- PortDelayResidual in fs, exact (R364). -/
def portResidual (f b : List Int) : Rat := absRat (meanInts f - meanInts b) / 2 * 10 ^ 6 / 2 ^ 24

/-- A pad delay lies more than 50 ps from the factory value at the same temperature (R362). -/
def padsOff (lane : Nat) (v : List Int) (s : State) : Bool :=
  let g := factoryAt s 3 lane (runMean s 3 lane)
  [0, 1].any (fun k => decide (50 * 65536 < (v.getD k 0 - g.getD k 0).natAbs * 1000))

/-- The points are strictly increasing (R362). -/
def increasing : List Int → Bool
  | a :: b :: t => decide (a < b) && increasing (b :: t)
  | _ => true

/-- The mean square of the differences between the check stamps and the midpoints of the table, fs²; the table's points are
sums of 64 stamps (R352). -/
def outputResidual (sums : List Int) (checks : List (Fin 64 × Int)) : Rat :=
  let l := checks.map (fun c => 128 * c.2 - sums.getD c.1.val 0 - sums.getD (c.1.val + 1) 0)
  (l.foldl (fun a x => a + Rat.ofInt (x * x)) 0) / Rat.ofInt (max l.length 1) * (10 ^ 12 / 2 ^ 62)

/-- A crystal run's figure in 10^-18: the magnitude of y_T less the factory table at the same temperature (R362, R364). -/
def crystalOff (s : State) : Nat := (crystalValue s - (factoryAt s 5 0 (runMean s 5 0)).getD 0 0).natAbs

/-- A lane's run has ended its handover: the first eye scan after it gives the quality figure (R364). -/
def endLaneRun (i : Nat) (codes : List Int) (s : State) : State :=
  if (getLane s i).calDone && (getCal s 1 i).running.isSome then
    let q := r1 s (calIdx 1 0x0A) i
    let s := modLane i (fun l => { l with calRun := false, calDone := false, scanFor := tickSeqOf s :: l.scanFor }) s
    w1 (calIdx 1 0x0A) i q (calSucceed 1 i (runMean s 1 i) codes 0 s)
  else s

/-- A port-delay run has lasted its 64 ticks (R350, R351, R362). -/
def endPortRun (i : Nat) (f b : List Int) (s : State) : State :=
  if !runLasted s 3 i 64 then s
  else
    let v := padDelays i f b s
    if padsOff i v s || decide (1500 < portResidual f b) then calFail 3 i s
    else calSucceed 3 i (runMean s 3 i) v (roundTo (portResidual f b)).toNat s

/-- An output-delay run has lasted its 16 ticks (R350, R352, R362); its values are the sums of 64 stamps, units of 2^-30 ns. -/
def endOutputRun (i : Nat) (sums : List Int) (checks : List (Fin 64 × Int)) (s : State) : State :=
  if !runLasted s 4 i 16 then s
  else if !increasing sums || decide (2000 * 2000 < outputResidual sums checks) then calFail 4 i s
  else calSucceed 4 i (runMean s 4 i) sums (rootRounded (outputResidual sums checks)) s

/-- The crystal's run has lasted its 8,000 ticks (R350, R353, R362): 1 ppm is 10^12 units. -/
def endCrystalRun (s : State) : State :=
  if !runLasted s 5 0 8000 then s
  else if 10 ^ 12 < crystalOff s then calFail 5 0 s
  else calSucceed 5 0 (runMean s 5 0) [crystalValue s] (roundTo (Rat.ofInt (crystalOff s) / 10 ^ 6)).toNat s

/-- CAL_RUN_END (R362); a converter's run ends by the commands of R216 and R217. -/
def execCalRunEnd (inst : Fin 80) (result : CalResult) (checks : List (Fin 64 × Int)) (s : State) : Host.Outcome State Fault Refusal :=
  match result with
  | .lane codes => .next (endLaneRun inst.val codes s)
  | .portDelay f b => .next (endPortRun inst.val f b s)
  | .output sums => .next (endOutputRun inst.val sums checks s)
  | .crystal => .next (endCrystalRun s)

/-- A condition of a running instance has lapsed (R363). -/
def runLapsed (s : State) (code i : Nat) : Bool :=
  let c := getCal s code i
  c.running.isSome &&
  (match code with
   | 1 => !(getLane s i).calRun
   | 2 => false
   | 3 => !running s (bankDomain i)
   | 4 => !running s 2
   | _ => !crystalOk s || decide (r0 s Reg.refSwitches ≠ c.switches))

/-- CAL_RUN_ABANDON (R363). -/
def execCalRunAbandon (cls : CalClass) (inst : Fin 80) (s : State) : Host.Outcome State Fault Refusal :=
  let code := classCode cls
  if runLapsed s code inst.val then .next (calAbandon code inst.val s) else .next s

/-- An opening changes the mode of a group: the port-delay runs of its lanes are abandoned (R363). -/
def calModeChanged (g : Nat) (s : State) : State :=
  forL [2 * g, 2 * g + 1] (fun i s => if (getCal s 3 i).running.isSome then calAbandon 3 i s else s) s

/-- The retry of a failed instance is due by TickSequence n (R355). -/
def retryDue (s : State) (code i n : Nat) : Bool :=
  let c := getCal s code i
  c.failed && c.retryAt ≠ 0 && decide (c.retryAt ≤ n) && c.running.isNone && decide (r0 s Reg.calAutoEnable = 1)

def retryRun (code i : Nat) (s : State) : State := modCal code i (fun c => { c with pending := true, retryAt := 0 }) s

/-- CAL_RETRY_EXPIRE (R355). -/
def execCalRetryExpire (cls : CalClass) (inst : Fin 80) (s : State) : Host.Outcome State Fault Refusal :=
  let code := classCode cls
  if retryDue s code inst.val (tickSeqOf s) then .next (retryRun code inst.val s) else .next s

/-- The effect of a request for one instance of a class (R355). -/
def effCalRequest (cls : CalClass) (st v : Nat) (s : State) : State := effBool (calRequestInst (classCode cls)) st v s

/-- The object by which a run of a class is requested: lanes and converters have objects of their own (R355). -/
def calRequestIdx (cls : CalClass) : Nat :=
  match cls with
  | .lane => Reg.reserveRequest
  | .tdc => Reg.tdcCalRequest
  | _ => calIdx (classCode cls) 9

/-- CAL_REQUEST (R355). -/
def execCalRequest (cls : CalClass) (inst : Fin 80) (w : WriteReq) (s : State) : Host.Outcome State Fault Refusal :=
  .next (catWrite w (calRequestIdx cls) inst.val 0 (effCalRequest cls) s)

/-- CAL_DISCARD_SETS (R365). -/
def execCalDiscardSets (w : WriteReq) (s : State) : Host.Outcome State Fault Refusal :=
  .next (catWrite w Reg.calDiscardSets 0 0 (effBool (fun _ s => discardSets s)) s)

/-! The calibration scheduler's job (R15, R356). -/

/-- Start every pending instance of a class whose preconditions hold, in its order. -/
def startAll (code : Nat) : Nat → State → State
  | 0, s => s
  | n + 1, s =>
    match nextRun s code with
    | some i => startAll code n (startRun code i s)
    | none => s

/-- A reserve without a task is free; it reads so from the first boundary after a reset on (R217, R237). -/
def idleReserves (s : State) : State :=
  forL ((List.range 8).map (· + 0x48)) (fun r s =>
    if r1 s Reg.tdcChannelState r = 0 then w1 Reg.tdcChannelState r 6 s else s) s

/-- A pulse input without edges has no input (R237). -/
def idlePulses (s : State) : State :=
  forL [0x44, 0x45] (fun ch s => if hasEdges s ch then s else noteInput ch false s) s

/-- A stand-in that waits for a reserve takes one that is free (R219). -/
def waitingStandIns (s : State) : State :=
  forL s.tdc.standIns (fun e s =>
    if e.2.step = 0 ∧ e.2.reserve.isNone then
      match freeReserveOf s with
      | some r => takeReserve e.1 r e.2 s
      | none => s
    else s) s

/-- The runs in progress take up the tick's temperature, and LoopControl for the crystal's (R353, R355). -/
def runningTick (s : State) : State :=
  forL s.cal.insts (fun e s =>
    let code := e.1 / 256
    let i := e.1 % 256
    let c := getCal s code i
    if c.running.isNone then s
    else setCal code i { c with sumT := c.sumT + sensorNow s (sensorOf code i), sumL := c.sumL + loopControl s, ticks := c.ticks + 1 } s) s

/-- What the scheduler does at a boundary: what the last tick's commands left over (log 12), temperatures and
interpolation, then the triggers. New starts need the Curator. -/
def calJob (curator : Bool) (s : State) : State :=
  let codes := [1, 2, 3, 4, 5]
  let s := runningTick s
  let s := forL codes (fun code s => forN (classSize code) (fun i s =>
    let s := if runLapsed s code i then calAbandon code i s else s
    if retryDue s code i (tickSeqOf s - 1) then retryRun code i s else s) s) s
  let s := testBoundary (waitingStandIns (idlePulses (idleReserves s)))
  let s := if curator then forL codes (fun code s => startAll code (classSize code) s) s else s
  calTick s

end Sys2Proof.Machine
end

