-- ==== Sys2Proof/Machine/Pdus.lean ====
section
/-! DEFINITION. Lorak PDUs as bytes (R65-R67), and how one leaves the module (R81, R76). -/

namespace Sys2Proof.Machine

/-- The 20 bytes of the header. -/
def pduHead (opcode : Nat) (p : Pdu) : Bytes :=
  [p.version, BitVec.ofNat 8 opcode] ++ bytesLE 2 p.flags.toNat ++ bytesLE 2 p.dst.toNat ++ bytesLE 2 p.src.toNat ++
  [p.srcTag, p.hop, p.session, p.status] ++ bytesLE 4 p.sequence.toNat ++ bytesLE 2 p.payloadLength.toNat ++
  bytesLE 2 p.reserved.toNat

/-- Every byte before the CRC. -/
def pduCovered (opcode : Nat) (p : Pdu) : Bytes := pduHead opcode p ++ p.payload ++ p.tag

/-- The PDU with the CRC of R67. -/
def sealPdu (opcode : Nat) (p : Pdu) : Pdu := { p with crc := BitVec.ofNat 32 (crc32c (pduCovered opcode p)) }

/-- The PDU on its transport. -/
def pduBytes (opcode : Nat) (p : Pdu) : Bytes := pduCovered opcode p ++ bytesLE 4 p.crc.toNat

/-- The tag of R77: the CMAC under SK over the header with HopLimit, SrcAddr and SrcTag at 0, then the payload. -/
def pduTag (sk : Bytes) (opcode : Nat) (p : Pdu) : Bytes :=
  aesCmac sk (pduHead opcode { p with hop := 0, src := 0, srcTag := 0 } ++ p.payload)

/-- A PDU of the module's own: version 0x01, HopLimit 32, ANSWER set; AUTH and the tag where a session key is given. -/
def makePdu (opcode dst src tag session status sequence : Nat) (payload : Bytes) (sk : Option Bytes) : Pdu :=
  let p : Pdu :=
    { version := 1, flags := if sk.isSome then 3 else 1, dst := BitVec.ofNat 16 dst, src := BitVec.ofNat 16 src
      srcTag := BitVec.ofNat 8 tag, hop := 32, session := BitVec.ofNat 8 session, status := BitVec.ofNat 8 status
      sequence := BitVec.ofNat 32 sequence, payloadLength := BitVec.ofNat 16 payload.length, reserved := 0
      payload := payload, tag := [], crc := 0 }
  let p := match sk with
    | some k => { p with tag := pduTag k opcode p }
    | none => p
  sealPdu opcode p

/-- The Lorak link address (R81). -/
def lorakLinkMac : Nat := 0x034C524B0001

/-- LorakAcceptMask has the bit of a logical port (R81). -/
def lorakAccepts (s : State) (port : Nat) : Bool := (r0 s Reg.lorakAcceptMask).testBit port

/-- Send a PDU in-band on a logical port to a MAC address (R81). LorakAcceptMask is a mask of arrivals: what the module
relays or says hop to hop leaves on any port (DEDUCED, log 63). -/
def sendInband (port mac opcode : Nat) (p : Pdu) (s : State) : State :=
  match slotOf s port with
  | some slot => sendManagement slot (ownFrame s mac 0x88B5 (pduBytes opcode p)) s
  | none => s

/-- A PDU between its two delimiters on SVC (R83). -/
def svcFrame (pdu : Bytes) : Bytes := [0x7E] ++ svcEscape pdu ++ [0x7E]

/-- Bytes leave by the stream of the test access port (R449). -/
def tapOut (to_ : Peer) (opcode : Nat) (p : Pdu) (wire : Bytes) (s : State) : State :=
  { s with sent := s.sent ++ [.tapStream to_ opcode p wire] }

/-- Send a PDU to a requester: on MGT in a frame to the host (R82), on SVC escaped (R83), by the TAP's stream under SVC_PORT
(R449), in-band to the host's address or
hop to hop; nothing goes to a requester on a port whose LorakAcceptMask bit is clear (R81). -/
def sendPdu (to_ : Peer) (opcode : Nat) (p : Pdu) (s : State) : State :=
  match to_.transport with
  | .inband =>
    if lorakAccepts s to_.port then
      sendInband to_.port (if to_.srcAddr = 0 then to_.mac else lorakLinkMac) opcode p s
    else s
  | .mgt => emit (.lorak to_ opcode p (ownFrame s to_.mac 0x88B5 (pduBytes opcode p))) s
  | .svc =>
    let wire := svcFrame (pduBytes opcode p)
    if svcPortSelected s then tapOut to_ opcode p wire s else emit (.lorak to_ opcode p wire) s

/-- A PDU to a requester leaves the module: in-band on a port that there is, that LorakAcceptMask does not bar, while D4 runs
(R81, R165). What goes to MGT while its link is down counts as sent (DESIGN CHOICE, log 73). -/
def leaves (s : State) (to_ : Peer) : Bool :=
  match to_.transport with
  | .inband => lorakAccepts s to_.port && (slotOf s to_.port).isSome && running s 4
  | _ => true

/-- NotifySequence counts every NOTIFY sent; the count with this one stands in its Sequence (R76, R84). -/
def nextNotify (s : State) : Nat × State :=
  let n := (r0 s Reg.notifySequence + 1) % 2 ^ 32
  (n, w0 Reg.notifySequence n s)

/-- The payload of a NOTIFY (R68). -/
def notifyPayload (kind : Nat) (body : Bytes) : Bytes := bytesLE 1 kind ++ bytesLE 3 0 ++ body

/-- A NOTIFY of the module's own with Session 0xFF on a port, hop to hop (R337, R345, R346). -/
def notifyOnPort (port dst kind : Nat) (body : Bytes) (s : State) : State :=
  if (slotOf s port).isNone || !running s 4 then s
  else
    let n := nextNotify s
    sendInband port lorakLinkMac 0x0C (makePdu 0x0C dst (ownAddress s) 0 0xFF 0 n.1 (notifyPayload kind body) none) n.2

/-- A logical port has a two-way adjacency that has stood since a route opening (R317, R328, R332). -/
def portTwoWay (s : State) (port : Nat) : Bool :=
  match slotOf s port with
  | some slot => decide (r1 s Reg.adjacencyState slot = 2) && s.zut.carries.contains slot
  | none => false

/-- The logical port of the route in force to a fabric address; none without one, or where its port has no two-way
adjacency (R328). -/
def routePort (s : State) (addr : Nat) : Option Nat :=
  let r := rd s Reg.managementRoutes 0 addr
  if r.testBit 31 && portTwoWay s (field r 5 0) then some (field r 5 0) else none

/-- A NOTIFY of the module's own to a fabric address, by the management routes. -/
def notifyRouted (dst kind : Nat) (body : Bytes) (s : State) : State :=
  match routePort s dst with
  | some p => notifyOnPort p dst kind body s
  | none => s

end Sys2Proof.Machine
end

