-- ==== Sys2Proof/Machine/Twins.lean ====
section
/-! DEFINITION. Twin pairs and fail-over (chapter 14): heartbeats, miss records, roles, health, the standby's self-tests,
and arbitration. -/

namespace Sys2Proof.Machine

def modTw (f : TwSt → TwSt) (s : State) : State := { s with tw := f s.tw }

def twinOn (s : State) : Bool := decide (r0 s Reg.twinEnable = 1)
def twinActive (s : State) : Bool := decide (r0 s Reg.twinRole = 2)

/-- Of two twins, the first outranks the second (R336). -/
def outranks (rank uid rank' uid' : Nat) : Bool := decide (rank' < rank) || (decide (rank = rank') && decide (uid < uid'))

/-! TwinFlags (R349). -/

def twinFlag (s : State) (bit : Nat) : Bool := (r0 s Reg.twinFlags).testBit bit
def setTwinFlag (bit : Nat) (on : Bool) (s : State) : State := w0 Reg.twinFlags (setBit (r0 s Reg.twinFlags) bit on) s

/-- Degraded and StrapConflict with their events (R336, R340, R397). -/
def setDegraded (paths : Nat) (s : State) : State :=
  setLive Ev.degraded (decide (paths ≠ 0)) (setTwinFlag 0 (decide (paths ≠ 0)) (modTw (fun t => { t with degraded := paths }) s))

def setStrapConflict (on : Bool) (s : State) : State := setLive Ev.strapConflict on (setTwinFlag 3 on s)

/-! The role (R335, R343). -/

/-- The self-test lanes run near-end PMA loopback with PRBS31 while standby; active, they are returned to 0x00 (R343). -/
def selfTestLanes (on : Bool) (s : State) : State :=
  forL (onesList 64 (r0 s Reg.twinSelfTestLanes)) (fun k s =>
    setTestObject Reg.patChkSelect k (if on then 5 else 0) (setTestObject Reg.patGenSelect k (if on then 5 else 0)
      (setTestObject Reg.loopbackMode k (if on then 1 else 0) s))) s

/-- A role takes effect on every item of R335; DualActive is said of an active twin alone (R349). -/
def setRole (role : Nat) (s : State) : State :=
  let was := r0 s Reg.twinRole
  if was = role then s
  else
    let s := w0 Reg.twinRole role (if role = 2 then s else setTwinFlag 2 false s)
    let s := if role = 1 then selfTestLanes true s else if was = 1 then selfTestLanes false s else s
    if running s 2 then forN 12 judgeOut s else s

/-- A step-down from the tick with this TickSequence on (R347): counted, told for 8,000 ticks, reported. -/
def stepDown (tick : Nat) (s : State) : State :=
  raise Ev.stepDown (inc0 Reg.twinStepDowns (modTw (fun t => { t with dualUntil := tick + 8000 }) s))

/-- What is decided takes effect from the tick with this TickSequence on (R335): an active twin that becomes standby so steps down (R347). -/
def applyRole (tick : Nat) (s : State) : State :=
  match s.tw.roleNext with
  | none => s
  | some r =>
    let s := modTw (fun t => { t with roleNext := none }) s
    if !twinOn s then s else setRole r (if r = 1 ∧ twinActive s then stepDown tick s else s)

/-- The role of the tick that ends, by which R347 judges what arrived in it; TWIN_ROLE_CHANGE at its end has noted it. -/
def noteActive (s : State) : State :=
  modTw (fun t => if t.noted then { t with noted := false } else { t with wasActive := twinActive s }) s

/-- The reading of the next tick boundary (R3). -/
def nextBoundary (s : State) : Nat := (s.counter / tickUnits + 1) * tickUnits

/-- TWIN_ROLE_CHANGE (R335): a decided change takes effect at the next boundary, to which the clock runs. -/
def execTwinRoleChange (s : State) : Host.Outcome State Fault Refusal :=
  if s.tw.roleNext.isSome then 
    let s := advanceToReading (nextBoundary s) (noteActive s)
    .next (applyRole (r0 s Reg.tickSequence + 1) (modTw (fun t => { t with noted := true }) s))
  else .next s

def pathInit : TwPath := { heard := [], misses := 0, goodRun := 0 }

/-- The record of a path whose misses count afresh (R339). -/
def pathAfresh (p : TwPath) : TwPath := { p with misses := 0 }

/-- An opening has changed the twin configuration (R335, R339, R341); `swap` is a staged TwinRoleSwap. The miss counts start
afresh; what the heartbeat job decided before stands and takes effect after the opening, at the same boundary (DEDUCED,
log 55). A module that begins to take part has received nothing yet. -/
def twinConfigured (swap : Bool) (s : State) : State :=
  let s := modTw (fun t => { t with pair := pathAfresh t.pair, inband := pathAfresh t.inband
                                    judgeFrom := r0 s Reg.tickSequence }) s
  let s := w0 Reg.twinRoleSwap 0 s
  if !twinOn s then setRole 0 s
  else if r0 s Reg.twinRole = 0 then setRole 1 (modTw (fun t => { t with pair := pathInit, inband := pathInit, standbyRun := 0 }) s)
  else if swap then setRole (3 - r0 s Reg.twinRole) s
  else s

/-- A Curator reset returns the role to standby at once (R341). What it had not yet processed is gone, and its misses count
afresh once it is back (DEDUCED, log 55). -/
def twinCuratorReset (s : State) : State :=
  let s := modTw (fun t => { t with inbox := [], notices := [], prevNotices := [], prevOutranked := false, roleNext := none
                                    failDue := false, degradeDue := 0, takeoverDue := false, standbyRun := 0
                                    pair := pathInit, inband := pathInit }) s
  if twinOn s then setRole 1 s else s

/-- A tick in which the Curator does not run: no heartbeat job, and no miss of this tick counts (log 55). -/
def twinsIdle (s : State) : State := modTw (fun t => { t with judgeFrom := r0 s Reg.tickSequence + 1 }) s

/-! Decisions (R340, R341). -/

/-- The peer has failed (R340): a standby twin becomes active. -/
def peerFailed (s : State) : State :=
  let s := inc0 Reg.twinFailovers (setTwinFlag 1 true (modTw (fun t => { t with failDue := false }) s))
  if r0 s Reg.twinRole ≠ 1 then s else raise Ev.failover (modTw (fun t => { t with roleNext := some 2 }) s)

/-- A path alone has missed three ticks (R340). -/
def pathDegraded (s : State) : State :=
  let d := s.tw.degradeDue
  inc0 Reg.twinDegradedAlarms (setDegraded (s.tw.degraded ||| d) (modTw (fun t => { t with degradeDue := 0 }) s))

/-- The standby twin that outranks a standby peer becomes active (R341). -/
def rankTakeover (s : State) : State := modTw (fun t => { t with takeoverDue := false, roleNext := some 2 }) s

/-- TWIN_PEER_FAILED (R340). -/
def execTwinPeerFailed (s : State) : Host.Outcome State Fault Refusal :=
  if s.tw.failDue then .next (peerFailed s) else .next s

/-- TWIN_PATH_DEGRADED (R340). -/
def execTwinPathDegraded (s : State) : Host.Outcome State Fault Refusal :=
  if s.tw.degradeDue ≠ 0 then .next (pathDegraded s) else .next s

/-- TWIN_RANK_TAKEOVER (R341). -/
def execTwinRankTakeover (s : State) : Host.Outcome State Fault Refusal :=
  if s.tw.takeoverDue then .next (rankTakeover s) else .next s

/-! Arbitration (R346). -/

/-- A row of TwinFollowTable. -/
def arbRow (a : TwArb) : Nat := 2 ^ 191 + a.pair * 2 ^ 179 + a.follow * 2 ^ 64 + (a.ports ||| a.added)

def setArb (row : Nat) (a : TwArb) (s : State) : State :=
  wr Reg.twinFollowTable 0 row (arbRow a) (modTw (fun t => { t with arb := tput t.arb row a }) s)

/-- The ports are released and the row is cleared. -/
def arbRelease (row : Nat) (s : State) : State :=
  wr Reg.twinFollowTable 0 row 0 (modTw (fun t => { t with arb := tdel t.arb row }) s)

/-- No notice of the lower twin in three ticks. -/
def arbSilent (s : State) (row : Nat) : Bool := s.tw.arb.any (fun e => e.1 = row && decide (3 ≤ e.2.silent))

/-- ARBITER_RELEASE (R346): the clock runs to the boundary from which the ports are free. -/
def execArbiterRelease (row : Fin 16) (s : State) : Host.Outcome State Fault Refusal :=
  if arbSilent s row.val then .next (arbRelease row.val (advanceToReading (nextBoundary s) s)) else .next s

/-- Notices of a pair in a list. -/
def pairNotices (l : List TwNotice) (pair : Nat) : List TwNotice := l.filter (fun n => n.pair = pair)

/-- The two twins of a pair that both lists hear: the higher-ranked and the lower-ranked. -/
def heardBoth (now before : List TwNotice) (pair : Nat) : Option (TwNotice × TwNotice) :=
  let here := (pairNotices now pair).filter (fun n => (pairNotices before pair).any (fun m => m.uid = n.uid))
  match here with
  | [] => none
  | a :: t =>
    (t.find? (fun b => b.uid ≠ a.uid)).map (fun b => if outranks a.rank a.uid b.rank b.uid then (a, b) else (b, a))

/-- The body of a DUAL-ACTIVE notice (R346). -/
def dualActiveBody (s : State) (pair follow : Nat) : Bytes :=
  bytesLE 2 pair ++ bytesLE 2 0 ++ bytesLE 8 follow ++ bytesLE 8 (ownUid s)

/-- The lowest row without an arbitration; none when all 16 are in use (R349). -/
def freeArbRow (s : State) : Option Nat := (List.range 16).find? (fun r => !s.tw.arb.any (fun e => e.1 = r))

/-- The ports that a row blocks by now for the same lower-ranked twin; they stay blocked until its release (R346). -/
def portsBlocked (s : State) (row low : Nat) : Nat :=
  match s.tw.arb.find? (fun e => e.1 = row) with
  | some e =>
    if e.2.low ≠ low then 0
    else if e.2.since ≤ r0 s Reg.tickSequence then e.2.ports ||| e.2.added else e.2.ports
  | none => 0

/-- Arbitrate for one pair. -/
def arbitratePair (pair : Nat) (s : State) : State :=
  match heardBoth s.tw.notices s.tw.prevNotices pair with
  | none => s
  | some (hi, lo) =>
    let ports := (pairNotices s.tw.notices pair).foldl (fun m n => if n.uid = lo.uid then m ||| 2 ^ n.port else m) 0
    let row := match s.tw.arb.find? (fun e => e.2.pair = pair) with
      | some e => some e.1
      | none => freeArbRow s
    match row with
    | none => s
    | some r =>
      let s := setArb r { pair := pair, follow := hi.uid, low := lo.uid, ports := portsBlocked s r lo.uid
                          added := ports, since := r0 s Reg.tickSequence + 1, silent := 0 } s
      forL (onesList 64 ports) (fun p s => notifyOnPort p 0 5 (dualActiveBody s pair hi.uid) s) s

/-- The arbiter's part of the heartbeat job. -/
def arbiterJob (s : State) : State :=
  let s := forL s.tw.arb (fun e s =>
    let heard := s.tw.notices.any (fun n => n.pair = e.2.pair && n.uid = e.2.low)
    setArb e.1 { e.2 with silent := if heard then 0 else e.2.silent + 1 } s) s
  let pairs := s.tw.notices.foldl (fun l n => if l.contains n.pair then l else l ++ [n.pair]) []
  let s := if r0 s Reg.twinArbitrate = 1 then forL pairs arbitratePair s else s
  modTw (fun t => { t with notices := [], prevNotices := t.notices }) s

/-! Receiving (R338, R339, R344-R347). -/

/-- The 46 characters of a heartbeat on the pair (R338). -/
def hbChars (body : Bytes) : List HbChar := .k27 :: (body ++ bytesLE 4 (crc32c body)).map .data ++ [.k29]

/-- A heartbeat as the pair frames it: the right characters around it, a body of 40 bytes and its CRC (R338). In-band the Lorak
PDU that bears it has its own, of which the command tells in the same form (log 55). -/
def hbFramed (body : Bytes) (framed : HbFraming) (crc : Bytes) : Bool :=
  decide (framed = ⟨.k27, [.k29]⟩) && decide (body.length = 40) && decide (crc = bytesLE 4 (crc32c body))

/-- The fields of a heartbeat body (R337). -/
def hbRole (b : Bytes) : Nat := leAt b 1 1
def hbPair (b : Bytes) : Nat := leAt b 2 2
def hbRank (b : Bytes) : Nat := leAt b 4 1 % 2
def hbUid (b : Bytes) : Nat := leAt b 12 8
def hbTick (b : Bytes) : Nat := leAt b 20 4
def hbSendTime (b : Bytes) : Nat := readingOf128 (leAt b 24 16)

/-- A valid heartbeat (R339). -/
def hbValid (s : State) (b : Bytes) : Bool :=
  decide (b.length = 40) && decide (leAt b 0 1 = 1) && decide (hbPair b = r0 s Reg.twinPairId) &&
  decide (hbUid b = r0 s Reg.twinPeerUid)

/-- The peer outranks this twin by its heartbeat (R336). -/
def peerAbove (s : State) (b : Bytes) : Bool := outranks (hbRank b) (hbUid b) (r0 s Reg.twinRank) (ownUid s)

/-- What every valid heartbeat body of the peer tells: its rank (R336) and, if it is active above this twin, R347. -/
def notePeer (b : Bytes) (s : State) : State :=
  let above := peerAbove s b
  let s := modTw (fun t => { t with peerOutranks := above, gotOutranked := t.gotOutranked || (above && decide (hbRole b = 2)) }) s
  setStrapConflict (decide (hbRank b = r0 s Reg.twinRank)) s

/-- The bits of HealthWord that are not reserved (R342). -/
def healthBits : Nat := 0x00FFFFC0

/-- A valid heartbeat on a path; the reserved bits of TwinPeerHealthWord read 0 (R8, R342). -/
def takeHeartbeat (path : HbPath) (b : Bytes) (arrival : Nat) (s : State) : State :=
  let hear (p : TwPath) : TwPath := { p with heard := lastN 16 (p.heard ++ [hbTick b]) }
  let s := w0 Reg.twinPeerHealthWord (leAt b 8 4 &&& healthBits) (w0 Reg.twinPeerHealthFigure (leAt b 5 1) (w0 Reg.twinPeerRole (hbRole b) s))
  let delay : Rat := Rat.ofInt (r0 s Reg.twinHbDelay) * 65536 / 1000
  let off := nearest (Rat.ofInt ((arrival : Int) - (hbSendTime b : Int)) / 2 ^ 24 - delay)
  let s := modTw (fun t => { t with gotStandby := t.gotStandby || decide (hbRole b = 1) }) s
  let s := match path with
    | .pair => modTw (fun t => { t with pair := hear t.pair, gotShadow := some off }) s
    | .inband => modTw (fun t => { t with inband := hear t.inband }) s
  notePeer b s

/-- A TWIN-ACTIVE notice (R346, R347): PairId is its bits [11:0]. -/
def takeActive (port : Nat) (b : Bytes) (s : State) : State :=
  if b.length ≠ 40 ∨ leAt b 0 1 ≠ 1 then s
  else
    let n : TwNotice := { pair := hbPair b % 4096, uid := hbUid b, rank := hbRank b, port := port }
    let s := modTw (fun t => { t with notices := t.notices ++ [n] }) s
    if twinOn s && hbValid s b then notePeer b (modTw (fun t => { t with gotActive := true }) s) else s

/-- A DUAL-ACTIVE notice that names this pair and another twin (R347). -/
def takeDual (b : Bytes) (s : State) : State :=
  if twinOn s ∧ b.length = 20 ∧ leAt b 0 2 = r0 s Reg.twinPairId ∧ leAt b 4 8 ≠ ownUid s then
    modTw (fun t => { t with gotDual := true }) s
  else s

/-- The heartbeat job takes a message (R345); an invalid heartbeat is no heartbeat (R339). -/
def takeTwMsg (m : TwMsg) (s : State) : State :=
  match m with
  | .heartbeat path b arrival => if twinOn s && hbValid s b then takeHeartbeat path b arrival s else s
  | .active port b => takeActive port b s
  | .dual b => takeDual b s

/-- A message waits for the next heartbeat job (R345); it is lost while the Curator, whose job that is, does not run. -/
def queueTwMsg (m : TwMsg) (s : State) : State :=
  if curatorRuns s then modTw (fun t => { t with inbox := t.inbox ++ [m] }) s else s

/-- The sub-index of a path in TwinHbErrors (R338). -/
def hbPathIdx (path : HbPath) : Nat :=
  match path with
  | .pair => 0
  | .inband => 1

/-- A heartbeat arrives: a wrong frame is discarded and counted (R338). -/
def heartbeatIn (path : HbPath) (body : Bytes) (whole : Bool) (arrival : Nat) (s : State) : State :=
  if whole then queueTwMsg (.heartbeat path body (cycleReading s arrival)) s else inc Reg.twinHbErrors (hbPathIdx path) s

/-- TWIN_HEARTBEAT_RECEIVE (R338, R339). -/
def execTwinHeartbeatReceive (path : HbPath) (body : Bytes) (framed : HbFraming) (crc : Bytes) (arrival : Nat) (s : State) :
    Host.Outcome State Fault Refusal :=
  .next (heartbeatIn path body (hbFramed body framed crc) arrival s)

/-- TWIN_ACTIVE_RECEIVE (R345-R347). -/
def execTwinActiveReceive (port : Fin 64) (body : Bytes) (s : State) : Host.Outcome State Fault Refusal :=
  .next (queueTwMsg (.active port.val body) s)

/-- DUAL_ACTIVE_RECEIVE (R347). -/
def execDualActiveReceive (_ : Fin 64) (body : Bytes) (s : State) : Host.Outcome State Fault Refusal :=
  .next (queueTwMsg (.dual body) s)

/-! The heartbeat job (R337-R347). -/

/-- The miss record of one path for the tick that has ended (R339, R340). -/
def judgePath (bit ended : Nat) (p : TwPath) (s : State) : TwPath × State :=
  let good := p.heard.contains (ended % 2 ^ 32)
  let rest := p.heard.filter (fun t => t ≠ ended % 2 ^ 32)
  let s := w0 Reg.twinPathState (setBit (r0 s Reg.twinPathState) bit good) s
  if good then
    let s := if 16 ≤ p.goodRun + 1 ∧ s.tw.degraded.testBit bit then setDegraded (setBit s.tw.degraded bit false) s else s
    ({ heard := rest, misses := 0, goodRun := p.goodRun + 1 }, setTwinFlag 1 false s)
  else ({ heard := rest, misses := p.misses + 1, goodRun := 0 }, inc Reg.twinHbMissed bit s)

/-- TwinShadowOffset and ShadowFault of a standby twin (R344). -/
def shadowJob (s : State) : State :=
  let t := s.tw
  if twinActive s || !(r0 s Reg.twinPathState).testBit 0 then s
  else
    let l := match t.gotShadow with | some x => lastN 64 (t.shadow ++ [x]) | none => t.shadow
    let m := nearest (meanInts l)
    let far := decide (r0 s Reg.twinShadowLimit * 65536 < m.natAbs * 1000)
    let up := if far then t.overRun + 1 else 0
    let down := if far then 0 else t.underRun + 1
    let fault := if 64 ≤ up then true else if 64 ≤ down then false else t.shadowFault
    w0 Reg.twinShadowOffset (ofSigned 64 m)
      (modTw (fun t => { t with shadow := l, overRun := up, underRun := down, shadowFault := fault }) s)

/-- HealthWord and HealthFigure (R342): a lane error counts in the jobs of the 8,000 ticks after its own. -/
def healthJob (s : State) : State :=
  let servo := r0 s Reg.servoState
  let loop := r0 s Reg.loopState
  let lane := decide (s.tw.laneErrAt ≠ 0) && decide (r0 s Reg.tickSequence ≤ s.tw.laneErrAt - 1 + 8000)
  let tdc := s.tdc.testFailed || (List.range 80).any (fun c => decide (r1 s Reg.tdcChannelState c = 5))
  let fac := (List.range 80).any (fun c => decide (r1 s Reg.tdcCalSource c = 1))
  let syn := (List.range 4).any (fun k => synEnabled s k && decide (r1 s Reg.synState k = 4))
  let up := ((List.range 64).filter (laneUp s)).length
  let word := servo * 2 ^ 21 + loop * 2 ^ 18 + b2n lane * 2 ^ 17 + b2n tdc * 2 ^ 16 + b2n s.tw.shadowFault * 2 ^ 15 +
    b2n fac * 2 ^ 14 + b2n syn * 2 ^ 13 + up * 2 ^ 6
  let less := 64 * b2n lane + 64 * b2n tdc + 64 * b2n (decide (servo ≠ 2)) + 32 * b2n s.tw.shadowFault + 32 * b2n syn +
    32 * b2n (decide (loop ≠ 2)) + 16 * b2n fac
  w0 Reg.twinHealthWord word (w0 Reg.twinHealthFigure (255 - less) s)

/-- The 40-byte body (R337), after the judgement of the same job (R340). -/
def heartbeatBody (s : State) (sendTime : Nat) : Bytes :=
  let flags := r0 s Reg.twinRank % 2 + 2 * b2n (twinFlag s 0 || decide (s.tw.degradeDue ≠ 0)) +
    4 * b2n (twinFlag s 1 || s.tw.failDue) + 8 * b2n (decide (r0 s Reg.tickSequence < s.tw.dualUntil))
  bytesLE 1 1 ++ bytesLE 1 (r0 s Reg.twinRole) ++ bytesLE 2 (r0 s Reg.twinPairId) ++ bytesLE 1 flags ++
  bytesLE 1 (r0 s Reg.twinHealthFigure) ++ bytesLE 2 0 ++ bytesLE 4 (r0 s Reg.twinHealthWord) ++ bytesLE 8 (ownUid s) ++
  bytesLE 4 (tickNo s) ++ bytesLE 16 sendTime

/-- Send the heartbeats and, when active, the TWIN-ACTIVE notices (R337, R345); when within the 20 µs the start character
leaves is free. -/
def sendHeartbeats (s : State) : State :=
  let d := draw s
  let s := d.2
  let at_ := s.counter + Config.freeValue d.1 % (20000 * unitsPerNs)
  let b := heartbeatBody s (time128 at_)
  let s := emit (.heartbeat (hbChars b)) s
  let inb := heartbeatBody s 0
  let peer := r0 s Reg.twinPeerAddress
  let s := if r0 s Reg.twinHbPort = 0xFF then s else notifyOnPort (r0 s Reg.twinHbPort) peer 3 inb s
  if !twinActive s then s
  else
    let s := forL (onesList 64 (r0 s Reg.twinNoticePorts)) (fun p s => notifyOnPort p 0 4 inb s) s
    if peer = 0 then s else notifyRouted peer 4 inb s

/-- The TDC self-test of a standby twin: the next channel that has an input, once it is in no stand-in (R343). -/
def selfTestJob (s : State) : State :=
  if !twinStandby s || selfTestBusy s then s
  else
    let chans := (List.range 0x48).filter (hasEdges s)
    match (chans.find? (fun c => decide (s.tw.nextTest ≤ c))).orElse (fun _ => chans.head?) with
    | some c => if standsIn s c then s else startSelfTest c (modTw (fun t => { t with nextTest := c + 1 }) s)
    | none => s

/-- Judge both paths for the tick that has ended (R339, R340). A failure is declared once, and again by a twin that is standby
while it lasts. -/
def judgePaths (ended : Nat) (s : State) : State :=
  let a := judgePath 0 ended s.tw.pair s
  let b := judgePath 1 ended a.2.tw.inband a.2
  let s := modTw (fun t => { t with pair := a.1, inband := b.1 }) b.2
  let both := decide (3 ≤ a.1.misses) && decide (3 ≤ b.1.misses)
  let s := if both && (!twinFlag s 1 || twinStandby s) then modTw (fun t => { t with failDue := true }) s else s
  let lone := if both then 0 else b2n (decide (3 ≤ a.1.misses)) + 2 * b2n (decide (3 ≤ b.1.misses))
  let new := lone &&& (s.tw.degraded ^^^ 3)
  if new ≠ 0 then modTw (fun t => { t with degradeDue := new }) s else s

/-- Judge the records of the tick that has ended (R340, R341, R347); ticks before the last change of the configuration are not
judged (R339). -/
def judgeTwin (ended : Nat) (s : State) : State :=
  let s := if s.tw.judgeFrom < r0 s Reg.tickSequence then judgePaths ended s else s
  let run := if s.tw.gotStandby then s.tw.standbyRun + 1 else 0
  let s := modTw (fun t => { t with standbyRun := run }) s
  let s := if r0 s Reg.twinRole = 1 ∧ 3 ≤ run ∧ !s.tw.peerOutranks then modTw (fun t => { t with takeoverDue := true }) s else s
  let s := if s.tw.wasActive && s.tw.gotActive then inc0 Reg.twinDualActiveTicks s else s
  let s := setTwinFlag 2 (twinActive s && s.tw.gotActive) s
  if s.tw.wasActive && twinActive s && (s.tw.gotDual || (s.tw.gotOutranked && s.tw.prevOutranked)) then
    modTw (fun t => { t with roleNext := some 1 }) s
  else s

/-- What the last tick left over, and the role that takes effect at this boundary (R335; log 12). -/
def twinBoundary (s : State) : State :=
  let s := if s.tw.failDue then peerFailed s else s
  let s := if s.tw.degradeDue ≠ 0 then pathDegraded s else s
  let s := if s.tw.takeoverDue then rankTakeover s else s
  let s := forN 16 (fun r s => if arbSilent s r then arbRelease r s else s) s
  applyRole (r0 s Reg.tickSequence) s

/-- The heartbeat job of a tick (R15, R337): `ended` is the tick that has ended. -/
def heartbeatJob (ended : Nat) (s : State) : State :=
  let s := forL s.tw.inbox takeTwMsg (modTw (fun t => { t with inbox := [] }) s)
  let s := if twinOn s then selfTestJob (sendHeartbeats (healthJob (shadowJob (judgeTwin ended s)))) else s
  let s := arbiterJob s
  modTw (fun t => { t with prevOutranked := t.gotOutranked, gotOutranked := false, gotStandby := false, gotActive := false
                           gotDual := false, gotShadow := none }) s

/-- Errors that the self-test lanes saw in the tick that has ended (R342, R343). -/
def selfTestErrors (l : List LaneTick) (s : State) : State :=
  if !twinStandby s then s
  else
    let n := l.foldl (fun a x =>
      let k := x.lane.val
      if (r0 s Reg.twinSelfTestLanes).testBit k ∧ (checkerHeard s k) then a + (checkerErrors x s).1 else a) 0
    if n = 0 then s
    else count Reg.twinSelfTestLaneErrors 0 0 n (modTw (fun t => { t with laneErrAt := r0 s Reg.tickSequence + 1 }) s)

end Sys2Proof.Machine
end

