-- ==== Sys2Proof/Machine/FrameFlow.lean ====
section
/-! DEFINITION. A frame on its way through the core (chapters 5 and 6): first cell, end of reception, transmission, ageing
of heads, and the commands of the forwarding table. -/

namespace Sys2Proof.Machine

/-! Judgement at the MAC (R118, R120). -/

/-- What R118 finds of a frame. -/
inductive Verdict where
  | runt | oversize | stomped | fcsError | legal
deriving DecidableEq, Repr

/-- The bytes without the FCS. -/
def frameData (b : Bytes) : Bytes := b.take (b.length - 4)

/-- The FCS as the value of its four bytes, least significant first on the line's first byte. -/
def frameFcs (b : Bytes) : Nat := leAt b (b.length - 4) 4

/-- The complement of the correct FCS (R120). -/
def stompFcs (data : Bytes) : Nat := crc32Eth data ^^^ 0xFFFFFFFF

/-- A frame over these bytes with a stomped FCS. -/
def stompedFrame (data : Bytes) : Bytes := data ++ bytesLE 4 (stompFcs data)

/-- The tests of R118 in their order. -/
def verdictOf (b : Bytes) (limit : Nat) (ending : RxEnd) : Verdict :=
  if b.length < 64 then .runt
  else if limit < b.length then .oversize
  else if frameFcs b = stompFcs (frameData b) then .stomped
  else if frameFcs b ≠ crc32Eth (frameData b) ∨ ending ≠ .normal then .fcsError
  else .legal

/-- R123: what the module takes before classification. -/
def macTakes (b : Bytes) : Bool :=
  let t := outerType b
  let tagged := decide (t = 0x8100) || decide (t = 0x88A8)
  decide (t = 0x8808) || decide (t = 0x88B5) || decide (t = 0x88B6) ||
  (tagged && (decide (beAt b 16 2 = 0x8808) || (decide (beAt b 16 2 = 0x8100) && decide (beAt b 20 2 = 0x8808))))

/-- A MAC control frame that is neither PAUSE nor PFC to the reserved address, untagged (R123). -/
def controlOther (b : Bytes) : Bool :=
  macTakes b && decide (outerType b ≠ 0x88B5) && decide (outerType b ≠ 0x88B6) &&
  !(decide (outerType b = 0x8808) && decide (beAt b 0 6 = 0x0180C2000001) &&
    (decide (beAt b 14 2 = 1) || decide (beAt b 14 2 = 0x0101)))

/-- Count a legal frame (R133). -/
def countRx (slot : Nat) (b : Bytes) (s : State) : State :=
  let dst := beAt b 0 6
  let kind := if dst = 0xFFFFFFFFFFFF then Reg.rxBroadcast else if isGroup b then Reg.rxMulticast else Reg.rxUnicast
  portEvent slot 1 1 (inc kind slot (count Reg.rxOctets slot 0 b.length (inc Reg.rxFrames slot s)))

/-- Count a frame under the test that applies. -/
def countVerdict (slot : Nat) (b : Bytes) (v : Verdict) (s : State) : State :=
  match v with
  | .runt => portEvent slot 5 1 (inc Reg.rxRunts slot s)
  | .oversize => portEvent slot 5 1 (inc Reg.rxOversize slot s)
  | .stomped => portEvent slot 5 1 (inc Reg.rxStomped slot s)
  | .fcsError => portEvent slot 5 1 (inc Reg.rxFcsErrors slot s)
  | .legal => countRx slot b s

/-! Frames in the buffer. -/

/-- A whole frame without references leaves the buffer. -/
def settleFrame (id : Nat) (s : State) : State :=
  match getFrame s id with
  | some f => if f.whole && f.refs.isEmpty then freeFrame f s else s
  | none => s

/-- A cell finds no room: the count and the event of R152. -/
def headroomDrop (port slot c : Nat) (s : State) : State :=
  raise (Ev.headroom + port) (inc (Reg.headroomDrops + c) slot s)

/-- Some frame still in reception will enter queue c of a slot (R156). -/
def expecting (s : State) (slot c : Nat) : Bool :=
  s.ports.any (fun e => match e.2.rx with | some x => decide (x.cls = c) && x.rest.contains slot | none => false)

/-- The copy to a slot cuts through (R156). -/
def cutsThrough (s : State) (ingress slot c limit : Nat) : Bool :=
  let p := getPort s slot
  (r0 s Reg.cutThroughClassMask).testBit c &&
  !(p.queue.any (fun q => q.cls = c)) && !expecting s slot c && !isHeld s slot c &&
  decide (linkStateOf s slot = 1) && p.tx.isNone && p.controls.isEmpty && lineFree s slot && (selectQueue s slot).isNone &&
  decide (slotSpeed s slot ≤ slotSpeed s ingress) && gateAdmits s slot c limit

/-! The Archive's record (R382). -/

/-- The record of a selection. -/
def archiveRecord (s : State) (port cls trigger copies bank cell : Nat) (b : Bytes) (ball : Int) (coarse combiner : Bool)
    (seq : Nat) : Nat :=
  let head := b.take 128
  ofLE (head ++ List.replicate (128 - head.length) 0 ++ bytesLE 4 b.length ++ bytesLE 1 port ++ bytesLE 1 0xFF ++
    bytesLE 1 cls ++ bytesLE 1 0 ++ bytesLE 4 (bank * 2 ^ 20 + cell) ++ bytesLE 4 seq ++
    bytesLE 16 (time128 (ballReading s ball)) ++ bytesLE 16 0 ++ bytesLE 8 0 ++ bytesLE 2 copies ++ bytesLE 1 trigger ++
    bytesLE 1 (4 * b2n coarse + 8 * b2n combiner) ++ bytesLE 4 (tickNo s) ++ bytesLE 64 0)

/-- The sampler judges a frame at its first cell (R379-R382): the Sequence of its record, if it is selected. -/
def archiveSelect (port cls bank : Nat) (egress : List Nat) (coarse combiner : Bool) (b : Bytes) (ball : Int) (s : State) :
    Option Nat × State :=
  match archiveJudge port cls egress s with
  | (none, s) => (none, s)
  | (some trigger, s) =>
    let d := draw s
    let cell := Config.freeCell d.1 % bankCapacity bank
    let r := archiveStore (archiveRecord d.2 port cls trigger egress.length bank cell b ball coarse combiner) d.2
    (some r.1, r.2)

/-- The first copy of a frame begins on a slot (R382, R383). -/
def archiveEgress (f : Frame) (slot : Nat) (cut : Bool) (s : State) : State :=
  match f.selected with
  | none => s
  | some q =>
    let t := s.now + bytesTime s slot 8
    let ball := egressBall s slot t
    let residence := (ball - f.startAt + 500) / 1000
    archiveUpdate q (fun v =>
      if (getBytes v 187 1).testBit 0 then v
      else
        let flags := setBit (setBit (getBytes v 187 1) 0 true) 1 cut
        let v := putBytes (putBytes v 133 1 ((portOf s slot).getD 0xFF)) 135 1 1
        let v := putBytes (putBytes v 160 16 (time128 (ballReading s ball))) 176 8 (ofSigned 64 residence)
        putBytes v 187 1 flags) s

/-- The length of a frame is known at its end. -/
def archiveLength (seq : Option Nat) (n : Nat) (s : State) : State :=
  match seq with
  | none => s
  | some q => archiveUpdate q (fun v => putBytes v 128 4 n) s

/-! The first cell (R162). -/

/-- What the classifier and the lookups decided of a frame. -/
structure Decision where
  cls : Nat
  vid : Nat
  /-- Egress slots, in port order; none for a contribution. -/
  egress : List Nat
  contrib : Option Nat
  pcIds : List (Nat × Nat)
  pcAt : Nat
deriving DecidableEq, Repr

def setRx (slot : Nat) (x : RxSt) (s : State) : State := modPort slot (fun p => { p with rx := some x }) s

/-- The copy at the head of queue c begins (R129, R146). -/
def beginCopy (slot c : Nat) (s : State) : State :=
  match headOf s slot c with
  | none => s
  | some q =>
    match getFrame s q.frame with
    | none => dequeue slot q.frame s
    | some f =>
      let s := archiveEgress f slot q.cut s
      let s := dequeue slot q.frame s
      let t : TxSt := { frame := q.frame, cls := c, cut := q.cut, residue := q.residue, startAt := s.now, struck := 0 }
      let s := modPort slot (fun p => { p with tx := some t }) s
      judgePromotion slot c s

/-- Store the first cell of a frame whose decisions are made; enqueue and begin the copies that cut through
(R149, R156, R158). Where the timestamp symbol stood after its edge (R305, R382) the command does not say: a free value (log 6). -/
def storeFirst (port slot : Nat) (x : RxSt) (d : Decision) (b : Bytes) (load : List Nat) (s : State) : State :=
  let r := chargeCell slot d.cls s
  match r.1, pickBank r.2 load [] [] with
  | true, some bank =>
    let s := r.2
    let k := draw s
    let i := receiveInstant s slot x.startAt (Config.freeValue k.1 % 1024)
    let ball := nearest (i.1 * 65536)
    let a := archiveSelect port d.cls bank (d.egress.filterMap (portOf s)) i.2 d.contrib.isSome b ball k.2
    let s := a.2
    let id := s.core.nextId
    let f : Frame :=
      { id := id, origin := .ingress slot, cls := d.cls, vid := d.vid, bytes := b, cells := 1, banks := [bank]
        arrival := coreMicros s, whole := false, stomp := false
        refs := if d.contrib.isSome then [combinerSlot] else d.egress
        pcIds := d.pcIds, pcAt := d.pcAt, selected := a.1, startAt := ball }
    let cut := d.egress.filter (fun e => cutsThrough s slot e d.cls x.limit)
    let rest := d.egress.filter (fun e => !cut.contains e)
    let s := perfEvent 4 1 0 1 (noteMinFree (setFrame f { s with core := { s.core with nextId := id + 1 } }))
    let s := placeRefs slot f.refs.length s
    let s := setRx slot { x with frame := some id, cut := cut, rest := rest, contrib := d.contrib, selected := a.1
                                 copies := d.egress.length } s
    forL cut (fun e s =>
      let s := enqueue e { frame := id, cls := d.cls, cut := true, residue := false, deferred := false } s
      beginCopy e d.cls (inc Reg.cutThroughFrames e s)) s
  | _, _ => setRx slot x (xonSweep (headroomDrop port slot d.cls r.2))

/-- A copy set that is empty is discarded (R139 step 6); one of two or more is multicast. -/
def forwardFirst (port slot : Nat) (x : RxSt) (d : Decision) (b : Bytes) (load : List Nat) (s : State) : State :=
  if d.egress.isEmpty then setRx slot x (inc Reg.forwardDiscards slot s)
  else storeFirst port slot x d b load (if 2 ≤ d.egress.length then inc Reg.multicastFrames slot s else s)

/-- Steps 5 of R139 with the ports that a twin rule removes (R335, R346), as slots. -/
def egressSlots (s : State) (set vid port : Nat) : List Nat :=
  ((egressPorts s set vid port).filter (fun p => !twinBlocks s p)).filterMap (slotOf s)

/-- Forwarding of a classified frame that has passed step 1 (R139, R183, R201). -/
def routeFirst (port slot : Nat) (x : RxSt) (t : Tags) (b : Bytes) (load : List Nat) (s : State) : State :=
  let pc := beAt b (t.head + 4) 2
  let ecpri := decide (t.etherType = 0xAEFE)
  let typ := beAt b (t.head + 1) 1
  let d : Decision := { cls := x.cls, vid := x.vid, egress := [], contrib := none, pcIds := [], pcAt := 0 }
  match (if ecpri && decide (typ = 0) then contributorFor s port pc else none) with
  | some row =>
    (match combinerRefuses s with
     | some f => setRx slot x (f s)
     | none => storeFirst port slot x { d with contrib := some row } b load s)
  | none =>
    let chained := beAt b t.head 1 % 2 = 1
    match (if ecpri && !chained && (decide (typ = 0) || decide (typ = 2)) then downlinkFor s port pc else none) with
    | some g =>
      (match combinerRefuses s with
       | some f => setRx slot x (f s)
       | none =>
         let ports := downlinkPorts s g.1 g.2
         let set := ports.foldl (fun m e => m ||| 2 ^ e.1) 0
         let slots := egressSlots s set x.vid port
         let ids := ports.filterMap (fun e => (slotOf s e.1).map (fun k => (k, e.2)))
         forwardFirst port slot x { d with egress := slots, pcIds := ids, pcAt := t.head + 4 } b load
           (count Reg.groupDownlinkFrames 0 g.1 1 s))
    | none =>
      let f := firstSet s (beAt b 0 6) x.vid
      let s := if f.2 then inc Reg.floodedFrames slot s else s
      forwardFirst port slot x { d with egress := egressSlots s f.1 x.vid port } b load s

/-- A frame whose first n bytes have come by now: the PortMaxFrame in force when its first byte did (R122). -/
def rxBegun (slot n : Nat) (s : State) : RxSt :=
  let p := getPort s slot
  let start := s.now - bytesTime s slot n
  { frame := none, limit := if start < p.limitAt then p.limitWas else r1 s Reg.portMaxFrame slot, startAt := start, cls := 0
    vid := 0, cut := [], rest := [], contrib := none, admitted := false, selected := none, copies := 0, tenant := 0, interval := 0 }

/-- The first cell of a frame on a slot is written: classification, filters and decisions bind. `bytes` are those received
by now. -/
def firstCell (port slot : Nat) (bytes : Bytes) (load : List Nat) (s : State) : State :=
  let b := bytes.take 128
  let x := rxBegun slot bytes.length s
  let limit := x.limit
  if b.length < 128 ∧ verdictOf b limit .normal ≠ .legal then setRx slot x s
  else if macTakes b then setRx slot x s
  else
    let t := tagsOf s slot b
    let k := classify slot port t b s
    let s := closeDue (perfEvent 5 1 (slot / 16) 1 k.2)
    let x := { x with cls := k.1, vid := t.vid, tenant := tenantOf s 0 slot t.vid, interval := r0 s Reg.recordSequence }
    if twinBlocks s port then setRx slot x (inc0 Reg.twinStandbyDiscards s)
    else if !vlanAdmits s port t.vid then setRx slot x (inc Reg.ingressFiltered slot s)
    else routeFirst port slot { x with admitted := true } t b load s

/-- FIRST_CELL_WRITTEN (R162). Under PCS loopback the MAC hears its own frames alone (R109). -/
def execFirstCellWritten (port : Fin 64) (dt : Nat) (bytes : FrameBytes) (bankLoad : List Nat) (s : State) :
    Host.Outcome State Fault Refusal :=
  let s := passCore dt s
  match slotOf s port.val with
  | none => .next s
  | some slot =>
    if running s 4 && decide (linkStateOf s slot = 1) && (getPort s slot).rx.isNone then
      .next (firstCell port.val slot bytes bankLoad s)
    else .next s

/-! The end of reception (R118-R120, R149-R160). -/

/-- Charge and place the later cells of a frame, n in all; the flag tells whether every one was stored. -/
def chargeRest (slot c : Nat) (load : List Nat) : Nat → Frame → State → Bool × Frame × State
  | 0, f, s => (true, f, s)
  | n + 1, f, s =>
    let r := chargeCell slot c s
    match r.1, pickBank r.2 load f.banks [] with
    | true, some bank =>
      let f := { f with cells := f.cells + 1, banks := f.banks ++ [bank] }
      chargeRest slot c load n f (perfEvent 4 1 0 1 (noteMinFree (setFrame f r.2)))
    | _, _ => (false, f, r.2)

/-- The references to the slots of a frame's stored copies end without a copy (R159). -/
def dropRest (id fate : Nat) (rest : List Nat) (s : State) : State :=
  forL rest (fun e s => endRef id e fate s) s

/-- R152: the frame's cells are freed, its cut copies end stomped with the bytes held. -/
def dropForHeadroom (port slot : Nat) (x : RxSt) (f : Frame) (b : Bytes) (s : State) : State :=
  let s := headroomDrop port slot x.cls s
  let held := b.take (128 * f.cells)
  let g := { f with bytes := stompedFrame held, cells := 0, banks := [], whole := true, stomp := true }
  let s := xonSweep (perfEvent 4 2 0 f.cells (setAcct slot x.cls (unchargeAcct f.cells (getAcct s slot x.cls)) (setFrame g s)))
  let s := if f.refs.isEmpty then s else dropRest f.id 4 (if x.contrib.isSome then [combinerSlot] else x.rest) s
  settleFrame f.id s

/-- The bytes with which the cut copies of a frame that failed R118 end (R119, R120). -/
def badEnding (b : Bytes) (limit : Nat) (v : Verdict) (ending : RxEnd) : Bytes :=
  match v with
  | .oversize => stompedFrame (b.take limit)
  | _ => if ending = .normal then stompedFrame (frameData b) else stompedFrame b

/-- A frame whose cells are all stored ends: the stored copies of a legal one enter their queues, or the Combiner's; a
bad one's are discarded. -/
def endStored (x : RxSt) (f : Frame) (b : Bytes) (v : Verdict) (ending : RxEnd) (s : State) : State :=
  if v = .legal then
    let s := setFrame { f with bytes := b, whole := true } s
    match x.contrib with
    | some row =>
      (match combinerRefuses s with
       | some g => endRef f.id combinerSlot 7 (g s)
       | none =>
         let c : Contribution := { frame := f.id, row := row, arrival := coreEdgeReading s }
         { s with comb := { s.comb with waiting := s.comb.waiting ++ [c] } })
    | none =>
      let multi := decide (2 ≤ x.copies)
      settleFrame f.id (forL x.rest (fun e s =>
        enqueue e { frame := f.id, cls := x.cls, cut := false, residue := multi, deferred := false } s) s)
  else
    let d := draw s
    let s := setFrame { f with bytes := badEnding b x.limit v ending, whole := true, stomp := true } d.2
    settleFrame f.id (dropRest f.id (Config.freeValue d.1 % 8) (if x.contrib.isSome then [combinerSlot] else x.rest) s)

/-- What the core does with the frame of a reception that ends. -/
def endInCore (port slot : Nat) (x : RxSt) (b : Bytes) (v : Verdict) (ending : RxEnd) (load : List Nat) (s : State) : State :=
  let s := archiveLength x.selected b.length s
  match x.frame.bind (getFrame s) with
  | none => s
  | some f =>
    let kept := min b.length x.limit
    let r := chargeRest slot x.cls load (ceilDiv kept 128 - 1) f s
    if r.1 then endStored x r.2.1 b v ending r.2.2
    else dropForHeadroom port slot x r.2.1 (b.take kept) r.2.2

/-- Signaling and Management messages of PTP are counted and ignored (R299, R301). -/
def ptpIgnored (s : State) (slot : Nat) (b : Bytes) : Bool :=
  let typ := beAt b 14 1 % 16
  decide (r1 s Reg.ptpPortProfile slot ≠ 0) && decide (outerType b = 0x88F7) && decide (beAt b 0 6 = ptpDest s slot) &&
  (decide (typ = 12) || decide (typ = 13))

/-- What a legal frame brings beside its copies: learning, the Vitrine's count, PTP's (R144, R399, R301). -/
def legalEnd (port slot : Nat) (x : RxSt) (b : Bytes) (s : State) : State :=
  if macTakes b then (if controlOther b then inc Reg.rxControlOther slot s else s)
  else
    let src := beAt b 6 6
    let s := if x.admitted && decide (beAt b 6 1 % 2 = 0) then learn slot port src x.vid s else s
    let s := vitrineReceived x.tenant x.interval x.cls b.length s
    if ptpIgnored s slot b then inc Reg.ptpRxIgnored slot s else s

/-- A frame ends at the MAC of a slot. -/
def frameEnd (port slot : Nat) (x : RxSt) (b : Bytes) (ending : RxEnd) (load : List Nat) (s : State) : State :=
  let v := verdictOf b x.limit ending
  let s := countVerdict slot b v (modPort slot (fun p => { p with rx := none }) s)
  let s := endInCore port slot x b v ending load s
  if v = .legal then legalEnd port slot x b s else s

/-- A whole frame reaches the MAC of a slot; where its first cell has not been written before, it is written here. -/
def receiveFrame (port slot : Nat) (bytes : Bytes) (ending : RxEnd) (load : List Nat) (s : State) : State :=
  let s :=
    if (getPort s slot).rx.isSome then s
    else
      let x := rxBegun slot bytes.length s
      if bytes.length ≤ 128 ∧ verdictOf bytes x.limit ending ≠ .legal then setRx slot x s
      else firstCell port slot bytes load s
  match (getPort s slot).rx with
  | some x => frameEnd port slot x bytes ending load s
  | none => s

/-- FRAME_RECEIVED (R118): on a port whose link is up, or the end of a frame whose first cell came while it was. -/
def execFrameReceived (port : Fin 64) (dt : Nat) (bytes : FrameBytes) (ending : RxEnd) (bankLoad : List Nat) (s : State) :
    Host.Outcome State Fault Refusal :=
  let s := passCore dt s
  match slotOf s port.val with
  | none => .next s
  | some slot =>
    if running s 4 && (decide (linkStateOf s slot = 1) || (getPort s slot).rx.isSome) then
      .next (receiveFrame port.val slot bytes ending bankLoad s)
    else .next s

/-- Bytes of a frame in reception that have come by now, at least its first cell's. -/
def bytesCome (slot : Nat) (x : RxSt) (s : State) : Nat := (s.now - x.startAt) / (8 * psPerBit (slotSpeed s slot))

/-- A frame in reception on a slot whose group changes ends with its link (R118 test 4), with the bytes that have come by
now, of which those beyond the first cell are free values (log 6): where the core keeps nothing of it, oversize if more have
come than its limit, else with an FCS error. -/
def cutReception (slot : Nat) (s : State) : State :=
  match (getPort s slot).rx, portOf s slot with
  | some x, some port =>
    let n := bytesCome slot x s
    (match x.frame.bind (getFrame s) with
     | some f =>
       let d := draw s
       let l := freeLoad d.2
       frameEnd port slot x (f.bytes ++ bytesLE (n - f.bytes.length) (Config.freeValue d.1)) .lockLoss l.1 l.2
     | none =>
       let v := if x.limit < n then Verdict.oversize else Verdict.fcsError
       countVerdict slot [] v (modPort slot (fun p => { p with rx := none }) s))
  | _, _ => s

/-! Control frames (R123-R128, R151). -/

/-- A PAUSE frame acts on a slot, and RxPauseFrames counts it. The frame itself comes by FRAME_RECEIVED, which counts it in
RxFrames and loads no timer: the two rows share what one frame does (DESIGN CHOICE, log 74). -/
def takePause (slot quanta : Nat) (s : State) : State := inc Reg.rxPauseFrames slot (loadPause slot quanta s)

/-- A PFC frame acts on a slot, and RxPfcFrames counts it; the frame itself comes by FRAME_RECEIVED (DESIGN CHOICE, log 74). -/
def takePfc (slot enable : Nat) (times : List Nat) (s : State) : State :=
  let s := loadPfc slot enable times s
  let s := forN 8 (fun c s => if enable.testBit c then inc (Reg.rxPfcClassFrames + c) slot s else s) s
  inc Reg.rxPfcFrames slot s

/-- PAUSE_RECEIVE (R125). -/
def execPauseReceive (port : Fin 64) (dt : Nat) (quanta : BitVec 16) (s : State) : Host.Outcome State Fault Refusal :=
  let s := passCore dt s
  match slotOf s port.val with
  | none => .next s
  | some slot =>
    if running s 4 && decide (linkStateOf s slot = 1) then .next (takePause slot quanta.toNat s) else .next s

/-- PFC_RECEIVE (R125). -/
def execPfcReceive (port : Fin 64) (dt : Nat) (enable : BitVec 8) (time : List (BitVec 16)) (s : State) :
    Host.Outcome State Fault Refusal :=
  let s := passCore dt s
  match slotOf s port.val with
  | none => .next s
  | some slot =>
    if running s 4 && decide (linkStateOf s slot = 1) then .next (takePfc slot enable.toNat (time.map (·.toNat)) s) else .next s

/-- The end instant of a timer; 0 when it stands still. -/
def timerEnd (s : State) (slot : Nat) : HoldTimer → Nat
  | .pause => (getPort s slot).pauseEnd
  | .pfc c => tget (fun _ => 0) (getPort s slot).pfcEnd c.val

/-- HOLD_TIMER_EXPIRE (R127): the timer reaches its end; a queue that no timer holds is released. -/
def execHoldTimerExpire (port : Fin 64) (timer : HoldTimer) (s : State) : Host.Outcome State Fault Refusal :=
  match slotOf s port.val with
  | none => .next s
  | some slot =>
    let t := timerEnd s slot timer
    if t = 0 then .next s
    else
      let s := settleHolds slot (judgeGates (advanceTo t s))
      .next (modPort slot (fun p =>
        match timer with
        | .pause => { p with pauseEnd := 0 }
        | .pfc c => { p with pfcEnd := tdel p.pfcEnd c.val }) s)

/-- The 64 bytes of a PAUSE or PFC frame (R128): opcode, enable vector and times in IEEE 802.3's order. -/
def controlBytes (s : State) (c : Control) : Bytes :=
  ownFrame s 0x0180C2000001 0x8808
    (if c.pfc then bytesBE 2 0x0101 ++ bytesBE 2 c.enable ++ c.times.flatMap (bytesBE 2)
     else bytesBE 2 0x0001 ++ bytesBE 2 (c.times.headD 0))

/-- Under PCS loopback the port's MAC receives what it sends (R109, R110). -/
def looped (s : State) (slot : Nat) : Bool := decide (linkStateOf s slot = 2) && pcsLoopback s slot

/-- A frame that the MAC has sent returns to it. -/
def loopFrame (slot : Nat) (bytes : Bytes) (s : State) : State :=
  match portOf s slot with
  | some port =>
    let l := freeLoad (cutReception slot s)
    receiveFrame port slot bytes .normal l.1 l.2
  | none => s

/-- CONTROL_FRAME_SEND (R151, R128): the oldest queued control frame leaves when no frame is in progress. -/
def execControlFrameSend (port : Fin 64) (s : State) : Host.Outcome State Fault Refusal :=
  match slotOf s port.val with
  | none => .next s
  | some slot =>
    let p := getPort s slot
    match p.controls with
    | [] => .next s
    | c :: rest =>
      if running s 4 && carriesFrames s slot && p.tx.isNone && lineFree s slot then
        let s := setPort slot { p with controls := rest } s
        let s := inc (if c.pfc then Reg.txPfcFrames else Reg.txPauseFrames) slot (countTx slot 64 (occupyLine slot 64 s))
        if looped s slot then
          let s := loopFrame slot (controlBytes s c) s
          .next (releasePtp slot (if c.pfc then takePfc slot c.enable c.times s else takePause slot (c.times.headD 0) s))
        else .next (releasePtp slot (emit (.control slot c.pfc c.enable c.times (controlBytes s c)) s))
      else .next s

/-- PFC_REFRESH (R151). -/
def execPfcRefresh (port : Fin 64) (s : State) : Host.Outcome State Fault Refusal :=
  match slotOf s port.val with
  | none => .next s
  | some slot =>
    let t := (getPort s slot).refresh
    if t = 0 ∨ xoffMask s slot = 0 ∨ !running s 4 then .next s
    else
      let s := advanceTo t s
      let c := if sendsPause s slot then pauseControl (r0 s Reg.pfcQuanta) else pfcControl s slot 0
      .next (modPort slot (fun p => { p with refresh := t + refreshPeriod s slot }) (queueControl slot c s))

/-! Transmission (R129, R146, R160). -/

/-- EGRESS_FRAME_START (R146). -/
def execEgressFrameStart (port : Fin 64) (dt : Nat) (s : State) : Host.Outcome State Fault Refusal :=
  let s := passCore dt s
  match slotOf s port.val with
  | none => .next s
  | some slot =>
    let p := getPort s slot
    if running s 4 && carriesFrames s slot && p.tx.isNone && p.controls.isEmpty && lineFree s slot then
      match selectQueue s slot with
      | some c => .next (beginCopy slot c s)
      | none => .next s
    else .next s

/-- The bytes before the FCS of a frame's copy to a slot, as far as they have come: PC_ID replaced where R202 says so. -/
def copyData (f : Frame) (slot : Nat) : Bytes :=
  let d := if f.whole then frameData f.bytes else f.bytes
  match f.pcIds.find? (fun e => e.1 = slot) with
  | none => d
  | some e => d.take f.pcAt ++ bytesBE 2 e.2 ++ d.drop (f.pcAt + 2)

/-- The bytes of a whole frame's copy to a slot: where R202 replaces bytes the FCS is computed over what is sent. -/
def copyBytes (f : Frame) (slot : Nat) : Bytes :=
  match f.pcIds.find? (fun e => e.1 = slot) with
  | none => f.bytes
  | some _ => if f.stomp then stompedFrame (copyData f slot) else copyData f slot ++ bytesLE 4 (crc32Eth (copyData f slot))

def fromIngress (f : Frame) : Bool :=
  match f.origin with
  | .ingress _ => true
  | _ => false

/-- A copy leaves a slot: on the line, with a bad FCS at the far end where injected errors struck it (R108), or back to the
MAC under PCS loopback (R109). -/
def sendCopy (slot struck : Nat) (good : Bool) (b : Bytes) (s : State) : State :=
  if looped s slot then loopFrame slot b s
  else
    let a := arrivesBad slot struck s
    emit (.frame slot b (good && !a.1)) a.2

/-- A copy ends on a slot: counts, the bytes on the wire, its reference, the PTP frames that waited for it (R120, R133, R158,
R160, R302, R399). StoreForwardFrames
counts copies of received frames; those that the module originates, which are always stored, are not counted
(DEDUCED: R156 decides per received frame; log 41). -/
def endCopy (slot : Nat) (t : TxSt) (f : Frame) (s : State) : State :=
  let b := copyBytes f slot
  let s := modPort slot (fun p => { p with tx := none }) s
  let s :=
    if f.stomp then archiveRefate f.selected ((portOf s slot).getD 0xFF) 2 (countStomped slot s)
    else
      let s := countTx slot b.length s
      let s := if isManagement f then s else vitrineSent slot f.vid f.cls b.length s
      let s := if fromIngress f && !t.cut then inc Reg.storeForwardFrames slot s else s
      if t.residue then inc Reg.residueCopies slot s else s
  releasePtp slot (sendCopy slot t.struck (!f.stomp) b (releaseRef f.id slot s))

/-- EGRESS_FRAME_END (R160). A copy of a frame still in reception does not end. -/
def execEgressFrameEnd (port : Fin 64) (dt : Nat) (s : State) : Host.Outcome State Fault Refusal :=
  let s := passCore dt s
  match slotOf s port.val with
  | none => .next s
  | some slot =>
    match (getPort s slot).tx with
    | none => .next s
    | some t =>
      match getFrame s t.frame with
      | none => .next s
      | some f => if f.whole then .next (endCopy slot t f s) else .next s

/-- HEAD_FRAME_AGE (R155): the head of a queue has passed MaxResidence. -/
def execHeadFrameAge (port : Fin 64) (cls : Fin 8) (s : State) : Host.Outcome State Fault Refusal :=
  match slotOf s port.val with
  | none => .next s
  | some slot =>
    let c := cls.val
    match headOf s slot c with
    | none => .next s
    | some q =>
      match getFrame s q.frame with
      | none => .next s
      | some f =>
        let s := judgeGates (advanceTo ((f.arrival + r1 s Reg.maxResidence c + 1) * 1000000) s)
        let s := endRef f.id slot 3 (dequeue slot f.id s)
        .next (judgePromotion slot c (raise (Ev.aged + port.val) (inc (Reg.agedFrames + c) slot s)))

/-! The forwarding table (R145). -/

/-- FDB_AGE_SWEEP (R145). -/
def execFdbAgeSweep (s : State) : Host.Outcome State Fault Refusal :=
  if s.core.sweepAt = 0 ∨ !running s 4 then .next s
  else
    let s := fdbSweep (advanceTo s.core.sweepAt s)
    .next { s with core := { s.core with sweepAt := s.core.sweepAt + r0 s Reg.fdbAgeTime * 10 ^ 12 } }

/-- The effect of FdbAgeTime: the sweep period starts afresh (R145). -/
def effFdbAgeTime (_ v : Nat) (s : State) : State := restartSweep (w0 Reg.fdbAgeTime v s)

/-- FDB_AGE_TIME_WRITE (R145). -/
def execFdbAgeTimeWrite (w : WriteReq) (s : State) : Host.Outcome State Fault Refusal :=
  .next (catWrite w Reg.fdbAgeTime 0 0 effFdbAgeTime s)

/-- FDB_FLUSH_LEARNED (R145). -/
def execFdbFlushLearned (w : WriteReq) (s : State) : Host.Outcome State Fault Refusal :=
  .next (catWrite w Reg.fdbFlushLearned 0 0 (effBool (fun _ s => fdbFlush s)) s)

end Sys2Proof.Machine
end

