-- ==== Sys2Proof/Machine/Events.lean ====
section
/-! DEFINITION. The commands of chapter 17: clearing, masks, the hold, notifications and counts. -/

namespace Sys2Proof.Machine

/-- The session of a slot (R73). -/
def getSession (s : State) (slot : Nat) : Option Session := (s.lrk.sessions.find? (fun e => e.1 = slot)).map (·.2)

/-- A NOTIFY of a kind to the session of a slot (R76, R77). -/
def notifySession (slot kind : Nat) (body : Bytes) (s : State) : State :=
  match getSession s slot with
  | none => s
  | some x =>
    if !leaves s x.peer then s
    else
      let n := nextNotify s
      let sk := if x.key.isSome then some x.sk else none
      sendPdu x.peer 0x0C
        (makePdu 0x0C x.peer.srcAddr (ownAddress s) x.peer.srcTag slot 0 n.1 (notifyPayload kind body) sk) n.2

/-- The effect of EventClear on a word: the written bits clear; a level source whose condition holds stays set, and an edge
source that has occurred in this core cycle (R389). -/
def effEventClear (w v : Nat) (s : State) : State :=
  let s := perfNow s
  let old := r1 s Reg.eventPending w
  let gone := old &&& (v &&& ((r1 s Reg.eventLive w ||| edgesNow s w) ^^^ 0xFFFFFFFF))
  let before := clearedNow s w
  let s := w1 Reg.eventPending w (old - gone) s
  { s with ev := { s.ev with clearAt := tset (fun _ => 0) s.ev.clearAt w (coreCycle s + 1)
                             cleared := tset (fun _ => 0) s.ev.cleared w (before ||| gone) } }

/-- EVENT_CLEAR (R389). -/
def execEventClear (word : Fin 16) (w : WriteReq) (s : State) : Host.Outcome State Fault Refusal :=
  .next (catWrite w Reg.eventClear word.val 0 effEventClear s)

/-- The effect of a mask write: pending bits stand; a bit newly passed for notification is delivered as a rise (R391). -/
def effEventMask (idx : Nat) (w v : Nat) (s : State) : State :=
  let s := perfNow s
  let fresh := v &&& (r1 s idx w ^^^ 0xFFFFFFFF) &&& r1 s Reg.eventPending w
  let s := w1 idx w v s
  if idx = Reg.eventMaskNotify then
    { s with ev := { s.ev with risen := tset (fun _ => 0) s.ev.risen w (tget (fun _ => 0) s.ev.risen w ||| fresh) } }
  else s

/-- EVENT_MASK_WRITE (R391). -/
def execEventMaskWrite (mask : Fin 3) (word : Fin 16) (w : WriteReq) (s : State) : Host.Outcome State Fault Refusal :=
  let idx := if mask.val = 0 then Reg.eventMaskA else if mask.val = 1 then Reg.eventMaskB else Reg.eventMaskNotify
  .next (catWrite w idx word.val 0 (effEventMask idx) s)

/-- The effect of EventHold: a release marks the next body (R393, R394). -/
def effEventHold (_ v : Nat) (s : State) : State :=
  let was := r0 s Reg.eventHold
  let s := w0 Reg.eventHold v s
  if was = 1 ∧ v = 0 then { s with ev := { s.ev with released := true } } else s

/-- EVENT_HOLD_WRITE (R393). -/
def execEventHoldWrite (w : WriteReq) (s : State) : Host.Outcome State Fault Refusal :=
  .next (catWrite w Reg.eventHold 0 0 effEventHold s)

/-- The body of R394. -/
def eventBody (s : State) : Bytes :=
  let summary := (List.range 16).foldl (fun a w => if tget (fun _ => 0) s.ev.risen w = 0 then a else a + 2 ^ w) 0
  bytesLE 8 (tickNo s) ++ bytesLE 2 summary ++ bytesLE 1 (b2n s.ev.released) ++ bytesLE 5 0 ++
    (List.range 16).flatMap (fun w => bytesLE 4 (r1 s Reg.eventPending w &&& r1 s Reg.eventMaskNotify w))

/-- The open sessions that subscribed to events (R76). -/
def eventSubscribers (s : State) : List Nat :=
  (List.range 16).filter (fun k => slotOpen s k && (r1 s Reg.lorakSubscriptions k).testBit 0)

/-- Build a body where a bit has risen and none has been built in this tick (R394). -/
def buildEventBody (s : State) : State :=
  let q := r0 s Reg.tickSequence + 1
  if s.ev.risen.isEmpty ∨ s.ev.builtAt = q then s
  else
    { s with ev := { s.ev with
        risen := [], released := false, copies := eventSubscribers s, body := eventBody s, builtAt := q } }

/-- A copy of the last body to the session of a slot, counted in EventNotifySent (R394); a session that has since closed or
ended its subscription receives none (R76), nor does one that a NOTIFY cannot reach (R81). -/
def eventCopy (slot : Nat) (s : State) : State :=
  match getSession s slot with
  | some x =>
    if (eventSubscribers s).contains slot && leaves s x.peer then inc0 Reg.eventNotifySent (notifySession slot 2 s.ev.body s)
    else s
  | none => s

/-- So many of the copies that wait leave, one after another (R394). -/
def sendEventCopies (n : Nat) (s : State) : State :=
  forL (s.ev.copies.take n) eventCopy { s with ev := { s.ev with copies := s.ev.copies.drop n } }

/-- Job 6 may run: the Curator runs, and no hold stands (R393). -/
def notifies (s : State) : Bool := curatorRuns s && decide (r0 s Reg.eventHold ≠ 1)

/-- Job 6 of a tick (R394): copies left from a cut job leave first, and no body is built before they have left. How many
copies leave before the job comes to its end or is cut is a free value, since the spec gives no durations (log 14, 46). -/
def notifyJob (s : State) : State :=
  if !notifies s then s
  else
    let s := perfNow s
    let s := if s.ev.copies.isEmpty then buildEventBody s else s
    sendEventCopies (Config.freeValue s.free % (s.ev.copies.length + 1)) { s with free := s.free + 1 }

/-- The tick ends: a job 6 that has finished its work has sent every copy; one that is cut leaves the rest to the job of the
next tick (R16, R394). -/
def notifyJobEnds (s : State) : State :=
  if notifies s && decide (tget (fun _ => 0) s.jobs 6 = 0) then sendEventCopies s.ev.copies.length s else s

/-- EVENT_NOTIFY (R394). -/
def execEventNotify (s : State) : Host.Outcome State Fault Refusal := .next (notifyJob s)

/-- EVENT_COUNT_CLEAR (R398). -/
def execEventCountClear (w : WriteReq) (s : State) : Host.Outcome State Fault Refusal :=
  .next (catWrite w Reg.eventCountClear 0 0 (effClear (fun _ s => dropIdx Reg.eventCounts (perfNow s))) s)

end Sys2Proof.Machine
end

