-- ==== Sys2Proof/Machine/Arms.lean ====
section
/-! DEFINITION. Staged values and the prepare phase of an opening (R18-R31, R39): the shadow, its count and digest, ARMs
that are judged, wait, are refused or cancelled, and OpeningRecord. -/

namespace Sys2Proof.Machine

/-! The shadow (R18-R21). -/

/-- The object of a shadow key is a TABLE. -/
def keyIsTable (k : Nat) : Bool :=
  match entryOf (keyIdx k) (keySub k) with
  | some e => match e.ty with
    | .table _ => true
    | _ => false
  | none => false

/-- Entries of the shadow that are table rows, or scalars (R19). -/
def shadowKind (s : State) (table : Bool) : Nat := (s.opn.shadow.filter (fun e => keyIsTable e.1 == table)).length

/-- The limit of R19 that an entry meets. -/
def shadowLimit (s : State) (table : Bool) : Nat :=
  if table then r0 s Reg.stagedRowLimit else r0 s Reg.stagedObjectLimit

/-- Add or replace an entry; none where the limit is reached (R19). -/
def stageEntry (idx sub row v : Nat) (s : State) : Option State :=
  let k := objKey idx sub row
  let t := keyIsTable k
  if s.opn.shadow.any (fun e => e.1 = k) || decide (shadowKind s t < shadowLimit s t) then
    some (modOpn (fun o => { o with shadow := tput o.shadow k v }) s)
  else none

/-- The bytes that an entry contributes to ShadowDigest (R20). -/
def entryBytes (e : Nat × Nat) : Bytes :=
  bytesLE 2 (keyIdx e.1) ++ bytesLE 1 (keySub e.1) ++ bytesLE 4 (keyRow e.1) ++
    (match entryOf (keyIdx e.1) (keySub e.1) with | some x => encodeVal x.ty e.2 | none => [])

/-- ShadowDigest: the CRC-32C over the entries in ascending order; 0 for an empty shadow (R20). -/
def digestOfShadow (l : List (Nat × Nat)) : Nat := if l.isEmpty then 0 else crc32c (l.flatMap entryBytes)

def shadowDigest (s : State) : Nat := digestOfShadow s.opn.shadow
def shadowCount (s : State) : Nat := s.opn.shadow.length

/-- ShadowState (R38). -/
def shadowState (s : State) : Nat := if !s.opn.waiting.isEmpty then 2 else if s.opn.shadow.isEmpty then 0 else 1

/-- The shadow has the stated count and digest (R26). -/
def shadowMatches (s : State) (count digest : Nat) : Bool :=
  decide (shadowCount s = count) && decide (shadowDigest s = digest)

/-- The switchable domain in which an object lies; 1 for every always-on one (R24, R422). -/
def objectDomain (idx sub : Nat) : Nat :=
  if 0x2000 ≤ idx ∧ idx ≤ 0x20FF then
    bankDomain (if idx = Reg.laneReversalMode ∨ idx = Reg.portGroupTxSwap then 2 * sub else sub)
  else if idx = Reg.portGroupMode then bankDomain (2 * sub)
  else if 0x3000 ≤ idx ∧ idx ≤ 0x5FFF then 4
  else if idx = Reg.combinerAsleepDiscards then 4
  else if 0x6000 ≤ idx ∧ idx ≤ 0x6FFF then 7
  else if 0x7200 ≤ idx ∧ idx ≤ 0x73FF then 2
  else if (0xB010 ≤ idx ∧ idx ≤ 0xB017) ∨ (0xB020 ≤ idx ∧ idx ≤ 0xB02F) then 4
  else 1

/-- Some entry lies in a domain. -/
def entriesIn (l : List (Nat × Nat)) (d : Nat) : Bool := l.any (fun e => decide (objectDomain (keyIdx e.1) (keySub e.1) = d))

/-- Some entry lies in a domain that is asleep or unpowered (R24). -/
def entriesAsleep (s : State) : Bool := s.opn.shadow.any (fun e => asleep s (objectDomain (keyIdx e.1) (keySub e.1)))

/-! OpeningRecord (R27, R39). -/

/-- A row of OpeningRecord. -/
def recordRow (id tick count originator outcome digest : Nat) : Nat :=
  id * 2 ^ 160 + tick % 2 ^ 64 * 2 ^ 96 + count * 2 ^ 64 + originator % 2 ^ 12 * 2 ^ 52 + outcome * 2 ^ 32 + digest

/-- A new row 0; the others move down, the last of 64 is lost (R38). -/
def pushRecord (v : Nat) (s : State) : State :=
  let old := s
  let s := forN 63 (fun r s => wr Reg.openingRecord 0 (r + 1) (rd old Reg.openingRecord 0 r) s) s
  wr Reg.openingRecord 0 0 v s

/-- The originator as OpeningRecord names it: 0 on MGT and SVC (R39). -/
def originatorOf (p : Peer) : Nat := if p.transport = .inband then p.srcAddr else 0

/-- Hold an outcome for the next opening-handling job (R76). -/
def notice (id tick result : Nat) (armer : Option (Nat × Peer)) (subscribers : Bool) (s : State) : State :=
  modOpn (fun o => { o with notices := o.notices ++
    [{ id := id, tick := tick, result := result, toArmer := armer, toSubscribers := subscribers }] }) s

/-- A refusal: the record, the count, the notification (R27). -/
def refuseArm (w : WaitingArm) (outcome : Nat) (s : State) : State :=
  let s := pushRecord (recordRow w.id w.tick 0 (originatorOf w.peer) outcome w.digest) s
  notice w.id w.tick outcome (some (w.serial, w.peer)) true (inc0 Reg.openingRefusals s)

def emptyShadow (s : State) : State := modOpn (fun o => { o with shadow := [] }) s

/-- Arming moves the shadow into the sections' staged copies (R21). -/
def armNow (w : WaitingArm) (s : State) : State :=
  modOpn (fun o => { o with
    shadow := [],
    armed := some { id := w.id, tick := w.tick, count := w.count, digest := w.digest, originator := originatorOf w.peer,
                    entries := o.shadow, cancelLate := false } }) s

/-! ARM (R24-R26). -/

/-- The start of tick `T - lead` has come at a reading of the counter (R25, R26, R28, R34). -/
def leadPassed (reading tick lead : Nat) : Bool := decide (tick ≤ tickOfReading reading + lead)

/-- The first condition of R25 that an ARM meets. -/
def armRefusal (s : State) (received tick participants : Nat) : Option Nat :=
  let servo := r0 s Reg.servoState
  if tick ≤ tickNo s then some 6
  else if leadPassed received tick (r0 s Reg.armLead) then some 4
  else if s.opn.armed.isSome then some 5
  else if 1 < participants ∧ servo ≠ 2 ∧ servo ≠ 3 then some 6
  else none

/-- The shadow matches an ARM: BUSY, ASLEEP or READY; a refusal discards the shadow (R24, R26). -/
def armMatched (w : WaitingArm) (s : State) : Nat × State :=
  if s.opn.armed.isSome then (5, emptyShadow s)
  else if entriesAsleep s then (7, emptyShadow s)
  else (0, armNow w s)

/-- A waiting ARM whose deadline has come (R26). -/
def armLate (s : State) (w : WaitingArm) : Bool := decide (w.deadline ≤ tickOfReading s.counter)

/-- The first waiting ARM that the shadow matches before its deadline. -/
def readyArm (s : State) : Option WaitingArm :=
  s.opn.waiting.find? (fun w => shadowMatches s w.count w.digest && !armLate s w)

/-- ARM_READY_ON_MATCH (R26): the waiting ARMs are checked until none matches. -/
def recheckArms : Nat → State → State
  | 0, s => s
  | n + 1, s =>
    match readyArm s with
    | none => s
    | some w =>
      let r := armMatched w (modOpn (fun o => { o with waiting := o.waiting.erase w }) s)
      recheckArms n (if r.1 = 0 then notice w.id w.tick 0 (some (w.serial, w.peer)) false r.2 else refuseArm w r.1 r.2)

def recheck (s : State) : State := recheckArms s.opn.waiting.length s

/-- REFUSED-INCOMPLETE: the ARM and the shadow are discarded (R26). -/
def incomplete (w : WaitingArm) (s : State) : State :=
  refuseArm w 3 (emptyShadow (modOpn (fun o => { o with waiting := o.waiting.erase w }) s))

/-- Every waiting ARM whose deadline has come is refused (log 12). -/
def expireArms (s : State) : State :=
  let l := s.opn.waiting.filter (armLate s)
  if l.isEmpty then s else recheck (forL l incomplete s)

/-- An ARM as a session sends it: the Result byte of its answer (R71). -/
def armRequest (serial : Nat) (peer : Peer) (received id tick count digest participants : Nat) (s : State) : Nat × State :=
  let s := expireArms s
  let w : WaitingArm :=
    { id := id, tick := tick, deadline := tick - r0 s Reg.armLead, count := count, digest := digest,
      participants := participants, serial := serial, peer := peer }
  match armRefusal s received tick participants with
  | some c => (c, refuseArm w c s)
  | none =>
    if shadowMatches s count digest then
      let r := armMatched w s
      if r.1 = 0 then (0, recheck r.2) else (r.1, recheck (refuseArm w r.1 r.2))
    else (9, modOpn (fun o => { o with waiting := o.waiting ++ [w] }) s)

/-- ARM_DEADLINE (R26): the deadline of a waiting ARM has come. -/
def execArmDeadline (id : BitVec 32) (s : State) : Host.Outcome State Fault Refusal :=
  match s.opn.waiting.find? (fun w => decide (w.id = id.toNat) && armLate s w) with
  | some w => .next (recheck (incomplete w s))
  | none => .next s

/-! CANCEL (R28). -/

/-- A CANCEL of a session: the Result byte of its answer (R71). One that discards a waiting ARM with the shadow has the ARMs that
still wait judged again (DESIGN CHOICE: R26 names STAGE; log 73). -/
def cancelRequest (received id : Nat) (s : State) : Nat × State :=
  let s := expireArms s
  match s.opn.armed with
  | some a =>
    if a.id = id then
      if leadPassed received a.tick 1 then
        (0x0A, modOpn (fun o => { o with armed := some { a with cancelLate := true } }) s)
      else
        let s := pushRecord (recordRow a.id a.tick a.count a.originator 8 a.digest) (modOpn (fun o => { o with armed := none }) s)
        (8, notice a.id a.tick 8 none true (inc0 Reg.openingCancels s))
    else cancelWaiting id s
  | none => cancelWaiting id s
where
  /-- A CANCEL that names a waiting ARM discards it with the shadow; one that names none has no effect. -/
  cancelWaiting (id : Nat) (s : State) : Nat × State :=
    match s.opn.waiting.find? (fun w => w.id = id) with
    | none => (0x0B, s)
    | some w =>
      let s := emptyShadow (modOpn (fun o => { o with waiting := o.waiting.erase w }) s)
      let s := pushRecord (recordRow w.id w.tick 0 (originatorOf w.peer) 8 w.digest) s
      (8, recheck (notice w.id w.tick 8 (some (w.serial, w.peer)) true (inc0 Reg.openingCancels s)))

/-- The effect of ShadowDiscard (R20): what is armed stays armed, and no waiting ARM is judged again (DESIGN CHOICE: R26 names
STAGE; log 73). -/
def effShadowDiscard (st v : Nat) (s : State) : State := effBool (fun _ s => emptyShadow s) st v s

/-- SHADOW_DISCARD (R20). -/
def execShadowDiscard (w : WriteReq) (s : State) : Host.Outcome State Fault Refusal :=
  .next (catWrite w Reg.shadowDiscard 0 0 effShadowDiscard s)

/-- The effect of TickMaxClear (R38). -/
def effTickMaxClear (st v : Nat) (s : State) : State := effClear (fun _ s => dropIdx Reg.tickJobMaxTime s) st v s

/-- TICK_MAX_CLEAR (R38). -/
def execTickMaxClear (w : WriteReq) (s : State) : Host.Outcome State Fault Refusal :=
  .next (catWrite w Reg.tickMaxClear 0 0 effTickMaxClear s)

/-! Notifications of outcomes (R76). -/

/-- The body of a NOTIFY of kind 0x01. -/
def noticeBody (n : Notice) : Bytes := bytesLE 4 n.id ++ bytesLE 8 n.tick ++ bytesLE 1 n.result ++ bytesLE 3 0

/-- To the session that sent the ARM; to the same identity with Session 0xFF where it has closed. -/
def notifyArmer (n : Notice) (a : Nat × Peer) (s : State) : State :=
  match s.lrk.sessions.find? (fun e => decide (e.2.serial = a.1) && slotOpen s e.1) with
  | some e => notifySession e.1 1 (noticeBody n) s
  | none =>
    if !leaves s a.2 then s
    else
      let q := nextNotify s
      sendPdu a.2 0x0C
        (makePdu 0x0C a.2.srcAddr (ownAddress s) a.2.srcTag 0xFF 0 q.1 (notifyPayload 1 (noticeBody n)) none) q.2

/-- The open sessions that subscribed to opening outcomes. -/
def outcomeSubscribers (s : State) : List Nat :=
  (List.range 16).filter (fun k => slotOpen s k && (r1 s Reg.lorakSubscriptions k).testBit 1)

def sendNotice (n : Notice) (s : State) : State :=
  let s := match n.toArmer with
    | some a => notifyArmer n a s
    | none => s
  if n.toSubscribers then forL (outcomeSubscribers s) (fun k s => notifySession k 1 (noticeBody n) s) s else s

/-- Send every outcome held. -/
def sendNotices (s : State) : State :=
  let l := s.opn.notices
  forL l sendNotice (modOpn (fun o => { o with notices := [] }) s)

/-- OPENING_OUTCOME_NOTIFY (R76): the opening-handling job, while the Curator runs. -/
def execOpeningOutcomeNotify (s : State) : Host.Outcome State Fault Refusal :=
  if curatorRuns s then .next (sendNotices s) else .next s

/-! INVENTORY (R34-R36). -/

/-- An INVENTORY: the Result byte of its answer (R34, R71). -/
def inventoryRequest (received id tick : Nat) (s : State) : Nat × State :=
  if tick ≤ tickNo s ∨ leadPassed received tick (r0 s Reg.inventoryLead) then (0x0C, s)
  else
    match (List.range 2).find? (fun b => decide (bankState s b = 0)) with
    | none => (0x0D, s)
    | some b =>
      let s := w1 Reg.inventoryBankState b 1 (w1 Reg.inventoryBankId b id (w1 Reg.inventoryBankTick b tick s))
      (0, setBank b { Bank.free with tick := tick } s)

/-- A bank is freed (R36). -/
def freeBank (b : Nat) (s : State) : State :=
  setBank b Bank.free (w1 Reg.inventoryBankState b 0 (w1 Reg.inventoryBankId b 0 (w1 Reg.inventoryBankTick b 0 s)))

end Sys2Proof.Machine
end

