-- ==== Sys2Proof/Machine/Power.lean ====
section
/-! DEFINITION. Power, start-up and the three resets (chapter 19): what a domain loses and takes up again, power to the
switchable domains, the loss of power. -/

namespace Sys2Proof.Machine

def modPwr (f : PwrSt → PwrSt) (s : State) : State := { s with pwr := f s.pwr }

/-- The number of a switchable domain. -/
def swNum : SwDomain → Nat
  | .d2 => 2 | .d4 => 4 | .d5 => 5 | .d6 => 6 | .d7 => 7

/-- The wake time of R422 in ps. -/
def wakeTime (d : Nat) : Nat := if d = 4 then 2500000000 else if d = 5 ∨ d = 6 then 2000000000 else 1000000000

/-- PG_O is high at step 4 of R418, once R417 permits, with an image that runs (R417, R420). -/
def judgePowerGood (s : State) : State :=
  w0 Reg.powerGood (b2n (decide (s.pwr.phase = .on) && !s.pwr.reduced && s.pwr.served)) s

/-! What a domain loses (R422). -/

/-- The bytes of a frame that a transmitter has sent: n of them, of a frame still in reception those beyond its first cell
being free values (log 6). -/
def sentBytes (f : Frame) (slot n : Nat) (s : State) : Bytes × State :=
  let d := copyData f slot
  if f.whole || decide (n ≤ d.length) then (d.take n, s)
  else
    let x := draw s
    (d ++ bytesLE (n - d.length) (Config.freeValue x.1), x.2)

/-- A frame in progress on a transmitter ends with a stomped FCS after the bytes it has sent (R129): what has passed since
its preamble began, less preamble and delimiter. -/
def endStomped (fate slot : Nat) (s : State) : State :=
  match (getPort s slot).tx with
  | none => s
  | some t =>
    let s := modPort slot (fun p => { p with tx := none }) s
    match getFrame s t.frame with
    | none => s
    | some f =>
      let d := sentBytes f slot ((s.now - t.startAt) / (8 * psPerBit (slotSpeed s slot)) - 8) s
      let s := archiveRefate f.selected ((portOf s slot).getD 0xFF) fate (countStomped slot d.2)
      releaseRef t.frame slot (emit (.frame slot (stompedFrame d.1) false) s)

/-- Every frame in the buffer is discarded, with all charges and Xoff states; frames on the line are stomped. Answers the
number of frames (R165, R429). `begun` is the Fate of a frame whose first copy is on the line, `fate` of one without. -/
def clearBuffer (begun fate : Nat) (s : State) : Nat × State :=
  let n := s.core.frames.length
  let s := forN 64 (endStomped begun) { s with core := { s.core with accts := [] } }
  let s := perfEvent 4 2 0 (cellsWhere s (fun _ => true)) s
  let s := forL s.core.frames (fun f s => archiveFate f.2.selected fate s) s
  let s := forN 64 (fun k s => w1 Reg.starvePromoted k 0 (modPort k (fun p =>
    { p with rx := none, tx := none, controls := [], queue := [], refresh := 0 }) s)) s
  (n, { s with core := { s.core with frames := [], accts := [] }, comb := { s.comb with waiting := [] } })

/-- The open windows of the Combiner are lost without output, with what waits for it (R206, R429). -/
def loseWindows (s : State) : State :=
  let w := s.comb.waiting
  let s := { s with comb := { s.comb with windows := [], waiting := [] } }
  forL w (fun c s => endRef c.frame combinerSlot 7 s) s

/-- D4 goes to sleep (R145, R165, R179): a sweep due at this instant is made, and the next period waits whole. -/
def coreSleep (s : State) : State :=
  let s := forL (portSlots s) syncGate (judgeGates s)
  let s := if s.core.sweepAt ≠ 0 ∧ s.core.sweepAt ≤ s.now then restartSweep (fdbSweep s) else s
  let r := clearBuffer 5 5 s
  let s := count Reg.sleepDiscards 0 0 r.1 r.2
  { s with core := { s.core with sweepAt := 0, sweepLeft := if s.core.sweepAt = 0 then 0 else s.core.sweepAt - s.now } }

/-- A copy that runs on a port whose lane bank goes to sleep: its transmitter appends a stomped FCS (R129), and it ends as at
the loss of its link, which LinkDownDiscards counts (R157, R451). -/
def endAsleep (slot : Nat) (s : State) : State :=
  if (getPort s slot).tx.isSome then inc Reg.linkDownDiscards slot (endStomped 5 slot s) else s

/-- A lane bank goes to sleep: copies in progress end, lanes go to OFF (R99, R129). -/
def bankSleep (bank : Nat) (s : State) : State :=
  laneBankSleep bank (forN 32 (fun i s => endAsleep ((if bank = 5 then 0 else 32) + i) s) s)

/-- A domain's entry actions (R422). -/
def domainLeaves (d : Nat) (s : State) : State :=
  match d with
  | 2 => clocksSleep s
  | 4 => coreSleep s
  | 5 => bankSleep 5 s
  | 6 => bankSleep 6 s
  | 7 => loseWindows (overdueSwitch s)
  | _ => s

/-- The sweep period goes on with the time that remained (R145). -/
def sweepResume (s : State) : State :=
  { s with core := { s.core with sweepAt := if s.core.sweepLeft = 0 then 0 else s.now + s.core.sweepLeft, sweepLeft := 0 } }

/-- A domain takes up its work when its wake completes (R179, R206, R282, R422). -/
def domainReturns (d : Nat) (s : State) : State :=
  match d with
  | 2 => clocksWake s
  | 4 => forL (portSlots s) syncGate (sweepResume s)
  | 5 => laneBankStart 5 s
  | 6 => laneBankStart 6 s
  | 7 =>
    let s := overdueSwitch s
    { s with comb := { s.comb with barrier := max s.comb.barrier s.counter } }
  | _ => s

/-- Level sources of a domain that does not run read 0 (R396). -/
def sleepLives (d : Nat) (s : State) : State :=
  forN 512 (fun n s =>
    if sourceDomain n = d ∧ (r1 s Reg.eventLive (n / 32)).testBit (n % 32) then setLive n false s else s) s

/-- The level sources of D4 and D7 as their conditions stand on their return (R388). -/
def wakeLives (d : Nat) (s : State) : State :=
  if d = 4 then judgeOvercommit s
  else if d = 7 then setLive Ev.combOvercommit (decide (0 < r0 s Reg.combinerOvercommit)) s
  else s

def setDomain (d st : Nat) (s : State) : State := w1 Reg.domainState d st s

/-- A sleep planned while the domain was unpowered or waking stands once it is there (R417, R424). -/
def stateOnReturn (s : State) (d : Nat) : Nat := if s.pwr.sleeps.any (fun e => e.1 = d) then 1 else 0

/-- Lanes enabled by default leave OFF, and PG_O goes high: step 4 of R418, once D2 and D4-D7 are powered and the image
runs. -/
def stepFour (s : State) : State :=
  if s.pwr.served || s.pwr.reduced || !curatorRuns s then judgePowerGood s
  else judgePowerGood (laneBankStart 6 (laneBankStart 5 (modPwr (fun p => { p with served := true }) s)))

/-- Step 3 of R418 powers the switchable domains (R417); a DomainSleepAtTick written before acts from now on. -/
def powerDomains (s : State) : State :=
  let s := modPwr (fun p => { p with reduced := false }) s
  let s := forL switchable (fun d s =>
    if domainState s d ≠ 4 then s
    else
      let t := r1 s Reg.domainSleepAtTick d
      let s := if t = 0 then s else modPwr (fun p => { p with sleeps := tput p.sleeps d { tick := t, due := false } }) s
      setDomain d (stateOnReturn s d) s) s
  stepFour (restartSweep s)

/-! Resets (R429-R431). -/

/-- Values that a full module reset keeps: identity, both images' versions, the Vitrine's range, BootPreference and
LastResetCause (R54, R413, R429, R431). -/
def keptByFullReset (k : Nat) : Bool :=
  let i := keyIdx k
  (decide (2 ≤ i) && decide (i ≤ 5)) || decide (i = Reg.mgtMacAddress) || (decide (i = Reg.firmwareVersion) && decide (keySub k ≠ 0)) ||
  (decide (0xC000 ≤ i) && decide (i ≤ 0xCFFF)) || decide (i = Reg.bootPreference) || decide (i = Reg.lastResetCause)

/-- The register file after a full module reset. -/
def regsAfterReset (r : List (Nat × Nat)) : List (Nat × Nat) :=
  (r.filter (fun e => keptByFullReset e.1)).foldl (fun m e => tset regDefault m e.1 e.2)
    (State.resetRegs.filter (fun e => !keptByFullReset e.1))

/-- The Vitrine at a full module reset, which resets no part of it (R413): the time counter starts at 0 (R13, R284), a backward
step to it (R403), and TickSequence too, from which its own instants count on. -/
def vitrineKept (s : State) : VitSt :=
  { s.vit with
    stepped := true, freerunAt := s.vit.freerunAt.map (fun _ => 0), waiting := []
    flashBy := s.vit.flashBy - r0 s Reg.tickSequence, checkAt := s.vit.checkAt - r0 s Reg.tickSequence }

/-- D1-D7 start afresh; D0, the one-time-programmable content, both images and the TAP stay (R31, R54, R413, R429, R448). A close
that is due is made first (R413). -/
def afresh (s : State) : State :=
  let z := State.reset
  let s := closeDue s
  { z with
      now := s.now, boundaryAt := s.now, regs := regsAfterReset s.regs, free := s.free, sent := s.sent,
      vit := vitrineKept s,
      cal := { z.cal with factory := s.cal.factory }, tdc := { z.tdc with yf := s.tdc.yf, coarseZero := cycleOf s.now }, tap := s.tap,
      pwr := { z.pwr with reduced := s.pwr.reduced, cause := s.pwr.cause, imageA := s.pwr.imageA,
                          imageB := s.pwr.imageB, blocks := s.pwr.blocks },
      pending := s.pending }

/-- The straps are sampled (R322, R336, R419), the time base is chosen (R233), and the cause is recorded (R431). -/
def sampleStraps (straps : Straps) (xosc : Nat) (s : State) : State :=
  let a := straps.faddr.toNat
  let s := w0 Reg.fabricAddressStraps a (w0 Reg.twinRank (b2n straps.twinPri) (w0 Reg.bootSelStrap (b2n straps.bootSel) s))
  let s := if 1 ≤ a ∧ a ≤ 0xFFE then w0 Reg.fabricAddress a (w0 Reg.fabricAddressSource 1 s) else s
  w0 Reg.timeBaseSource (b2n (decide (xosc ≠ 0))) (w0 Reg.xoscFrequency xosc s)

/-- The full module reset (R31, R429): steps 2 and 3 of R418, the domains being powered where R417 has permitted it. A
level source of D0, which it keeps, stands at once (R388, R396). -/
def fullReset (straps : Straps) (xosc : Nat) (s : State) : State :=
  let s := sampleStraps straps xosc (w0 Reg.lastResetCause s.pwr.cause (afresh s))
  let s := setLive Ev.sealOpen s.vit.low s
  if s.pwr.reduced then s else powerDomains s

/-- The straps and the time base as they were sampled last. -/
def heldStraps (s : State) : Straps :=
  { faddr := BitVec.ofNat 12 (r0 s Reg.fabricAddressStraps), twinPri := decide (r0 s Reg.twinRank = 1),
    bootSel := decide (r0 s Reg.bootSelStrap = 1) }

/-- The datapath reset (R429): the frames of the buffer are counted in ResetDiscards, every lane restarts at SIGNAL. A first
copy on the line ends with a stomped FCS (R383); the Fate of the others is not stated: it is a free value among the codes of
R383. -/
def datapathReset (s : State) : State :=
  let d := draw (judgeGates s)
  let r := clearBuffer 2 (Config.freeValue d.1 % 8) d.2
  let s := count Reg.resetDiscards 0 0 r.1 (loseWindows r.2)
  laneBankStart 6 (laneBankStart 5 (inc0 Reg.datapathResets s))

/-- The Curator reset (R429): sessions, subscriptions, the shadow, requests and the Zutum database are lost, the twin role
becomes standby; the routes in force and the sequencer of route openings, with what it holds, stay (R331, log 49). -/
def curatorReset (cause : Nat) (s : State) : State :=
  let s := dropRange 0x0030 0x0036 (dropIdx Reg.sessionLastViolation (dropIdx Reg.lorakSubscriptions s))
  let bank (b : Bank) : Bank := { b with held := [] }
  let s := { s with
    lrk := { s.lrk with sessions := [], own := [] },
    opn := { s.opn with shadow := [], bank0 := bank s.opn.bank0, bank1 := bank s.opn.bank1 },
    ev := { s.ev with copies := [] }, jobs := [], vit := { s.vit with waiting := [] },
    zut := { ZutSt.reset with ownSeq := s.zut.ownSeq, gm := s.zut.gm, tables := s.zut.tables, carries := s.zut.carries,
                              settleAt := tickSeq s, arm := s.zut.arm, waits := s.zut.waits,
                              noneBefore := s.zut.noneBefore, lastId := s.zut.lastId, ready := s.zut.ready, armsSeen := s.zut.armsSeen,
                              heardAt := s.zut.heardAt } }
  let s := w0 Reg.curatorResetCause cause (inc0 Reg.curatorResets s)
  twinCuratorReset (recheck (modPwr (fun p => { p with curator := .booting, watchdog := 0 }) s))

/-- A reset pending under R430 or R37 whose boundary has been raised. -/
def resetDue (s : State) (kind : Nat) : Bool :=
  match s.pwr.resetNow with
  | some (k, q) => decide (k = kind) && decide (q ≤ r0 s Reg.tickSequence)
  | none => false

def clearResetNow (s : State) : State := modPwr (fun p => { p with resetNow := none }) s

/-- A reset that its own row has not performed in its tick (log 12). -/
def resetLeftOver (s : State) : State :=
  if resetDue s 1 then datapathReset (clearResetNow s)
  else if resetDue s 2 then curatorReset 3 (clearResetNow s)
  else if resetDue s 3 then
    fullReset (heldStraps s) (if r0 s Reg.timeBaseSource = 1 then r0 s Reg.xoscFrequency else 0) (clearResetNow s)
  else s

/-- The effect of ResetNow (R430): it acts at the boundary of the second tick after; a later write replaces it. -/
def effResetNow (_ v : Nat) (s : State) : State :=
  modPwr (fun p => { p with resetNow := some (v, r0 s Reg.tickSequence + 2), cause := if v = 3 then 6 else p.cause }) s

/-- RESET_NOW_DATAPATH (R430). -/
def execResetNowDatapath (w : WriteReq) (s : State) : Host.Outcome State Fault Refusal :=
  .next (catWrite w Reg.resetNow 0 0 effResetNow s)

/-- RESET_NOW_CURATOR (R430). -/
def execResetNowCurator (w : WriteReq) (s : State) : Host.Outcome State Fault Refusal :=
  .next (catWrite w Reg.resetNow 0 0 effResetNow s)

/-- RESET_NOW_FULL (R430). -/
def execResetNowFull (w : WriteReq) (s : State) : Host.Outcome State Fault Refusal :=
  .next (catWrite w Reg.resetNow 0 0 effResetNow s)

/-- DATAPATH_RESET (R429): the one that ResetNow has scheduled; an opening's is made by the opening (R37). -/
def execDatapathReset (s : State) : Host.Outcome State Fault Refusal :=
  if resetDue s 1 then .next (datapathReset (clearResetNow s)) else .next s

/-- CURATOR_RESET (R429), as ResetNow has scheduled it. -/
def execCuratorReset (s : State) : Host.Outcome State Fault Refusal :=
  if resetDue s 2 then .next (curatorReset 3 (clearResetNow s)) else .next s

/-- FULL_MODULE_RESET (R31), as ResetNow or an opening has scheduled it. -/
def execFullModuleReset (straps : Straps) (xosc : Fin 6) (s : State) : Host.Outcome State Fault Refusal :=
  if resetDue s 3 then .next (fullReset straps xosc.val s) else .next s

/-- The heartbeat job has not completed in CuratorWatchdogTicks ticks (R430). -/
def watchdogDue (s : State) : Bool := curatorRuns s && decide (r0 s Reg.curatorWatchdogTicks ≤ s.pwr.watchdog)

/-- CURATOR_WATCHDOG (R430). -/
def execCuratorWatchdog (s : State) : Host.Outcome State Fault Refusal :=
  if watchdogDue s then .next (curatorReset 1 s) else .next s

/-- RESET_N_ASSERT (R430): a full module reset starts; the module stays in reset, with PG_O low. -/
def execResetNAssert (s : State) : Host.Outcome State Fault Refusal :=
  if s.pwr.phase = .on then
    .next (modPwr (fun p => { p with phase := .held }) (afresh (modPwr (fun p => { p with cause := 2 }) s)))
  else .next s

/-- RESET_N_RELEASE (R430): start-up continues from step 2. -/
def execResetNRelease (straps : Straps) (xosc : Fin 6) (s : State) : Host.Outcome State Fault Refusal :=
  if s.pwr.phase = .held then .next (fullReset straps xosc.val s) else .next s

/-! Power (R416-R418, R427, R428, R460). -/

/-! The thresholds of R416 in mV, as far as their limits reach: where in them a module's own lies is not the spec's to say, and
the command tells that VIN has passed it (log 47). -/

/-- VIN may stand above the start threshold: 34.0 V - 0.5 V. -/
def startMet (vin : Nat) : Bool := decide (33500 ≤ vin)

/-- VIN may stand above the brownout release: 35.8 V - 0.2 V. -/
def releaseMet (vin : Nat) : Bool := decide (35600 ≤ vin)

/-- VIN may have fallen below the threshold that is armed: brownout, 35.0 V + 0.3 V; in the reduced state start, 34.0 V + 0.5 V
(R417). -/
def brownoutMet (s : State) (vin : Nat) : Bool := decide (vin ≤ if s.pwr.reduced then 34500 else 35300)

/-- VIN may have fallen below the undervoltage lockout: 33.0 V + 0.5 V. -/
def lockoutMet (vin : Nat) : Bool := decide (vin ≤ 33500)

/-- The power stage may restart the module: after a thermal shutdown once its reading is below 95 °C (R428). -/
def coolEnough (s : State) (reading : Int) : Bool := decide (s.pwr.cause ≠ 4) || decide (reading < 95 * 256)

/-- POWER_UP_START (R416): steps 1 to 3 of R418. The Vitrine starts, and opens an interval at the start boundary (R412). -/
def execPowerUpStart (supply : Supply) (straps : Straps) (xosc : Fin 6) (s : State) : Host.Outcome State Fault Refusal :=
  if s.pwr.phase = .off ∧ startMet supply.vin ∧ coolEnough s supply.reading then
    let s := fullReset straps xosc.val (modPwr (fun p => { p with reduced := true }) s)
    .next (w0 Reg.inputVoltage supply.vin (openInterval true (vitrinePowerUp s)))
  else .next s

/-- BROWNOUT_RELEASE (R417): while RESET_N holds the module, step 3 comes with its release. -/
def execBrownoutRelease (vin : Nat) (s : State) : Host.Outcome State Fault Refusal :=
  if s.pwr.phase = .off ∨ !s.pwr.reduced ∨ !releaseMet vin then .next s
  else
    let s := w0 Reg.inputVoltage vin s
    .next (if s.pwr.phase = .on then powerDomains s else modPwr (fun p => { p with reduced := false }) s)

/-- The first image to be checked (R420). -/
def firstImage (s : State) : Nat := if r0 s Reg.bootSelStrap = 1 then 0 else r0 s Reg.bootPreference

/-- The image that boots and BootOutcome (R420); none where both fail. -/
def chooseImage (s : State) (passA passB : Bool) : Option Nat × Nat :=
  let first := firstImage s
  let pass (i : Nat) : Bool := if i = 0 then passA else passB
  if pass first then (some first, if r0 s Reg.bootSelStrap = 1 then 2 else 0)
  else if pass (1 - first) then (some (1 - first), 1)
  else (none, 3)

/-- Whether an image is known to have passed its check, with its version as read then. -/
def imageKnown (s : State) (i : Nat) : Bool := if i = 0 then s.pwr.imageA else s.pwr.imageB

/-- The outcome of an image's check with the version found (R420, R421, 02_catalogue.md R61). -/
def markImage (i : Nat) (pass : Bool) (version : Nat) (s : State) : State :=
  let s := w1 Reg.firmwareVersion (i + 1) (if pass then version else 0) s
  if i = 0 then modPwr (fun p => { p with imageA := pass }) s else modPwr (fun p => { p with imageB := pass }) s

/-- The check of an image at boot: one that has been written since its last check, and passes, has the version that its
file carries, a free value (log 6). -/
def bootCheck (i : Nat) (pass : Bool) (s : State) : State :=
  if pass && !imageKnown s i then
    let d := draw s
    markImage i true (Config.freeValue d.1 % 2 ^ 32) d.2
  else markImage i pass (r1 s Reg.firmwareVersion (i + 1)) s

/-- CURATOR_IMAGE_RUNNING (R420, R460): the other image is checked only where the first choice fails. Where both fail, no image
runs, for which R61 gives ActiveImage no code: it keeps the value it had (DESIGN CHOICE, log 73). -/
def execCuratorImageRunning (passA passB : Bool) (s : State) : Host.Outcome State Fault Refusal :=
  if s.pwr.phase = .on ∧ s.pwr.curator = .booting then
    let c := chooseImage s passA passB
    let f := firstImage s
    let pass (i : Nat) : Bool := if i = 0 then passA else passB
    let s := bootCheck f (pass f) s
    let s := if pass f then s else bootCheck (1 - f) (pass (1 - f)) s
    let s := modPwr (fun p => { p with watchdog := 0 }) (w0 Reg.bootOutcome c.2 s)
    match c.1 with
    | some i =>
      let s := w0 Reg.activeImage i (w1 Reg.firmwareVersion 0 (r1 s Reg.firmwareVersion (i + 1)) s)
      .next (stepFour (modPwr (fun p => { p with curator := .running }) s))
    | none => .next (w1 Reg.firmwareVersion 0 0 (modPwr (fun p => { p with curator := .noImage }) s))
  else .next s

/-- The sequence of R427: the brownout event, the flush of the Vitrine, then everything off, 1.6 ms after its start,
the TAP with D3 (R448). -/
def powerLoss (cause : Nat) (s : State) : State :=
  let s := vitrineFlush (raise Ev.brownout (modPwr (fun p => { p with cause := cause }) s))
  let s := afresh (elapse 1600000000 s)
  modPwr (fun p => { p with phase := .off, reduced := true }) { s with tap := TapSt.reset }

/-- BROWNOUT (R417, R427). -/
def execBrownout (vin : Nat) (s : State) : Host.Outcome State Fault Refusal :=
  if s.pwr.phase = .off ∨ !brownoutMet s vin then .next s else .next (powerLoss 3 (w0 Reg.inputVoltage vin s))

/-- UNDERVOLTAGE_LOCKOUT (R416): conversion from VIN stops; the sequence of R427 has begun above it. Below 20 V the cause
of the last reset reads power-up (R431). -/
def execUndervoltageLockout (vin : Nat) (s : State) : Host.Outcome State Fault Refusal :=
  let s := if s.pwr.phase = .off ∨ !lockoutMet vin then s else powerLoss 3 s
  .next (if vin < 20000 then w0 Reg.lastResetCause 1 (modPwr (fun p => { p with cause := 1 }) s) else s)

/-- OVERTEMP_SHUTDOWN (R428): a reading at or above 115 °C for 1 ms. -/
def execOvertempShutdown (die : Fin 4) (reading : Int) (s : State) : Host.Outcome State Fault Refusal :=
  if s.pwr.phase = .off ∨ reading < 115 * 256 then .next s
  else .next (powerLoss 4 (w1 Reg.dieTemperature die.val (ofSigned 16 reading) s))

/-- The overtemperature source holds while any reading is above OvertempLimit (R428). -/
def judgeOvertemp (s : State) : State :=
  let limit := toSigned 16 (r0 s Reg.overtempLimit)
  setLive Ev.overtemp ((List.range 4).any (fun k => decide (limit < toSigned 16 (r1 s Reg.dieTemperature k)))) s

/-- OVERTEMP_LIMIT_CROSSED (R428). -/
def execOvertempLimitCrossed (die : Fin 4) (reading : Int) (s : State) : Host.Outcome State Fault Refusal :=
  .next (judgeOvertemp (w1 Reg.dieTemperature die.val (ofSigned 16 reading) s))

/-- The effect of a write to OvertempLimit. -/
def effOvertempLimit (_ v : Nat) (s : State) : State := judgeOvertemp (w0 Reg.overtempLimit v s)

/-! Boot images (R420, R421). -/

/-- The image that does not run: 0 image A, 1 image B. -/
def idleImage (s : State) : Nat := if r0 s Reg.activeImage = 0 then 1 else 0

/-- The idle image passes its check, with a version; or not, with version 0. -/
def markIdle (pass : Bool) (version : Nat) (s : State) : State := markImage (idleImage s) pass version s

/-- The key of a block: 131,072 rows for each image. -/
def blockKey (image row : Nat) : Nat := image * 131072 + row

/-- An image is erased: its blocks are gone (R421). -/
def eraseImage (image : Nat) (s : State) : State :=
  modPwr (fun p => { p with blocks := p.blocks.filter (fun e => decide (e.1 / 131072 ≠ image)) }) s

/-- The effect of a block write (R421): an image that has changed has not passed its check. -/
def effImageBlock (row : Nat) (_ v : Nat) (s : State) : State :=
  markIdle false 0 (modPwr (fun p => { p with blocks := tput p.blocks (blockKey (idleImage s) row) v }) s)

/-- IMAGE_BLOCK_WRITE (R421). -/
def execImageBlockWrite (row : BitVec 32) (w : WriteReq) (s : State) : Host.Outcome State Fault Refusal :=
  .next (catWrite w Reg.imageBlock 0 row.toNat (effImageBlock row.toNat) s)

/-- The effect of ImageErase and of ImageCommit (R421). -/
def effImageErase (st v : Nat) (s : State) : State := effBool (fun _ s => w0 Reg.imageState 1 s) st v s

def effImageCommit (st v : Nat) (s : State) : State := effBool (fun _ s => w0 Reg.imageState 3 s) st v s

/-- IMAGE_ERASE (R421). -/
def execImageErase (w : WriteReq) (s : State) : Host.Outcome State Fault Refusal :=
  .next (catWrite w Reg.imageErase 0 0 effImageErase s)

/-- IMAGE_ERASE_COMPLETE (R421). -/
def execImageEraseComplete (s : State) : Host.Outcome State Fault Refusal :=
  if r0 s Reg.imageState = 1 then
    .next (w0 Reg.imageState 2 (markIdle false 0 (eraseImage (idleImage s) s)))
  else .next s

/-- IMAGE_COMMIT (R421). -/
def execImageCommit (w : WriteReq) (s : State) : Host.Outcome State Fault Refusal :=
  .next (catWrite w Reg.imageCommit 0 0 effImageCommit s)

/-- IMAGE_CHECK_COMPLETE (R421). -/
def execImageCheckComplete (pass : Bool) (version : BitVec 32) (s : State) : Host.Outcome State Fault Refusal :=
  if r0 s Reg.imageState = 3 then .next (w0 Reg.imageState (if pass then 4 else 5) (markIdle pass version.toNat s))
  else .next s

/-- The effect of BootPreferSet (R420): BootPreference is held in the flash. -/
def effBootPrefer (_ v : Nat) (s : State) : State := w0 Reg.bootPreference v s

/-- BOOT_PREFER_SET (R420). -/
def execBootPreferSet (w : WriteReq) (s : State) : Host.Outcome State Fault Refusal :=
  .next (catWrite w Reg.bootPreferSet 0 0 effBootPrefer s)

end Sys2Proof.Machine
end

