-- ==== Sys2Proof/Machine/Openings.lean ====
section
/-! DEFINITION. What happens at an armed boundary (R22-R24, R35, R37, R116, R376-R378): the capture of an inventory, the
image of a bank, and an opening's effect on every section. -/

namespace Sys2Proof.Machine

/-! The image of a bank (R376-R378). -/

/-- The value of a run at a place, and 0 outside the runs: byte `off` of the part of the image that begins at 64. -/
def imageByte (x : Bank) (off : Nat) : Byte :=
  match invRows.find? (fun r => decide (r.offset ≤ off) && decide (off < r.offset + r.size)) with
  | none => 0
  | some r =>
    let k := (off - r.offset) / r.bytes
    let n := max r.rows 1
    if (r.hi + 1 - r.lo) * n ≤ k then 0
    else
      let v := tget (fun _ => 0) x.snap (objKey r.idx (r.lo + k / n) (k % n))
      BitVec.ofNat 8 (v / 256 ^ ((off - r.offset) % r.bytes))

/-- Bytes [a, a + n) of the part of the image from 64 on. -/
def imageBody (x : Bank) (a n : Nat) : Bytes := (List.range n).map (fun k => imageByte x (a + k))

/-- The header of the image (R377). -/
def imageHead (s : State) (b : Nat) : Bytes :=
  let x := getBank s b
  let size := r0 s Reg.inventoryImageSize
  bytesLE 4 (r1 s Reg.inventoryBankId b) ++ bytesLE 4 0 ++ bytesLE 8 x.tick ++ bytesLE 8 x.sequence ++
  bytesLE 16 (time128 x.counter) ++ bytesLE 1 x.servo ++ bytesLE 1 x.asleep ++ bytesLE 2 invRows.length ++
  bytesLE 4 (r0 s Reg.catalogueVersion) ++ bytesLE 4 (crc32c (imageBody x 64 (size - 64))) ++ bytesLE 12 0

/-- Bytes of a full bank's image from an offset, cut at its end (R71). -/
def imageBytes (s : State) (b off n : Nat) : Bytes :=
  let size := r0 s Reg.inventoryImageSize
  let stop := min (off + n) size
  let head := if off < 64 then slice (imageHead s b) off (min stop 64 - off) else []
  head ++ imageBody (getBank s b) (max off 64) (stop - max off 64)

/-! Openings (R22, R37, R99, R116, R174, R205). -/

/-- The staged value of an object, if the opening names it. -/
def stagedAt (l : List (Nat × Nat)) (idx sub : Nat) : Option Nat :=
  (l.find? (fun e => e.1 = objKey idx sub 0)).map (·.2)

/-- Some entry of an index range at a sub-index. -/
def stagedIn (l : List (Nat × Nat)) (lo hi sub : Nat) : Bool :=
  l.any (fun e => decide (lo ≤ keyIdx e.1) && decide (keyIdx e.1 ≤ hi) && decide (keySub e.1 = sub))

/-- Some entry of an index range. -/
def stagedAny (l : List (Nat × Nat)) (lo hi : Nat) : Bool :=
  l.any (fun e => decide (lo ≤ keyIdx e.1) && decide (keyIdx e.1 ≤ hi))

/-- Copies that frames still in reception would leave on a slot are discarded with its queue, and counted with it
(DEDUCED: R116 names queued frames, and their port will be another; log 17). -/
def dropExpected (slot : Nat) (s : State) : Nat × State :=
  let l := s.ports.filter (fun e => match e.2.rx with | some x => x.rest.contains slot | none => false)
  (l.length, forL l (fun e s =>
    match e.2.rx with
    | none => s
    | some x =>
      let s := modPort e.1 (fun p => { p with rx := some { x with rest := x.rest.erase slot } }) s
      match x.frame with
      | some id => endRef id slot 5 s
      | none => s) s)

/-- The frames queued for a slot are discarded and counted in PortGroupFlushed (R116). PAUSE and PFC frames that wait stay,
uncounted, and leave when the slot next carries frames (DESIGN CHOICE, log 74). -/
def flushSlot (g slot : Nat) (s : State) : State :=
  let q := flushQueue slot (cutReception slot (judgeGates s))
  let r := dropExpected slot q.2
  forN 8 (judgePromotion slot) (count Reg.portGroupFlushed g 0 (q.1 + r.1) r.2)

/-- PORT_RENUMBERING (R116): the mode of a group changes. -/
def changeMode (g m : Nat) (s : State) : State :=
  if groupMode s g = m then s
  else
    let s := flushSlot g (2 * g + 1) (flushSlot g (2 * g) s)
    let a := linkStateOf s (2 * g)
    let b := linkStateOf s (2 * g + 1)
    let s := laneModeChanged g (w1 Reg.portGroupMode g m s)
    calModeChanged g (linkMoved (2 * g + 1) b (linkMoved (2 * g) a s))

/-- PortLinkState of a number (R117): 0 where the number is absent. -/
def linkOfPort (s : State) (p : Nat) : Nat := match slotOf s p with | some slot => linkStateOf s slot | none => 0

/-- The event of every number whose PortLinkState a renumbering has changed (R116, R117, R397; log 62). -/
def renumberEvents (old s : State) : State :=
  forN 64 (fun p s => if linkOfPort old p = linkOfPort s p then s else raise (Ev.portLink + p) s) s

/-- The key under which a staged entry is held: per-port objects by the slot that bears the number under the new
numbering, none for an absent one (R115, R116). -/
def resolveKey (s : State) (k : Nat) : Option Nat :=
  (storeSub s (keyIdx k) (keySub k)).map (fun sub => objKey (keyIdx k) sub (keyRow k))

/-- The live value of a staged entry is replaced. -/
def applyEntry (e : Nat × Nat) (s : State) : State :=
  { s with regs := tset regDefault s.regs e.1 e.2 }

/-- Some lane object of R99. -/
def restartsLanes (idx : Nat) : Bool :=
  [Reg.laneTrainMode, Reg.lanePolarityMode, Reg.laneTxPrecode, Reg.laneRxPrecode, Reg.laneFecMode, Reg.laneTxInvert,
   Reg.portGroupTxSwap, Reg.laneReversalMode].contains idx

/-- The PTP profile of a port changes (R300, R327): its exchange starts afresh, a port that served as source is lost. -/
def profileChanged (slot : Nat) (s : State) : State :=
  let was := ptpFollows s slot
  let s := setPtp slot ptpInit s
  let s := setPortState slot (if r1 s Reg.ptpPortProfile slot = 0 ∨ linkStateOf s slot ≠ 1 then 3 else 4) s
  if was then updateSource (sourceLost (dropParent s)) else s

/-- What the entries of an opening bring beside their values; `old` is the state before them, keys are resolved. -/
def sectionsFollow (old : State) (l : List (Nat × Nat)) (s : State) : State :=
  let was (k : Nat) : Nat := tget regDefault old.regs k
  -- lanes (R99)
  let s := forL (l.filter (fun e => restartsLanes (keyIdx e.1) && decide (was e.1 ≠ e.2)))
    (fun e s => laneObjectChanged (keyIdx e.1) (keySub e.1) s) s
  -- buffer (R153) and promotion (R177)
  let s := if running s 4 then judgeOvercommit s else s
  let s := if running s 4 then xonSweep s else s
  -- PortMaxFrame (R122)
  let s := forL (l.filter (fun e => decide (keyIdx e.1 = Reg.portMaxFrame) && decide (was e.1 ≠ e.2)))
    (fun e s => modPort (keySub e.1) (fun p => { p with limitWas := was e.1, limitAt := s.now }) s) s
  let s := forL (l.filter (fun e => decide (0x5020 ≤ keyIdx e.1) && decide (keyIdx e.1 ≤ 0x5027)))
    (fun e s => judgePromotion (keySub e.1) (keyIdx e.1 - 0x5020) s) s
  -- gates (R174); what the lists that ran have kept back is judged first (R176)
  let s := forN 64 (fun k s =>
    if stagedIn l 0x5010 0x5012 k then pendSwitch k (schedAt old k old.counter) s else s) s
  -- Combiner (R205)
  let s := if stagedAny l 0x6010 0x6020 then pendTables (liveTables old) s else s
  -- synthesisers and outputs (R270, R272)
  let s := forN 4 (fun k s => if stagedIn l Reg.synConfig Reg.synConfig k then synConfigured k (r1 old Reg.synConfig k) s else s) s
  let s := forN 12 (fun o s => if stagedIn l Reg.outConfig Reg.outConfig o then outConfigured o (r1 old Reg.outConfig o) s else s) s
  let s := forN 12 (fun o s =>
    if stagedIn l Reg.outCoarseDelay Reg.outFineDelay o && decide (r1 old Reg.outCoarseDelay o ≠ r1 s Reg.outCoarseDelay o ∨
        r1 old Reg.outFineDelay o ≠ r1 s Reg.outFineDelay o) then outDelayed o s else s) s
  -- pulse outputs (R278-R281)
  let s := forN 4 (fun n s =>
    if stagedIn l Reg.plsMode Reg.plsWidth n then plsConfigured n (stagedAt l Reg.plsMode n).isSome s else s) s
  let s := realignAtOpening s
  -- PTP (R300)
  let s := forN 64 (fun k s =>
    if stagedIn l Reg.ptpPortProfile Reg.ptpPortProfile k && decide (r1 old Reg.ptpPortProfile k ≠ r1 s Reg.ptpPortProfile k)
    then profileChanged k s else s) s
  -- twins (R335, R341, R343)
  let lanes := stagedAt l Reg.twinSelfTestLanes 0
  let s := match lanes with
    | some m => if twinStandby s then
        w0 Reg.twinSelfTestLanes m (selfTestLanes false (w0 Reg.twinSelfTestLanes (r0 old Reg.twinSelfTestLanes) s)) else s
    | none => s
  let s := if lanes.isSome && twinStandby s then selfTestLanes true s else s
  let changed := (List.range 15).any (fun i => decide (r0 old (Reg.twinEnable + i) ≠ r0 s (Reg.twinEnable + i)))
  let s := if changed || decide (stagedAt l Reg.twinRoleSwap 0 = some 1) then twinConfigured (decide (stagedAt l Reg.twinRoleSwap 0 = some 1)) s else s
  if stagedAny l Reg.twinClockMask Reg.twinPulseMask && running s 2 then forN 12 judgeOut s else s

/-- Every entry takes effect: the group modes first, the rest under the numbering they give (R22, R116). -/
def applyEntries (l : List (Nat × Nat)) (s : State) : State :=
  let s := judgeGates s
  let modes := l.filter (fun e => decide (keyIdx e.1 = Reg.portGroupMode))
  let rest := l.filter (fun e => decide (keyIdx e.1 ≠ Reg.portGroupMode))
  let s := if modes.isEmpty then s
    else renumberEvents s (forL modes (fun e s => changeMode (keySub e.1) e.2 s) s)
  let rest := rest.filterMap (fun e => (resolveKey s e.1).map (fun k => (k, e.2)))
  sectionsFollow s rest (forL rest applyEntry s)

/-- RESET_AT_OPENING (R37): the kind staged acts, and its live value returns to 0. -/
def resetAtOpening (s : State) : State :=
  let k := r0 s Reg.resetAtOpening
  let s := w0 Reg.resetAtOpening 0 s
  if k = 1 then datapathReset s
  else if k = 2 then curatorReset 2 s
  else if k = 3 then modPwr (fun p => { p with resetNow := some (3, r0 s Reg.tickSequence), cause := 5 }) s
  else s

/-- The armed opening takes effect and its outcome is recorded (R22, R28, R39). -/
def openArmed (a : ArmedOpening) (s : State) : State :=
  let s := applyEntries a.entries (modOpn (fun o => { o with armed := none }) s)
  let outcome := if a.cancelLate then 2 else 1
  let s := pushRecord (recordRow a.id a.tick a.count a.originator outcome a.digest) s
  resetAtOpening (notice a.id a.tick outcome none true s)

/-- An armed opening whose tick has come takes effect after the captures of the same boundary (R14, R23). -/
def openDue (s : State) : State :=
  match s.opn.armed with
  | some a => if a.tick ≤ tickNo s then openArmed a (captureDue s) else s
  | none => s

end Sys2Proof.Machine
end

