-- ==== Sys2Proof/Machine/Domains.lean ====
section
/-! DEFINITION. Sleep and wake of the switchable domains (R422-R426). -/

namespace Sys2Proof.Machine

/-- The sleep accepted for a domain. -/
def planOf (s : State) (d : Nat) : Option SleepPlan := (s.pwr.sleeps.find? (fun e => e.1 = d)).map (·.2)

def setPlan (d : Nat) (p : SleepPlan) (s : State) : State := modPwr (fun x => { x with sleeps := tput x.sleeps d p }) s

def dropPlan (d : Nat) (s : State) : State := modPwr (fun x => { x with sleeps := tdel x.sleeps d }) s

/-- The domains that enter with d (R423). -/
def entryGroup (d : Nat) : List Nat := if d = 4 then [4, 5, 6] else [d]

/-! Abandoned sleeps (R426). -/

/-- One domain's pending sleep is abandoned: wake wins. -/
def abandonOne (d : Nat) (s : State) : State :=
  if running s d then
    let s := setDomain d 0 (w1 Reg.domainSleepAtTick d 0 (w1 Reg.sleepStatus d 3 (dropPlan d s)))
    raise Ev.sleepAbandoned (inc Reg.sleepAbandonedCount d s)
  else s

/-- The sleep that is pending for d is abandoned, with the joint entry that d belongs to. -/
def abandon (d : Nat) (s : State) : State :=
  if (d = 4 ∨ d = 5 ∨ d = 6) ∧ domainState s 4 = 1 then forL (entryGroup 4) abandonOne s
  else if domainState s d = 1 then abandonOne d s
  else s

/-! Wake (R423, R425). -/

/-- A domain begins to wake at an instant. -/
def beginWake (d code t : Nat) (s : State) : State :=
  setDomain d 3 (modPwr (fun p => { p with waking := tput p.waking d (t + wakeTime d, code) }) s)

/-- A sleeping domain wakes; a lane bank waits for D4, which a bank's wake starts (R423). -/
def startWake (d code t : Nat) (s : State) : State :=
  if (d = 5 ∨ d = 6) ∧ !running s 4 then
    let s := modPwr (fun p => { p with waitD4 := tput p.waitD4 d code }) s
    if domainState s 4 = 2 then beginWake 4 6 t s else s
  else beginWake d code t s

/-- A wake source that is enabled, or the command, fires for a domain (R425, R426). -/
def fireWake (d code : Nat) (s : State) : State :=
  let s := abandon d s
  if domainState s d = 2 then startWake d code s.now s else s

/-- A wake completes (R424, R425). -/
def completeWake (d t code : Nat) (s : State) : State :=
  let s := modPwr (fun p => { p with waking := tdel p.waking d }) s
  let s := setDomain d (stateOnReturn s d) s
  let s := if r1 s Reg.sleepStatus d = 1 then w1 Reg.sleepStatus d 0 s else s
  let s := raise Ev.domainWake (inc Reg.domainWakes d (w1 Reg.lastWakeSource d code s))
  let s := wakeLives d (domainReturns d s)
  if d = 4 then
    let l := s.pwr.waitD4
    forL l (fun e s => if domainState s e.1 = 2 then startWake e.1 e.2 t s else s)
      (modPwr (fun p => { p with waitD4 := [] }) s)
  else s

/-- DOMAIN_WAKE_COMPLETE (R425): the wake time has passed. -/
def execDomainWakeComplete (domain : SwDomain) (s : State) : Host.Outcome State Fault Refusal :=
  match s.pwr.waking.find? (fun e => e.1 = swNum domain) with
  | some e => .next (completeWake e.1 e.2.1 e.2.2 (advanceTo e.2.1 s))
  | none => .next s

/-- Wakes whose time has passed and which have not completed (log 12); a bank that waits on D4 is no longer due. -/
def wakesLeftOver (s : State) : State :=
  forL (s.pwr.waking.filter (fun e => decide (e.2.1 ≤ s.now))) (fun e s => completeWake e.1 e.2.1 e.2.2 s) s

/-- An enabled source fires (R425): signal detect for the lanes of WakeLaneMask in the domain. -/
def sourceEnabled (s : State) (d : Nat) (source : WakeSource) (lane : Nat) : Bool :=
  let on (b : Nat) : Bool := (r1 s Reg.wakeSources d).testBit b
  match source with
  | .signal => on 0 && decide (bankDomain lane = d) && (r0 s Reg.wakeLaneMask).testBit lane
  | .mgt => on 1
  | .wakeN => on 2
  | .scheduled => on 3 && s.pwr.wakeDue.contains d

/-- LastWakeSource of a source. -/
def wakeCode : WakeSource → Nat
  | .signal => 1 | .mgt => 2 | .wakeN => 3 | .scheduled => 4

/-- The scheduled wake of a domain has fired: DomainWakeAtTick returns to 0. -/
def wakeTaken (d : Nat) (s : State) : State :=
  if s.pwr.wakeDue.contains d then
    w1 Reg.domainWakeAtTick d 0 (modPwr (fun p => { p with wakeDue := p.wakeDue.erase d }) s)
  else s

/-- A source fires for a domain. -/
def wakeBy (d : Nat) (source : WakeSource) (lane : Nat) (s : State) : State :=
  let on := sourceEnabled s d source lane
  let s := if source = .scheduled then wakeTaken d s else s
  if on then fireWake d (wakeCode source) s else s

/-- WAKE_SOURCE_FIRE (R425). -/
def execWakeSourceFire (domain : SwDomain) (source : WakeSource) (lane : Fin 64) (s : State) :
    Host.Outcome State Fault Refusal :=
  if s.pwr.phase = .on then .next (wakeBy (swNum domain) source lane.val s) else .next s

/-- A Lorak PDU that passes R67 arrives on MGT (R425). -/
def wakeByMgt (s : State) : State := forL switchable (fun d s => wakeBy d .mgt 0 s) s

/-- Every scheduled wake that is due fires (log 12). -/
def scheduledWakes (s : State) : State := forL s.pwr.wakeDue (fun d s => wakeBy d .scheduled 0 s) s

/-- The boundary of the tick in DomainWakeAtTick is raised, or of a later one (R425); an unpowered domain's waits (R417). -/
def markWakes (s : State) : State :=
  let l := switchable.filter (fun d =>
    let w := r1 s Reg.domainWakeAtTick d
    decide (w ≠ 0) && decide (w ≤ tickNo s) && decide (domainState s d ≠ 4))
  modPwr (fun p => { p with wakeDue := l }) s

/-! Sleep (R423, R424). -/

/-- A sleep is requested: none for a domain asleep or unpowered; a waking domain holds it. -/
def requestSleep (d tick : Nat) (s : State) : State :=
  let st := domainState s d
  if st = 2 ∨ st = 4 then s
  else
    let s := w1 Reg.sleepStatus d 0 s
    let s := match planOf s d with
      | some p => if p.due || decide (p.tick = 0) then s else setPlan d { tick := tick, due := false } s
      | none => setPlan d { tick := tick, due := false } s
    if st = 0 then setDomain d 1 s else s

/-- The sleep that DomainSleepAtTick scheduled is withdrawn (R424). -/
def withdrawSleep (d : Nat) (s : State) : State :=
  match planOf s d with
  | some p =>
    if p.due || decide (p.tick = 0) then s
    else
      let s := dropPlan d s
      if domainState s d = 1 then setDomain d 0 s else s
  | none => s

/-- The effect of DomainSleepRequest (R424, R425). -/
def effSleepRequest (d v : Nat) (s : State) : State := if v = 1 then requestSleep d 0 s else fireWake d 5 s

/-- The effect of DomainSleepAtTick (R424); an unpowered domain keeps the value only (R417). -/
def effSleepAtTick (d v : Nat) (s : State) : State :=
  let s := w1 Reg.domainSleepAtTick d v s
  if v = 0 then withdrawSleep d s else requestSleep d v s

/-- The effect of DomainWakeAtTick (R425). -/
def effWakeAtTick (d v : Nat) (s : State) : State :=
  w1 Reg.domainWakeAtTick d v (modPwr (fun p => { p with wakeDue := p.wakeDue.erase d }) s)

/-- DOMAIN_SLEEP_REQUEST (R424). -/
def execDomainSleepRequest (domain : SwDomain) (w : WriteReq) (s : State) : Host.Outcome State Fault Refusal :=
  .next (catWrite w Reg.domainSleepRequest (swNum domain) 0 effSleepRequest s)

/-- DOMAIN_WAKE_COMMAND (R425). -/
def execDomainWakeCommand (domain : SwDomain) (w : WriteReq) (s : State) : Host.Outcome State Fault Refusal :=
  .next (catWrite w Reg.domainSleepRequest (swNum domain) 0 effSleepRequest s)

/-- DOMAIN_SLEEP_AT_TICK_WRITE (R424). -/
def execDomainSleepAtTickWrite (domain : SwDomain) (w : WriteReq) (s : State) : Host.Outcome State Fault Refusal :=
  .next (catWrite w Reg.domainSleepAtTick (swNum domain) 0 effSleepAtTick s)

/-- DOMAIN_WAKE_AT_TICK_WRITE (R425). -/
def execDomainWakeAtTickWrite (domain : SwDomain) (w : WriteReq) (s : State) : Host.Outcome State Fault Refusal :=
  .next (catWrite w Reg.domainWakeAtTick (swNum domain) 0 effWakeAtTick s)

/-- An armed opening that is yet to come has entries in a domain of d's entry (R24). -/
def sleepDeferred (s : State) (d : Nat) : Bool :=
  match s.opn.armed with
  | some a => decide (tickNo s < a.tick) && (entryGroup d).any (entriesIn a.entries)
  | none => false

/-- A sleep whose boundary is raised is due, or deferred (R24, R424). -/
def markSleep (d : Nat) (s : State) : State :=
  match planOf s d with
  | some p =>
    if tickNo s < p.tick ∨ domainState s d ≠ 1 then s
    else if sleepDeferred s d then
      forL (entryGroup d) (fun g s => if domainState s g = 1 then w1 Reg.sleepStatus g 2 s else s) s
    else setPlan d { p with due := true } s
  | none => s

/-- The sleeps of a boundary. -/
def markSleeps (s : State) : State := forL switchable markSleep s

/-- One domain enters sleep (R422, R424). -/
def enterOne (d : Nat) (s : State) : State :=
  let st := domainState s d
  if st = 2 ∨ st = 4 then s
  else
    let s := sleepLives d (domainLeaves d s)
    let s := modPwr (fun p => { p with sleeps := tdel p.sleeps d, waking := tdel p.waking d }) s
    inc Reg.sleepEntries d (w1 Reg.domainSleepAtTick d 0 (w1 Reg.sleepStatus d 1 (setDomain d 2 s)))

/-- The entry of a domain, with D5 and D6 where it is D4 (R423). -/
def enterSleep (d : Nat) (s : State) : State := forL (entryGroup d) enterOne s

/-- A due sleep is entered after the steps of R23, unless a wake of the same boundary abandons it (R424, R426). -/
def sleepDue (d : Nat) (s : State) : State :=
  let due (s : State) : Bool := match planOf s d with | some p => p.due | none => false
  if due s then
    let s := scheduledWakes (openDue s)
    if due s then enterSleep d s else s
  else s

/-- Entries that their own rows have not made (log 12). -/
def sleepsLeftOver (s : State) : State := forL switchable sleepDue s

end Sys2Proof.Machine
end

