-- ==== Sys2Proof/Machine/Jtag.lean ====
section
/-! DEFINITION. The test access port (R448-R450): the instruction in force, what its data register presents, and the
balls under the boundary register. -/

namespace Sys2Proof.Machine

/-- IDCODE (R448). -/
def idcodeValue (s : State) : Nat := idcodeOf (r0 s Reg.dieSteppings)

/-- VitrineVersion, then VitrineMicrocodeDigest, least significant first. -/
def vitrineIdValue (s : State) : Nat := r0 s Reg.vitrineVersion + r0 s Reg.vitrineMicrocodeDigest * 2 ^ 32

/-- Instructions under which the balls follow the boundary register (R450). -/
def holdsBalls (code : Nat) : Bool := [0, 3, 4, 5, 6].contains code

/-- Every lane in one of some states goes to SIGNAL, with its link judged. -/
def lanesToSignal (states : List Nat) (counted : Bool) (s : State) : State :=
  forN 64 (fun k s =>
    if states.contains (laneStateOf s k) then
      let s := if counted && decide (laneStateOf s k = 7) then inc Reg.laneLinkDowns k s else s
      onLane k (setLaneState k 1) s
    else s) s

/-- The balls go under the boundary register: lanes lose their partners and leave UP, and bring-up (R98, R450). -/
def ballsHeld (s : State) : State :=
  let s := lanesToSignal [2, 3, 4, 5, 6, 7] true s
  { s with tap := { s.tap with held := true } }

/-- The balls return to functional control; lanes bring up from SIGNAL (R450). -/
def ballsFreed (s : State) : State :=
  lanesToSignal [2, 3, 4, 5, 6, 7] false { s with tap := { s.tap with held := false } }

/-- Instructions under which the boundary register shifts: EXTEST, SAMPLE/PRELOAD and the two of IEEE 1149.6. HIGHZ selects
BYPASS, as IEEE 1149.1 has it. -/
def selectsCells (code : Nat) : Bool := [0, 1, 5, 6].contains code

/-- What the boundary register has captured and been given by then is a free value (log 6). -/
def takeCells (code : Nat) (s : State) : State :=
  if selectsCells code then
    let d := draw s
    { d.2 with tap := { d.2.tap with cells := Config.freeValue d.1 } }
  else s

/-- What the data register presents: the boundary register, IDCODE, VITRINE_ID, or a bypass. -/
def tapData (code : Nat) (s : State) : Nat :=
  if code = 2 then idcodeValue s
  else if code = 0x20 then vitrineIdValue s
  else if selectsCells code then s.tap.cells
  else 0

/-- An instruction takes effect at Update-IR. -/
def loadTap (code : Nat) (s : State) : State :=
  let s := if holdsBalls code then (if s.tap.held then s else ballsHeld s) else (if s.tap.held then ballsFreed s else s)
  let s := takeCells code s
  { s with tap := { s.tap with instruction := code, data := tapData code s } }

/-- What drives an output ball: nothing, a low level or a high one. -/
inductive BallLevel where
  | highZ
  | low
  | high
deriving DecidableEq, Repr

/-- An output ball with the level that functional logic gives it: under the boundary register it follows its cell, and under
HIGHZ nothing drives it (R448, R450); an open-drain ball drives no high level (R439). The cells are numbered 0 EVTA_N, 1
EVTB_N, 2 PG_O, 3 TICK_O, 4 SVC_TX, 5 on the transmit pins of the lanes. -/
def ballLevel (cell : Nat) (functional : BallLevel) (s : State) : BallLevel :=
  if !s.tap.held then functional
  else if s.tap.instruction = 3 then .highZ
  else if s.tap.cells.testBit cell then (if cell ≤ 2 then .highZ else .high)
  else .low

/-- EVTA_N (n = 0) and EVTB_N (n = 1) at the ball (R390, R439, R450). -/
def eventBall (n : Nat) (s : State) : BallLevel :=
  if s.pwr.phase = .off then .highZ
  else ballLevel n (if (eventPins (perfNow s)).testBit n then .low else .highZ) s

/-- PG_O at the ball: held low without supply (R417, R441, R450). -/
def powerGoodBall (s : State) : BallLevel :=
  if s.pwr.phase = .off then .low else ballLevel 2 (if r0 s Reg.powerGood = 1 then .highZ else .low) s

/-- SVC_TX between frames, and under SVC_PORT throughout: it idles high (R83, R449). -/
def svcTxBall (s : State) : BallLevel :=
  if s.pwr.phase = .off then .highZ else ballLevel 4 .high s

/-- What is at a lane's transmit pins: the levels of its transmitter, or under the boundary register what drives its pair
(R91, R450). -/
inductive LanePins where
  | levels (l : List Nat)
  | boundary (b : BallLevel)
deriving DecidableEq, Repr

/-- The transmit pins of a lane, for the data and received levels of the lane that they carry. -/
def laneBalls (s : State) (pins n : Nat) (pcs : List Bool) (heard : List Nat) : LanePins :=
  if s.tap.held then .boundary (ballLevel (5 + pins) .highZ s) else .levels (pinLevels s pins n pcs heard)

/-- An instruction of the TAP, which works whenever D3 is powered (R448). -/
def tapInstruction (code : Nat) (s : State) : Host.Outcome State Fault Refusal :=
  if s.pwr.phase = .off then .next s else .next (loadTap code s)

/-- EXTEST (R448, R450). -/
def execExtest (s : State) : Host.Outcome State Fault Refusal := tapInstruction 0 s

/-- SAMPLE_PRELOAD (R448). -/
def execSamplePreload (s : State) : Host.Outcome State Fault Refusal := tapInstruction 1 s

/-- IDCODE (R448). -/
def execIdcode (s : State) : Host.Outcome State Fault Refusal := tapInstruction 2 s

/-- HIGHZ (R448, R450). -/
def execHighz (s : State) : Host.Outcome State Fault Refusal := tapInstruction 3 s

/-- CLAMP (R448, R450). -/
def execClamp (s : State) : Host.Outcome State Fault Refusal := tapInstruction 4 s

/-- EXTEST_PULSE (R448, R450). -/
def execExtestPulse (s : State) : Host.Outcome State Fault Refusal := tapInstruction 5 s

/-- EXTEST_TRAIN (R448, R450). -/
def execExtestTrain (s : State) : Host.Outcome State Fault Refusal := tapInstruction 6 s

/-- VITRINE_ID (R448). -/
def execVitrineId (s : State) : Host.Outcome State Fault Refusal := tapInstruction 0x20 s

/-- SVC_PORT (R448, R449): the JTAG stream takes the place of the serial balls for every purpose. -/
def execSvcPort (s : State) : Host.Outcome State Fault Refusal := tapInstruction 0x21 s

/-- The codes of R448 that are neither BYPASS nor reserved. -/
def tapDefined (code : Nat) : Bool := decide (code ≤ 6) || decide (code = 0x20) || decide (code = 0x21)

/-- BYPASS (R448); a reserved code acts as BYPASS. -/
def execBypass (code : BitVec 8) (s : State) : Host.Outcome State Fault Refusal :=
  tapInstruction (if tapDefined code.toNat then 0xFF else code.toNat) s

/-- TAP_RESET (R448): IDCODE is the instruction after TAP reset; TRST_N resets only the TAP. -/
def execTapReset (s : State) : Host.Outcome State Fault Refusal := tapInstruction 2 s

end Sys2Proof.Machine
end

