-- ==== Sys2Proof/Machine/Views.lean ====
section
/-! DEFINITION. What a READ of an object returns (R48, R52): the live value, or one computed from the state at the
instant of the read. -/

namespace Sys2Proof.Machine

/-- A row of ObjectDirectory: one run of sub-indices of one index (R63). -/
def directoryRow (e : Entry) (idx : Nat) (run : Nat × Nat) : Nat :=
  idx * 2 ^ 80 + run.1 * 2 ^ 72 + run.2 * 2 ^ 64 + e.ty.code * 2 ^ 56 + e.acc.code * 2 ^ 52 + e.ty.len * 2 ^ 32 + e.rowLimit

/-- ObjectDirectory, in ascending order of index and first sub-index (R63). -/
def directoryRows : List Nat :=
  (List.range 16).flatMap (fun x => (entriesOf x).flatMap (fun e =>
    (List.range e.count).flatMap (fun k => e.subs.map (directoryRow e (e.idx + k)))))

/-- LaneRate of the group's mode (R85). -/
def laneRateOf (s : State) (lane : Nat) : Nat :=
  match groupMode s (lane / 2) with
  | 1 => 4 | 2 => 4 | 3 => 3 | 4 => 3 | 5 => 2 | 6 => 1 | _ => 0

/-- A computed object with one value per logical port: 0 for an absent number (R115). -/
def portView (s : State) (port : Nat) (f : Nat → Nat) : Nat :=
  match slotOf s port with
  | some slot => f slot
  | none => 0

/-- The FEC counts of a two-lane port stand at its lower lane: the upper lane reads 0 (R105). -/
def fecView (s : State) (idx lane : Nat) : Option Nat := some (if fecAtLower s lane then 0 else r1 s idx lane)

/-- The state with every counter as it stands at this instant: the deferrals and the cycles of level sources up to now have
been counted (R176, R372). -/
def seen (s : State) : State := perfNow (judgeGates s)

/-- The value of an object that State does not hold as a register. -/
def viewOf (s : State) (session idx sub row : Nat) : Option Nat :=
  match idx with
  | 0x0011 => some directoryRows.length
  | 0x0012 => some (directoryRows[row]?.getD 0)
  | 0x0037 => some session
  | 0x1010 => some (shadowState s)
  | 0x1011 => some (shadowCount s)
  | 0x1012 => some (shadowDigest s)
  | 0x1021 => some (match s.opn.armed with | some a => a.id | none => 0)
  | 0x1022 => some (match s.opn.armed with | some a => a.tick | none => 0)
  | 0x1023 => some (b2n s.opn.armed.isSome)
  | 0x2002 => some (laneRateOf s sub)
  | 0x2050 => fecView s idx sub
  | 0x2051 => fecView s idx sub
  | 0x2052 => fecView s idx sub
  | 0x3001 => some (portCountOf s)
  | 0x3002 => some ((slotOf s sub).getD 0xFF)
  | 0x3003 => some (portView s sub (slotSpeed s))
  | 0x3004 => some (portView s sub (linkStateOf s))
  | 0x4021 => some (rd s Reg.forwardingTable 0 row)
  | 0x4050 => some (portView s sub (xoffMask s))
  | 0x40A0 => some (learnedCount s)
  | 0x5014 => some (portView s sub (fun k => r1 (syncGate k s) Reg.gateEntryNow k))
  | 0x5015 => some (portView s sub (fun k => r1 (syncGate k s) Reg.gateStatesNow k))
  | 0x5013 => some (portView s sub (fun k => r1 (syncGate k s) Reg.gateSwitchPending k))
  | 0x8002 => some (time128 s.counter)
  | 0xB001 => some invRows.length
  | 0xB002 => some (((invRows[row]?).map InvRow.value).getD 0)
  | 0xB012 => some (r1 (seen s) Reg.perfCounter sub)
  | 0xB015 => some (r0 (seen s) Reg.perfOverflow)
  | 0xB02A => some (archiveStateOf s)
  | 0xB100 => some (r1 (seen s) Reg.eventPending sub)
  | 0xB107 => some (eventSummaryOf (seen s))
  | 0xB108 => some (eventPins (seen s))
  | 0xB10A => some (rd (seen s) Reg.eventCounts 0 row)
  | _ =>
    if 0x3048 ≤ idx ∧ idx ≤ 0x304F then some (portView s sub (fun k => r1 (settleHold k (idx - 0x3048) s) idx k))
    else if 0x5040 ≤ idx ∧ idx ≤ 0x5047 then some (portView s sub (r1 (judgeGates s) idx))
    else if idx = 0x4030 ∨ idx = 0x4032 ∨ idx = 0x4033 ∨ idx = 0x4034 then some (gaugeValue s idx 0)
    else if (0x4040 ≤ idx ∧ idx ≤ 0x404F) ∨ (0x4068 ≤ idx ∧ idx ≤ 0x406F) then some (portView s sub (gaugeValue s idx))
    else none

/-- The value a READ by a session returns: an absent port's object reads 0 (R115). -/
def readObj (s : State) (session idx sub row : Nat) : Nat :=
  match viewOf s session idx sub row with
  | some v => v
  | none =>
    match storeSub s idx sub with
    | some st => rd s idx st row
    | none => 0

/-- The bytes of a value field: those of the value, or zeros where the access is a violation (R56). -/
def readBytes (s : State) (session idx sub row : Nat) : Bytes :=
  match visible s session idx sub with
  | none => bytesLE 4 0
  | some e =>
    match judge s .read session idx sub row none with
    | some _ => bytesLE e.ty.len 0
    | none => encodeVal e.ty (readObj s session idx sub row)

/-- The central reader reads a 64-bit counter: its low half, which copies the high half into the central reader's latch of
that block, then the high half out of that latch (R367). The blocks are taken as the sections of the Catalogue (DEDUCED,
log 71). -/
def latchHigh (idx v : Nat) (s : State) : State :=
  if capturedIdx idx && !inRanges gaugeRanges idx then
    { s with arch := { s.arch with latches := tset (fun _ => 0) s.arch.latches (idx / 4096) (v / 2 ^ 32) } }
  else s

/-- An access that is no violation reads its object: its bytes, and what the read leaves in a latch (R52, R367). -/
def readTaken (session idx sub row : Nat) (s : State) : Bytes × State :=
  (readBytes s session idx sub row, latchHigh idx (readObj s session idx sub row) s)

/-- One item of a READ: its bytes, and the record of a violation (R52, R56). -/
def readItem (opcode session idx sub row seq item : Nat) (s : State) : Bytes × State :=
  match judge s .read session idx sub row none with
  | some k => (readBytes s session idx sub row, violate opcode session idx sub row seq item k s)
  | none => readTaken session idx sub row s

end Sys2Proof.Machine
end

