-- ==== Sys2Proof/Machine/Sessions.lean ====
section
/-! DEFINITION. Sessions (R58, R73-R78): slots, answers, closing, keys, and the banks whose COLLECTs are held. -/

namespace Sys2Proof.Machine

/-- The transport sub-index of R84. -/
def transportIdx (t : Transport) : Nat :=
  match t with
  | .svc => 0 | .mgt => 1 | .inband => 2

def modLrk (f : Lrk → Lrk) (s : State) : State := { s with lrk := f s.lrk }

def setSession (slot : Nat) (x : Session) (s : State) : State :=
  modLrk (fun l => { l with sessions := tput l.sessions slot x }) s

def modSession (slot : Nat) (f : Session → Session) (s : State) : State :=
  match getSession s slot with
  | some x => setSession slot (f x) s
  | none => s

/-- The requester of a PDU (R73). -/
def requester (e : Envelope) (p : Pdu) : Peer :=
  { transport := e.transport, srcAddr := p.src.toNat, srcTag := p.srcTag.toNat, port := e.port.val, mac := e.mac.toNat }

/-- Two requesters are the same identity: transport, SrcAddr and SrcTag (R73). -/
def sameIdentity (a b : Peer) : Bool :=
  decide (a.transport = b.transport) && decide (a.srcAddr = b.srcAddr) && decide (a.srcTag = b.srcTag)

/-- The slot is open for a requester (R72). -/
def sessionFor (s : State) (slot : Nat) (who : Peer) : Option Session :=
  if slotOpen s slot then (getSession s slot).filter (fun x => sameIdentity x.peer who) else none

/-! Answers (R65, R74). -/

/-- The answer to a request: its addresses exchanged, its tag and sequence number kept. The SrcAddr of an answer to a
request for 0x000 is 0x000, as in the worked exchange after R83 (DEDUCED, log 63). -/
def answerPdu (r : Req) (session status : Nat) (payload : Bytes) (sk : Option Bytes) : Pdu :=
  makePdu r.opcode r.pdu.src.toNat r.pdu.dst.toNat r.pdu.srcTag.toNat session status r.pdu.sequence.toNat payload sk

/-- Answer a request on the path by which it came. -/
def answer (r : Req) (session status : Nat) (payload : Bytes) (sk : Option Bytes) (s : State) : State :=
  sendPdu (requester r.env r.pdu) r.opcode (answerPdu r session status payload sk) s

/-- The session key of an authenticated slot. -/
def slotKey (s : State) (slot : Nat) : Option Bytes :=
  match getSession s slot with
  | some x => if x.key.isSome then some x.sk else none
  | none => none

/-- A request of a session has been executed: its answer is sent and stored, and L is its number (R74). -/
def finishRequest (slot : Nat) (r : Req) (status : Nat) (payload : Bytes) (s : State) : State :=
  let pdu := answerPdu r slot status payload (slotKey s slot)
  let to_ := requester r.env r.pdu
  let n := r.pdu.sequence.toNat
  let s := sendPdu to_ r.opcode pdu s
  if slotOpen s slot then
    modSession slot (fun x => { x with last := n, answers := lastN 64 (x.answers ++ [(n, { opcode := r.opcode, pdu := pdu })]) }) s
  else s

/-! Closing (R75). -/

/-- A request of a slot that waits for a fuse or behind what does. -/
def fuseRequestOf (slot : Nat) (x : SealWait) : Bool :=
  match x with
  | .write _ _ _ _ => false
  | .request k _ _ _ => decide (k = slot)
  | .arrived k _ => decide (k = slot)

/-- A slot closes with its values retained; what it held is discarded, and its subscriptions end (R75, R76). -/
def closeSession (slot : Nat) (s : State) : State :=
  if !slotOpen s slot then s
  else
    let s := w1 Reg.sessionState slot 3 (w1 Reg.lorakSubscriptions slot 0 s)
    let s := { s with
      ev := { s.ev with copies := s.ev.copies.filter (fun k => k ≠ slot) }
      vit := { s.vit with waiting := s.vit.waiting.filter (fun x => !fuseRequestOf slot x) } }
    let s := modLrk (fun l => { l with stamp := l.stamp + 1 }) s
    let s := modSession slot (fun x => { x with held := [], closedAt := s.lrk.stamp }) s
    let drop (b : Bank) : Bank := { b with held := b.held.filter (fun h => h.slot ≠ slot) }
    modOpn (fun o => { o with bank0 := drop o.bank0, bank1 := drop o.bank1 }) s

/-- Close every open session that meets a condition. -/
def closeWhere (p : Session → Bool) (s : State) : State :=
  forN 16 (fun k s => match getSession s k with
    | some x => if p x then closeSession k s else s
    | none => s) s

/-- SESSION_IDLE_TIMEOUT (R75): no request for LorakIdleLimit seconds. -/
def execSessionIdleTimeout (slot : Fin 16) (s : State) : Host.Outcome State Fault Refusal :=
  match getSession s slot.val with
  | some x =>
    if reaches s slot.val then
      .next (closeSession slot.val (advanceTo (x.lastReq + r0 s Reg.lorakIdleLimit * 10 ^ 12) s))
    else .next s
  | none => .next s

/-- A slot's counts and record of violations return to 0 (R58, R60). -/
def clearViolations (slot : Nat) (s : State) : State :=
  let s := w1 Reg.sessionViolations slot 0 (w1 Reg.sessionLastViolation slot 0 s)
  forN 16 (fun k s => w1 Reg.sessionViolationKinds (slot * 16 + k) 0 s) s

/-- SESSION_VIOLATION_CLEAR (R58). -/
def execSessionViolationClear (target : Fin 16) (w : WriteReq) (s : State) : Host.Outcome State Fault Refusal :=
  .next (catWrite w Reg.sessionViolationClear target.val 0 (effClear clearViolations) s)

/-! Keys (R75, R77, R78). -/

/-- The key of a slot. -/
def keyOf (s : State) (slot : Nat) : Option Nat := (s.lrk.keys.find? (fun e => e.1 = slot)).map (·.2)

/-- The effect of LorakKey: a change closes the sessions authenticated with the key. -/
def effLorakKey (k v : Nat) (s : State) : State :=
  if keyOf s k = some v then s
  else
    let s := modLrk (fun l => { l with keys := tput l.keys k v }) s
    closeWhere (fun x => decide (x.key = some k)) (w1 Reg.lorakKeyLoaded k 1 s)

/-- LORAK_KEY_WRITE (R78). -/
def execLorakKeyWrite (key : Fin 4) (w : WriteReq) (s : State) : Host.Outcome State Fault Refusal :=
  .next (catWrite w Reg.lorakKey key.val 0 effLorakKey s)

/-- The effect of LorakKeyErase. -/
def effLorakKeyErase (st v : Nat) (s : State) : State :=
  effBool (fun _ s =>
    closeWhere (fun x => x.key.isSome) (dropIdx Reg.lorakKeyLoaded (modLrk (fun l => { l with keys := [] }) s))) st v s

/-- LORAK_KEY_ERASE (R84). -/
def execLorakKeyErase (w : WriteReq) (s : State) : Host.Outcome State Fault Refusal :=
  .next (catWrite w Reg.lorakKeyErase 0 0 effLorakKeyErase s)

/-- The effect of LorakAuthRequired: the unauthenticated sessions of the transport close. -/
def effAuthRequired (t v : Nat) (s : State) : State :=
  let s := w1 Reg.lorakAuthRequired t v s
  if v = 1 then closeWhere (fun x => decide (transportIdx x.peer.transport = t) && x.key.isNone) s else s

/-- LORAK_AUTH_REQUIRED_WRITE (R75). -/
def execLorakAuthRequiredWrite (transport : Fin 3) (w : WriteReq) (s : State) : Host.Outcome State Fault Refusal :=
  .next (catWrite w Reg.lorakAuthRequired transport.val 0 effAuthRequired s)

/-! MGT and SVC (R82, R83). -/

/-- The effect of MgtMode: the link retrains at once. -/
def effMgtMode (_ v : Nat) (s : State) : State := w0 Reg.mgtLinkState 0 (w0 Reg.mgtMode v s)

/-- MGT_MODE_WRITE (R82). -/
def execMgtModeWrite (w : WriteReq) (s : State) : Host.Outcome State Fault Refusal :=
  .next (catWrite w Reg.mgtMode 0 0 effMgtMode s)

/-- MGT_LINK_UP (R82): the speed of the mode, or the one the PHY signals. -/
def execMgtLinkUp (signalled : Fin 3) (s : State) : Host.Outcome State Fault Refusal :=
  if s.pwr.phase = .on then
    let m := r0 s Reg.mgtMode
    .next (w0 Reg.mgtLinkState (if m = 0 then 3 else if m = 1 then 4 else signalled.val + 1) s)
  else .next s

/-- MGT_LINK_DOWN (R82). -/
def execMgtLinkDown (s : State) : Host.Outcome State Fault Refusal := .next (w0 Reg.mgtLinkState 0 s)

/-- SVC_LINE_BREAK (R83): the frame in progress is discarded and counted. Under SVC_PORT the ball is disconnected (R449). -/
def execSvcLineBreak (inFrame : Bool) (s : State) : Host.Outcome State Fault Refusal :=
  if inFrame && serves s && !svcPortSelected s then .next (inc Reg.lorakFormatDrops 0 s) else .next s

/-! Banks and their COLLECTs (R36, R71, R376). -/

/-- The bank that a COLLECT names: one that has captured under the InventoryId (R71). -/
def bankOf (s : State) (id : Nat) : Option Nat :=
  (List.range 2).find? (fun b =>
    decide (bankState s b ≠ 0) && decide (r1 s Reg.inventoryBankId b = id) && (getBank s b).captured)

/-- A COLLECT that asks for the bank's release (R66). -/
def wantsRelease (r : Req) : Bool := r.pdu.flags.getLsbD 2

/-- Answer a COLLECT: a segment of a full bank's image, or NO-BANK; then the release (R36, R71). -/
def answerCollect (slot : Nat) (r : Req) (s : State) : State :=
  let p := r.pdu.payload
  let off := leAt p 4 4
  match bankOf s (leAt p 0 4) with
  | none => finishRequest slot r 9 [] s
  | some b =>
    let data := imageBytes s b off (leAt p 8 2)
    let s := finishRequest slot r 0 (slice p 0 8 ++ bytesLE 2 data.length ++ data) s
    if wantsRelease r then freeBank b s else s

/-- The COLLECTs that a bank holds, answered as it stands now. -/
def answerHeld (b : Nat) (l : List HeldCollect) (s : State) : State :=
  forL l (fun h s => answerCollect h.slot h.req s) (setBank b { getBank s b with held := [] } s)

/-- The bank is full: InventoryBankTick is the tick of its capture, and the COLLECTs held are answered (R376). -/
def bankFull (b : Nat) (s : State) : State :=
  let x := getBank s b
  if x.captured && decide (bankState s b = 1) then
    answerHeld b x.held (w1 Reg.inventoryBankTick b x.takenAt (w1 Reg.inventoryBankState b 2 s))
  else s

/-- The effect of InventoryRelease: COLLECTs held by the bank have none to read (R36, R71). -/
def effInventoryRelease (st v : Nat) (s : State) : State :=
  effBool (fun b s =>
    let l := (getBank s b).held
    answerHeld b l (freeBank b s)) st v s

end Sys2Proof.Machine
end

