-- ==== Sys2Proof/Machine/Writes.lean ====
section
/-! DEFINITION. The effect of a write on each Catalogue object, whichever PDU carries it (R48-R51). -/

namespace Sys2Proof.Machine

/-- The effect of a row of ForwardingTableDirect: the row of ForwardingTable at once (R141); learning that reaches the row in
the same core cycle does nothing (R164). A frame written within 64 core
cycles of it sees the new row (DESIGN CHOICE: R164 allows either, log 65). -/
def effForwardingDirect (row : Nat) (_ v : Nat) (s : State) : State :=
  let rows := if s.core.directAt = coreCycle s + 1 then s.core.directRows else []
  wr Reg.forwardingTable 0 row v { s with core := { s.core with directAt := coreCycle s + 1, directRows := row :: rows } }

/-- The effect of a write on an object: for an object without one of its own, the value is replaced. -/
def effOf (opcode : Nat) (w : WriteReq) (idx row : Nat) : Nat → Nat → State → State :=
  match idx with
  | 0x0036 => effClear clearViolations
  | 0x0040 => effLorakKey
  | 0x0042 => effAuthRequired
  | 0x0043 => effLorakKeyErase
  | 0x0050 => effMgtMode
  | 0x1005 => effTickMaxClear
  | 0x1013 => effShadowDiscard
  | 0x1035 => effInventoryRelease
  | 0x2000 => effLaneEnable
  | 0x2043 => effReserveRequest
  | 0x3022 => effClear (fun _ s => dropIdx Reg.classRuleHits s)
  | 0x305F => effClear clearPortCounters
  | 0x4019 => effFdbAgeTime
  | 0x4021 => effForwardingDirect row
  | 0x4024 => effBool (fun _ s => fdbFlush s)
  | 0x40B0 => effClear (fun _ s => clearCoreCounters s)
  | 0x505F => effClear clearGateCounters
  | 0x605F => effClear (fun _ s => clearCombiner s)
  | 0x7020 => effTdcMeasureConfig
  | 0x7021 => effBool measStart
  | 0x7030 => effFreqMeasureConfig
  | 0x7031 => effBool freqStart
  | 0x7043 => effCalRequest .tdc
  | 0x7201 => effSynOffset
  | 0x7213 => effOutEnable
  | 0x8001 => effServoMode
  | 0x8004 => effTimeIncrementSet
  | 0x8005 => effTimeStep
  | 0x8006 => effTimeSet
  | 0x8007 => effServoStateSet
  | 0x8008 => effServoCommand
  | 0x8009 => effBool (fun _ s => acceptStepNow s)
  | 0x8032 => effRootTimeSource
  | 0x805F => effClear clearPtp
  | 0x9008 => effZutumEnable
  | 0xA008 => effBool (fun _ s => discardSets s)
  | 0xA309 => effCalRequest .portDelay
  | 0xA409 => effCalRequest .output
  | 0xA509 => effCalRequest .crystal
  | 0xB000 => effClear (fun _ s => clearAllCounters s)
  | 0xB010 => effPerfConfig Reg.perfConfig 0
  | 0xB011 => effPerfConfig Reg.perfGateTicks 0
  | 0xB012 => effPerfPreset 0
  | 0xB014 => effPerfThreshold
  | 0xB016 => effPerfOverflowClear
  | 0xB020 => effArchiveConfig Reg.archiveMode
  | 0xB021 => effArchiveConfig Reg.archiveSampleEvery
  | 0xB022 => effArchiveConfig Reg.archiveFilter
  | 0xB025 => effBool (fun _ s => archTrigger 2 s)
  | 0xB02E => effClear (fun _ s => clearArchive s)
  | 0xB101 => effEventClear
  | 0xB103 => effEventMask Reg.eventMaskA
  | 0xB104 => effEventMask Reg.eventMaskB
  | 0xB105 => effEventMask Reg.eventMaskNotify
  | 0xB106 => effEventHold
  | 0xB10B => effClear (fun _ s => dropIdx Reg.eventCounts (perfNow s))
  | 0xC020 => effSeal opcode Reg.tenantMap row w
  | 0xC021 => effSeal opcode Reg.vitrineInterval row w
  | 0xD001 => effSleepRequest
  | 0xD002 => effSleepAtTick
  | 0xD003 => effWakeAtTick
  | 0xD010 => effResetNow
  | 0xD022 => effBootPrefer
  | 0xD024 => effImageBlock row
  | 0xD025 => effImageErase
  | 0xD026 => effImageCommit
  | 0xD034 => effOvertempLimit
  | 0xE000 => setTestObject Reg.patGenSelect
  | 0xE001 => setTestObject Reg.patChkSelect
  | 0xE00E => effClear clearChecker
  | 0xE013 => effInjectFire
  | 0xE020 => setTestObject Reg.loopbackMode
  | 0xE100 => effBool (fun _ s => startSelfTest (r0 s Reg.tdcSelfTestChannel) s)
  | _ => effStore idx row

/-- One write of a PDU: a violation is counted and changes nothing, an accepted value takes effect (R48, R56). -/
def applyWrite (opcode : Nat) (w : WriteReq) (idx sub row : Nat) (s : State) : State :=
  catWriteAs opcode w idx sub row (effOf opcode w idx row) s

end Sys2Proof.Machine
end

