-- ==== Sys2Proof/Machine/Lorak.lean ====
section
/-! DEFINITION. Lorak (R65-R81, R457): what happens to a PDU that arrives, the operations, sequence windows, relay. -/

namespace Sys2Proof.Machine

/-! Items (R69). -/

/-- An item of a READ, WRITE or STAGE. -/
structure Item where
  idx : Nat
  sub : Nat
  row : Nat
  value : Bytes
deriving DecidableEq, Repr

/-- The items of a payload, packed without gaps; none where the lengths do not add up (R69). A payload of no item at all
parses as no items: the request is executed and answered OK (DESIGN CHOICE, log 63). -/
def itemsOf : Nat → Bytes → Option (List Item)
  | 0, l => if l.isEmpty then some [] else none
  | n + 1, l =>
    if l.isEmpty then some []
    else
      let len := leAt l 8 2
      if l.length < 10 + len then none
      else
        (itemsOf n (l.drop (10 + len))).map (fun t =>
          { idx := leAt l 0 2, sub := leAt l 2 1, row := leAt l 4 4, value := slice l 10 len } :: t)

/-- The items of a request. -/
def requestItems (r : Req) : Option (List Item) := itemsOf r.pdu.payload.length r.pdu.payload

/-- An item as it stands in a READ answer. -/
def itemBytes (i : Item) (value : Bytes) : Bytes :=
  bytesLE 2 i.idx ++ bytesLE 1 i.sub ++ bytesLE 1 0 ++ bytesLE 4 i.row ++ bytesLE 2 value.length ++ value

/-- The length of the value that a READ of an object returns (R56). -/
def readLength (s : State) (slot idx sub : Nat) : Nat :=
  match visible s slot idx sub with
  | some e => e.ty.len
  | none => 4

/-- What an operation answers: its status and payload, and the state it leaves; `waits` where a fuse holds it up and the
answer comes later (R410). -/
structure Done where
  status : Nat
  payload : Bytes
  after : State
  waits : Bool := false

/-- MALFORMED: nothing is executed. An answer with a status that refuses its request has an empty payload (DESIGN CHOICE,
log 63). -/
def malformed (s : State) : Done := { status := 8, payload := [], after := s }

/-! The operations of a session (R68). -/

/-- READ (R52, R69). -/
def opRead (slot : Nat) (r : Req) (s : State) : Done :=
  match requestItems r with
  | none => malformed s
  | some l =>
    if 1400 < l.foldl (fun a i => a + 10 + readLength s slot i.idx i.sub) 0 then malformed s
    else
      let f (acc : Bytes × State) (x : Item × Nat) : Bytes × State :=
        let v := readItem r.opcode slot x.1.idx x.1.sub x.1.row r.pdu.sequence.toNat x.2 acc.2
        (acc.1 ++ itemBytes x.1 v.1, v.2)
      let a := l.zipIdx.foldl f ([], s)
      { status := 0, payload := a.1, after := a.2 }

/-- The write that an item or a row carries. -/
def writeReq (slot : Nat) (r : Req) (item : Nat) (value : Bytes) : WriteReq :=
  { slot := Fin.ofNat 16 slot, sequence := r.pdu.sequence, item := BitVec.ofNat 8 item, value := value }

/-- The write of a place in a request: BULK rows all stand at item 0 (R60). -/
def placeReq (slot : Nat) (r : Req) (place : Nat) (i : Item) : WriteReq :=
  writeReq slot r (if r.opcode = 4 then place else 0) i.value

/-- A fuse holds up a write of a request (R51, R410). -/
def itemHeld (slot : Nat) (i : Item) (s : State) : Bool :=
  isSealed i.idx && fuseHolds s (judge s .write slot i.idx i.sub i.row (some i.value))

/-- The writes of a request in payload order, from a place on (R69): the place at which a fuse holds them up, if one does. -/
def runWrites (slot : Nat) (r : Req) : Nat → List Item → State → Option Nat × State
  | _, [], s => (none, s)
  | place, i :: t, s =>
    if itemHeld slot i s then (some place, s)
    else runWrites slot r (place + 1) t (applyWrite r.opcode (placeReq slot r place i) i.idx i.sub i.row s)

/-- The rows that a BULK carries, as items. -/
def bulkItems (r : Req) : List Item :=
  let p := r.pdu.payload
  let len := leAt p 10 2
  (List.range (leAt p 8 2)).map (fun n =>
    { idx := leAt p 0 2, sub := leAt p 2 1, row := leAt p 4 4 + n, value := slice (p.drop 12) (n * len) len })

/-- The writes that a WRITE or a BULK write carries. -/
def writesOf (r : Req) : List Item := if r.opcode = 4 then (requestItems r).getD [] else bulkItems r

/-- The payload that answers the writes of a request. -/
def writesAnswer (r : Req) : Bytes :=
  if r.opcode = 4 then bytesLE 2 (writesOf r).length else r.pdu.payload.take 12 ++ bytesLE 2 (writesOf r).length

/-- The number of the OPEN of a slot's session. -/
def serialOf (s : State) (slot : Nat) : Nat :=
  match getSession s slot with
  | some x => x.serial
  | none => 0

/-- Execute the writes of a request; where a fuse holds one up, the request waits there. -/
def opWrites (slot : Nat) (r : Req) (s : State) : Done :=
  match runWrites slot r 0 (writesOf r) s with
  | (none, t) => { status := 0, payload := writesAnswer r, after := t }
  | (some k, t) =>
    { status := 0, payload := [], waits := true
      after := waitForFuse (.request slot (serialOf s slot) r k :: t.vit.waiting) t }

/-- WRITE (R48, R69). -/
def opWrite (slot : Nat) (r : Req) (s : State) : Done :=
  match requestItems r with
  | none => malformed s
  | some _ => opWrites slot r s

/-- One STAGE of an entry: none at a limit of the shadow (R19); for a port number absent now it changes nothing (R115); ARMs whose deadline has come are refused first, and an entry
added has the waiting ARMs checked (R26). -/
def stageOne (opcode slot seq item : Nat) (i : Item) (s : State) : Option State :=
  let s := expireArms s
  match judge s .stage slot i.idx i.sub i.row (some i.value) with
  | some k => some (violate opcode slot i.idx i.sub i.row seq item k s)
  | none =>
    match entryOf i.idx i.sub, storeSub s i.idx i.sub with
    | some e, some _ => (stageEntry i.idx i.sub i.row (decodeVal e.ty i.value) s).map recheck
    | _, _ => some s

/-- Stage entries in order up to a limit: how many were processed, and whether all were. -/
def stageList (opcode slot seq : Nat) (numbered : Bool) : Nat → List Item → State → Nat × Bool × State
  | n, [], s => (n, true, s)
  | n, i :: t, s =>
    match stageOne opcode slot seq (if numbered then n else 0) i s with
    | none => (n, false, s)
    | some s => stageList opcode slot seq numbered (n + 1) t s

/-- STAGE (R18-R20, R69). -/
def opStage (slot : Nat) (r : Req) (s : State) : Done :=
  match requestItems r with
  | none => malformed s
  | some l =>
    let a := stageList r.opcode slot r.pdu.sequence.toNat true 0 l s
    { status := if a.2.1 then 0 else 1, payload := bytesLE 2 a.1, after := a.2.2 }

/-- One row of a BULK read: its bytes, zeros where it is a violation (R70). -/
def bulkReadRow (slot : Nat) (r : Req) (idx sub row len : Nat) (s : State) : Bytes × State :=
  let wrong := match judge s .read slot idx sub row none with
    | some k => some k
    | none => if readLength s slot idx sub = len then none else some 3
  match wrong with
  | some k => (bytesLE len 0, violate r.opcode slot idx sub row r.pdu.sequence.toNat 0 k s)
  | none => readTaken slot idx sub row s

/-- BULK (R57, R70). -/
def opBulk (slot : Nat) (r : Req) (s : State) : Done :=
  let p := r.pdu.payload
  let idx := leAt p 0 2
  let sub := leAt p 2 1
  let op := leAt p 3 1
  let first := leAt p 4 4
  let count := leAt p 8 2
  let len := leAt p 10 2
  let rows := p.drop 12
  let head := p.take 12
  if p.length < 12 ∨ 2 < op then malformed s
  else if op = 0 then
    if !rows.isEmpty ∨ 1388 < count * len then malformed s
    else
      let f (acc : Bytes × State) (n : Nat) : Bytes × State :=
        let v := bulkReadRow slot r idx sub (first + n) len acc.2
        (acc.1 ++ v.1, v.2)
      let a := (List.range count).foldl f (head, s)
      { status := 0, payload := a.1, after := a.2 }
  else if rows.length ≠ count * len then malformed s
  else
    if op = 1 then opWrites slot r s
    else
      let a := stageList r.opcode slot r.pdu.sequence.toNat false 0 (bulkItems r) s
      { status := if a.2.1 then 0 else 1, payload := head ++ bytesLE 2 a.1, after := a.2.2 }

/-- ARM (R25, R26, R71). -/
def opArm (slot : Nat) (r : Req) (s : State) : Done :=
  let p := r.pdu.payload
  if p.length ≠ 24 then malformed s
  else
    let a := armRequest (serialOf s slot) (requester r.env r.pdu) r.received (leAt p 0 4) (leAt p 4 8) (leAt p 12 4)
      (leAt p 16 4) (leAt p 20 4) s
    { status := 0, payload := slice p 0 4 ++ bytesLE 1 a.1, after := a.2 }

/-- CANCEL (R28, R71). -/
def opCancel (r : Req) (s : State) : Done :=
  let p := r.pdu.payload
  if p.length ≠ 4 then malformed s
  else
    let a := cancelRequest r.received (leAt p 0 4) s
    { status := 0, payload := p ++ bytesLE 1 a.1, after := a.2 }

/-- INVENTORY (R34, R71). -/
def opInventory (r : Req) (s : State) : Done :=
  let p := r.pdu.payload
  if p.length ≠ 12 then malformed s
  else
    let a := inventoryRequest r.received (leAt p 0 4) (leAt p 4 8) s
    { status := 0, payload := slice p 0 4 ++ bytesLE 1 a.1, after := a.2 }

/-- SUBSCRIBE (R68, R76). -/
def opSubscribe (slot : Nat) (r : Req) (s : State) : Done :=
  let p := r.pdu.payload
  if p.length ≠ 4 then malformed s
  else
    let c := leAt p 0 1 % 4
    { status := 0, payload := bytesLE 1 c, after := w1 Reg.lorakSubscriptions slot c s }

/-- An operation that is answered at once (R68, R72). -/
def opOf (slot : Nat) (r : Req) (s : State) : Done :=
  match r.opcode with
  | 0x02 => if r.pdu.payload.isEmpty then { status := 0, payload := [], after := s } else malformed s
  | 0x03 => opRead slot r s
  | 0x04 => opWrite slot r s
  | 0x05 => opStage slot r s
  | 0x06 => opBulk slot r s
  | 0x07 => opArm slot r s
  | 0x08 => opCancel r s
  | 0x09 => opInventory r s
  | 0x0B => opSubscribe slot r s
  | _ => { status := 6, payload := [], after := s }

/-- COLLECT (R71): held while its bank has captured and is not yet full. -/
def collect (slot : Nat) (r : Req) (s : State) : State :=
  let p := r.pdu.payload
  let len := leAt p 8 2
  if p.length ≠ 10 ∨ len = 0 ∨ 1390 < len then finishRequest slot r 8 [] s
  else
    match bankOf s (leAt p 0 4) with
    | some b =>
      if bankState s b = 1 then setBank b { getBank s b with held := (getBank s b).held ++ [{ req := r, slot := slot }] } s
      else answerCollect slot r s
    | none => answerCollect slot r s

/-- Execute a request of a session (R68, R74). -/
def execute (slot : Nat) (r : Req) (s : State) : State :=
  if r.opcode = 0x0A then collect slot r s
  else
    let d := opOf slot r s
    if d.waits then d.after
    else
    let s := finishRequest slot r d.status d.payload d.after
    if r.opcode = 0x02 ∧ d.status = 0 then closeSession slot s else s

/-! Sequence order (R74). -/

/-- A COLLECT of the slot is held by a bank: it is still being executed, while requests of other sessions run (R71; DESIGN
CHOICE, log 63). -/
def collecting (s : State) (slot : Nat) : Bool := (s.opn.bank0.held ++ s.opn.bank1.held).any (fun h => h.slot = slot)

/-- Requests of a slot that wait for a fuse or behind what does (R53, R410). -/
def queuedOf (s : State) (slot : Nat) : Nat := (s.vit.waiting.filter (fuseRequestOf slot)).length

/-- The place of a sequence number above L. -/
def ahead (x : Session) (r : Req) : Nat := (r.pdu.sequence.toNat + 2 ^ 32 - x.last) % 2 ^ 32

/-- A held request whose lower numbers have all been executed, or come before it among what waits for a fuse. -/
def nextHeld (s : State) : Option (Nat × Req) :=
  s.lrk.sessions.findSome? (fun e =>
    if collecting s e.1 then none
    else (e.2.held.find? (fun r => ahead e.2 r = 1 + queuedOf s e.1)).map (fun r => (e.1, r)))

/-- A held request comes to its turn: it is executed, or goes behind what waits for a fuse (R53). -/
def takeTurn (slot : Nat) (r : Req) (s : State) : State :=
  if s.vit.waiting.isEmpty then execute slot r s else waitBehind (.arrived slot r) s

/-- Held requests as their turns come. -/
def drainHeld : Nat → State → State
  | 0, s => s
  | n + 1, s =>
    match nextHeld s with
    | none => s
    | some (slot, r) =>
      drainHeld n (takeTurn slot r (modSession slot (fun x => { x with held := x.held.erase r }) s))

/-- Requests held over every session. -/
def heldCount (s : State) : Nat := s.lrk.sessions.foldl (fun a e => a + e.2.held.length) 0

def drain (s : State) : State := drainHeld (heldCount s) s

/-- A request of an open session that has passed R77. -/
def inSequence (slot : Nat) (x : Session) (r : Req) (s : State) : State :=
  let n := r.pdu.sequence.toNat
  let f := ahead x r
  let b := (x.last + 2 ^ 32 - n) % 2 ^ 32
  let refuse := answer r slot 7 [] (slotKey s slot) s
  if 1 ≤ f ∧ f ≤ 64 then
    if x.held.any (fun h => h.pdu.sequence = r.pdu.sequence) || decide (f ≤ queuedOf s slot + b2n (collecting s slot)) then s
    else if f = 1 + queuedOf s slot ∧ !collecting s slot then drain (takeTurn slot r s)
    else modSession slot (fun x => { x with held := x.held ++ [r] }) s
  else if b ≤ 63 then
    match x.answers.find? (fun a => a.1 = n) with
    | some a => sendPdu (requester r.env r.pdu) a.2.opcode a.2.pdu s
    | none => refuse
  else refuse

/-- The AUTH flag of a PDU. -/
def hasAuth (p : Pdu) : Bool := p.flags.getLsbD 1

/-- A request of an authenticated session carries AUTH and its tag (R77). -/
def tagHolds (x : Session) (r : Req) : Bool :=
  x.key.isNone || (hasAuth r.pdu && decide (r.pdu.tag = pduTag x.sk r.opcode r.pdu))

/-! OPEN (R73, R77). -/

/-- The slot that an OPEN takes: the lowest free one, else the one that closed longest ago. -/
def openSlot (s : State) : Option Nat :=
  match (List.range 16).find? (fun k => decide (r1 s Reg.sessionState k = 0)) with
  | some k => some k
  | none =>
    let closed := (List.range 16).filter (fun k => decide (r1 s Reg.sessionState k = 3))
    let at_ (k : Nat) : Nat := match getSession s k with | some x => x.closedAt | none => 0
    closed.find? (fun k => closed.all (fun j => decide (at_ k ≤ at_ j)))

/-- The 21 bytes from which SK is derived (R77). "The slot number" at their end is read as the session slot that the OPEN
takes, not as the key slot (DEDUCED, log 63). -/
def skMessage (hostNonce moduleNonce : Bytes) (slot : Nat) : Bytes :=
  [0x4C, 0x52, 0x4B, 0x01] ++ hostNonce ++ moduleNonce ++ bytesLE 1 slot

/-- SessionTransport (R59). -/
def transportCode (t : Transport) : Nat := transportIdx t + 1

/-- A session opens in a slot; `key` is the key slot of an authenticated one. -/
def openIn (slot : Nat) (key : Option Nat) (r : Req) (s : State) : State :=
  let d := draw s
  let s := d.2
  let nonce := bytesLE 8 (Config.moduleNonce d.1).toNat
  let who := requester r.env r.pdu
  let sk : Bytes := match key.bind (keyOf s) with
    | some k => aesCmac (encodeVal (.octets 16) k) (skMessage (slice r.pdu.payload 4 8) nonce slot)
    | none => []
  let s := modLrk (fun l => { l with stamp := l.stamp + 1 }) s
  let s := setSession slot
    { peer := who, serial := s.lrk.stamp, last := 0, answers := [], held := [], closedAt := 0, key := key, sk := sk,
      lastReq := s.now } s
  let s := w1 Reg.sessionState slot (if key.isSome then 2 else 1) (clearViolations slot s)
  let s := w1 Reg.sessionTransport slot (transportCode who.transport) (w1 Reg.lorakSubscriptions slot 0 s)
  let net := decide (who.transport = .inband)
  let s := w1 Reg.sessionPeer slot (if net then who.srcAddr else 0) (w1 Reg.sessionPort slot (if net then who.port else 0xFF) s)
  answer r slot 0 nonce (slotKey s slot) s

/-- The open slots of an identity. -/
def slotsOf (s : State) (who : Peer) : List Nat := (List.range 16).filter (fun k => (sessionFor s k who).isSome)

/-- OPEN (R68, R72, R73). -/
def openRequest (r : Req) (s : State) : State :=
  let p := r.pdu.payload
  let session := r.pdu.session.toNat
  let auth := leAt p 0 1
  let keySlot := leAt p 1 1
  if p.length ≠ 12 ∨ 1 < auth ∨ 3 < keySlot then answer r session 8 [] none s
  else
    let s := forL (slotsOf s (requester r.env r.pdu)) closeSession s
    let required := decide (r1 s Reg.lorakAuthRequired (transportIdx r.env.transport) = 1)
    if (auth = 0 && required) || (auth = 1 && (keyOf s keySlot).isNone) then answer r session 4 [] none s
    else
      match openSlot s with
      | none => answer r session 3 [] none s
      | some slot => openIn slot (if auth = 1 then some keySlot else none) r s

/-! Arrival. -/

/-- A request addressed to the module, while the Curator answers on its transport (R68, R72-R77). -/
def takeRequest (r : Req) (s : State) : State :=
  if r.opcode = 0x01 then drain (openRequest r s)
  else
    let slot := r.pdu.session.toNat
    match sessionFor s slot (requester r.env r.pdu) with
    | none => answer r slot 2 [] none s
    | some x =>
      if !tagHolds x r then inc Reg.lorakAuthFailures (transportIdx r.env.transport) s
      else
        inSequence slot { x with lastReq := s.now } r (setSession slot { x with lastReq := s.now } s)

/-- A drop that LorakFormatDrops counts (R67, R83, R457). -/
def formatDrop (t : Transport) (s : State) : State := inc Reg.lorakFormatDrops (transportIdx t) s

/-- A NOTIFY addressed to the module: kinds 3 to 5 go to the twin logic (R457). -/
def takeNotify (r : Req) (s : State) : State :=
  let body := r.pdu.payload.drop 4
  match leAt r.pdu.payload 0 1 with
  | 3 => heartbeatIn .inband body (decide (body.length = 40)) s.now s
  | 4 => queueTwMsg (.active r.env.port.val body) s
  | 5 => queueTwMsg (.dual body) s
  | _ => s

/-- An answer or NOTIFY for a host leaves on the path recorded against its tag (R80, R457). -/
def toHost (r : Req) (s : State) : State :=
  match s.lrk.relay.find? (fun x => x.tag = r.pdu.srcTag.toNat) with
  | none => formatDrop r.env.transport s
  | some x =>
    let p := sealPdu r.opcode { r.pdu with dst := BitVec.ofNat 16 x.peer.srcAddr, srcTag := BitVec.ofNat 8 x.peer.srcTag }
    sendPdu x.peer r.opcode p s

/-- A PDU with ANSWER set that is addressed to the module (R457). -/
def lorakAnswer (r : Req) (s : State) : State :=
  let kind := leAt r.pdu.payload 0 1
  if r.pdu.dst = 0 then
    if r.opcode = 0x0C ∧ (kind = 4 ∨ kind = 5) ∧ r.env.transport = .inband then takeNotify r s
    else formatDrop r.env.transport s
  else if r.pdu.srcTag.toNat / 64 ≠ 0 then toHost r s
  else if r.opcode = 0x0C then
    if 1 ≤ kind ∧ kind ≤ 5 then takeNotify r s else formatDrop r.env.transport s
  else
    let k := (r.pdu.session.toNat, r.pdu.sequence.toNat)
    if s.lrk.own.contains k then modLrk (fun l => { l with own := l.own.erase k }) s
    else formatDrop r.env.transport s

/-- The PDU passes the checks of R67: `length` agrees, version, CRC, reserved bits. -/
def framed (opcode : Nat) (p : Pdu) : Bool :=
  decide (p.crc.toNat = crc32c (pduCovered opcode p)) && decide (p.version = 1) && decide (p.payloadLength.toNat ≤ 1400) &&
  decide (p.payload.length = p.payloadLength.toNat) && decide (p.tag.length = if hasAuth p then 16 else 0) &&
  decide (p.flags.toNat < 8) && decide (p.dst.toNat < 4096) && decide (p.src.toNat < 4096) && decide (p.reserved = 0)

/-- The origin kind of a request that a host sent (R80). -/
def originKind (r : Req) : Option Nat :=
  match r.env.transport with
  | .mgt => some 2
  | .svc => some 3
  | .inband => if r.pdu.src = 0 then some 1 else none

/-- UNREACHABLE, from the relaying module's own address (R65, R72, R79). -/
def answerUnreachable (r : Req) (s : State) : State :=
  sendPdu (requester r.env r.pdu) r.opcode
    (makePdu r.opcode r.pdu.src.toNat (ownAddress s) r.pdu.srcTag.toNat r.pdu.session.toNat 5 r.pdu.sequence.toNat [] none) s

/-- A PDU for another fabric address (R79, R80). -/
def relayPdu (r : Req) (s : State) : State :=
  let p := r.pdu
  if ownAddress s = 0 then s
  else if p.hop = 0 then inc0 Reg.lorakHopDrops s
  else
    match routePort s p.dst.toNat with
    | none => answerUnreachable r (inc0 Reg.lorakUnreachable s)
    | some port =>
      let p := { p with hop := p.hop - 1 }
      let q : Pdu × State :=
        match originKind r, p.flags.getLsbD 0 with
        | some k, false =>
          let tag := k * 64 + p.srcTag.toNat % 64
          ({ p with src := BitVec.ofNat 16 (ownAddress s), srcTag := BitVec.ofNat 8 tag },
           modLrk (fun l => { l with
             relay := l.relay.filter (fun x => x.tag ≠ tag) ++ [{ tag := tag, peer := requester r.env r.pdu }] }) s)
        | _, _ => (p, s)
      sendInband port lorakLinkMac r.opcode (sealPdu r.opcode q.1) (inc0 Reg.lorakRelayed q.2)

/-- The path of an envelope is there: power, the MGT link, a port that is up with the switch core awake (R82, R118,
R460). -/
def pathUp (s : State) (e : Envelope) : Bool :=
  decide (s.pwr.phase = .on) &&
  (match e.transport with
   | .svc => true
   | .mgt => decide (r0 s Reg.mgtLinkState ≠ 0)
   | .inband => match slotOf s e.port.val with
     | some slot => decide (linkStateOf s slot = 1) && running s 4
     | none => false)

/-- The Curator answers on a transport: with no image that passes, on SVC alone (R420, R460). -/
def listens (s : State) (t : Transport) : Bool :=
  curatorRuns s || (decide (s.pwr.curator = .noImage) && decide (t = .svc))

/-- The request that waits for a fuse or behind what does. -/
def fuseRequest (x : SealWait) : Option Req :=
  match x with
  | .write _ _ _ _ => none
  | .request _ _ r _ => some r
  | .arrived _ r => some r

/-- SVC frames that await execution (R83). -/
def svcWaiting (s : State) : Nat :=
  let held := s.lrk.sessions.flatMap (fun e => e.2.held) ++ (s.opn.bank0.held ++ s.opn.bank1.held).map (·.req) ++
    s.vit.waiting.filterMap fuseRequest
  (held.filter (fun r => r.env.transport = .svc)).length

/-- The module's strapped address stands in conflict with another strapped one (R324). -/
def strapConflict (s : State) : Bool :=
  decide (r0 s Reg.fabricAddressSource = 1) && s.zut.conflicts.contains (ownAddress s) &&
  ((originsOf s.zut.parts).filter (fun o => o.addr = ownAddress s)).all (·.strapped)

/-- A PDU addressed to the module: its own address, or DstAddr 0, which in a conflict of straps reaches it on its own MGT and
SVC alone; the address then reaches none (R324). -/
def isMine (s : State) (t : Transport) (p : Pdu) : Bool :=
  (decide (p.dst = 0) && (decide (t ≠ .inband) || !strapConflict s)) || (decide (p.dst ≠ 0) && decide (p.dst.toNat = ownAddress s) && !strapConflict s)

/-- A PDU that passed R67. -/
def dispatch (r : Req) (s : State) : State :=
  if !isMine s r.env.transport r.pdu then relayPdu r s
  else if !listens s r.env.transport then s
  else if r.env.transport = .svc ∧ 4 ≤ svcWaiting s then formatDrop .svc s
  else if r.pdu.flags.getLsbD 0 then lorakAnswer r s
  else takeRequest r s

/-- A frame on MGT that is Lorak's: its EtherType, its destination and its length (R82). -/
def mgtAccepts (s : State) (e : Envelope) : Bool :=
  decide (e.etherType = 0x88B5) && decide (e.length ≤ 1518) &&
  (decide (e.dest.toNat = r0 s Reg.mgtMacAddress) || decide (e.dest.toNat = lorakLinkMac))

/-- A PDU arrives on MGT (R67, R82, R425): any other frame is dropped and counted. -/
def arriveMgt (r : Req) (s : State) : State :=
  if !mgtAccepts s r.env then inc0 Reg.mgtOtherDrops s
  else
    let good := framed r.opcode r.pdu
    let s := if good then wakeByMgt s else s
    if !listens s .mgt then s else if good then dispatch r s else formatDrop .mgt s

/-- A frame arrives on SVC (R67, R83): nothing between two delimiters is ignored, nor is what comes by the line that is
disconnected heard (R449). A line that carries the bytes of another PDU than the command's is no arrival of it (log 28). -/
def arriveSvc (r : Req) (s : State) : State :=
  if !listens s .svc || r.env.line.isEmpty || decide (r.env.jtag ≠ svcPortSelected s) then s
  else
    match svcUnescape r.env.line with
    | none => formatDrop .svc s
    | some b =>
      if 1440 < b.length ∨ b.length < 24 then formatDrop .svc s
      else if b ≠ pduBytes r.opcode r.pdu then s
      else if framed r.opcode r.pdu then dispatch r s
      else formatDrop .svc s

/-- A heartbeat to this module whose PDU fails the checks: a NOTIFY of kind 0x03 (R337, R457). -/
def brokenHeartbeat (s : State) (r : Req) : Bool :=
  decide (r.opcode = 0x0C) && r.pdu.flags.getLsbD 0 && decide (leAt r.pdu.payload 0 1 = 3) && decide (r.pdu.dst ≠ 0) &&
  isMine s .inband r.pdu

/-- A PDU arrives in-band (R67, R81); a heartbeat with a wrong CRC or framing counts as one too (R338). -/
def arriveInband (r : Req) (s : State) : State :=
  let port := r.env.port.val
  if !lorakAccepts s port then inc Reg.lorakMaskDrops ((slotOf s port).getD 0) s
  else if framed r.opcode r.pdu then dispatch r s
  else formatDrop .inband (if brokenHeartbeat s r then inc Reg.twinHbErrors 1 s else s)

/-- A PDU arrives (R67, R79, R81-R83, R425, R460). -/
def arrive (opcode : Nat) (e : Envelope) (p : Pdu) (s : State) : State :=
  let r : Req := { opcode := opcode, env := e, pdu := p, received := s.counter }
  if !pathUp s e then s
  else
    match e.transport with
    | .mgt => arriveMgt r s
    | .svc => arriveSvc r s
    | .inband => arriveInband r s

/-! The commands. -/

/-- STAGE (R18). -/
def execStage (e : Envelope) (p : Pdu) (s : State) : Host.Outcome State Fault Refusal := .next (arrive 0x05 e p s)

/-- ARM (R25). -/
def execArm (e : Envelope) (p : Pdu) (s : State) : Host.Outcome State Fault Refusal := .next (arrive 0x07 e p s)

/-- CANCEL (R28). -/
def execCancel (e : Envelope) (p : Pdu) (s : State) : Host.Outcome State Fault Refusal := .next (arrive 0x08 e p s)

/-- INVENTORY (R34). -/
def execInventory (e : Envelope) (p : Pdu) (s : State) : Host.Outcome State Fault Refusal := .next (arrive 0x09 e p s)

/-- COLLECT (R71). -/
def execCollect (e : Envelope) (p : Pdu) (s : State) : Host.Outcome State Fault Refusal := .next (arrive 0x0A e p s)

/-- READ (R52). -/
def execRead (e : Envelope) (p : Pdu) (s : State) : Host.Outcome State Fault Refusal := .next (arrive 0x03 e p s)

/-- WRITE (R49). -/
def execWrite (e : Envelope) (p : Pdu) (s : State) : Host.Outcome State Fault Refusal := .next (arrive 0x04 e p s)

/-- BULK_READ (R70): Op in the payload tells the three apart. -/
def execBulkRead (e : Envelope) (p : Pdu) (s : State) : Host.Outcome State Fault Refusal := .next (arrive 0x06 e p s)

/-- BULK_WRITE (R70). -/
def execBulkWrite (e : Envelope) (p : Pdu) (s : State) : Host.Outcome State Fault Refusal := .next (arrive 0x06 e p s)

/-- BULK_STAGE (R70). -/
def execBulkStage (e : Envelope) (p : Pdu) (s : State) : Host.Outcome State Fault Refusal := .next (arrive 0x06 e p s)

/-- OPEN (R73). -/
def execOpenSession (e : Envelope) (p : Pdu) (s : State) : Host.Outcome State Fault Refusal := .next (arrive 0x01 e p s)

/-- CLOSE (R75). -/
def execCloseSession (e : Envelope) (p : Pdu) (s : State) : Host.Outcome State Fault Refusal := .next (arrive 0x02 e p s)

/-- SUBSCRIBE (R76). -/
def execSubscribe (e : Envelope) (p : Pdu) (s : State) : Host.Outcome State Fault Refusal := .next (arrive 0x0B e p s)

/-- UNKNOWN_OPCODE (R68). -/
def execUnknownOpcode (opcode : BitVec 8) (e : Envelope) (p : Pdu) (s : State) : Host.Outcome State Fault Refusal :=
  .next (arrive opcode.toNat e p s)

/-- LORAK_RELAY (R79). -/
def execLorakRelay (opcode : BitVec 8) (e : Envelope) (p : Pdu) (s : State) : Host.Outcome State Fault Refusal :=
  .next (arrive opcode.toNat e p s)

/-- LORAK_ANSWER_RECEIVE (R457). -/
def execLorakAnswerReceive (opcode : BitVec 8) (e : Envelope) (p : Pdu) (s : State) : Host.Outcome State Fault Refusal :=
  .next (arrive opcode.toNat e p s)

/-! Writes that a fuse has held up (R51, R408, R410). -/

/-- A request goes on from the place at which it waited: it is answered, or waits again ahead of the others. -/
def resumeRequest (slot serial : Nat) (r : Req) (place : Nat) (s : State) : State :=
  match runWrites slot r place ((writesOf r).drop place) s with
  | (none, t) =>
    if serialOf t slot = serial then finishRequest slot r 0 (writesAnswer r) t
    else answer r slot 0 (writesAnswer r) none t
  | (some k, t) => waitForFuse (.request slot serial r k :: t.vit.waiting) t

/-- A request that waited behind others has its turn: behind a COLLECT of its session it is held (R71, R74). -/
def arrivedTurn (slot : Nat) (r : Req) (s : State) : State :=
  if collecting s slot then modSession slot (fun x => { x with held := x.held ++ [r] }) s else execute slot r s

/-- What waited takes its turn, each write judged by the seal state at this cycle, until a fuse burns again. -/
def fuseTurns : Nat → State → State
  | 0, s => s
  | n + 1, s =>
    match s.vit.burning, s.vit.waiting with
    | none, x :: t =>
      match x with
      | .write idx sub row w =>
        if isSealed idx && fuseHolds s (judge s .write w.slot.val idx sub row (some w.value)) then waitForFuse s.vit.waiting s
        else fuseTurns n (applyWrite 4 w idx sub row { s with vit := { s.vit with waiting := t } })
      | .request slot serial r place =>
        fuseTurns n (resumeRequest slot serial r place { s with vit := { s.vit with waiting := t } })
      | .arrived slot r =>
        fuseTurns n (arrivedTurn slot r { s with vit := { s.vit with waiting := t } })
    | _, _ => s

/-- FUSE_BURN_COMPLETE (R408): what waited for the fuse is executed, and the requests behind it. -/
def execFuseBurnComplete (s : State) : Host.Outcome State Fault Refusal :=
  match s.vit.burning with
  | none => .next s
  | some k =>
    let s := fuseBurned k s
    .next (drain (fuseTurns s.vit.waiting.length s))

/-- INVENTORY_BANK_FULL (R376). -/
def execInventoryBankFull (bank : Fin 2) (s : State) : Host.Outcome State Fault Refusal :=
  .next (drain (bankFull bank.val s))

/-- INVENTORY_RELEASE (R36). -/
def execInventoryRelease (bank : Fin 2) (w : WriteReq) (s : State) : Host.Outcome State Fault Refusal :=
  .next (drain (catWrite w Reg.inventoryRelease bank.val 0 effInventoryRelease s))

end Sys2Proof.Machine
end

