-- ==== Sys2Proof/Machine/Tick.lean ====
section
/-! DEFINITION. The frame tick (R11-R17, R23, R286): the boundary, the order of what takes place at it, the Curator's job
schedule, the apply point, and what a boundary finds left over of the tick before (log 12). -/

namespace Sys2Proof.Machine

/-! The job schedule (R15-R17). -/

/-- The share of a job class in ns. -/
def jobShare (c : Nat) : Nat :=
  match c with
  | 0 => 18000 | 1 => 2000 | 2 => 10000 | 3 => 60000 | 4 => 8000 | 5 => 8000 | 6 => 4000 | _ => 15000

/-- The schedule of a tick as it runs: work unfinished and time used by class, the time left, the job that ran last; what ran as
(class, start, end) in ns from the boundary. -/
structure Sched8 where
  work : List Nat
  used : List Nat
  left : Nat
  last : Nat
  ran : List (Nat × Nat × Nat)
deriving DecidableEq, Repr

/-- A class runs until it finishes or has used up a bound. -/
def runJob (c bound : Nat) (x : Sched8) : Sched8 :=
  let t := min (min (x.work.getD c 0) bound) x.left
  if t = 0 then x
  else
    let at0 := x.used.sum
    { work := x.work.set c (x.work.getD c 0 - t), used := x.used.set c (x.used.getD c 0 + t), left := x.left - t, last := c,
      ran := x.ran ++ [(c, at0, at0 + t)] }

/-- Jobs 0 and 1 to completion, jobs 2-7 within their shares, then what is left goes to the unfinished ones, in a tick of
so many ns (R16). -/
def runTick (ns : Nat) (work : List Nat) : Sched8 :=
  let x : Sched8 := { work := work, used := List.replicate 8 0, left := ns, last := 0, ran := [] }
  let x := runJob 1 ns (runJob 0 ns x)
  let x := [2, 3, 4, 5, 6, 7].foldl (fun x c => runJob c (jobShare c) x) x
  [2, 4, 5, 6, 7].foldl (fun x c => runJob c ns x) x

/-- The class that runs when the boundary arrives and is cut (R16): none where time was left, or where it is job 0 or 1. -/
def cutOf (x : Sched8) : Option Nat :=
  if x.left = 0 ∧ 2 ≤ x.last ∧ 0 < x.work.getD x.last 0 then some x.last else none

/-- One overrun of a class (R17). -/
def jobOverrun (c : Nat) (s : State) : State := raise Ev.tickOverrun (inc Reg.tickJobOverruns c s)

/-- The length in ns of the tick that ends now: a forward step may cut it short (R14). -/
def tickLength (s : State) : Nat := (s.now - s.boundaryAt) / 1000

/-- The schedule of the tick that ends, with the work it brought. -/
def scheduleOf (new : List Nat) (s : State) : Sched8 :=
  runTick (tickLength s) ((List.range 8).map (fun c => tget (fun _ => 0) s.jobs c + new.getD c 0))

/-- The time-clock cycles in which a class ran at or after an offset in ns (R370). -/
def jobCycles (x : Sched8) (c since : Nat) : Nat :=
  ((x.ran.filter (fun e => e.1 = c)).map (fun e => (e.2.2 - max e.2.1 since) / 2)).sum

/-- Each counter of a running job (block 9, event 1) counts the cycles of the tick since its selection (R370, R374). -/
def perfJobs (x : Sched8) (s : State) : State :=
  forL s.perf (fun e s => forN 8 (fun c s =>
    if perfSelects (r1 s Reg.perfConfig e.1) 1 9 1 c && perfCounts s e.1 then
      perfCycles e.1 (jobCycles x c (((getPerf s e.1).since - s.boundaryAt) / 1000)) s
    else s) s) s

/-- The tick ends with this schedule; the watchdog counts heartbeat jobs that have not completed (R16, R17, R430). -/
def endSchedule (x : Sched8) (s : State) : State :=
  let s := forN 2 (fun c s => if jobShare c < x.used.getD c 0 then jobOverrun c s else s) s
  let s := perfJobs x s
  let s := match cutOf x with
    | some c => jobOverrun c (inc0 Reg.tickOverrunCount s)
    | none => s
  let s := forN 8 (fun c s => w1 Reg.tickJobMaxTime c (max (r1 s Reg.tickJobMaxTime c) (min (x.used.getD c 0) (2 ^ 32 - 1))) s) s
  let s := forN 8 (fun c s => { s with jobs := tset (fun _ => 0) s.jobs c (x.work.getD c 0) }) s
  modPwr (fun p => { p with watchdog := if x.work.getD 0 0 + x.work.getD 1 0 = 0 then 0 else p.watchdog + 1 }) s

/-- The Curator's schedule runs only with its image. Job 6 leaves what it has not sent to the next tick. Answers the class of a job
that the boundary cuts. -/
def curatorTick (new : List Nat) (s : State) : Option Nat × State :=
  if !curatorRuns s then (none, { s with jobs := [] })
  else
    let x := scheduleOf new s
    (cutOf x, notifyJobEnds (endSchedule x s))

/-- A job cut at the boundary: an occurrence of the boundary cycle, which belongs to the gate that begins there (R370, R371). -/
def cutCounted (cut : Option Nat) (s : State) : State :=
  match cut with
  | some c => perfEvent 9 2 c 1 s
  | none => s

/-! The boundary (R11-R14, R23). -/

/-- Sensor and supply readings of a boundary (R354, R428, R432). -/
def readings (i : TickInput) (s : State) : State :=
  let s := readSensors 48 (i.outTemp.take 16) (readSensors 32 (i.tdcTemp.take 10) (readSensors 0 (i.groupTemp.take 32) s))
  let s := w0 Reg.timeBaseTemperature (ofSigned 16 i.crystalTemp) (readSensor 64 i.crystalTemp s)
  let s := (i.dieTemp.take 4).zipIdx.foldl (fun s x => w1 Reg.dieTemperature x.2 (ofSigned 16 x.1) s) s
  judgeOvertemp (w0 Reg.inputVoltage (i.vin % 2 ^ 32) (w0 Reg.inputCurrent (i.current % 2 ^ 32)
    (w0 Reg.inputPower (i.power % 2 ^ 32) s)))

/-- Jobs of the Curator in this tick: the servo and the heartbeat where earlier work of theirs is done, then the rest. -/
def curatorJobs (ended : Nat) (s : State) : State :=
  if !curatorRuns s then twinsIdle s
  else
    let s := if tget (fun _ => 0) s.jobs 0 = 0 then servoJob ended s else s
    let s := if tget (fun _ => 0) s.jobs 0 = 0 ∧ tget (fun _ => 0) s.jobs 1 = 0 then heartbeatJob ended s else s
    archiveWatermarkTick (zutumJob s)

/-- The boundary of the tick in which the counter now lies: TickNumber follows it, TickSequence rises by 1 (R11, R13). -/
def numberTick (s : State) : State :=
  let n := tickOfReading s.counter
  { (w0 Reg.tickNumber n (inc0 Reg.tickSequence s)) with
    tickPos := n, boundaryAt := s.now, boundaryReading := s.counter, applied := false }

/-- TICK_O (R12): high from the boundary cycle for 500 cycles of the time clock; low where the counter does not run. -/
def tickOut (s : State) : Bool :=
  decide (s.pwr.phase = .on) && decide (cycleOf s.now < cycleOf s.boundaryAt + 500)

/-- TICK_O at the ball (R439, R450). -/
def tickBall (s : State) : BallLevel :=
  if s.pwr.phase = .off then .highZ else ballLevel 3 (if tickOut s then .high else .low) s

/-- What begins at a boundary under the configuration that its opening leaves, and the jobs of its tick (R15, R23 step 3);
`ended` is the number of the tick that ended. -/
def boundaryWork (ended : Nat) (s : State) : State :=
  let s := calJob (curatorRuns s) (twinBoundary s)
  let s := freqTick ended (tickNo s) (refTick ended s)
  let s := curatorJobs ended s
  let s := forN 4 (fun k s => plsBoundary k (synTick k (synBoundary k s))) s
  vitrineTick s

/-- The work of the boundary last raised, where it is yet to be done. -/
def workDone (s : State) : State :=
  match s.workDue with
  | some ended => boundaryWork ended { s with workDue := none }
  | none => s

/-- A capture is due at the boundary last raised. -/
def captureIsDue (s : State) : Bool :=
  (List.range 2).any (fun b =>
    decide (bankState s b = 1) && !(getBank s b).captured && decide ((getBank s b).tick ≤ tickNo s))

/-- An opening is due at the boundary last raised. -/
def openingIsDue (s : State) : Bool :=
  match s.opn.armed with
  | some a => decide (a.tick ≤ tickNo s)
  | none => false

/-- Step 2 of R23 is yet to be done: an opening or a route opening is due (R332). -/
def stepTwoIsDue (s : State) : Bool := openingIsDue s || (routeDue s).isSome

/-- The steps of R23 in their order: the capture, the opening and the route opening, the work of the tick. -/
def settled (s : State) : State := workDone (routeOpenDue (openDue (captureDue s)))

/-- INVENTORY_CAPTURE (R35); the tick's work follows unless an opening of the same boundary comes first (R23). -/
def execInventoryCapture (s : State) : Host.Outcome State Fault Refusal :=
  let s := captureDue s
  .next (if stepTwoIsDue s then s else workDone s)

/-- ROUTE_OPENING (R332), in the cycle of a host opening where both are due (R23). -/
def execRouteOpening (s : State) : Host.Outcome State Fault Refusal :=
  if (routeDue s).isSome then .next (settled s) else .next s

/-- OPENING (R22), after the captures of the same boundary and before its tick's work (R23). -/
def execOpening (s : State) : Host.Outcome State Fault Refusal := .next (settled s)

/-- DOMAIN_SLEEP_ENTRY (R424), after the steps of R23. -/
def execDomainSleepEntry (domain : SwDomain) (s : State) : Host.Outcome State Fault Refusal :=
  .next (sleepDue (swNum domain) (settled s))

/-- What the world reports with a boundary. -/
def takeInput (i : TickInput) (s : State) : State :=
  perfTick (laneTicks i.lanes (selfTestErrors i.lanes (readings i s)))

/-- The tick boundary is raised, for the tick in which the counter now lies (R11, R13): the schedule of the tick that ends,
what it reported (nothing where a forward step ends it), wakes and sleeps, and the tick's work unless a capture or an
opening is due first (R23). -/
def raiseBoundary (work : List Nat) (inp : Option TickInput) (s : State) : State :=
  let ended := tickNo s
  let c := curatorTick work s
  let s := match inp with
    | some i => takeInput i c.2
    | none => perfTick (laneTicks [] c.2)
  let s := cutCounted c.1 s
  let s := markSleeps (markWakes (wakesLeftOver (judgeClose (numberTick (noteActive s)))))
  let s := { s with workDue := some ended }
  if captureIsDue s || stepTwoIsDue s then s else workDone s

/-! The apply point (R286). -/

/-- The work of the eight job classes in a tick that a forward step ends: the spec gives no durations (log 14), so each is a
free value. -/
def drawWork (s : State) : List Nat × State :=
  ((List.range 8).map (fun c => Config.freeValue (s.free + c)), { s with free := s.free + 8 })

/-- A step that the apply point makes: forward across a boundary it raises one, which ends the tick; backward it raises none
until the counter next reaches one (R14). -/
def afterApply (s : State) : State :=
  let n := tickOfReading s.counter
  if s.tickPos < n then raiseBoundary (drawWork s).1 none (drawWork s).2 else { s with tickPos := n }

/-- The instant of the apply point of the tick, ps: 18,000 ns after its boundary (log 13). -/
def applyInstant (s : State) : Nat := s.boundaryAt + 18000000

/-- The apply point of the tick. -/
def applyNow (s : State) : State :=
  if s.applied then s else afterApply (applyDecided (advanceTo (applyInstant s) (settled s))).2

/-! What a boundary finds left over (log 12). -/

/-- Everything that the last boundary made due and that its own command has not performed. -/
def leftOvers (s : State) : State :=
  let s := microcodeDue (flashDue (closeDue (settled s)))
  let s := sleepsLeftOver (scheduledWakes s)
  let s := bankFull 1 (bankFull 0 s)
  let s := expireArms s
  let s := if curatorRuns s then notifyJob (sendNotices s) else s
  let s := if watchdogDue s then curatorReset 1 s else s
  drain (resetLeftOver s)

/-- The reading of the next boundary. -/
def nextTickReading (s : State) : Nat := (s.tickPos + 1) * tickUnits

/-- A boundary that a forward step has just raised runs its tick as any other does (R14): what is due at it, and its apply
point where the next boundary leaves time for it. -/
def steppedTick (s : State) : State :=
  if s.applied then s
  else
    let s := leftOvers s
    if applyInstant s ≤ instantOfReading s (nextTickReading s) then leftOvers (applyNow s) else s

/-- One tick: what is left over, the apply point if it has not passed, the next boundary. -/
def tick (i : TickInput) (s : State) : State :=
  let s := steppedTick (applyNow (leftOvers s))
  raiseBoundary i.work (some i) (advanceToReading (nextTickReading s) s)

/-- TICK_BOUNDARY (R11): none while the counter does not run. -/
def execTickBoundary (inp : TickInput) (s : State) : Host.Outcome State Fault Refusal :=
  if s.pwr.phase = .on then .next (tick inp s) else .next s

/-- APPLY_POINT (R286). -/
def execApplyPoint (s : State) : Host.Outcome State Fault Refusal :=
  if s.pwr.phase = .on then .next (applyNow s) else .next s

end Sys2Proof.Machine
end

