-- ==== Sys2Proof/Machine/Dispatch.lean ====
section
/-! DEFINITION. One arm per command: the direct call of its meaning. -/

namespace Sys2Proof.Machine

def exec (i : Instr) (s : State) : Host.Outcome State Fault Refusal :=
  match i with
  | .tickBoundary inp => Sys2Proof.Machine.execTickBoundary inp s
  | .stage e p => Sys2Proof.Machine.execStage e p s
  | .arm e p => Sys2Proof.Machine.execArm e p s
  | .armDeadline id => Sys2Proof.Machine.execArmDeadline id s
  | .cancel e p => Sys2Proof.Machine.execCancel e p s
  | .opening => Sys2Proof.Machine.execOpening s
  | .shadowDiscard w => Sys2Proof.Machine.execShadowDiscard w s
  | .tickMaxClear w => Sys2Proof.Machine.execTickMaxClear w s
  | .inventory e p => Sys2Proof.Machine.execInventory e p s
  | .inventoryCapture => Sys2Proof.Machine.execInventoryCapture s
  | .inventoryBankFull bank => Sys2Proof.Machine.execInventoryBankFull bank s
  | .collect e p => Sys2Proof.Machine.execCollect e p s
  | .inventoryRelease bank w => Sys2Proof.Machine.execInventoryRelease bank w s
  | .read e p => Sys2Proof.Machine.execRead e p s
  | .write e p => Sys2Proof.Machine.execWrite e p s
  | .bulkRead e p => Sys2Proof.Machine.execBulkRead e p s
  | .bulkWrite e p => Sys2Proof.Machine.execBulkWrite e p s
  | .bulkStage e p => Sys2Proof.Machine.execBulkStage e p s
  | .openSession e p => Sys2Proof.Machine.execOpenSession e p s
  | .closeSession e p => Sys2Proof.Machine.execCloseSession e p s
  | .subscribe e p => Sys2Proof.Machine.execSubscribe e p s
  | .unknownOpcode opcode e p => Sys2Proof.Machine.execUnknownOpcode opcode e p s
  | .lorakRelay opcode e p => Sys2Proof.Machine.execLorakRelay opcode e p s
  | .lorakAnswerReceive opcode e p => Sys2Proof.Machine.execLorakAnswerReceive opcode e p s
  | .openingOutcomeNotify => Sys2Proof.Machine.execOpeningOutcomeNotify s
  | .sessionIdleTimeout slot => Sys2Proof.Machine.execSessionIdleTimeout slot s
  | .sessionViolationClear target w => Sys2Proof.Machine.execSessionViolationClear target w s
  | .lorakKeyWrite key w => Sys2Proof.Machine.execLorakKeyWrite key w s
  | .lorakKeyErase w => Sys2Proof.Machine.execLorakKeyErase w s
  | .lorakAuthRequiredWrite transport w => Sys2Proof.Machine.execLorakAuthRequiredWrite transport w s
  | .mgtModeWrite w => Sys2Proof.Machine.execMgtModeWrite w s
  | .mgtLinkUp signalled => Sys2Proof.Machine.execMgtLinkUp signalled s
  | .svcLineBreak inFrame => Sys2Proof.Machine.execSvcLineBreak inFrame s
  | .laneSignalDetected lane => Sys2Proof.Machine.execLaneSignalDetected lane s
  | .laneCdrLocked lane => Sys2Proof.Machine.execLaneCdrLocked lane s
  | .laneEqualised lane ctle ffe dfe => Sys2Proof.Machine.execLaneEqualised lane ctle ffe dfe s
  | .polarityTrialSwitch lane => Sys2Proof.Machine.execPolarityTrialSwitch lane s
  | .lanePolarityDecided lane => Sys2Proof.Machine.execLanePolarityDecided lane s
  | .trainingFrameReceive lane head => Sys2Proof.Machine.execTrainingFrameReceive lane head s
  | .laneOrderDecided slot markersExchanged => Sys2Proof.Machine.execLaneOrderDecided slot markersExchanged s
  | .laneLocked slot rxDelay txDelay skew => Sys2Proof.Machine.execLaneLocked slot rxDelay txDelay skew s
  | .laneStateTimeout lane => Sys2Proof.Machine.execLaneStateTimeout lane s
  | .laneBackoffEnd lane => Sys2Proof.Machine.execLaneBackoffEnd lane s
  | .laneLinkDown lane cause => Sys2Proof.Machine.execLaneLinkDown lane cause s
  | .laneLossBeforeUp lane cause => Sys2Proof.Machine.execLaneLossBeforeUp lane cause s
  | .laneEnableWrite lane w => Sys2Proof.Machine.execLaneEnableWrite lane w s
  | .adaptWindowEval lane transitions rarest ctle ffe dfe => Sys2Proof.Machine.execAdaptWindowEval lane transitions rarest ctle ffe dfe s
  | .reserveRequest lane w => Sys2Proof.Machine.execReserveRequest lane w s
  | .reservePhaseEnd lane agree => Sys2Proof.Machine.execReservePhaseEnd lane agree s
  | .eyeScan lane fig => Sys2Proof.Machine.execEyeScan lane fig s
  | .testSelectWrite object lane w => Sys2Proof.Machine.execTestSelectWrite object lane w s
  | .checkerLock lane inverted => Sys2Proof.Machine.execCheckerLock lane inverted s
  | .checkerLockLoss lane errors => Sys2Proof.Machine.execCheckerLockLoss lane errors s
  | .chkClear lane w => Sys2Proof.Machine.execChkClear lane w s
  | .injectFire lane w => Sys2Proof.Machine.execInjectFire lane w s
  | .injectIntervalExpire lane => Sys2Proof.Machine.execInjectIntervalExpire lane s
  | .firstCellWritten port dt bytes bankLoad => Sys2Proof.Machine.execFirstCellWritten port dt bytes bankLoad s
  | .frameReceived port dt bytes ending bankLoad => Sys2Proof.Machine.execFrameReceived port dt bytes ending bankLoad s
  | .pauseReceive port dt quanta => Sys2Proof.Machine.execPauseReceive port dt quanta s
  | .pfcReceive port dt enable time => Sys2Proof.Machine.execPfcReceive port dt enable time s
  | .holdTimerExpire port timer => Sys2Proof.Machine.execHoldTimerExpire port timer s
  | .controlFrameSend port => Sys2Proof.Machine.execControlFrameSend port s
  | .pfcRefresh port => Sys2Proof.Machine.execPfcRefresh port s
  | .egressFrameStart port dt => Sys2Proof.Machine.execEgressFrameStart port dt s
  | .egressFrameEnd port dt => Sys2Proof.Machine.execEgressFrameEnd port dt s
  | .headFrameAge port cls => Sys2Proof.Machine.execHeadFrameAge port cls s
  | .fdbAgeSweep => Sys2Proof.Machine.execFdbAgeSweep s
  | .fdbAgeTimeWrite w => Sys2Proof.Machine.execFdbAgeTimeWrite w s
  | .fdbFlushLearned w => Sys2Proof.Machine.execFdbFlushLearned w s
  | .portCounterClear port w => Sys2Proof.Machine.execPortCounterClear port w s
  | .classRuleHitClear w => Sys2Proof.Machine.execClassRuleHitClear w s
  | .coreCounterClear w => Sys2Proof.Machine.execCoreCounterClear w s
  | .gateEntryBoundary port => Sys2Proof.Machine.execGateEntryBoundary port s
  | .gateListSwitch port => Sys2Proof.Machine.execGateListSwitch port s
  | .starvePromotion port cls => Sys2Proof.Machine.execStarvePromotion port cls s
  | .gateCounterClear port w => Sys2Proof.Machine.execGateCounterClear port w s
  | .windowOpen group row => Sys2Proof.Machine.execWindowOpen group row s
  | .combinerAdd => Sys2Proof.Machine.execCombinerAdd s
  | .windowClose group => Sys2Proof.Machine.execWindowClose group s
  | .combinerConfigSwitch => Sys2Proof.Machine.execCombinerConfigSwitch s
  | .combinerCounterClear w => Sys2Proof.Machine.execCombinerCounterClear w s
  | .tdcTickResult channel met => Sys2Proof.Machine.execTdcTickResult channel met s
  | .ppsiEdge input dt edge => Sys2Proof.Machine.execPpsiEdge input dt edge s
  | .tdcCalRequest channel w => Sys2Proof.Machine.execTdcCalRequest channel w s
  | .tdcStandinStepEnd channel ended => Sys2Proof.Machine.execTdcStandinStepEnd channel ended s
  | .tdcCalRunEnd channel result => Sys2Proof.Machine.execTdcCalRunEnd channel result s
  | .tdcMeasureConfigWrite slot w => Sys2Proof.Machine.execTdcMeasureConfigWrite slot w s
  | .tdcMeasureStart slot w => Sys2Proof.Machine.execTdcMeasureStart slot w s
  | .tdcMeasureComplete slot dt edge => Sys2Proof.Machine.execTdcMeasureComplete slot dt edge s
  | .tdcMeasureOverflow slot => Sys2Proof.Machine.execTdcMeasureOverflow slot s
  | .freqMeasureConfigWrite slot w => Sys2Proof.Machine.execFreqMeasureConfigWrite slot w s
  | .freqMeasureStart slot w => Sys2Proof.Machine.execFreqMeasureStart slot w s
  | .freqGateEnd slot gate => Sys2Proof.Machine.execFreqGateEnd slot gate s
  | .xoscLoss ratioNum ratioDen => Sys2Proof.Machine.execXoscLoss ratioNum ratioDen s
  | .tdcSelfTestStart w => Sys2Proof.Machine.execTdcSelfTestStart w s
  | .tdcSelfTestEnd pairs x y => Sys2Proof.Machine.execTdcSelfTestEnd pairs x y s
  | .refAbsentTimeout input => Sys2Proof.Machine.execRefAbsentTimeout input s
  | .waitToRestoreExpire input => Sys2Proof.Machine.execWaitToRestoreExpire input s
  | .refDisqualify input => Sys2Proof.Machine.execRefDisqualify input s
  | .regainToTrack => Sys2Proof.Machine.execRegainToTrack s
  | .holdoverBinEnd => Sys2Proof.Machine.execHoldoverBinEnd s
  | .todMessage input dt bytes framingError => Sys2Proof.Machine.execTodMessage input dt bytes framingError s
  | .synOffsetWrite syn w => Sys2Proof.Machine.execSynOffsetWrite syn w s
  | .synRelockTrigger syn => Sys2Proof.Machine.execSynRelockTrigger syn s
  | .synLockAchieved syn => Sys2Proof.Machine.execSynLockAchieved syn s
  | .synOutputRestart syn => Sys2Proof.Machine.execSynOutputRestart syn s
  | .synLockTimeout syn => Sys2Proof.Machine.execSynLockTimeout syn s
  | .outEnableWrite output w => Sys2Proof.Machine.execOutEnableWrite output w s
  | .pulseAnchoredEmit pls => Sys2Proof.Machine.execPulseAnchoredEmit pls s
  | .pulseFollowerEmit pls => Sys2Proof.Machine.execPulseFollowerEmit pls s
  | .pulseMissed pls => Sys2Proof.Machine.execPulseMissed pls s
  | .pulseAutoAlign pls => Sys2Proof.Machine.execPulseAutoAlign pls s
  | .applyPoint => Sys2Proof.Machine.execApplyPoint s
  | .timeIncrementSetWrite w => Sys2Proof.Machine.execTimeIncrementSetWrite w s
  | .timeStepWrite w => Sys2Proof.Machine.execTimeStepWrite w s
  | .servoStateSetWrite w => Sys2Proof.Machine.execServoStateSetWrite w s
  | .servoModeWrite w => Sys2Proof.Machine.execServoModeWrite w s
  | .timeSet w => Sys2Proof.Machine.execTimeSet w s
  | .servoEnterTest w => Sys2Proof.Machine.execServoEnterTest w s
  | .servoLeaveTest w => Sys2Proof.Machine.execServoLeaveTest w s
  | .servoEnterRecovery w => Sys2Proof.Machine.execServoEnterRecovery w s
  | .acceptStep w => Sys2Proof.Machine.execAcceptStep w s
  | .ptpSyncSend port stamp => Sys2Proof.Machine.execPtpSyncSend port stamp s
  | .ptpAnnounceSend port => Sys2Proof.Machine.execPtpAnnounceSend port s
  | .ptpDelayReqSend port stamp => Sys2Proof.Machine.execPtpDelayReqSend port stamp s
  | .ptpDelayRespSend port => Sys2Proof.Machine.execPtpDelayRespSend port s
  | .ptpSyncReceive port msg stamp => Sys2Proof.Machine.execPtpSyncReceive port msg stamp s
  | .ptpFollowUpReceive port msg => Sys2Proof.Machine.execPtpFollowUpReceive port msg s
  | .ptpDelayReqReceive port msg stamp => Sys2Proof.Machine.execPtpDelayReqReceive port msg stamp s
  | .ptpDelayRespReceive port msg => Sys2Proof.Machine.execPtpDelayRespReceive port msg s
  | .ptpAnnounceReceive port msg => Sys2Proof.Machine.execPtpAnnounceReceive port msg s
  | .announceTimeout => Sys2Proof.Machine.execAnnounceTimeout s
  | .leapSecond => Sys2Proof.Machine.execLeapSecond s
  | .ptpCounterClear port w => Sys2Proof.Machine.execPtpCounterClear port w s
  | .helloSend => Sys2Proof.Machine.execHelloSend s
  | .helloReceive port payload => Sys2Proof.Machine.execHelloReceive port payload s
  | .adjacencyTimeout port => Sys2Proof.Machine.execAdjacencyTimeout port s
  | .linkstateRefresh => Sys2Proof.Machine.execLinkstateRefresh s
  | .linkstateOriginate => Sys2Proof.Machine.execLinkstateOriginate s
  | .linkstateReceive port payload => Sys2Proof.Machine.execLinkstateReceive port payload s
  | .linkstateExpire uid => Sys2Proof.Machine.execLinkstateExpire uid s
  | .routeArm => Sys2Proof.Machine.execRouteArm s
  | .routeArmReceive port payload => Sys2Proof.Machine.execRouteArmReceive port payload s
  | .routeArmDeadline => Sys2Proof.Machine.execRouteArmDeadline s
  | .routeAnswer port payload => Sys2Proof.Machine.execRouteAnswer port payload s
  | .routeCancelDeadline => Sys2Proof.Machine.execRouteCancelDeadline s
  | .routeCancel port payload => Sys2Proof.Machine.execRouteCancel port payload s
  | .routeOpening => Sys2Proof.Machine.execRouteOpening s
  | .twinHeartbeatReceive path body framed crc arrival => Sys2Proof.Machine.execTwinHeartbeatReceive path body framed crc arrival s
  | .twinPeerFailed => Sys2Proof.Machine.execTwinPeerFailed s
  | .twinPathDegraded => Sys2Proof.Machine.execTwinPathDegraded s
  | .twinRankTakeover => Sys2Proof.Machine.execTwinRankTakeover s
  | .twinRoleChange => Sys2Proof.Machine.execTwinRoleChange s
  | .twinActiveReceive port body => Sys2Proof.Machine.execTwinActiveReceive port body s
  | .arbiterRelease row => Sys2Proof.Machine.execArbiterRelease row s
  | .dualActiveReceive port body => Sys2Proof.Machine.execDualActiveReceive port body s
  | .calRunStart cls inst => Sys2Proof.Machine.execCalRunStart cls inst s
  | .calRunEnd inst result checks => Sys2Proof.Machine.execCalRunEnd inst result checks s
  | .calRunAbandon cls inst => Sys2Proof.Machine.execCalRunAbandon cls inst s
  | .calRetryExpire cls inst => Sys2Proof.Machine.execCalRetryExpire cls inst s
  | .calRequest cls inst w => Sys2Proof.Machine.execCalRequest cls inst w s
  | .calDiscardSets w => Sys2Proof.Machine.execCalDiscardSets w s
  | .perfConfigWrite counter gate last w => Sys2Proof.Machine.execPerfConfigWrite counter gate last w s
  | .perfCounterPreset counter last w => Sys2Proof.Machine.execPerfCounterPreset counter last w s
  | .perfGateEnd counter => Sys2Proof.Machine.execPerfGateEnd counter s
  | .perfOverflowClear w => Sys2Proof.Machine.execPerfOverflowClear w s
  | .counterClearAll w => Sys2Proof.Machine.execCounterClearAll w s
  | .archiveConfigWrite object w => Sys2Proof.Machine.execArchiveConfigWrite object w s
  | .archiveTrigger w => Sys2Proof.Machine.execArchiveTrigger w s
  | .archiveReadIndexWrite w => Sys2Proof.Machine.execArchiveReadIndexWrite w s
  | .archiveClear w => Sys2Proof.Machine.execArchiveClear w s
  | .eventClear word w => Sys2Proof.Machine.execEventClear word w s
  | .eventMaskWrite mask word w => Sys2Proof.Machine.execEventMaskWrite mask word w s
  | .eventHoldWrite w => Sys2Proof.Machine.execEventHoldWrite w s
  | .eventNotify => Sys2Proof.Machine.execEventNotify s
  | .eventCountClear w => Sys2Proof.Machine.execEventCountClear w s
  | .intervalClose => Sys2Proof.Machine.execIntervalClose s
  | .sealNFall => Sys2Proof.Machine.execSealNFall s
  | .sealOpenQualified => Sys2Proof.Machine.execSealOpenQualified s
  | .sealNRise => Sys2Proof.Machine.execSealNRise s
  | .sealWrite interval row w => Sys2Proof.Machine.execSealWrite interval row w s
  | .microcodeCheck digest => Sys2Proof.Machine.execMicrocodeCheck digest s
  | .powerUpStart vin straps xosc => Sys2Proof.Machine.execPowerUpStart vin straps xosc s
  | .brownoutRelease vin => Sys2Proof.Machine.execBrownoutRelease vin s
  | .curatorImageRunning passA passB => Sys2Proof.Machine.execCuratorImageRunning passA passB s
  | .brownout vin => Sys2Proof.Machine.execBrownout vin s
  | .undervoltageLockout vin => Sys2Proof.Machine.execUndervoltageLockout vin s
  | .overtempShutdown die reading => Sys2Proof.Machine.execOvertempShutdown die reading s
  | .domainSleepRequest domain w => Sys2Proof.Machine.execDomainSleepRequest domain w s
  | .domainSleepAtTickWrite domain w => Sys2Proof.Machine.execDomainSleepAtTickWrite domain w s
  | .domainWakeAtTickWrite domain w => Sys2Proof.Machine.execDomainWakeAtTickWrite domain w s
  | .domainSleepEntry domain => Sys2Proof.Machine.execDomainSleepEntry domain s
  | .domainWakeCommand domain w => Sys2Proof.Machine.execDomainWakeCommand domain w s
  | .wakeSourceFire domain source lane => Sys2Proof.Machine.execWakeSourceFire domain source lane s
  | .domainWakeComplete domain => Sys2Proof.Machine.execDomainWakeComplete domain s
  | .resetNowDatapath w => Sys2Proof.Machine.execResetNowDatapath w s
  | .resetNowCurator w => Sys2Proof.Machine.execResetNowCurator w s
  | .resetNowFull w => Sys2Proof.Machine.execResetNowFull w s
  | .datapathReset => Sys2Proof.Machine.execDatapathReset s
  | .curatorReset => Sys2Proof.Machine.execCuratorReset s
  | .fullModuleReset straps xosc => Sys2Proof.Machine.execFullModuleReset straps xosc s
  | .curatorWatchdog => Sys2Proof.Machine.execCuratorWatchdog s
  | .resetNAssert => Sys2Proof.Machine.execResetNAssert s
  | .resetNRelease straps xosc => Sys2Proof.Machine.execResetNRelease straps xosc s
  | .imageBlockWrite row w => Sys2Proof.Machine.execImageBlockWrite row w s
  | .imageErase w => Sys2Proof.Machine.execImageErase w s
  | .imageEraseComplete => Sys2Proof.Machine.execImageEraseComplete s
  | .imageCommit w => Sys2Proof.Machine.execImageCommit w s
  | .bootPreferSet w => Sys2Proof.Machine.execBootPreferSet w s
  | .extest => Sys2Proof.Machine.execExtest s
  | .samplePreload => Sys2Proof.Machine.execSamplePreload s
  | .idcode => Sys2Proof.Machine.execIdcode s
  | .highz => Sys2Proof.Machine.execHighz s
  | .clamp => Sys2Proof.Machine.execClamp s
  | .extestPulse => Sys2Proof.Machine.execExtestPulse s
  | .extestTrain => Sys2Proof.Machine.execExtestTrain s
  | .vitrineId => Sys2Proof.Machine.execVitrineId s
  | .svcPort => Sys2Proof.Machine.execSvcPort s
  | .bypass code => Sys2Proof.Machine.execBypass code s
  | .mgtLinkDown => Sys2Proof.Machine.execMgtLinkDown s
  | .imageCheckComplete pass version => Sys2Proof.Machine.execImageCheckComplete pass version s
  | .vitrineRecordInFlash => Sys2Proof.Machine.execVitrineRecordInFlash s
  | .fuseBurnComplete => Sys2Proof.Machine.execFuseBurnComplete s
  | .overtempLimitCrossed die reading => Sys2Proof.Machine.execOvertempLimitCrossed die reading s
  | .tapReset => Sys2Proof.Machine.execTapReset s
  | .startEdgeTaken slot dt edge => Sys2Proof.Machine.execStartEdgeTaken slot dt edge s

end Sys2Proof.Machine
end

