-- ==== Sys2Proof/Safety.lean ====
section
/-! DEFINITION. What statements call safe: the register file in its one form, and steps that do not stop. -/

namespace Sys2Proof.Machine

/-- The register file is canonical: addresses strictly rising, no entry at its default. -/
def State.regsOk (s : State) : Prop := twf regDefault s.regs = true

/-- An outcome that goes on. -/
def goesOn (o : Host.Outcome State Fault Refusal) : Prop := ∃ t, o = .next t

/-- Every register keeps its value but those of the objects listed. -/
def Keeps (l : List Nat) (s t : State) : Prop :=
  ∀ k, keyIdx k ∉ l → tget regDefault t.regs k = tget regDefault s.regs k

/-- Nothing but registers changes, and of those the objects listed alone. -/
def RegsOnly (l : List Nat) (s t : State) : Prop := t = { s with regs := t.regs } ∧ Keeps l s t

/-- Registers take the listed values (index, sub-index, row, value); every other register keeps its own. -/
def RegsSet (l : List (Nat × Nat × Nat × Nat)) (s t : State) : Prop :=
  (∀ e ∈ l, rd t e.1 e.2.1 e.2.2.1 = e.2.2.2) ∧
  ∀ k, (∀ e ∈ l, k ≠ objKey e.1 e.2.1 e.2.2.1) → tget regDefault t.regs k = tget regDefault s.regs k

/-- The listed registers are set and nothing else of the state changes. -/
def Sets (l : List (Nat × Nat × Nat × Nat)) (s t : State) : Prop := t = { s with regs := t.regs } ∧ RegsSet l s t

/-- The registers whose keys p picks return to their defaults and nothing else of the state changes. -/
def Clears (p : Nat → Bool) (s t : State) : Prop :=
  t = { s with regs := t.regs } ∧
  ∀ k, tget regDefault t.regs k = if p k then regDefault k else tget regDefault s.regs k

/-- A key within a range of indices. -/
def keyIn (lo hi k : Nat) : Bool := decide (lo ≤ keyIdx k) && decide (keyIdx k ≤ hi)

/-- The command answers a next state of which P holds. -/
def Runs (c : Instr) (s : State) (P : State → Prop) : Prop := ∃ t, exec c s = .next t ∧ P t

/-- A session's write of v reaches the object that holds it: the session is served, nothing waits for a fuse before it (R53), the
write is no violation (R55), and `st` is the sub-index under which the object is held (R115). -/
def Accepts (s : State) (w : WriteReq) (idx sub row st v : Nat) : Prop :=
  (reaches s w.slot.val = true ∧ s.vit.waiting = []) ∧ judge s .write w.slot.val idx sub row (some w.value) = none ∧
  storeSub s idx sub = some st ∧ (entryOf idx sub).map (fun e => decodeVal e.ty w.value) = some v

/-- The write that a write command carries: request, index, sub-index, row. -/
def writeOf : Instr → Option (WriteReq × Nat × Nat × Nat)
  | .shadowDiscard w => some (w, Reg.shadowDiscard, 0, 0)
  | .tickMaxClear w => some (w, Reg.tickMaxClear, 0, 0)
  | .sessionViolationClear target w => some (w, Reg.sessionViolationClear, target.val, 0)
  | .lorakKeyWrite key w => some (w, Reg.lorakKey, key.val, 0)
  | .lorakKeyErase w => some (w, Reg.lorakKeyErase, 0, 0)
  | .lorakAuthRequiredWrite transport w => some (w, Reg.lorakAuthRequired, transport.val, 0)
  | .mgtModeWrite w => some (w, Reg.mgtMode, 0, 0)
  | .laneEnableWrite lane w => some (w, Reg.laneEnable, lane.val, 0)
  | .reserveRequest lane w => some (w, Reg.reserveRequest, lane.val, 0)
  | .testSelectWrite object lane w =>
    some (w, (if object.val = 0 then Reg.patGenSelect else if object.val = 1 then Reg.patChkSelect else Reg.loopbackMode), lane.val, 0)
  | .chkClear lane w => some (w, Reg.chkClear, lane.val, 0)
  | .injectFire lane w => some (w, Reg.injectFire, lane.val, 0)
  | .fdbAgeTimeWrite w => some (w, Reg.fdbAgeTime, 0, 0)
  | .fdbFlushLearned w => some (w, Reg.fdbFlushLearned, 0, 0)
  | .portCounterClear port w => some (w, Reg.portCounterClear, port.val, 0)
  | .classRuleHitClear w => some (w, Reg.classRuleHitClear, 0, 0)
  | .coreCounterClear w => some (w, Reg.coreCounterClear, 0, 0)
  | .gateCounterClear port w => some (w, Reg.gateCounterClear, port.val, 0)
  | .combinerCounterClear w => some (w, Reg.combinerCounterClear, 0, 0)
  | .tdcCalRequest channel w => some (w, Reg.tdcCalRequest, channel.val, 0)
  | .tdcMeasureConfigWrite slot w => some (w, Reg.tdcMeasureConfig, slot.val, 0)
  | .tdcMeasureStart slot w => some (w, Reg.tdcMeasureStart, slot.val, 0)
  | .freqMeasureConfigWrite slot w => some (w, Reg.freqMeasureConfig, slot.val, 0)
  | .freqMeasureStart slot w => some (w, Reg.freqMeasureStart, slot.val, 0)
  | .tdcSelfTestStart w => some (w, Reg.tdcSelfTestStart, 0, 0)
  | .synOffsetWrite syn w => some (w, Reg.synOffset, syn.val, 0)
  | .outEnableWrite output w => some (w, Reg.outEnable, output.val, 0)
  | .timeIncrementSetWrite w => some (w, Reg.timeIncrementSet, 0, 0)
  | .timeStepWrite w => some (w, Reg.timeStep, 0, 0)
  | .servoStateSetWrite w => some (w, Reg.servoStateSet, 0, 0)
  | .servoModeWrite w => some (w, Reg.servoMode, 0, 0)
  | .timeSet w => some (w, Reg.timeSet, 0, 0)
  | .servoEnterTest w => some (w, Reg.servoCommand, 0, 0)
  | .servoLeaveTest w => some (w, Reg.servoCommand, 0, 0)
  | .servoEnterRecovery w => some (w, Reg.servoCommand, 0, 0)
  | .acceptStep w => some (w, Reg.acceptStep, 0, 0)
  | .ptpCounterClear port w => some (w, Reg.ptpCounterClear, port.val, 0)
  | .calRequest cls inst w => some (w, calRequestIdx cls, inst.val, 0)
  | .calDiscardSets w => some (w, Reg.calDiscardSets, 0, 0)
  | .perfConfigWrite counter gate _ w => some (w, (if gate then Reg.perfGateTicks else Reg.perfConfig), counter.val, 0)
  | .perfCounterPreset counter _ w => some (w, Reg.perfCounter, counter.val, 0)
  | .perfOverflowClear w => some (w, Reg.perfOverflowClear, 0, 0)
  | .counterClearAll w => some (w, Reg.counterClearAll, 0, 0)
  | .archiveConfigWrite object w =>
    some (w, (if object.val = 0 then Reg.archiveMode else if object.val = 1 then Reg.archiveFilter else Reg.archiveSampleEvery), 0, 0)
  | .archiveTrigger w => some (w, Reg.archiveTrigger, 0, 0)
  | .archiveReadIndexWrite w => some (w, Reg.archiveReadIndex, 0, 0)
  | .archiveClear w => some (w, Reg.archiveClear, 0, 0)
  | .eventClear word w => some (w, Reg.eventClear, word.val, 0)
  | .eventMaskWrite mask word w =>
    some (w, (if mask.val = 0 then Reg.eventMaskA else if mask.val = 1 then Reg.eventMaskB else Reg.eventMaskNotify), word.val, 0)
  | .eventHoldWrite w => some (w, Reg.eventHold, 0, 0)
  | .eventCountClear w => some (w, Reg.eventCountClear, 0, 0)
  | .sealWrite interval row w => some (w, (if interval then Reg.vitrineInterval else Reg.tenantMap), 0, row.toNat)
  | .domainSleepRequest domain w => some (w, Reg.domainSleepRequest, swNum domain, 0)
  | .domainSleepAtTickWrite domain w => some (w, Reg.domainSleepAtTick, swNum domain, 0)
  | .domainWakeAtTickWrite domain w => some (w, Reg.domainWakeAtTick, swNum domain, 0)
  | .domainWakeCommand domain w => some (w, Reg.domainSleepRequest, swNum domain, 0)
  | .resetNowDatapath w => some (w, Reg.resetNow, 0, 0)
  | .resetNowCurator w => some (w, Reg.resetNow, 0, 0)
  | .resetNowFull w => some (w, Reg.resetNow, 0, 0)
  | .imageBlockWrite row w => some (w, Reg.imageBlock, 0, row.toNat)
  | .imageErase w => some (w, Reg.imageErase, 0, 0)
  | .imageCommit w => some (w, Reg.imageCommit, 0, 0)
  | .bootPreferSet w => some (w, Reg.bootPreferSet, 0, 0)
  | _ => none

/-- A PDU arrives whole on its transport: on MGT in a frame that Lorak takes, on SVC as the bytes of the line in use (R449), in-band where
the mask lets it in; it passes the checks of R67 and the Curator answers there (R67, R81-R83, R460). -/
structure Reaches (s : State) (opcode : Nat) (e : Envelope) (p : Pdu) : Prop where
  path : pathUp s e = true
  mgt : e.transport = .mgt → mgtAccepts s e = true
  svc : e.transport = .svc → svcUnescape e.line = some (pduBytes opcode p) ∧ 24 ≤ (pduBytes opcode p).length ∧
    (pduBytes opcode p).length ≤ 1440 ∧ e.line ≠ [] ∧ e.jtag = svcPortSelected s
  mask : e.transport = .inband → lorakAccepts s e.port.val = true
  framed : framed opcode p = true
  listens : e.transport ≠ .inband → listens s e.transport = true

/-- The state in which a PDU that has arrived is taken up: on MGT it is a wake source (R425). -/
def arrivedIn (s : State) (e : Envelope) : State := if e.transport = .mgt then wakeByMgt s else s

/-- A PDU arrives, is dropped by nothing and is taken as a request of the module, r, in the state u that its arrival leaves
(R67, R79, R81, R425, R460). -/
structure Arrives (s : State) (opcode : Nat) (e : Envelope) (p : Pdu) (r : Req) (u : State) : Prop where
  whole : Reaches s opcode e p
  awake : u = arrivedIn s e
  mine : isMine u e.transport p = true
  listens : listens u e.transport = true
  room : e.transport = .svc → svcWaiting u < 4
  request : p.flags.getLsbD 0 = false
  req : r = { opcode := opcode, env := e, pdu := p, received := s.counter }

/-- The request is of an open session, carries the tag the session asks for, bears the next sequence number and finds none
of its session executing (R72-R74, R77); v is the state in which it is executed. -/
structure InTurn (s : State) (opcode : Nat) (e : Envelope) (p : Pdu) (slot : Nat) (r : Req) (v : State) : Prop where
  taken : ∃ u x, Arrives s opcode e p r u ∧ slot = p.session.toNat ∧
    sessionFor u slot (requester e p) = some x ∧ tagHolds x r = true ∧
    (p.sequence.toNat + 2 ^ 32 - x.last) % 2 ^ 32 = 1 ∧ x.held.any (fun h => h.pdu.sequence = p.sequence) = false ∧
    collecting u slot = false ∧ u.vit.waiting = [] ∧ v = setSession slot { x with lastReq := u.now } u

/-- What no step may do: reorder the queue, run time back, take back what has left the module, break the form of the
register file, change what was fused or trimmed at manufacture. -/
structure Advances (s t : State) : Prop where
  queue : t.pending = s.pending
  time : s.now ≤ t.now
  sent : s.sent <+: t.sent
  regs : s.regsOk → t.regsOk
  fused : t.vit.fused = s.vit.fused
  factory : t.cal.factory = s.cal.factory

/-- A step that leaves the test access port alone as well. -/
structure Follows (s t : State) : Prop extends Advances s t where
  tap : t.tap = s.tap

/-- The commands that may change the test access port: its own, and those that take the power from it (R448). -/
def touchesTap : Instr → Bool
  | .extest | .samplePreload | .idcode | .highz | .clamp | .extestPulse | .extestTrain | .vitrineId | .svcPort
  | .bypass _ | .tapReset | .brownout _ | .undervoltageLockout _ | .overtempShutdown _ _ => true
  | _ => false

end Sys2Proof.Machine
end

