-- ==== Sys2Proof/Certificates/Slice0/Obligations.lean ====
section
/-! DEFINITION. What is claimed of the model: one `def Obligations.<Name> : Prop` per statement. -/

section

open Sys2Proof Sys2Proof.Machine

/-- A step runs the command at the front of the queue on the state with the rest of the queue. -/
def Obligations.StepRunsFrontCommand : Prop :=
  ∀ (c : Instr) (rest : List Instr) (s : State), s.pending = c :: rest →
    step s = exec c { s with pending := rest }

/-- After reset the counter is 0 with the nominal increment, nothing is staged, armed or open, and objects hold their defaults. The model's choices that it rests on beside the rules: log 11, 21. -/
def Obligations.ResetLeavesTheStatedValues : Prop :=
  State.reset.counter = 0 ∧ State.reset.increment = 2 ^ 41 ∧ r0 State.reset Reg.tickNumber = 0 ∧
    r0 State.reset Reg.tickSequence = 0 ∧ State.reset.opn = Opn.reset ∧ State.reset.lrk.sessions = [] ∧
    State.reset.core.frames = [] ∧ State.reset.sent = [] ∧ State.reset.pending = [] ∧
    (∀ k, keyIdx k ∉ [Reg.moduleUid, Reg.firmwareVersion, Reg.sealLog, Reg.domainState,
        Reg.lastResetCause, Reg.vitrineMicrocodeDigest] → tget regDefault State.reset.regs k = regDefault k) ∧
    (∀ d ∈ [2, 4, 5, 6, 7], r1 State.reset Reg.domainState d = 4) ∧ r0 State.reset Reg.lastResetCause = 1

/-- The register file of the reset state is in its one form. -/
def Obligations.ResetRegisterFileIsCanonical : Prop :=
  State.reset.regsOk

/-- Every step from any state with a canonical register file ends in a state with a canonical register file. -/
def Obligations.EveryStepKeepsTheRegisterFileCanonical : Prop :=
  ∀ s t : State, s.regsOk → step s = .next t → t.regsOk

/-- Every command in every state answers a next state; it reorders no queue, never runs time back, takes nothing back. The model's choices that it rests on beside the rules: log 2, 11. -/
def Obligations.EveryCommandGoesOnAndFollows : Prop :=
  ∀ (c : Instr) (s : State), ∃ t, exec c s = .next t ∧ Advances s t ∧ (touchesTap c = false → t.tap = s.tap)

/-- A write that is a violation adds to the session's two counts, replaces its record and changes nothing else. -/
def Obligations.ViolationIsCountedAndChangesNothingElse : Prop :=
  ∀ (c : Instr) (s : State) (w : WriteReq) (idx sub row kind : Nat), writeOf c = some (w, idx, sub, row) →
    reaches s w.slot.val = true → s.vit.waiting = [] → judge s .write w.slot.val idx sub row (some w.value) = some kind →
    (kind = 6 → s.vit.burning = none) →
    Runs c s (fun t =>
      RegsOnly [Reg.sessionViolations, Reg.sessionViolationKinds, Reg.sessionLastViolation] s t ∧
      r1 t Reg.sessionViolations w.slot.val = (r1 s Reg.sessionViolations w.slot.val + 1) % 2 ^ 64 ∧
      r1 t Reg.sessionViolationKinds (w.slot.val * 16 + kind) =
        (r1 s Reg.sessionViolationKinds (w.slot.val * 16 + kind) + 1) % 2 ^ 64 ∧
      r1 t Reg.sessionLastViolation w.slot.val =
        ofLE (bytesLE 2 idx ++ bytesLE 1 sub ++ bytesLE 1 (0x80 + kind) ++ bytesLE 4 row ++
          bytesLE 4 w.sequence.toNat ++ bytesLE 1 4 ++ bytesLE 1 w.item.toNat ++ bytesLE 2 0) ∧
      (∀ k, k ∉ [objKey Reg.sessionViolations w.slot.val 0, objKey Reg.sessionViolationKinds (w.slot.val * 16 + kind) 0,
        objKey Reg.sessionLastViolation w.slot.val 0] → tget regDefault t.regs k = tget regDefault s.regs k))

/-- A write from a slot that is not open, or while no Curator serves, changes nothing. The model's choices that it rests on beside the rules: log 2. -/
def Obligations.UnservedWriteChangesNothing : Prop :=
  ∀ (c : Instr) (s : State) (w : WriteReq) (idx sub row : Nat), writeOf c = some (w, idx, sub, row) →
    reaches s w.slot.val = false → exec c s = .next s

/-- A write of 0x00 to a command object of type BOOL is accepted and does nothing. -/
def Obligations.CommandObjectIgnoresZero : Prop :=
  ∀ (c : Instr) (s : State) (w : WriteReq) (idx sub row st : Nat), writeOf c = some (w, idx, sub, row) →
    idx ∈ [Reg.shadowDiscard, Reg.tickMaxClear, Reg.sessionViolationClear, Reg.lorakKeyErase, Reg.reserveRequest,
      Reg.chkClear, Reg.injectFire, Reg.fdbFlushLearned, Reg.portCounterClear, Reg.classRuleHitClear,
      Reg.coreCounterClear, Reg.gateCounterClear, Reg.combinerCounterClear, Reg.tdcMeasureStart, Reg.freqMeasureStart,
      Reg.tdcSelfTestStart, Reg.acceptStep, Reg.ptpCounterClear, Reg.calDiscardSets, Reg.counterClearAll,
      Reg.archiveTrigger, Reg.archiveClear, Reg.eventCountClear, Reg.imageErase, Reg.imageCommit, Reg.tdcCalRequest,
      calRequestIdx .portDelay, calRequestIdx .output, calRequestIdx .crystal] →
    Accepts s w idx sub row st 0 → exec c s = .next s

/-- Writing one register gives it the value and leaves every other register and every other part of the state as it was. -/
def Obligations.WritingOneRegisterChangesNoOther : Prop :=
  ∀ (idx sub row v : Nat) (s : State), sub < 256 → row < 2 ^ 24 →
    Sets [(idx, sub, row, v)] s (wr idx sub row v s) ∧
    Sets [(idx, sub, row, (rd s idx sub row + v) % 2 ^ 64)] s (count idx sub row v s) ∧
    (∀ idx' sub' row', sub' < 256 → row' < 2 ^ 24 → (idx', sub', row') ≠ (idx, sub, row) →
      rd (wr idx sub row v s) idx' sub' row' = rd s idx' sub' row')

/-- An occurrence of an edge source sets its pending bit and counts; in a sleeping domain it does not occur; a level source follows its condition. The model's choices that it rests on beside the rules: log 48. -/
def Obligations.AnEventSetsItsPendingBitAndCounts : Prop :=
  ∀ (n w b up : Nat) (s : State) (a : ArchSt) (e : EvSt), n < 512 → w = n / 32 → b = n % 32 →
    (sourceMask w).testBit b = true →
    up = 2 ^ b &&& ((r1 s Reg.eventPending w ||| clearedNow s w) ^^^ 0xFFFFFFFF) →
    a = (if r0 s Reg.archiveMode = 2 ∧ r0 s Reg.archiveTriggerSource = 0x100 + n ∧ up.testBit b = true then
        { s.arch with burst := r0 s Reg.archiveBurst, trigger := 3 } else s.arch) →
    e = { s.ev with risen := tset (fun _ => 0) s.ev.risen w (tget (fun _ => 0) s.ev.risen w ||| (up &&& r1 s Reg.eventMaskNotify w)) } →
    ((levelMapWord w).testBit b = false →
      (running s (sourceDomain n) = true →
        RegsSet [(Reg.eventPending, w, 0, r1 s Reg.eventPending w ||| 2 ^ b),
          (Reg.eventCounts, 0, n, (rd s Reg.eventCounts 0 n + 1) % 2 ^ 64)] s (raise n s) ∧
        raise n s = { s with
          regs := (raise n s).regs, arch := a, ev := { e with edges := tset (fun _ => 0) s.ev.edges n (coreCycle s + 1) } }) ∧
      (running s (sourceDomain n) = false → raise n s = s)) ∧
    ((levelMapWord w).testBit b = true →
      (running s (sourceDomain n) = true →
        RegsSet [(Reg.eventPending, w, 0, r1 s Reg.eventPending w ||| 2 ^ b),
          (Reg.eventLive, w, 0, setBit (r1 s Reg.eventLive w) b true),
          (Reg.eventCounts, 0, n, if (r1 s Reg.eventLive w).testBit b then rd s Reg.eventCounts 0 n
            else (rd s Reg.eventCounts 0 n + 1) % 2 ^ 64)] s (setLive n true s) ∧
        setLive n true s = { s with regs := (setLive n true s).regs, arch := a, ev := e }) ∧
      (running s (sourceDomain n) = false →
        Sets [(Reg.eventLive, w, 0, setBit (r1 s Reg.eventLive w) b false)] s (setLive n true s)) ∧
      Sets [(Reg.eventLive, w, 0, setBit (r1 s Reg.eventLive w) b false)] s (setLive n false s))

/-- Time adds the increment once per 2 ns cycle to the counter; level sources are counted meanwhile; an empty queue lets one cycle pass (log 1). The model's choices that it rests on beside the rules: log 1, 2, 71. -/
def Obligations.TimePassesAtTheIncrementInForce : Prop :=
  ∀ (t : Nat) (s : State),
    (t ≤ s.now → advanceTo t s = s) ∧
    (∀ n : Nat → Nat, (∀ k, n k = levelCycles s t (r1 s Reg.perfConfig k / 2 ^ 26 % 16)
        (r1 s Reg.perfConfig k / 2 ^ 20 % 64) (r1 s Reg.perfConfig k / 2 ^ 10 % 1024)) → s.now < t → advanceTo t s =
      { s with now := t, counter := s.counter + (t / 2000 - s.now / 2000) * s.increment, perf := (advanceTo t s).perf } ∧
      ∀ k, (getPerf s k).live = true → getPerf (advanceTo t s) k = if perfCounts s k ∧ r1 s Reg.perfConfig k / 2 ^ 30 % 4 = 1 then
          { getPerf s k with cycles := (getPerf s k).cycles + n k } else getPerf s k) ∧
    (0 < s.increment → ∀ v, v ≤ (advanceToReading v s).counter) ∧
    (s.pending = [] → ∃ u, step s = .next u ∧ u.now = s.now + 2000 ∧ u.counter = s.counter + s.increment ∧
      u = advanceTo (s.now + 2000) s)

/-- Ten clear commands bring exactly their own counters back to the default and change nothing else. The model's choices that it rests on beside the rules: log 12, 35, 42, 45, 71. -/
def Obligations.CounterClearsReturnTheirCountersToZero : Prop :=
  ∀ (w : WriteReq) (s x : State) (st : Nat), x = captureDue s →
    ((∀ b < 2, r1 s Reg.inventoryBankState b = 1 → (getBank s b).captured = true ∨
        r0 s Reg.tickNumber < (getBank s b).tick) → x = s) ∧
    (∀ port, Accepts s w Reg.portCounterClear port.val 0 st 1 →
      Runs (.portCounterClear port w) s (fun t => t = { x with regs := t.regs, ports := (settleHolds st x).ports } ∧
        ∀ k, tget regDefault t.regs k = if keyIn 0x3030 0x3057 k ∧ keySub k = st then regDefault k
          else tget regDefault x.regs k)) ∧
    (Accepts s w Reg.classRuleHitClear 0 0 st 1 →
      Runs (.classRuleHitClear w) s (Clears (keyIn Reg.classRuleHits Reg.classRuleHits) x)) ∧
    (Accepts s w Reg.eventCountClear 0 0 st 1 →
      Runs (.eventCountClear w) s (Clears (keyIn Reg.eventCounts Reg.eventCounts) (perfNow x))) ∧
    (Accepts s w Reg.tickMaxClear 0 0 st 1 →
      Runs (.tickMaxClear w) s (Clears (keyIn Reg.tickJobMaxTime Reg.tickJobMaxTime) x)) ∧
    (∀ port, Accepts s w Reg.gateCounterClear port.val 0 st 1 →
      Runs (.gateCounterClear port w) s (Clears (fun k => (keyIn Reg.starvePromotions (Reg.starvePromotions + 7) k ||
        keyIn Reg.gateOverruns Reg.gateOverruns k || keyIn Reg.guardDeferrals (Reg.guardDeferrals + 7) k) &&
        decide (keySub k = st)) (judgeGates x))) ∧
    (∀ port, Accepts s w Reg.ptpCounterClear port.val 0 st 1 →
      Runs (.ptpCounterClear port w) s (Clears (fun k => keyIn 0x8050 0x8057 k && decide (keySub k = st)) x)) ∧
    (∀ lane, Accepts s w Reg.chkClear lane.val 0 st 1 →
      Runs (.chkClear lane w) s (fun t => Clears (fun k => (keyIn Reg.chkBits (Reg.chkBits + 7) k ||
        keyIn Reg.chkLockLosses Reg.chkLockLosses k) && decide (keySub k = st)) (dropLoopErrors st x) t)) ∧
    (Accepts s w Reg.combinerCounterClear 0 0 st 1 →
      Runs (.combinerCounterClear w) s (Clears (fun k => keyIn 0x6040 0x6058 k ||
        keyIn Reg.combinerPartialGroups Reg.combinerPartialGroups k || keyIn 0x6008 0x6009 k) x)) ∧
    (Accepts s w Reg.coreCounterClear 0 0 st 1 →
      ∃ u, Clears (fun k => keyIn 0x4036 0x4037 k || keyIn 0x4058 0x4067 k || keyIn 0x4078 0x4093 k ||
        keyIn 0x40A1 0x40A3 k) x u ∧ exec (.coreCounterClear w) s = .next (resetPeaks u)) ∧
    (∀ y, y = forN 64 settleHolds (judgeGates (perfNow x)) → Accepts s w Reg.counterClearAll 0 0 st 1 →
      Runs (.counterClearAll w) s (fun t =>
        t = { y with regs := t.regs, perf := y.perf.map (fun e => (e.1, { e.2 with since := y.now })) } ∧
        ∀ k, tget regDefault t.regs k = if inRanges counterRanges (keyIdx k) ∨
            keyIn Reg.combinerPartialGroups Reg.combinerPartialGroups k then regDefault k
          else tget regDefault y.regs k))

/-- The checker's lock and its loss and error injection act on their lane alone; precoding and Gray coding decode to what was sent. The model's choices that it rests on beside the rules: log 6, 35, 60, 64. -/
def Obligations.LaneTestCommandsSetTheirRegisters : Prop :=
  ∀ (lane : Fin 64) (s : State),
    (∀ levels inverted, r1 s Reg.chkState lane.val = 1 → r1 s Reg.laneState lane.val = 8 →
      checkerFinds s lane.val levels = some inverted → Runs (.checkerLock lane levels) s (fun t =>
        RegsSet [(Reg.chkState, lane.val, 0, if inverted then 3 else 2)] s t ∧
        t = { s with regs := t.regs, lanes := t.lanes } ∧
        getLane t lane.val =
          { getLane s lane.val with chkHeard := true, loopBits := 0, loopSymbols := 0, loopLevels := [] } ∧
        ∀ j, j ≠ lane.val → getLane t j = getLane s j)) ∧
    (∀ errors : Fin 1025, r1 s Reg.chkState lane.val ∈ [2, 3] → 256 < errors.val →
      Runs (.checkerLockLoss lane errors) s (Sets [(Reg.chkState, lane.val, 0, 1),
        (Reg.chkLockLosses, lane.val, 0, (r1 s Reg.chkLockLosses lane.val + 1) % 2 ^ 64)] s)) ∧
    (∀ c, (c = .injectIntervalExpire lane ∧ r1 s Reg.injectInterval lane.val ≠ 0) ∨
        (∃ w, c = .injectFire lane w ∧ Accepts s w Reg.injectFire lane.val 0 lane.val 1 ∧
          r1 s Reg.injectInterval lane.val = 0) →
      injects s lane.val = true → Runs c s (fun t =>
        RegsSet [(Reg.injectCount, lane.val, 0, (r1 s Reg.injectCount lane.val + 1) % 2 ^ 64)] s t ∧
        t = { s with regs := t.regs, lanes := t.lanes, ports := t.ports, free := t.free } ∧
        (∀ slot x, r1 s Reg.laneState lane.val = 7 → slotOfLane s lane.val = some slot → (getPort s slot).tx = some x →
          getPort t slot = { getPort s slot with tx := some { x with struck := x.struck + injectionReach s lane.val } }) ∧
        (∀ j, (r1 s Reg.laneState lane.val ≠ 7 ∨ slotOfLane s lane.val ≠ some j ∨ (getPort s j).tx = none) →
          getPort t j = getPort s j) ∧
        (∀ j, j ≠ lane.val → getLane t j = getLane s j) ∧
        ((hearsItself s lane.val = false ∨ r1 s Reg.chkState lane.val ∉ [2, 3]) → t.lanes = s.lanes ∧ t.free = s.free) ∧
        (∀ z, z = injectionSize s lane.val (Config.freeValue s.free) → hearsItself s lane.val = true →
          r1 s Reg.chkState lane.val ∈ [2, 3] → t.free = s.free + 1 + z.2 ∧ ∃ l,
          getLane t lane.val = { getLane s lane.val with
            loopBits := (getLane s lane.val).loopBits + z.1, loopSymbols := (getLane s lane.val).loopSymbols + z.2,
            loopLevels := l } ∧ l.sum = (getLane s lane.val).loopLevels.sum + z.2))) ∧
    (∀ bits : List Bool, bits.length % 2 = 0 → bitsOf true (levelsOf true bits) = bits) ∧
    (∀ l : List Nat, (∀ x ∈ l, x < 4) → unprecode (precode l) = l) ∧
    (∀ pam4 x, x < (if pam4 then 4 else 2) → invertLevel pam4 (invertLevel pam4 x) = x)

/-- LaneEnable, ReserveRequest and the three test selections write their register, then move the lane and judge its links. The model's choices that it rests on beside the rules: log 6, 32, 35, 60, 70. -/
def Obligations.LaneWritesActOnTheLane : Prop :=
  ∀ (lane : Fin 64) (w : WriteReq) (v : Nat) (s : State),
    (Accepts s w Reg.laneEnable lane.val 0 lane.val v →
      exec (.laneEnableWrite lane w) s = .next (onLane lane.val (fun s =>
        if v = 0 then stopLane lane.val (w1 Reg.laneEnable lane.val v s)
        else if r1 s Reg.laneState lane.val = 0 then startLane lane.val (w1 Reg.laneEnable lane.val v s)
        else w1 Reg.laneEnable lane.val v s) s)) ∧
    (∀ (object : Fin 3) (idx : Nat), idx = [Reg.patGenSelect, Reg.patChkSelect, Reg.loopbackMode].getD object.val 0 →
      Accepts s w idx lane.val 0 lane.val v →
      exec (.testSelectWrite object lane w) s = .next (onLane lane.val (fun s => judgeTest lane.val (dropLoopErrors lane.val
        (if object.val = 1 then dropChecker lane.val (w1 idx lane.val v s)
         else if object.val = 0 ∧ v ≠ 0 then startPattern lane.val (w1 idx lane.val v s)
         else if object.val = 2 ∧ v = 1 then loopOrder lane.val (if r1 (w1 idx lane.val v s) Reg.patGenSelect lane.val = 0
           then startPattern lane.val (w1 idx lane.val v s) else w1 idx lane.val v s)
         else w1 idx lane.val v s))) s)) ∧
    (Accepts s w Reg.reserveRequest lane.val 0 lane.val 1 →
      exec (.reserveRequest lane w) s = .next (if (getCal s 1 lane.val).running.isSome then s
        else modCal 1 lane.val (fun c => { c with pending := true }) s))

/-- Violation clear, key load, key erase, AuthRequired and MgtMode: what each accepted write changes. The model's choices that it rests on beside the rules: log 25, 63. -/
def Obligations.SessionAdministrationWrites : Prop :=
  ∀ (w : WriteReq) (v : Nat) (s : State),
    (∀ target : Fin 16, Accepts s w Reg.sessionViolationClear target.val 0 target.val 1 →
      Runs (.sessionViolationClear target w) s (Sets ([(Reg.sessionViolations, target.val, 0, 0),
        (Reg.sessionLastViolation, target.val, 0, 0)] ++
        (List.range 16).map (fun k => (Reg.sessionViolationKinds, target.val * 16 + k, 0, 0))) s)) ∧
    (∀ key : Fin 4, Accepts s w Reg.lorakKey key.val 0 key.val v →
      (keyOf s key.val = some v → exec (.lorakKeyWrite key w) s = .next s) ∧
      (keyOf s key.val ≠ some v → exec (.lorakKeyWrite key w) s =
        .next (closeWhere (fun x => decide (x.key = some key.val)) (w1 Reg.lorakKeyLoaded key.val 1
          { s with lrk := { s.lrk with keys := tput s.lrk.keys key.val v } })))) ∧
    (Accepts s w Reg.lorakKeyErase 0 0 0 1 → exec (.lorakKeyErase w) s =
      .next (closeWhere (fun x => x.key.isSome) (dropIdx Reg.lorakKeyLoaded
        { s with lrk := { s.lrk with keys := [] } }))) ∧
    (∀ transport : Fin 3, Accepts s w Reg.lorakAuthRequired transport.val 0 transport.val v →
      exec (.lorakAuthRequiredWrite transport w) s = .next (if v = 1 then
          closeWhere (fun x => decide (transportIdx x.peer.transport = transport.val) && x.key.isNone)
            (w1 Reg.lorakAuthRequired transport.val v s)
        else w1 Reg.lorakAuthRequired transport.val v s)) ∧
    (Accepts s w Reg.mgtMode 0 0 0 v →
      Runs (.mgtModeWrite w) s (Sets [(Reg.mgtMode, 0, 0, v), (Reg.mgtLinkState, 0, 0, 0)] s))

/-- FdbAgeTime restarts the ageing sweep, and FdbFlushLearned removes every learned row and no other. The model's choices that it rests on beside the rules: log 65. -/
def Obligations.ForwardingTableWrites : Prop :=
  ∀ (w : WriteReq) (v : Nat) (s : State),
    (Accepts s w Reg.fdbAgeTime 0 0 0 v → running s 4 = true → exec (.fdbAgeTimeWrite w) s =
      .next { w0 Reg.fdbAgeTime v s with
        core := { s.core with sweepAt := if v = 0 then 0 else s.now + v * 10 ^ 12, sweepLeft := 0 } }) ∧
    (Accepts s w Reg.fdbAgeTime 0 0 0 v → running s 4 = false → exec (.fdbAgeTimeWrite w) s =
      .next { w0 Reg.fdbAgeTime v s with core := { s.core with sweepAt := 0, sweepLeft := v * 10 ^ 12 } }) ∧
    (Accepts s w Reg.fdbFlushLearned 0 0 0 1 → exec (.fdbFlushLearned w) s =
      .next (((rowsOf s Reg.forwardingTable 0).filter (fun r => isLearned r.2)).foldl
        (fun s r => wr Reg.forwardingTable 0 r.1 0 s) s))

/-- Configuration and start of the interval and frequency measurements, the self-test and a TDC calibration request. The model's choices that it rests on beside the rules: log 34, 52, 70. -/
def Obligations.MeasurementWrites : Prop :=
  ∀ (w : WriteReq) (v : Nat) (s : State),
    (∀ slot : Fin 8, Accepts s w Reg.tdcMeasureConfig slot.val 0 slot.val v →
      exec (.tdcMeasureConfigWrite slot w) s = .next (w1 Reg.tdcMeasureConfig slot.val v
        (if (getMeas s slot.val).armed then measState slot.val 4 (setMeas slot.val measInit s) else s))) ∧
    (∀ slot : Fin 8, Accepts s w Reg.tdcMeasureStart slot.val 0 slot.val 1 →
      exec (.tdcMeasureStart slot w) s = .next (if measMode s slot.val = 0 then s
        else measState slot.val 1 (setMeas slot.val { measInit with armed := true } s))) ∧
    (∀ slot : Fin 8, Accepts s w Reg.freqMeasureConfig slot.val 0 slot.val v →
      exec (.freqMeasureConfigWrite slot w) s = .next (w1 Reg.freqMeasureConfig slot.val v
        (if (getFreq s slot.val).running then freqState slot.val 3 (setFreq slot.val freqInit s) else s))) ∧
    (∀ slot : Fin 8, Accepts s w Reg.freqMeasureStart slot.val 0 slot.val 1 →
      exec (.freqMeasureStart slot w) s = .next (if r1 s Reg.freqMeasureConfig slot.val % 2 ^ 16 = 0 then s
        else freqState slot.val 1 (setFreq slot.val { freqInit with running := true } s))) ∧
    (Accepts s w Reg.tdcSelfTestStart 0 0 0 1 → selfTestBusy s = false →
      standsIn s (r0 s Reg.tdcSelfTestChannel) = false → exec (.tdcSelfTestStart w) s =
        .next (w1 Reg.tdcSelfTestResult 0 (1 + r0 s Reg.tdcSelfTestChannel * 256)
          { s with tdc := { s.tdc with testDue := some (r0 s Reg.tdcSelfTestChannel) } })) ∧
    (∀ channel : Fin 80, Accepts s w Reg.tdcCalRequest channel.val 0 channel.val 1 →
      exec (.tdcCalRequest channel w) s = .next (if (getCal s 2 channel.val).running.isSome then s
        else modCal 2 channel.val (fun c => { c with pending := true }) s))

/-- SynOffset, OutEnable, calibration requests and CalDiscardSets: what each accepted write does. The model's choices that it rests on beside the rules: log 52, 56, 70. -/
def Obligations.ClockAndCalibrationWrites : Prop :=
  ∀ (w : WriteReq) (v : Nat) (s : State),
    (∀ syn : Fin 4, Accepts s w Reg.synOffset syn.val 0 syn.val v →
      (synEnabled s syn.val && running s 2) = false →
      Runs (.synOffsetWrite syn w) s (Sets [(Reg.synOffset, syn.val, 0, v)] s)) ∧
    (∀ (syn : Fin 4) (u : State), Accepts s w Reg.synOffset syn.val 0 syn.val v →
      synEnabled s syn.val = true → running s 2 = true → u = synRetarget syn.val true (w1 Reg.synOffset syn.val v s) →
      exec (.synOffsetWrite syn w) s =
        .next (if synBeyond u syn.val then synRelock syn.val 2 false u else synJudge syn.val u)) ∧
    (∀ output : Fin 12, Accepts s w Reg.outEnable output.val 0 output.val v →
      exec (.outEnableWrite output w) s = .next (judgeOut output.val (w1 Reg.outEnable output.val v s))) ∧
    (∀ (cls : CalClass) (inst : Fin 80) (st : Nat), cls ≠ .lane → Accepts s w (calRequestIdx cls) inst.val 0 st 1 →
      exec (.calRequest cls inst w) s = .next (if (getCal s (classCode cls) st).running.isSome then s
        else modCal (classCode cls) st (fun c => { c with pending := true }) s)) ∧
    (∀ (inst : Fin 80) (st : Nat), Accepts s w Reg.reserveRequest inst.val 0 st 1 →
      exec (.calRequest .lane inst w) s = .next (if (getCal s 1 st).running.isSome then s
        else modCal 1 st (fun c => { c with pending := true }) s)) ∧
    (Accepts s w Reg.calDiscardSets 0 0 0 1 → exec (.calDiscardSets w) s = .next (discardSets s)) ∧
    (∀ tick (c : CalSt), (∀ x ∈ c.sets, x.tick ≠ tick) →
      discarded tick c = { c with sets := [], failed := false, pending := c.running.isNone })

/-- Writes to the time servo: mode, TimeSet, Servo commands, AcceptStep and the external servo's three objects. The model's choices that it rests on beside the rules: log 53, 66, 68. -/
def Obligations.TimeServoWrites : Prop :=
  ∀ (w : WriteReq) (v : Nat) (s : State),
    (Accepts s w Reg.timeSet 0 0 0 v → r0 s Reg.servoState ∉ [0, 5] → exec (.timeSet w) s =
      .next (w0 Reg.timeSetRefusals ((r0 s Reg.timeSetRefusals + 1) % 2 ^ 64) s)) ∧
    (Accepts s w Reg.timeSet 0 0 0 v → r0 s Reg.servoState ∈ [0, 5] → exec (.timeSet w) s =
      .next { s with servo := { s.servo with nextSet := some (readingOf128 v) } }) ∧
    (Accepts s w Reg.servoMode 0 0 0 v → exec (.servoModeWrite w) s =
      .next { w0 Reg.servoMode v s with servo :=
        { s.servo with nextMode := if decide (v = 1) = s.servo.external then none else some v } }) ∧
    (∀ c ∈ [Instr.servoEnterTest w, .servoLeaveTest w, .servoEnterRecovery w], Accepts s w Reg.servoCommand 0 0 0 v →
      exec c s = .next (if s.servo.external then s
        else if v = 1 ∧ r0 s Reg.servoState ≠ 0 then enterServo 5 s
        else if v = 2 ∧ r0 s Reg.servoState = 5 then enterServo 1 s
        else if v = 3 ∧ r0 s Reg.servoState = 2 then enterServo 4 s else s)) ∧
    (Accepts s w Reg.acceptStep 0 0 0 1 → exec (.acceptStep w) s =
      .next (if (r0 s Reg.servoFlags).testBit 1 then { s with servo := { s.servo with accept := true } } else s)) ∧
    (Accepts s w Reg.timeIncrementSet 0 0 0 v → exec (.timeIncrementSetWrite w) s =
      .next (if s.servo.external then setLive Ev.incrementMissed false (setServoFlag 4 false
          { w0 Reg.timeIncrementSet v s with servo := { s.servo with nextInc := some v, incWritten := true } })
        else w0 Reg.timeIncrementSet v s)) ∧
    (Accepts s w Reg.servoStateSet 0 0 0 v → exec (.servoStateSetWrite w) s =
      .next (if s.servo.external then enterServo v (w0 Reg.servoStateSet v s) else w0 Reg.servoStateSet v s)) ∧
    (∀ d, d = toSigned 64 v * 2 ^ 24 → Accepts s w Reg.timeStep 0 0 0 v → exec (.timeStepWrite w) s =
      .next (if s.servo.external = false ∨ r0 s Reg.servoState ∈ [2, 3] then s
        else if r0 s Reg.servoState = 0 then decideStep d s
        else if s.servo.accept ∨ d.natAbs ≤ r0 s Reg.stepLimit * 2 ^ 40 then clearRefused (decideStep d s)
        else refuseStep d s))

/-- A write to PerfConfig or PerfGateTicks counts the cycle's increment, zeroes the counter, and leaves its gate to the next boundary. The model's choices that it rests on beside the rules: log 12, 71. -/
def Obligations.PerfConfigWriteOrder : Prop :=
  ∀ (counter : Fin 64) (gate : Bool) (last v idx : Nat) (w : WriteReq) (s : State),
    idx = (if gate then Reg.perfGateTicks else Reg.perfConfig) → Accepts s w idx counter.val 0 counter.val v →
    ∃ u, u = perfAdd counter.val last (perfFlush counter.val s) ∧
    Runs (.perfConfigWrite counter gate last w) s (fun t =>
      RegsSet [(idx, counter.val, 0, v), (Reg.perfCounter, counter.val, 0, 0)] u t ∧
      t = { u with regs := t.regs, perf := t.perf } ∧
      (getPerf t counter.val).started = false ∧ (getPerf t counter.val).due = false ∧
      (getPerf t counter.val).cycles = 0 ∧ (getPerf t counter.val).since = s.now ∧ (∀ j, j ≠ counter.val → getPerf t j = getPerf u j) ∧
      r0 t Reg.perfOverflow = r0 u Reg.perfOverflow ∧
      (∀ g, r1 t Reg.perfGateTicks counter.val = g → g ≠ 0 → g ≠ 65535 → perfAwake t counter.val = true →
        getPerf (perfGates counter.val t) counter.val =
          { live := true, started := true, left := g, due := false, cycles := 0, since := s.now })) ∧
    (∀ n old, perfCounts s counter.val = true → (getPerf s counter.val).due = false → n ≠ 0 → old = r1 s Reg.perfCounter counter.val →
      r1 (perfAdd counter.val n s) Reg.perfCounter counter.val = (old + n) % 2 ^ 48 ∧
      (old + n < 2 ^ 48 → (r1 s Reg.perfThreshold counter.val ≤ old ∨ old + n < r1 s Reg.perfThreshold counter.val) →
        Sets [(Reg.perfCounter, counter.val, 0, old + n)] s (perfAdd counter.val n s)))

/-- Preset, overflow clear and gate end of the programmable counters; configuration, trigger, read index and clear of the Archive. The model's choices that it rests on beside the rules: log 12, 71. -/
def Obligations.ProgrammableCountersAndArchiveWrites : Prop :=
  ∀ (w : WriteReq) (v last : Nat) (s : State),
    (∀ (counter : Fin 64) (u : State), u = perfFlush counter.val s →
      Accepts s w Reg.perfCounter counter.val 0 counter.val v → exec (.perfCounterPreset counter last w) s =
        .next (perfAdd counter.val last (setPerf counter.val { getPerf u counter.val with since := u.now }
          (w1 Reg.perfCounter counter.val v u)))) ∧
    (∀ u, u = perfNow s → Accepts s w Reg.perfOverflowClear 0 0 0 v → Runs (.perfOverflowClear w) s
      (Sets [(Reg.perfOverflow, 0, 0, r0 u Reg.perfOverflow - (r0 u Reg.perfOverflow &&& v))] u)) ∧
    (∀ counter : Fin 64, (getPerf s counter.val).due = true → Runs (.perfGateEnd counter) s (fun t =>
      RegsSet [(Reg.perfResult, counter.val, 0, r1 s Reg.perfCounter counter.val), (Reg.perfCounter, counter.val, 0, 0),
        (Reg.perfGateCount, counter.val, 0, (r1 s Reg.perfGateCount counter.val + 1) % 2 ^ 64)] s t ∧
      t = { s with regs := t.regs, perf := t.perf } ∧
      getPerf t counter.val = { getPerf s counter.val with
        started := true, left := r1 s Reg.perfGateTicks counter.val, due := false } ∧
      ∀ j, j ≠ counter.val → getPerf t j = getPerf s j)) ∧
    (∀ (object : Fin 3) (idx : Nat), idx = [Reg.archiveMode, Reg.archiveFilter, Reg.archiveSampleEvery].getD object.val 0 →
      Accepts s w idx 0 0 0 v → exec (.archiveConfigWrite object w) s =
        .next { w0 idx v s with arch := { s.arch with
          count := 0, burst := if object.val = 0 then 0 else s.arch.burst } }) ∧
    (Accepts s w Reg.archiveTrigger 0 0 0 1 → exec (.archiveTrigger w) s = .next (if r0 s Reg.archiveMode = 2 then
        { s with arch := { s.arch with burst := r0 s Reg.archiveBurst, trigger := 2 } } else s)) ∧
    (Accepts s w Reg.archiveReadIndex 0 0 0 v →
      Runs (.archiveReadIndexWrite w) s (Sets [(Reg.archiveReadIndex, 0, 0, v)] s)) ∧
    (∀ u, u = captureDue s → Accepts s w Reg.archiveClear 0 0 0 1 → Runs (.archiveClear w) s (fun t =>
      RegsSet [(Reg.archiveWriteIndex, 0, 0, 0), (Reg.archiveReadIndex, 0, 0, 0)] (dropIdx Reg.archiveRecords u) t ∧
      t = { u with
        regs := t.regs, arch := { u.arch with count := 0 },
        core := { u.core with frames := u.core.frames.map (fun e => (e.1, { e.2 with selected := none })) },
        ports := u.ports.map (fun e => (e.1, { e.2 with rx := e.2.rx.map (fun x => { x with selected := none }) })) }))

/-- EventClear clears pending bits whose condition does not hold, mask writes leave pending alone, EventHold marks its release. The model's choices that it rests on beside the rules: log 71. -/
def Obligations.EventMaskAndClearWrites : Prop :=
  ∀ (word : Fin 16) (w : WriteReq) (v : Nat) (s : State),
    (∀ u gone, u = perfNow s → gone = r1 u Reg.eventPending word.val &&&
        (v &&& ((r1 u Reg.eventLive word.val ||| edgesNow u word.val) ^^^ 0xFFFFFFFF)) →
      Accepts s w Reg.eventClear word.val 0 word.val v → Runs (.eventClear word w) s (fun t =>
        RegsSet [(Reg.eventPending, word.val, 0, r1 u Reg.eventPending word.val - gone)] u t ∧
        t = { u with regs := t.regs, ev := { u.ev with
          clearAt := tset (fun _ => 0) u.ev.clearAt word.val (coreCycle u + 1),
          cleared := tset (fun _ => 0) u.ev.cleared word.val (clearedNow u word.val ||| gone) } })) ∧
    (∀ (mask : Fin 3) (idx : Nat) (u : State), u = perfNow s → idx = [Reg.eventMaskA, Reg.eventMaskB, Reg.eventMaskNotify].getD mask.val 0 →
      Accepts s w idx word.val 0 word.val v → Runs (.eventMaskWrite mask word w) s (fun t =>
        RegsSet [(idx, word.val, 0, v)] u t ∧ t = { u with regs := t.regs, ev := t.ev } ∧
        (mask.val ≠ 2 → t.ev = u.ev) ∧
        (mask.val = 2 → t.ev = { u.ev with risen := t.ev.risen } ∧ (∀ j, tget (fun _ => 0) t.ev.risen j =
          if j = word.val then tget (fun _ => 0) u.ev.risen j |||
            (v &&& (r1 u idx word.val ^^^ 0xFFFFFFFF) &&& r1 u Reg.eventPending word.val)
          else tget (fun _ => 0) u.ev.risen j)))) ∧
    (Accepts s w Reg.eventHold 0 0 0 v → exec (.eventHoldWrite w) s =
      .next (if r0 s Reg.eventHold = 1 ∧ v = 0 then { w0 Reg.eventHold v s with ev := { s.ev with released := true } }
        else w0 Reg.eventHold v s))

/-- An accepted SEAL write waits for the fuse, takes effect at once after it, or is a violation once the fuses are spent; writes wait behind one. The model's choices that it rests on beside the rules: log 12, 57, 63. -/
def Obligations.SealWriteWaitsBurnsOrApplies : Prop :=
  ∀ (interval : Bool) (row : BitVec 32) (w : WriteReq) (idx : Nat) (s : State),
    (∀ (c : Instr) (i sub k : Nat), writeOf c = some (w, i, sub, k) → reaches s w.slot.val = true → s.vit.waiting ≠ [] →
      exec c s = .next { s with vit := { s.vit with waiting := s.vit.waiting ++ [.write i sub k w] } }) ∧
    (idx = (if interval then Reg.vitrineInterval else Reg.tenantMap) →
    (∀ v u x, Accepts s w idx 0 row.toNat 0 v → x = closeDue s →
      u = raise Ev.sealedChange (w0 Reg.sealWrites ((r0 x Reg.sealWrites + 1) % 2 ^ 64) (wr idx 0 row.toNat (ofLE w.value) x)) →
      exec (.sealWrite interval row w) s = .next
        (if s.vit.burning.isSome then { s with vit := { s.vit with waiting := [.write idx 0 row.toNat w] } }
         else if s.vit.wrote then w0 Reg.vitrinePending 1
           (sealLogEntry 3 idx 0 (r1 u Reg.sessionTransport w.slot.val) row.toNat (ofLE (sha256 w.value)) u)
         else if 4095 ≤ r0 s Reg.sealEvents then
           violate 4 w.slot.val idx 0 row.toNat w.sequence.toNat w.item.toNat 6 (exhaust s)
         else { s with vit := { s.vit with burning := some .firstWrite, waiting := [.write idx 0 row.toNat w] } })) ∧
    (reaches s w.slot.val = true → s.vit.waiting = [] →
      judge s .write w.slot.val idx 0 row.toNat (some w.value) = some 6 → s.vit.burning.isSome = true →
      exec (.sealWrite interval row w) s =
        .next { s with vit := { s.vit with waiting := [.write idx 0 row.toNat w] } }))

/-- Sleep, wake, reset and boot-image writes: what each accepted write sets. The model's choices that it rests on beside the rules: log 47, 48, 50. -/
def Obligations.PowerAndImageWrites : Prop :=
  ∀ (w : WriteReq) (v : Nat) (s : State),
    (∀ (d : SwDomain) (c : Instr), c = .domainSleepRequest d w ∨ c = .domainWakeCommand d w →
      Accepts s w Reg.domainSleepRequest (swNum d) 0 (swNum d) v →
      exec c s = .next (if v = 1 then requestSleep (swNum d) 0 s else fireWake (swNum d) 5 s)) ∧
    (∀ d : SwDomain, Accepts s w Reg.domainSleepAtTick (swNum d) 0 (swNum d) v →
      exec (.domainSleepAtTickWrite d w) s = .next (if v = 0 then
          withdrawSleep (swNum d) (w1 Reg.domainSleepAtTick (swNum d) v s)
        else requestSleep (swNum d) v (w1 Reg.domainSleepAtTick (swNum d) v s))) ∧
    (∀ d : SwDomain, Accepts s w Reg.domainWakeAtTick (swNum d) 0 (swNum d) v →
      exec (.domainWakeAtTickWrite d w) s = .next (w1 Reg.domainWakeAtTick (swNum d) v
        { s with pwr := { s.pwr with wakeDue := s.pwr.wakeDue.erase (swNum d) } })) ∧
    (∀ c ∈ [Instr.resetNowDatapath w, .resetNowCurator w, .resetNowFull w], Accepts s w Reg.resetNow 0 0 0 v →
      exec c s = .next { s with pwr := { s.pwr with
        resetNow := some (v, r0 s Reg.tickSequence + 2), cause := if v = 3 then 6 else s.pwr.cause } }) ∧
    (∀ row : BitVec 32, Accepts s w Reg.imageBlock 0 row.toNat 0 v → exec (.imageBlockWrite row w) s =
      .next (markIdle false 0 { s with pwr := { s.pwr with blocks := tput s.pwr.blocks (idleImage s * 131072 + row.toNat) v } })) ∧
    (Accepts s w Reg.imageErase 0 0 0 1 → Runs (.imageErase w) s (Sets [(Reg.imageState, 0, 0, 1)] s)) ∧
    (Accepts s w Reg.imageCommit 0 0 0 1 → Runs (.imageCommit w) s (Sets [(Reg.imageState, 0, 0, 3)] s)) ∧
    (Accepts s w Reg.bootPreferSet 0 0 0 v → Runs (.bootPreferSet w) s (Sets [(Reg.bootPreference, 0, 0, v)] s))

/-- ShadowCount and ShadowDigest are those of the entries of the shadow, an empty shadow reads 0 and 0, and ShadowDiscard empties it. -/
def Obligations.ShadowCountAndDigest : Prop :=
  ∀ (s : State),
    (∀ session, readObj s session Reg.shadowCount 0 0 = s.opn.shadow.length) ∧
    (∀ session, readObj s session Reg.shadowDigest 0 0 =
      if s.opn.shadow = [] then 0 else crc32c (s.opn.shadow.flatMap (fun e =>
        bytesLE 2 (keyIdx e.1) ++ bytesLE 1 (keySub e.1) ++ bytesLE 4 (keyRow e.1) ++
          (match entryOf (keyIdx e.1) (keySub e.1) with | some x => encodeVal x.ty e.2 | none => [])))) ∧
    (s.opn.shadow = [] → ∀ session, readObj s session Reg.shadowCount 0 0 = 0 ∧ readObj s session Reg.shadowDigest 0 0 = 0) ∧
    (∀ count digest, shadowMatches s count digest = true ↔
      readObj s 0 Reg.shadowCount 0 0 = count ∧ readObj s 0 Reg.shadowDigest 0 0 = digest) ∧
    (∀ idx sub row v t, (s.opn.shadow.map Prod.fst).Pairwise (· < ·) → stageEntry idx sub row v s = some t →
      (t.opn.shadow.map Prod.fst).Pairwise (· < ·)) ∧
    (∀ w, Accepts s w Reg.shadowDiscard 0 0 0 1 → Runs (.shadowDiscard w) s (fun t =>
      t.opn.shadow = [] ∧ t.opn.armed = s.opn.armed ∧
      (s.opn.waiting = [] → t = { s with opn := { s.opn with shadow := [] } })))

/-- The armed opening whose tick has come applies its entries after the captures, is recorded and its outcome held for notification. The model's choices that it rests on beside the rules: log 2, 12, 13, 15, 17, 54, 62. -/
def Obligations.OpeningAppliesEveryArmedEntry : Prop :=
  ∀ (s : State),
    (∀ a u, s.opn.armed = some a → a.tick ≤ r0 s Reg.tickNumber →
      u = applyEntries a.entries (modOpn (fun o => { o with armed := none }) (captureDue s)) →
      exec .opening s = .next (workDone (routeOpenDue (resetAtOpening (notice a.id a.tick (if a.cancelLate then 2 else 1) none true
        (pushRecord (recordRow a.id a.tick a.count a.originator (if a.cancelLate then 2 else 1) a.digest) u)))))) ∧
    ((∀ a, s.opn.armed = some a → r0 s Reg.tickNumber < a.tick) →
      exec .opening s = .next (workDone (routeOpenDue (captureDue s)))) ∧
    (∀ k : Nat, r0 s Reg.resetAtOpening = k → k ∈ [1, 2, 3] → resetAtOpening s =
      if k = 1 then datapathReset (w0 Reg.resetAtOpening 0 s) else if k = 2 then curatorReset 2 (w0 Reg.resetAtOpening 0 s)
      else { w0 Reg.resetAtOpening 0 s with pwr := { s.pwr with resetNow := some (3, r0 s Reg.tickSequence), cause := 5 } }) ∧
    ((∀ a c, s.zut.arm = some a → a.cand = some c → r0 s Reg.tickNumber < a.tick) → routeOpenDue s = s) ∧
    (s.workDue = none → workDone s = s) ∧
    (∀ id w u, s.opn.waiting.find? (fun w => decide (w.id = BitVec.toNat id) &&
        decide (w.deadline ≤ s.counter / (125000 * 2 ^ 40))) = some w →
      u = { s with opn := { s.opn with waiting := s.opn.waiting.erase w, shadow := [] } } →
      exec (.armDeadline id) s = .next (recheck (refuseArm w 3 u))) ∧
    (curatorRuns s = true → exec .openingOutcomeNotify s = .next (s.opn.notices.foldl (fun s n => sendNotice n s)
      { s with opn := { s.opn with notices := [] } }))

/-- Before its sections follow, an opening gives every entry's register its staged value and changes no other register. The model's choices that it rests on beside the rules: log 8, 17, 55, 62, 64. -/
def Obligations.EntriesOfAnOpeningReplaceLiveValues : Prop :=
  ∀ (l m : List (Nat × Nat)) (s : State), (∀ e ∈ l, keyIdx e.1 ≠ Reg.portGroupMode) →
    m = l.filterMap (fun e => (resolveKey s e.1).map (fun k => (k, e.2))) → (m.map Prod.fst).Nodup →
    ∃ u, applyEntries l s = sectionsFollow s m u ∧ u = { s with regs := u.regs } ∧
      (∀ e ∈ m, tget regDefault u.regs e.1 = e.2) ∧
      (∀ k, k ∉ m.map Prod.fst → tget regDefault u.regs k = tget regDefault s.regs k)

/-- An INVENTORY is accepted only before tick T - InventoryLead with a free bank; late wins over busy. -/
def Obligations.InventoryIsAcceptedOnlyEarlyAndWithAFreeBank : Prop :=
  ∀ (reading id T : Nat) (s : State),
    ((inventoryRequest reading id T s).1 = 0 ↔
      (r0 s Reg.tickNumber < T ∧ reading < (T - r0 s Reg.inventoryLead) * (125000 * 2 ^ 40)) ∧
        (r1 s Reg.inventoryBankState 0 = 0 ∨ r1 s Reg.inventoryBankState 1 = 0)) ∧
    (¬ (r0 s Reg.tickNumber < T ∧ reading < (T - r0 s Reg.inventoryLead) * (125000 * 2 ^ 40)) →
      inventoryRequest reading id T s = (0x0C, s)) ∧
    (r0 s Reg.tickNumber < T → reading < (T - r0 s Reg.inventoryLead) * (125000 * 2 ^ 40) →
      r1 s Reg.inventoryBankState 0 ≠ 0 → r1 s Reg.inventoryBankState 1 ≠ 0 →
      inventoryRequest reading id T s = (0x0D, s)) ∧
    (T ≤ r0 s Reg.tickNumber → (inventoryRequest reading id T s).1 = 0x0C) ∧
    ((inventoryRequest reading id T s).1 = 0 →
      ∃ b < 2, r1 s Reg.inventoryBankState b = 0 ∧
        RegsSet [(Reg.inventoryBankState, b, 0, 1), (Reg.inventoryBankId, b, 0, id), (Reg.inventoryBankTick, b, 0, T)]
          s (inventoryRequest reading id T s).2 ∧ (getBank (inventoryRequest reading id T s).2 b).tick = T) ∧
    r0 State.reset Reg.inventoryLead = 2 ∧
    (entryOf Reg.inventoryLead 0).map (fun e => (e.ty.len, rangeBad s e Reg.inventoryLead 0 1,
      rangeBad s e Reg.inventoryLead 0 2, rangeBad s e Reg.inventoryLead 0 255)) = some (1, true, false, false)

/-- A due bank captures the counters, a captured bank becomes full and answers the COLLECTs held for it, a released bank is free. The model's choices that it rests on beside the rules: log 6, 12, 16, 19, 40, 42, 45, 48, 71. -/
def Obligations.InventoryBanksCaptureFillAndFree : Prop :=
  ∀ (s : State),
    (∀ (b : Fin 2) (x : Bank) (h : State), x = getBank s b.val → r1 s Reg.inventoryBankState b.val = 1 →
      x.captured = false → x.tick ≤ r0 s Reg.tickNumber →
      h = forN 64 settleHolds (judgeGates (if b.val = 0 then s else captureBank 0 s)) → ∃ u,
      exec .inventoryCapture s = .next (if stepTwoIsDue u then u else workDone u) ∧
      u.opn = { s.opn with bank0 := u.opn.bank0, bank1 := u.opn.bank1 } ∧
      ((r1 s Reg.inventoryBankState (1 - b.val) ≠ 1 ∨ (getBank s (1 - b.val)).captured = true) →
        getBank u (1 - b.val) = getBank s (1 - b.val) ∧
        u = { forN 64 settleHolds (judgeGates s) with opn := u.opn }) ∧
      getBank u b.val = { x with captured := true, snap := captureCounters h ++ captureGauges h,
                                 counter := s.boundaryReading, sequence := r0 s Reg.tickSequence,
                                 asleep := asleepDomains s, servo := r0 s Reg.servoState,
                                 takenAt := r0 s Reg.tickNumber }) ∧
    (∀ b : Fin 2, (getBank s b.val).captured = true → r1 s Reg.inventoryBankState b.val = 1 →
      ∃ u, Sets [(Reg.inventoryBankState, b.val, 0, 2), (Reg.inventoryBankTick, b.val, 0, (getBank s b.val).takenAt)] s u ∧
        exec (.inventoryBankFull b) s = .next (drain (answerHeld b.val (getBank s b.val).held u))) ∧
    (∀ (b : Fin 2) (w : WriteReq), Accepts s w Reg.inventoryRelease b.val 0 b.val 1 →
      ∃ u, RegsSet [(Reg.inventoryBankState, b.val, 0, 0), (Reg.inventoryBankTick, b.val, 0, 0),
          (Reg.inventoryBankId, b.val, 0, 0)] s u ∧ getBank u b.val = Bank.free ∧
        exec (.inventoryRelease b w) s = .next (drain (answerHeld b.val (getBank s b.val).held u)))

/-- READ and BULK_READ in turn answer the values of their items in order; a violation is recorded and its item reads zeros. The model's choices that it rests on beside the rules: log 25, 40, 50, 63. -/
def Obligations.ReadRequestsReturnTheirItems : Prop :=
  ∀ (e : Envelope) (p : Pdu) (slot : Nat) (r : Req) (s v : State),
    (InTurn s 3 e p slot r v → ∀ l, requestItems r = some l →
      l.foldl (fun a i => a + 10 + readLength v slot i.idx i.sub) 0 ≤ 1400 →
      ∀ a, a = l.zipIdx.foldl (fun (acc : Bytes × State) (x : Item × Nat) =>
          (acc.1 ++ itemBytes x.1 (readItem 3 slot x.1.idx x.1.sub x.1.row p.sequence.toNat x.2 acc.2).1,
            (readItem 3 slot x.1.idx x.1.sub x.1.row p.sequence.toNat x.2 acc.2).2)) ([], v) →
      exec (.read e p) s = .next (drain (finishRequest slot r 0 a.1 a.2))) ∧
    (InTurn s 3 e p slot r v → (requestItems r = none ∨ ∃ l, requestItems r = some l ∧
        1400 < l.foldl (fun a i => a + 10 + readLength v slot i.idx i.sub) 0) →
      exec (.read e p) s = .next (drain (finishRequest slot r 8 [] v))) ∧
    (InTurn s 6 e p slot r v → p.payload.length = 12 → leAt p.payload 3 1 = 0 →
      leAt p.payload 8 2 * leAt p.payload 10 2 ≤ 1388 →
      ∀ a, a = (List.range (leAt p.payload 8 2)).foldl (fun (acc : Bytes × State) n =>
          (acc.1 ++ (bulkReadRow slot r (leAt p.payload 0 2) (leAt p.payload 2 1) (leAt p.payload 4 4 + n)
              (leAt p.payload 10 2) acc.2).1,
            (bulkReadRow slot r (leAt p.payload 0 2) (leAt p.payload 2 1) (leAt p.payload 4 4 + n)
              (leAt p.payload 10 2) acc.2).2)) (p.payload, v) →
      exec (.bulkRead e p) s = .next (drain (finishRequest slot r 0 a.1 a.2))) ∧
    (InTurn s 6 e p slot r v → (p.payload.length < 12 ∨ 2 < leAt p.payload 3 1 ∨ leAt p.payload 3 1 = 0 ∧
        (12 < p.payload.length ∨ 1388 < leAt p.payload 8 2 * leAt p.payload 10 2)) →
      exec (.bulkRead e p) s = .next (drain (finishRequest slot r 8 [] v))) ∧
    (∀ opcode idx sub row seq item x u, judge v .read slot idx sub row none = none → visible v slot idx sub = some x →
      u = (if capturedIdx idx && !inRanges gaugeRanges idx then { v with arch := { v.arch with
          latches := tset (fun _ => 0) v.arch.latches (idx / 4096) (readObj v slot idx sub row / 2 ^ 32) } } else v) →
      readItem opcode slot idx sub row seq item v = (encodeVal x.ty (readObj v slot idx sub row), u) ∧
      (x.ty.len ≠ 0 → bulkReadRow slot r idx sub row x.ty.len v = (encodeVal x.ty (readObj v slot idx sub row), u))) ∧
    (∀ opcode idx sub row seq item len kind, judge v .read slot idx sub row none = some kind →
      readItem opcode slot idx sub row seq item v =
        (bytesLE (readLength v slot idx sub) 0, violate opcode slot idx sub row seq item kind v) ∧
      bulkReadRow slot r idx sub row len v =
        (bytesLE len 0, violate r.opcode slot idx sub row r.pdu.sequence.toNat 0 kind v)) ∧
    (∀ idx sub row len, judge v .read slot idx sub row none = none → readLength v slot idx sub ≠ len →
      bulkReadRow slot r idx sub row len v = (bytesLE len 0, violate r.opcode slot idx sub row r.pdu.sequence.toNat 0 3 v))

/-- WRITE and BULK_WRITE in turn apply their items in order and answer how many they processed. The model's choices that it rests on beside the rules: log 25, 57, 63. -/
def Obligations.WriteRequestsApplyTheirItems : Prop :=
  ∀ (e : Envelope) (p : Pdu) (slot : Nat) (r : Req) (s v : State),
    (InTurn s 4 e p slot r v → ∀ l, requestItems r = some l → (∀ i ∈ l, i.idx ∉ [Reg.tenantMap, Reg.vitrineInterval]) →
      exec (.write e p) s = .next (drain (finishRequest slot r 0 (bytesLE 2 l.length)
        (l.zipIdx.foldl (fun s x =>
          applyWrite 4 (writeReq slot r x.2 x.1.value) x.1.idx x.1.sub x.1.row s) v)))) ∧
    (InTurn s 4 e p slot r v → ∀ l t, requestItems r = some l → runWrites slot r 0 l v = (none, t) →
      exec (.write e p) s = .next (drain (finishRequest slot r 0 (bytesLE 2 l.length) t))) ∧
    (∀ c l, (InTurn s 4 e p slot r v ∧ c = .write e p ∧ requestItems r = some l) ∨
        (InTurn s 6 e p slot r v ∧ c = .bulkWrite e p ∧ l = bulkItems r ∧ 12 ≤ p.payload.length ∧ leAt p.payload 3 1 = 1 ∧
          (p.payload.drop 12).length = leAt p.payload 8 2 * leAt p.payload 10 2) →
      ∀ k t, runWrites slot r 0 l v = (some k, t) → exec c s = .next (drain { t with vit := { t.vit with
        waiting := .request slot (serialOf v slot) r k :: t.vit.waiting,
        burning := if t.vit.burning.isSome then t.vit.burning else some .firstWrite } })) ∧
    (InTurn s 4 e p slot r v → requestItems r = none →
      exec (.write e p) s = .next (drain (finishRequest slot r 8 [] v))) ∧
    (InTurn s 6 e p slot r v → 12 ≤ p.payload.length → leAt p.payload 3 1 = 1 →
      (p.payload.drop 12).length = leAt p.payload 8 2 * leAt p.payload 10 2 →
      (∀ t, runWrites slot r 0 (bulkItems r) v = (none, t) → exec (.bulkWrite e p) s = .next (drain
        (finishRequest slot r 0 (p.payload.take 12 ++ bytesLE 2 (leAt p.payload 8 2)) t))) ∧
      (leAt p.payload 0 2 ∉ [Reg.tenantMap, Reg.vitrineInterval] →
        exec (.bulkWrite e p) s = .next (drain (finishRequest slot r 0
          (p.payload.take 12 ++ bytesLE 2 (leAt p.payload 8 2))
          ((List.range (leAt p.payload 8 2)).foldl (fun s n =>
            applyWrite 6 (writeReq slot r 0 (slice (p.payload.drop 12) (n * leAt p.payload 10 2) (leAt p.payload 10 2)))
              (leAt p.payload 0 2) (leAt p.payload 2 1) (leAt p.payload 4 4 + n) s) v))))) ∧
    (InTurn s 6 e p slot r v → (p.payload.length < 12 ∨ 2 < leAt p.payload 3 1 ∨ leAt p.payload 3 1 = 1 ∧
        (p.payload.drop 12).length ≠ leAt p.payload 8 2 * leAt p.payload 10 2) →
      exec (.bulkWrite e p) s = .next (drain (finishRequest slot r 8 [] v))) ∧
    (∀ i : Item, itemHeld slot i v = true ↔ i.idx ∈ [Reg.tenantMap, Reg.vitrineInterval] ∧
      (judge v .write slot i.idx i.sub i.row (some i.value) = none ∧ (v.vit.burning.isSome = true ∨
          v.vit.wrote = false ∧ r0 v Reg.sealEvents < 4095) ∨
        judge v .write slot i.idx i.sub i.row (some i.value) = some 6 ∧ v.vit.burning.isSome = true)) ∧
    (∀ place (i : Item) l, (itemHeld slot i v = true → runWrites slot r place (i :: l) v = (some place, v)) ∧
      (itemHeld slot i v = false → runWrites slot r place (i :: l) v = runWrites slot r (place + 1) l
        (applyWrite r.opcode (writeReq slot r (if r.opcode = 4 then place else 0) i.value) i.idx i.sub i.row v)))

/-- STAGE and BULK_STAGE in turn place values in the shadow up to its limit; one staged value leaves every live value unchanged. The model's choices that it rests on beside the rules: log 8, 12, 25, 63. -/
def Obligations.StageRequestsFillTheShadow : Prop :=
  ∀ (e : Envelope) (p : Pdu) (slot : Nat) (r : Req) (s v : State),
    (InTurn s 5 e p slot r v → ∀ l a, requestItems r = some l → a = stageList 5 slot p.sequence.toNat true 0 l v →
      exec (.stage e p) s = .next (drain (finishRequest slot r (if a.2.1 then 0 else 1) (bytesLE 2 a.1) a.2.2))) ∧
    (InTurn s 5 e p slot r v → requestItems r = none →
      exec (.stage e p) s = .next (drain (finishRequest slot r 8 [] v))) ∧
    (InTurn s 6 e p slot r v → 12 ≤ p.payload.length → leAt p.payload 3 1 = 2 →
      (p.payload.drop 12).length = leAt p.payload 8 2 * leAt p.payload 10 2 →
      ∀ a, a = stageList 6 slot p.sequence.toNat false 0 ((List.range (leAt p.payload 8 2)).map (fun n =>
          ({ idx := leAt p.payload 0 2, sub := leAt p.payload 2 1, row := leAt p.payload 4 4 + n,
             value := slice (p.payload.drop 12) (n * leAt p.payload 10 2) (leAt p.payload 10 2) } : Item))) v →
      exec (.bulkStage e p) s = .next (drain (finishRequest slot r (if a.2.1 then 0 else 1)
        (p.payload.take 12 ++ bytesLE 2 a.1) a.2.2))) ∧
    (∀ opcode seq item i ent x, x = expireArms v → judge x .stage slot i.idx i.sub i.row (some i.value) = none →
      entryOf i.idx i.sub = some ent → stageOne opcode slot seq item i v =
        if storeSub x i.idx i.sub = none then some x
        else if x.opn.shadow.any (fun y => y.1 = objKey i.idx i.sub i.row) ∨
            shadowKind x (keyIsTable (objKey i.idx i.sub i.row)) < shadowLimit x (keyIsTable (objKey i.idx i.sub i.row)) then
          some (recheck { x with opn := { x.opn with
            shadow := tput x.opn.shadow (objKey i.idx i.sub i.row) (decodeVal ent.ty i.value) } })
        else none) ∧
    (∀ opcode seq item i kind x, x = expireArms v →
      judge x .stage slot i.idx i.sub i.row (some i.value) = some kind →
      stageOne opcode slot seq item i v = some (violate opcode slot i.idx i.sub i.row seq item kind x))

/-- ARM, CANCEL and INVENTORY in turn: a matching ARM in time is READY and arms the shadow, a CANCEL in time disarms, a bank is armed. The model's choices that it rests on beside the rules: log 2, 6, 12, 15, 16, 18, 19, 63, 73. -/
def Obligations.ArmCancelAndInventoryRequests : Prop :=
  ∀ (e : Envelope) (p : Pdu) (slot : Nat) (r : Req) (s v : State),
    (∀ id T count digest participants, InTurn s 7 e p slot r v → p.payload.length = 24 → id = leAt p.payload 0 4 →
      T = leAt p.payload 4 8 → count = leAt p.payload 12 4 → digest = leAt p.payload 16 4 →
      participants = leAt p.payload 20 4 → v.opn.waiting.filter (armLate v) = [] → r0 v Reg.tickNumber < T →
      s.counter / (125000 * 2 ^ 40) + r0 v Reg.armLead < T → v.opn.armed = none →
      (participants ≤ 1 ∨ r0 v Reg.servoState ∈ [2, 3]) →
      (v.opn.shadow.length = count → digestOfShadow v.opn.shadow = digest →
        (∀ x ∈ v.opn.shadow, asleep v (objectDomain (keyIdx x.1) (keySub x.1)) = false) →
        exec (.arm e p) s = .next (drain (finishRequest slot r 0 (slice p.payload 0 4 ++ [0])
          (recheck { v with opn := { v.opn with shadow := [], armed := some ({ id := id, tick := T, count := count, digest := digest, originator := originatorOf (requester e p), entries := v.opn.shadow, cancelLate := false } : ArmedOpening) } })))) ∧
      (¬ (v.opn.shadow.length = count ∧ digestOfShadow v.opn.shadow = digest) →
        exec (.arm e p) s = .next (drain (finishRequest slot r 0 (slice p.payload 0 4 ++ [9])
          { v with opn := { v.opn with waiting := v.opn.waiting ++ [({ id := id, tick := T, deadline := T - r0 v Reg.armLead, count := count, digest := digest, participants := participants, serial := serialOf v slot, peer := requester e p } : WaitingArm)] } })))) ∧
    (InTurn s 8 e p slot r v → p.payload.length = 4 → v.opn.waiting.filter (armLate v) = [] →
      (∀ a, v.opn.armed = some a → a.id = leAt p.payload 0 4 →
        (s.counter / (125000 * 2 ^ 40) + 1 < a.tick → exec (.cancel e p) s = .next (drain (finishRequest slot r 0
          (p.payload ++ [8]) (notice a.id a.tick 8 none true (inc0 Reg.openingCancels
            (pushRecord (recordRow a.id a.tick a.count a.originator 8 a.digest)
              { v with opn := { v.opn with armed := none } })))))) ∧
        (a.tick ≤ s.counter / (125000 * 2 ^ 40) + 1 → exec (.cancel e p) s = .next (drain (finishRequest slot r 0
          (p.payload ++ [0x0A]) { v with opn := { v.opn with armed := some { a with cancelLate := true } } })))) ∧
      ((∀ a, v.opn.armed = some a → a.id ≠ leAt p.payload 0 4) → (∀ x ∈ v.opn.waiting, x.id ≠ leAt p.payload 0 4) →
        exec (.cancel e p) s = .next (drain (finishRequest slot r 0 (p.payload ++ [0x0B]) v)))) ∧
    (∀ T b, InTurn s 9 e p slot r v → p.payload.length = 12 → T = leAt p.payload 4 8 → r0 v Reg.tickNumber < T →
      s.counter / (125000 * 2 ^ 40) + r0 v Reg.inventoryLead < T →
      (b = 0 ∨ b = 1 ∧ r1 v Reg.inventoryBankState 0 ≠ 0) → r1 v Reg.inventoryBankState b = 0 → ∃ u,
      exec (.inventory e p) s = .next (drain (finishRequest slot r 0 (slice p.payload 0 4 ++ [0]) u)) ∧
      u = { v with regs := u.regs, opn := u.opn } ∧
      RegsSet [(Reg.inventoryBankState, b, 0, 1), (Reg.inventoryBankId, b, 0, leAt p.payload 0 4),
        (Reg.inventoryBankTick, b, 0, T)] v u ∧
      getBank u b = { Bank.free with tick := T } ∧ getBank u (1 - b) = getBank v (1 - b)) ∧
    (InTurn s 7 e p slot r v → p.payload.length = 24 → ∀ a, a = armRequest (serialOf v slot) (requester e p) r.received
        (leAt p.payload 0 4) (leAt p.payload 4 8) (leAt p.payload 12 4) (leAt p.payload 16 4) (leAt p.payload 20 4) v →
      exec (.arm e p) s = .next (drain (finishRequest slot r 0 (slice p.payload 0 4 ++ bytesLE 1 a.1) a.2))) ∧
    (InTurn s 8 e p slot r v → p.payload.length = 4 → ∀ a, a = cancelRequest r.received (leAt p.payload 0 4) v →
      exec (.cancel e p) s = .next (drain (finishRequest slot r 0 (p.payload ++ bytesLE 1 a.1) a.2))) ∧
    (InTurn s 9 e p slot r v → p.payload.length = 12 → ∀ a, a = inventoryRequest r.received (leAt p.payload 0 4)
        (leAt p.payload 4 8) v →
      exec (.inventory e p) s = .next (drain (finishRequest slot r 0 (slice p.payload 0 4 ++ bytesLE 1 a.1) a.2))) ∧
    (∀ c n opcode, (c = .arm e p ∧ n = 24 ∧ opcode = 7) ∨ (c = .cancel e p ∧ n = 4 ∧ opcode = 8) ∨
        (c = .inventory e p ∧ n = 12 ∧ opcode = 9) → InTurn s opcode e p slot r v → p.payload.length ≠ n →
      exec c s = .next (drain (finishRequest slot r 8 [] v))) ∧
    (∀ w, Accepts s w Reg.shadowDiscard 0 0 0 1 →
      exec (.shadowDiscard w) s = .next { s with opn := { s.opn with shadow := [] } })

/-- COLLECT, SUBSCRIBE, CLOSE and an unknown opcode in turn: held or answered, classes set, session closed, refused with status 6. The model's choices that it rests on beside the rules: log 19, 25, 63. -/
def Obligations.CollectSubscribeCloseAndUnknownRequests : Prop :=
  ∀ (e : Envelope) (p : Pdu) (slot : Nat) (r : Req) (s v : State),
    (InTurn s 0x0B e p slot r v → p.payload.length = 4 → exec (.subscribe e p) s =
      .next (drain (finishRequest slot r 0 (bytesLE 1 (leAt p.payload 0 1 % 4))
        (w1 Reg.lorakSubscriptions slot (leAt p.payload 0 1 % 4) v)))) ∧
    (InTurn s 2 e p slot r v → p.payload = [] →
      exec (.closeSession e p) s = .next (drain (closeSession slot (finishRequest slot r 0 [] v)))) ∧
    (∀ opcode : BitVec 8, (opcode.toNat = 0 ∨ 0x0B < opcode.toNat) → InTurn s opcode.toNat e p slot r v →
      exec (.unknownOpcode opcode e p) s = .next (drain (finishRequest slot r 6 [] v))) ∧
    (InTurn s 0x0A e p slot r v → p.payload.length = 10 → leAt p.payload 8 2 ≠ 0 → leAt p.payload 8 2 ≤ 1390 →
      (bankOf v (leAt p.payload 0 4) = none → exec (.collect e p) s = .next (drain (finishRequest slot r 9 [] v))) ∧
      (∀ b, bankOf v (leAt p.payload 0 4) = some b → r1 v Reg.inventoryBankState b = 1 → exec (.collect e p) s =
        .next (drain (setBank b { getBank v b with held := (getBank v b).held ++ [{ req := r, slot := slot }] } v))) ∧
      (∀ b d t, bankOf v (leAt p.payload 0 4) = some b → r1 v Reg.inventoryBankState b ≠ 1 →
        d = imageBytes v b (leAt p.payload 4 4) (leAt p.payload 8 2) →
        t = finishRequest slot r 0 (slice p.payload 0 8 ++ bytesLE 2 d.length ++ d) v →
        exec (.collect e p) s = .next (drain (if p.flags.getLsbD 2 then freeBank b t else t))))

/-- OPEN takes the lowest free slot and starts it afresh; an idle session closes at its limit; the MGT link and a break on SVC. The model's choices that it rests on beside the rules: log 2, 6, 10, 28, 63. -/
def Obligations.SessionsOpenAndTimeOut : Prop :=
  ∀ (e : Envelope) (p : Pdu) (s : State),
    (∀ r u slot, Arrives s 1 e p r u → p.payload.length = 12 → leAt p.payload 0 1 = 0 → leAt p.payload 1 1 ≤ 3 →
      (∀ k, k < 16 → sessionFor u k (requester e p) = none) → r1 u Reg.lorakAuthRequired (transportIdx e.transport) ≠ 1 →
      slot < 16 → r1 u Reg.sessionState slot = 0 → (∀ k, k < slot → r1 u Reg.sessionState k ≠ 0) →
      ∃ q n, exec (.openSession e p) s = .next (drain (answer r slot 0 n none q)) ∧
        q = { u with
          regs := q.regs, free := u.free + 1,
          lrk := { u.lrk with stamp := u.lrk.stamp + 1, sessions := q.lrk.sessions } } ∧
        n = bytesLE 8 (Config.moduleNonce u.free).toNat ∧
        RegsSet ([(Reg.sessionState, slot, 0, 1), (Reg.sessionTransport, slot, 0, transportIdx e.transport + 1),
          (Reg.sessionPeer, slot, 0, if e.transport = .inband then p.src.toNat else 0),
          (Reg.sessionPort, slot, 0, if e.transport = .inband then e.port.val else 0xFF),
          (Reg.lorakSubscriptions, slot, 0, 0), (Reg.sessionViolations, slot, 0, 0), (Reg.sessionLastViolation, slot, 0, 0)] ++
          (List.range 16).map (fun k => (Reg.sessionViolationKinds, slot * 16 + k, 0, 0))) u q ∧
        (∀ k, k ≠ slot → getSession q k = getSession u k) ∧
        getSession q slot = some { peer := requester e p, serial := u.lrk.stamp + 1, last := 0, answers := [], held := [], closedAt := 0, key := none, sk := [], lastReq := u.now }) ∧
    (∀ r u, Arrives s 1 e p r u → p.payload.length = 12 → leAt p.payload 0 1 = 0 → leAt p.payload 1 1 ≤ 3 →
      (∀ k, k < 16 → sessionFor u k (requester e p) = none) → r1 u Reg.lorakAuthRequired (transportIdx e.transport) = 1 →
      exec (.openSession e p) s = .next (drain (answer r p.session.toNat 4 [] none u))) ∧
    (∀ slot : Fin 16, ∀ x, getSession s slot.val = some x → reaches s slot.val = true → exec (.sessionIdleTimeout slot) s =
      .next (closeSession slot.val (advanceTo (x.lastReq + r0 s Reg.lorakIdleLimit * 10 ^ 12) s))) ∧
    (∀ signalled : Fin 3, s.pwr.phase = .on → Runs (.mgtLinkUp signalled) s (Sets [(Reg.mgtLinkState, 0, 0,
      if r0 s Reg.mgtMode = 0 then 3 else if r0 s Reg.mgtMode = 1 then 4 else signalled.val + 1)] s)) ∧
    Runs .mgtLinkDown s (Sets [(Reg.mgtLinkState, 0, 0, 0)] s) ∧
    (serves s = true → s.tap.instruction ≠ 0x21 → Runs (.svcLineBreak true) s
      (Sets [(Reg.lorakFormatDrops, 0, 0, (r1 s Reg.lorakFormatDrops 0 + 1) % 2 ^ 64)] s))

/-- A PDU for another address is relayed with one hop less, or refused at 0 hops or without a route; an answer for a host goes to it. The model's choices that it rests on beside the rules: log 11, 23, 24, 26, 27, 28, 29, 55, 63, 69, 73. -/
def Obligations.RelayAndAnswers : Prop :=
  ∀ (opcode : BitVec 8) (e : Envelope) (p : Pdu) (r : Req) (s u : State), pathUp s e = true → u = arrivedIn s e →
    r = { opcode := opcode.toNat, env := e, pdu := p, received := s.counter } →
    (Reaches s opcode.toNat e p → (e.transport ≠ .inband → listens u e.transport = true) →
      isMine u e.transport p = false → r0 u Reg.fabricAddress ≠ 0 →
      (p.hop = 0 → Runs (.lorakRelay opcode e p) s
        (Sets [(Reg.lorakHopDrops, 0, 0, (r0 u Reg.lorakHopDrops + 1) % 2 ^ 64)] u)) ∧
      (p.hop ≠ 0 → routePort u p.dst.toNat = none → ∃ q,
        Sets [(Reg.lorakUnreachable, 0, 0, (r0 u Reg.lorakUnreachable + 1) % 2 ^ 64)] u q ∧
        exec (.lorakRelay opcode e p) s = .next (sendPdu (requester e p) opcode.toNat (makePdu opcode.toNat p.src.toNat
          (r0 u Reg.fabricAddress) p.srcTag.toNat p.session.toNat 5 p.sequence.toNat [] none) q)) ∧
      (∀ port, p.hop ≠ 0 → routePort u p.dst.toNat = some port → (originKind r = none ∨ p.flags.getLsbD 0 = true) → ∃ q,
        Sets [(Reg.lorakRelayed, 0, 0, (r0 u Reg.lorakRelayed + 1) % 2 ^ 64)] u q ∧
        exec (.lorakRelay opcode e p) s = .next (sendInband port lorakLinkMac opcode.toNat
          (sealPdu opcode.toNat { p with hop := p.hop - 1 }) q)) ∧
      (∀ port k tag, p.hop ≠ 0 → routePort u p.dst.toNat = some port → originKind r = some k → p.flags.getLsbD 0 = false →
        tag = k * 64 + p.srcTag.toNat % 64 → ∃ q,
        RegsSet [(Reg.lorakRelayed, 0, 0, (r0 u Reg.lorakRelayed + 1) % 2 ^ 64)] u q ∧
        q = { u with regs := q.regs, lrk := { u.lrk with
          relay := u.lrk.relay.filter (fun x => x.tag ≠ tag) ++ [{ tag := tag, peer := requester e p }] } } ∧
        exec (.lorakRelay opcode e p) s = .next (sendInband port lorakLinkMac opcode.toNat (sealPdu opcode.toNat
          { p with hop := p.hop - 1, src := BitVec.ofNat 16 (r0 u Reg.fabricAddress), srcTag := BitVec.ofNat 8 tag }) q))) ∧
    (Reaches s opcode.toNat e p → listens u e.transport = true → isMine u e.transport p = true → p.dst ≠ 0 →
      p.flags.getLsbD 0 = true → (e.transport = .svc → svcWaiting u < 4) → 64 ≤ p.srcTag.toNat →
      ∀ x, u.lrk.relay.find? (fun x => x.tag = p.srcTag.toNat) = some x →
      exec (.lorakAnswerReceive opcode e p) s = .next (sendPdu x.peer opcode.toNat (sealPdu opcode.toNat
        { p with dst := BitVec.ofNat 16 x.peer.srcAddr, srcTag := BitVec.ofNat 8 x.peer.srcTag }) u)) ∧
    (∀ c ∈ [Instr.lorakRelay opcode e p, .lorakAnswerReceive opcode e p, .unknownOpcode opcode e p],
      (((e.transport = .mgt ∧ listens s .mgt = true ∧ mgtAccepts s e = true ∧ framed opcode.toNat p = false) ∨
        (e.transport = .inband ∧ lorakAccepts s e.port.val = true ∧ framed opcode.toNat p = false ∧ brokenHeartbeat s r = false) ∨
        (e.transport = .svc ∧ listens s .svc = true ∧ e.line ≠ [] ∧ e.jtag = svcPortSelected s ∧ (svcUnescape e.line = none ∨
          ∃ b, svcUnescape e.line = some b ∧ (b.length < 24 ∨ 1440 < b.length ∨
            (b = pduBytes opcode.toNat p ∧ framed opcode.toNat p = false))))) →
        Runs c s (Sets [(Reg.lorakFormatDrops, transportIdx e.transport, 0,
          (r1 s Reg.lorakFormatDrops (transportIdx e.transport) + 1) % 2 ^ 64)] s)) ∧
      (e.transport = .inband → lorakAccepts s e.port.val = true → framed opcode.toNat p = false → brokenHeartbeat s r = true →
        Runs c s (Sets [(Reg.lorakFormatDrops, 2, 0, (r1 s Reg.lorakFormatDrops 2 + 1) % 2 ^ 64),
          (Reg.twinHbErrors, 1, 0, (r1 s Reg.twinHbErrors 1 + 1) % 2 ^ 64)] s)) ∧
      (e.transport = .mgt → mgtAccepts s e = false →
        Runs c s (Sets [(Reg.mgtOtherDrops, 0, 0, (r0 s Reg.mgtOtherDrops + 1) % 2 ^ 64)] s)) ∧
      (∀ k, e.transport = .inband → lorakAccepts s e.port.val = false → slotOf s e.port.val = some k →
        Runs c s (Sets [(Reg.lorakMaskDrops, k, 0, (r1 s Reg.lorakMaskDrops k + 1) % 2 ^ 64)] s)))

/-- Signal, CDR, equaliser, polarity and backoff move a lane one state on; other lanes, registers and parts of the state stay. The model's choices that it rests on beside the rules: log 2, 23, 35, 49, 64. -/
def Obligations.LaneBringUpSteps : Prop :=
  ∀ (lane : Fin 64) (k : Nat) (l : LaneSt) (s : State) (rev : List (Nat × Nat × Nat × Nat)), k = lane.val → l = getLane s k →
    rev = (if twoLane s k = true ∨ k % 2 = 1 then [] else if l.used.train ≠ 1 then [(Reg.laneReversal, k / 2, 0, 3)]
      else match l.rxIndex with | some i => [(Reg.laneReversal, k / 2, 0, if i = 1 then 2 else 0)] | none => []) →
    (r1 s Reg.laneState k = 1 → s.tap.held = false → Runs (.laneSignalDetected lane) s (fun t =>
      RegsSet [(Reg.laneState, k, 0, 2), (Reg.lanePolarityFound, k, 0, 0)] s t ∧
      t = { s with regs := t.regs, lanes := t.lanes } ∧ (∀ j, j ≠ k → getLane t j = getLane s j) ∧
      getLane t k = { l with
        enteredAt := s.now, trialInverted := false, rxReady := false, rxIndex := none, framesLeft := 0,
        training := decide (r1 s Reg.laneTrainMode k = 1), used := laneUse s k })) ∧
    (r1 s Reg.laneState k = 2 → Runs (.laneCdrLocked lane) s (fun t =>
      RegsSet [(Reg.laneState, k, 0, 3), (Reg.laneRxCtle, k, 0, 0), (Reg.laneRxFfeTaps, k, 0, 0),
        (Reg.laneRxDfeTaps, k, 0, 0), (Reg.laneAdaptFrozen, k, 0, 0)] s t ∧
      t = { s with regs := t.regs, lanes := t.lanes } ∧ (∀ j, j ≠ k → getLane t j = getLane s j) ∧
      getLane t k = { l with enteredAt := s.now, ctle := 0, ffe := 0, dfe := 0, passRun := 0, convRun := none })) ∧
    (∀ (ctle : Fin 16) (ffe : BitVec 96) (dfe : BitVec 32) (p : Nat) (frozen go : Bool), r1 s Reg.laneState k = 3 →
      (∀ n, l.convRun = some n → 4096 ≤ n) → p = l.used.polarity → frozen = decide (r1 s Reg.laneAdaptFrozen k = 1) →
      go = (decide (p ≠ 0) && l.training && l.rxReady) → Runs (.laneEqualised lane ctle ffe dfe) s (fun t =>
        RegsSet ([(Reg.laneState, k, 0, if p = 0 then 4 else 5)] ++
          (if frozen then [] else [(Reg.laneRxCtle, k, 0, ctle.val), (Reg.laneRxFfeTaps, k, 0, ffe.toNat),
            (Reg.laneRxDfeTaps, k, 0, dfe.toNat)]) ++
          (if p = 0 then [] else (Reg.lanePolarityFound, k, 0, p) :: rev)) s t ∧
        t = { s with regs := t.regs, lanes := t.lanes } ∧ (∀ j, j ≠ k → getLane t j = getLane s j) ∧
        getLane t k = { l with
          enteredAt := s.now, trialInverted := false, ctle := if frozen then l.ctle else ctle.val,
          ffe := if frozen then l.ffe else ffe.toNat, dfe := if frozen then l.dfe else dfe.toNat,
          training := l.training && !go, framesLeft := if go then 16 else l.framesLeft })) ∧
    (r1 s Reg.laneState k = 4 → Runs (.polarityTrialSwitch lane) s (fun t => t = { s with lanes := t.lanes } ∧
      (∀ j, j ≠ k → getLane t j = getLane s j) ∧ getLane t k = { l with trialInverted := !l.trialInverted })) ∧
    (∀ go, go = (l.training && l.rxReady) → r1 s Reg.laneState k = 4 → Runs (.lanePolarityDecided lane) s (fun t =>
      RegsSet ((Reg.laneState, k, 0, 5) :: (Reg.lanePolarityFound, k, 0, if l.used.polarity ≠ 0 then l.used.polarity
        else if l.trialInverted then 2 else 1) :: rev) s t ∧
      t = { s with regs := t.regs, lanes := t.lanes } ∧ (∀ j, j ≠ k → getLane t j = getLane s j) ∧
      getLane t k = { l with
        enteredAt := s.now, training := l.training && !go, framesLeft := if go then 16 else l.framesLeft })) ∧
    (∀ (head : BitVec 48) (ready go : Bool), l.used.train = 1 → trainingCheck head.toNat = true → 4 ≤ r1 s Reg.laneState k →
      r1 s Reg.laneState k ≤ 6 → ready = (l.rxReady || head.toNat.testBit 9) →
      go = (l.training && ready && decide (5 ≤ r1 s Reg.laneState k)) →
      Runs (.trainingFrameReceive lane head) s (fun t => t = { s with lanes := t.lanes } ∧
        (∀ j, j ≠ k → getLane t j = getLane s j) ∧ getLane t k = { l with
          rxIndex := some (bitAt head.toNat 8), rxReady := ready, training := l.training && !go,
          framesLeft := if go then 16 else l.framesLeft })) ∧
    (r1 s Reg.laneState k = 9 → Runs (.laneBackoffEnd lane) s (fun t => ∃ u,
      u = advanceTo (l.enteredAt + 16 * 125000000) s ∧
      RegsSet [(Reg.laneState, k, 0, 1), (Reg.lanePolarityFound, k, 0, 0)] u t ∧
      t = { u with regs := t.regs, lanes := t.lanes } ∧ (∀ j, j ≠ k → getLane t j = getLane s j) ∧
      getLane t k = { l with enteredAt := u.now }))

/-- Order decided, locked, link down, loss before UP and a state's limit: which lanes move, what is counted, and the links judged after. The model's choices that it rests on beside the rules: log 2, 6, 35, 64. -/
def Obligations.LanesEnterAndLeaveUp : Prop :=
  ∀ (lane : Fin 64) (k : Nat) (s : State), k = lane.val →
    (∀ m x, (lanesOfSlot s k).length = 2 → (∀ j ∈ lanesOfSlot s k, r1 s Reg.laneState j = 5) → portOrder s k m = some x →
      ∃ u, Sets [(Reg.laneReversal, k / 2, 0, if x then 1 else 0)] s u ∧ exec (.laneOrderDecided lane m) s =
        .next (withLinks (k / 2) (fun s => (lanesOfSlot u k).foldl (fun s j =>
          setLaneState j 6 (modLane j (fun l => { l with exchanged := x }) s)) s) u)) ∧
    (∀ m, (lanesOfSlot s k).length = 1 → (∀ j ∈ lanesOfSlot s k, r1 s Reg.laneState j = 5) →
      ((getLane s k).used.train = 1 → (getLane s k).rxIndex ≠ none) →
      exec (.laneOrderDecided lane m) s = .next (withLinks (k / 2) (setLaneState k 6) (singleReversal k s))) ∧
    (∀ (rx tx at_ : List (BitVec 64)) (a b : Int), lanesOfSlot s k ≠ [] →
      (∀ j ∈ lanesOfSlot s k, r1 s Reg.laneState j = 6) → a = (at_.getD 0 0).toInt → b = (at_.getD 1 0).toInt →
      ((lanesOfSlot s k).length = 2 → (a - b).natAbs ≤ 200 * 65536) →
      ∃ f, exec (.laneLocked lane rx tx at_) s = .next (withLinks (k / 2) f s) ∧
        (f s) = { s with regs := (f s).regs, lanes := (f s).lanes } ∧
        RegsSet ((lanesOfSlot s k).zipIdx.flatMap (fun x => [(Reg.laneState, x.1, 0, 7),
          (Reg.laneSkew, x.1, 0, if (lanesOfSlot s k).length = 2 then (if x.2 = 0 then (b - a).toNat else (a - b).toNat) else 0),
          (Reg.laneTxPmaDelay, x.1, 0, ofSigned 64 ((tx.getD x.2 0).toInt + (getCal s 3 x.1).values.getD 0 0)),
          (Reg.laneRxPmaDelay, x.1, 0, ofSigned 64 ((rx.getD x.2 0).toInt + (getCal s 3 x.1).values.getD 1 0))])) s (f s) ∧
        (∀ j, j ∉ lanesOfSlot s k → getLane (f s) j = getLane s j) ∧
        (∀ (x : Nat × Nat) (l : LaneSt), x ∈ (lanesOfSlot s k).zipIdx → l = getLane s x.1 → getLane (f s) x.1 = { l with
          enteredAt := s.now, rxTracked := (rx.getD x.2 0).toInt, txTracked := (tx.getD x.2 0).toInt,
          training := l.training && !l.rxReady, framesLeft := if l.training && l.rxReady then 16 else l.framesLeft })) ∧
    (∀ cause, r1 s Reg.laneState k = 7 → (cause = .hiBer → hasFec s k = false) → ∃ u,
      Sets [(Reg.laneLinkDowns, k, 0, (r1 s Reg.laneLinkDowns k + 1) % 2 ^ 64)] s u ∧
      exec (.laneLinkDown lane cause) s = .next (onLane k (fun s => othersWait k (setLaneState k 1 s)) u)) ∧
    (∀ cause, (if cause = .signal then 2 else 3) ≤ r1 s Reg.laneState k → r1 s Reg.laneState k ≤ 6 →
      exec (.laneLossBeforeUp lane cause) s = .next (onLane k (fun s => othersWait k (setLaneState k 1 s)) s)) ∧
    (∀ t st who ls, laneDeadline s k = some t → st = r1 s Reg.laneState k → ls = portLanes s k →
      who = (if st = 5 ∨ st = 6 then ls.filter (fun j => decide (r1 s Reg.laneState j = st)) else [k]) →
      exec (.laneStateTimeout lane) s = .next (onLane k (fun s => ls.foldl (fun s j =>
          if r1 s Reg.laneState j = 0 then s else setLaneState j 9 s) s)
        (who.foldl (fun s j => w1 Reg.laneLastFail j st (inc Reg.laneBringUpFails j s)) (advanceTo t s))))

/-- A port's link is up exactly while all its lanes are UP; acting on lanes without changing a link changes nothing beside them. The model's choices that it rests on beside the rules: log 35. -/
def Obligations.LinksFollowTheirLanes : Prop :=
  ∀ (s : State),
    (∀ slot, linkStateOf s slot = 1 ↔ lanesOfSlot s slot ≠ [] ∧ ∀ j ∈ lanesOfSlot s slot, r1 s Reg.laneState j = 7) ∧
    (∀ slot, linkStateOf s slot = 2 ↔ (∃ j ∈ lanesOfSlot s slot, r1 s Reg.laneState j = 8) ∧
      ∃ j ∈ lanesOfSlot s slot, r1 s Reg.laneState j ≠ 7) ∧
    (∀ g f, linkStateOf (f s) (2 * g) = linkStateOf s (2 * g) → linkStateOf (f s) (2 * g + 1) = linkStateOf s (2 * g + 1) →
      withLinks g f s = f s) ∧
    (∀ g f, linkStateOf (f s) (2 * g) ≠ linkStateOf s (2 * g) →
      withLinks g f s = linkChanged (2 * g + 1) (linkStateOf s (2 * g + 1))
        (linkChanged (2 * g) (linkStateOf s (2 * g)) (f s))) ∧
    (∀ k j, k < 64 → j < 64 → r1 (othersWait k s) Reg.laneState j =
      if j ≠ k ∧ j ∈ portLanes s k ∧ (r1 s Reg.laneState j = 6 ∨ r1 s Reg.laneState j = 7) then 5
      else r1 s Reg.laneState j)

/-- An adaptation window freezes, thaws or takes its taps; a reserve handover moves phase by phase; an eye scan stores its figures. The model's choices that it rests on beside the rules: log 3, 33, 35, 36, 64, 70. -/
def Obligations.AdaptationReserveAndEye : Prop :=
  ∀ (lane : Fin 64) (k : Nat) (l : LaneSt) (s : State), k = lane.val → l = getLane s k →
    (∀ (a b : Fin 1025) (ctle : Fin 16) (ffe : BitVec 96) (dfe : BitVec 32) (conv : Bool) (x : LaneSt) (v : State),
      (r1 s Reg.laneState k = 7 ∧ x = l ∧ v = s) ∨ (r1 s Reg.laneState k = 3 ∧
        x = { l with convRun := l.convRun.map (fun n => if conv then n + 1 else 0) } ∧ v = setLane k x s) →
      exec (.adaptWindowEval lane a ⟨b, conv⟩ ctle ffe dfe) s = .next
        (if windowFails s a.val b.val then
          (if r1 s Reg.laneAdaptFrozen k = 1 then setLane k { x with passRun := 0 } v
           else inc Reg.laneFreezeCount k (w1 Reg.laneAdaptFrozen k 1
             (setTaps k x.ctle x.ffe x.dfe (setLane k
               { x with passRun := 0, convRun := if r1 s Reg.laneState k = 3 then some 0 else x.convRun }
               v))))
         else if r1 s Reg.laneAdaptFrozen k = 1 then
          (if x.passRun + 1 < 16 then setLane k { x with passRun := x.passRun + 1 } v
           else w1 Reg.laneAdaptFrozen k 0 (setLane k { x with passRun := 0 } v))
         else setTaps k ctle.val ffe.toNat dfe.toNat v)) ∧
    (∀ agree, r1 s Reg.reserveState k = 1 → exec (.reservePhaseEnd lane agree) s =
      .next (setLane k { l with restarts := 0 } (w1 Reg.reserveState k 2 s))) ∧
    (r1 s Reg.reserveState k = 2 → exec (.reservePhaseEnd lane true) s = .next (setLane k l (w1 Reg.reserveState k 3 s))) ∧
    (r1 s Reg.reserveState k = 2 → exec (.reservePhaseEnd lane false) s = .next (if l.restarts + 1 < 4 then
        setLane k { l with restarts := l.restarts + 1 } (w1 Reg.reserveState k 2 s)
      else handoverFailed k (w1 Reg.reserveState k 0 s))) ∧
    (∀ agree, r1 s Reg.reserveState k = 3 → exec (.reservePhaseEnd lane agree) s =
      .next (setLane k l (w1 Reg.reserveState k 4 s))) ∧
    (∀ agree, r1 s Reg.reserveState k = 4 → exec (.reservePhaseEnd lane agree) s =
      .next (setLane k { l with restarts := 0 } (w1 Reg.reserveState k 5 s))) ∧
    (r1 s Reg.reserveState k = 5 → exec (.reservePhaseEnd lane true) s = .next (inc Reg.reserveHandovers k
      (setLane k { l with restarts := 0, secondD := false, calDone := l.calRun } (w1 Reg.reserveState k 0 s)))) ∧
    (r1 s Reg.reserveState k = 5 → exec (.reservePhaseEnd lane false) s = .next
      (if l.restarts + 1 < 4 then setLane k { l with restarts := l.restarts + 1 } (w1 Reg.reserveState k 5 s)
       else if l.secondD then handoverFailed k (w1 Reg.reserveState k 6 s)
       else setLane k { l with restarts := 0, secondD := true } (w1 Reg.reserveState k 4 s))) ∧
    (∀ (fig : EyeFigures) (n : Nat), r1 s Reg.laneState k ∈ [7, 8] → r1 s Reg.reserveState k = 0 →
      n = (if isPam4 s k then min fig.middleSteps.toNat (min fig.upperSteps.toNat fig.lowerSteps.toNat)
        else fig.middleSteps.toNat) → ∃ u, Sets
        [(Reg.laneEyeWidth, k, 0, min (n * 1000 / 128) 65535),
         (Reg.laneEyeHeightUpper, k, 0, if isPam4 s k then fig.upper.toNat else 0),
         (Reg.laneEyeHeightLower, k, 0, if isPam4 s k then fig.lower.toNat else 0),
         (Reg.laneEyeHeightMiddle, k, 0, fig.middle.toNat), (Reg.laneEyeAge, k, 0, 0)] s u ∧
      exec (.eyeScan lane fig) s = .next (runQuality k u))

/-- A frame is a runt, oversize, stomped, in error or legal by the first test it fails; reception starts at its first cell and ends once. The model's choices that it rests on beside the rules: log 3, 38, 45, 74. -/
def Obligations.ReceptionJudgesFramesInOrder : Prop :=
  ∀ (port : Fin 64) (dt : Nat) (bytes : Bytes) (load : List Nat) (ending : RxEnd) (s u : State), u = judgeGates (elapse dt s) →
    (∀ limit, (verdictOf bytes limit ending = .runt ↔ bytes.length < 64) ∧
      (verdictOf bytes limit ending = .oversize ↔ 64 ≤ bytes.length ∧ limit < bytes.length) ∧
      (verdictOf bytes limit ending = .stomped ↔ 64 ≤ bytes.length ∧ bytes.length ≤ limit ∧
        frameFcs bytes = stompFcs (frameData bytes)) ∧
      (verdictOf bytes limit ending = .legal ↔ 64 ≤ bytes.length ∧ bytes.length ≤ limit ∧
        frameFcs bytes ≠ stompFcs (frameData bytes) ∧ frameFcs bytes = crc32Eth (frameData bytes) ∧ ending = .normal)) ∧
    (∀ slot, slotOf u port.val = some slot → running u 4 = true → linkStateOf u slot = 1 → (getPort u slot).rx = none →
      exec (.firstCellWritten port dt bytes load) s = .next (firstCell port.val slot bytes load u)) ∧
    (∀ slot x, slotOf u port.val = some slot → running u 4 = true → (getPort u slot).rx = some x →
      exec (.frameReceived port dt bytes ending load) s = .next (frameEnd port.val slot x bytes ending load u)) ∧
    (∀ slot start limit y, slotOf u port.val = some slot → running u 4 = true → (getPort u slot).rx = none →
      linkStateOf u slot = 1 → start = u.now - bytes.length * 8 * psPerBit (slotSpeed u slot) →
      limit = (if start < (getPort u slot).limitAt then (getPort u slot).limitWas else r1 u Reg.portMaxFrame slot) →
      y = ({ frame := none, limit := limit, startAt := start, cls := 0, vid := 0, cut := [], rest := [], contrib := none, admitted := false, selected := none, copies := 0, tenant := 0, interval := 0 } : RxSt) →
      (bytes.length ≤ 128 → verdictOf bytes limit ending ≠ .legal → exec (.frameReceived port dt bytes ending load) s =
        .next (frameEnd port.val slot y bytes ending load (modPort slot (fun p => { p with rx := some y }) u))) ∧
      (∀ v x, (128 < bytes.length ∨ verdictOf bytes limit ending = .legal) → v = firstCell port.val slot bytes load u →
        (getPort v slot).rx = some x →
        exec (.frameReceived port dt bytes ending load) s = .next (frameEnd port.val slot x bytes ending load v))) ∧
    ((slotOf u port.val = none ∨ running u 4 = false ∨
        ∃ slot, slotOf u port.val = some slot ∧ linkStateOf u slot ≠ 1 ∧ (getPort u slot).rx = none) →
      exec (.firstCellWritten port dt bytes load) s = .next u ∧
      exec (.frameReceived port dt bytes ending load) s = .next u)

/-- PAUSE and PFC load their timers and count, a timer ends at its instant, control frames leave in order, and an Xoff is refreshed. The model's choices that it rests on beside the rules: log 2, 3, 6, 11, 41, 42, 45, 74. -/
def Obligations.FlowControlTimersAndFrames : Prop :=
  ∀ (port : Fin 64) (slot : Nat) (s : State), slotOf s port.val = some slot → running s 4 = true →
    (∀ dt quanta u, u = judgeGates (elapse dt s) → linkStateOf s slot = 1 → exec (.pauseReceive port dt quanta) s =
      .next (inc Reg.rxPauseFrames slot (loadPause slot quanta.toNat u))) ∧
    (∀ dt enable time u, u = judgeGates (elapse dt s) → linkStateOf s slot = 1 →
      exec (.pfcReceive port dt enable time) s = .next (inc Reg.rxPfcFrames slot ((List.range 8).foldl (fun s c =>
          if enable.toNat.testBit c then inc (Reg.rxPfcClassFrames + c) slot s else s)
        (loadPfc slot enable.toNat (time.map (·.toNat)) u)))) ∧
    (∀ timer t u, timerEnd s slot timer = t → t ≠ 0 → u = settleHolds slot (judgeGates (advanceTo t s)) →
      exec (.holdTimerExpire port timer) s = .next (setPort slot (match timer with
        | .pause => { getPort u slot with pauseEnd := 0 }
        | .pfc c => { getPort u slot with pfcEnd := tdel (getPort u slot).pfcEnd c.val }) u)) ∧
    (∀ c rest u b, (getPort s slot).controls = c :: rest → (getPort s slot).tx = none →
      (getPort s slot).lineUntil ≤ s.now → u = inc (if c.pfc then Reg.txPfcFrames else Reg.txPauseFrames) slot
        (countTx slot 64 (occupyLine slot 64 (setPort slot { getPort s slot with controls := rest } s))) →
      b = sealFrame (bytesBE 6 0x0180C2000001 ++ bytesBE 6 (r0 u Reg.mgtMacAddress) ++ bytesBE 2 0x8808 ++
        (if c.pfc then bytesBE 2 0x0101 ++ bytesBE 2 c.enable ++ c.times.flatMap (bytesBE 2)
         else bytesBE 2 0x0001 ++ bytesBE 2 (c.times.headD 0))) →
      (linkStateOf s slot = 1 → exec (.controlFrameSend port) s =
        .next (releasePtp slot (emit (.control slot c.pfc c.enable c.times b) u))) ∧
      (linkStateOf s slot = 2 → pcsLoopback s slot = true → exec (.controlFrameSend port) s =
        .next (releasePtp slot (if c.pfc then takePfc slot c.enable c.times (loopFrame slot b u)
          else takePause slot (c.times.headD 0) (loopFrame slot b u))))) ∧
    (∀ t u v, (getPort s slot).refresh = t → t ≠ 0 → xoffMask s slot ≠ 0 → u = advanceTo t s →
      v = queueControl slot (if sendsPause u slot then pauseControl (r0 u Reg.pfcQuanta) else pfcControl u slot 0) u →
      exec (.pfcRefresh port) s = .next (setPort slot { getPort v slot with
        refresh := t + r0 u Reg.pfcQuanta * 256 * psPerBit (slotSpeed u slot) } v))

/-- An egress starts the head of the selected queue, ends by leaving the port, ages out at its limit, and is promoted when starved. The model's choices that it rests on beside the rules: log 2, 3, 6, 41, 42, 45, 72. -/
def Obligations.EgressCopiesLeaveQueuesInOrder : Prop :=
  ∀ (port : Fin 64) (slot : Nat) (s : State), slotOf s port.val = some slot →
    (∀ dt u, u = judgeGates (elapse dt s) → running s 4 = true → carriesFrames u slot = true →
      (getPort u slot).tx = none → (getPort u slot).controls = [] → (getPort u slot).lineUntil ≤ u.now →
      (∀ c, selectQueue u slot = some c → exec (.egressFrameStart port dt) s = .next (beginCopy slot c u)) ∧
      (selectQueue u slot = none → exec (.egressFrameStart port dt) s = .next u)) ∧
    (∀ t c, selectQueue t slot = some c → (isPromoted t slot c = true ∧ queueReady t slot c = true ∨
      queueReady t slot c = true ∧ ∀ j, j < 8 → ¬ (isPromoted t slot j = true ∧ queueReady t slot j = true)) ∧
      ∀ j, c < j → j < 8 → isPromoted t slot j = isPromoted t slot c → queueReady t slot j = false) ∧
    (∀ c q f v, headOf s slot c = some q → getFrame s q.frame = some f → v = dequeue slot q.frame (archiveEgress f slot q.cut s) →
      beginCopy slot c s = judgePromotion slot c
        (setPort slot { getPort v slot with tx := some (TxSt.mk q.frame c q.cut q.residue s.now 0) } v) ∧
      getPort v slot = { getPort s slot with queue := (getPort s slot).queue.filter (fun x => x.frame ≠ q.frame) } ∧
      (∀ j, j ≠ slot → getPort v j = getPort s j) ∧ RegsOnly [Reg.archiveRecords] s { v with ports := s.ports }) ∧
    (∀ dt u t f, u = judgeGates (elapse dt s) → (getPort u slot).tx = some t → getFrame u t.frame = some f →
      f.whole = true → exec (.egressFrameEnd port dt) s = .next (endCopy slot t f u)) ∧
    (∀ (cls : Fin 8) q f u, headOf s slot cls.val = some q → getFrame s q.frame = some f →
      u = judgeGates (advanceTo ((f.arrival + r1 s Reg.maxResidence cls.val + 1) * 1000000) s) →
      exec (.headFrameAge port cls) s = .next (judgePromotion slot cls.val (raise (Ev.aged + port.val)
        (inc (Reg.agedFrames + cls.val) slot (endRef f.id slot 3 (dequeue slot f.id u)))))) ∧
    (∀ (cls : Fin 8) q f u, headOf s slot cls.val = some q → getFrame s q.frame = some f →
      r1 s (Reg.starveLimit + cls.val) slot ≠ 0 → isPromoted s slot cls.val = false →
      r1 s (Reg.starveLimit + cls.val) slot < r1 s Reg.maxResidence cls.val →
      u = advanceTo ((f.arrival + r1 s (Reg.starveLimit + cls.val) slot + 1) * 1000000) s →
      Runs (.starvePromotion port cls) s
        (Sets [(Reg.starvePromoted, slot, 0, setBit (r1 s Reg.starvePromoted slot) cls.val true),
          (Reg.starvePromotions + cls.val, slot, 0, (r1 s (Reg.starvePromotions + cls.val) slot + 1) % 2 ^ 64)] u))

/-- A gate boundary or list switch brings the gate's state to the reading, and a sweep ages every learned row by its activity bit. The model's choices that it rests on beside the rules: log 2, 45, 65. -/
def Obligations.GatesAndForwardingTableAge : Prop :=
  ∀ (s : State), running s 4 = true →
    (∀ (port : Fin 64) slot v, slotOf s port.val = some slot → nextGateBoundary s slot s.counter = some v →
      exec (.gateEntryBoundary port) s = .next (judgeGates (advanceToReading v s))) ∧
    (∀ (port : Fin 64) slot, slotOf s port.val = some slot → (getGate s slot).retained ≠ none →
      exec (.gateListSwitch port) s = .next (judgeGates (advanceToReading (getGate s slot).switchAt s))) ∧
    (∀ u, u = (portSlots s).foldl (fun s slot =>
        syncGate slot ((List.range 8).foldl (fun s c => judgeDeferral slot c s) s)) s →
      judgeGates s = { u with core := { u.core with judgedTo := u.counter } }) ∧
    (∀ slot, slot < 64 → ∃ w,
      ((getGate s slot).retained = none ∨ s.counter < (getGate s slot).switchAt → w = s) ∧
      ((getGate s slot).retained ≠ none → (getGate s slot).switchAt ≤ s.counter →
        Sets [(Reg.gateSwitchPending, slot, 0, 0)] { s with gates := w.gates } w ∧ getGate w slot = gateInit ∧
        ∀ j, j ≠ slot → getGate w j = getGate s j) ∧
      Sets [(Reg.gateStatesNow, slot, 0, (gatePosition w slot s.counter).2),
        (Reg.gateEntryNow, slot, 0, (gatePosition w slot s.counter).1)] w (syncGate slot s)) ∧
    (s.core.sweepAt ≠ 0 → ∀ u, u = (rowsOf s Reg.forwardingTable 0).foldl (fun s r =>
        if isLearned r.2 then
          (if r.2.testBit 123 then wr Reg.forwardingTable 0 r.1 (setBit r.2 123 false) s
           else inc0 Reg.fdbAgedEntries (wr Reg.forwardingTable 0 r.1 0 s))
        else s) (advanceTo s.core.sweepAt s) →
      exec .fdbAgeSweep s = .next { u with core := { u.core with
        sweepAt := u.core.sweepAt + r0 u Reg.fdbAgeTime * 10 ^ 12 } })

/-- A window opens empty at its instant (closing the oldest at full depth), contributions are added in order, windows close earliest first. The model's choices that it rests on beside the rules: log 2, 59, 66, 75. -/
def Obligations.CombinerWindowsOpenAddAndClose : Prop :=
  ∀ (s : State), running s 7 = true →
    (∀ (group : Fin 256) (row : Fin 56) n u v, servoUnset s = false → rd s Reg.groupState 0 group.val = 1 →
      row.val < windowCountOf s (grpTable (groupRowOf s group.val)) → n = nextOpening s group.val row.val →
      u = advanceToReading n.2 s →
      v = (if grpDepth (groupRowOf s group.val) ≤ (u.comb.windows.filter (fun w => w.group = group.val)).length then
          forceClose ((u.comb.windows.filter (fun w => w.group = group.val)).take 1) u else u) →
      ∀ x : Window, x = { group := group.val, ms := n.1, row := row.val, openAt := n.2, groupRow := groupRowOf s group.val, acc := [], supplied := [], present := [], closeAt := n.2 + (windowSpan (windowRowOf v (grpTable (groupRowOf s group.val)) row.val) n.1).2 } →
      exec (.windowOpen group row) s = .next { v with comb := { v.comb with
        windows := v.comb.windows ++ [x], lastOpen := n.2, opened := tput v.comb.opened (group.val * 64 + row.val) (n.2 + 1) } }) ∧
    (∀ c rest, s.comb.waiting = c :: rest → exec .combinerAdd s =
      .next (processContribution c { s with comb := { s.comb with waiting := rest } })) ∧
    (s.comb.waiting = [] → exec .combinerAdd s = .next s) ∧
    (∀ (group : Fin 256) w, w ∈ s.comb.windows.filter (fun w => w.group = group.val) →
      ∃ x ∈ s.comb.windows.filter (fun w => w.group = group.val), x.closeAt ≤ w.closeAt ∧ exec (.windowClose group) s =
        .next (closeWindow x (drainBefore x.closeAt (advanceToReading x.closeAt s)))) ∧
    (∀ (x : Window) v, x = (s.comb.windows.find? (fun y => y.group = v.group && y.ms = v.ms && y.row = v.row)).getD v →
      closeWindow v s = (List.range (grpStreams x.groupRow)).foldl (fun t st => emitStream x st t) { s with comb := { s.comb with
        windows := s.comb.windows.filter (fun y => !(y.group = x.group && y.ms = x.ms && y.row = x.row)) } }) ∧
    (∀ c f e size l, getFrame s c.frame = some f → e = ecpriOf s f.bytes → size = beAt e 2 2 →
      l = cutSections (size / 8 + 1) (slice e 8 (size - 4)) →
      (beAt e 0 1 / 16 ≠ 1 ∨ beAt e 0 1 % 2 = 1 ∨ e.length - 4 < size + 4 ∨ l.2 = false ∨ size < 4 ∨
          rd s Reg.groupState 0 (ctrGroup c.row) ≠ 1 →
        processContribution c s = endRef c.frame combinerSlot 7
          (l.1.foldl (fun s _ => ctrCount Reg.contributorMalformed c.row s) s)) ∧
      (∀ u, beAt e 0 1 / 16 = 1 → beAt e 0 1 % 2 = 0 → size + 4 ≤ e.length - 4 → l.2 = true → 4 ≤ size →
        rd s Reg.groupState 0 (ctrGroup c.row) = 1 → u = l.1.foldl (fun s x => judgeSection c.row c.arrival x s) s →
        processContribution c s = endRef c.frame combinerSlot
          (if rd u Reg.contributorAccepted 0 (ctrGroup c.row * 16 + ctrNumber c.row) =
            rd s Reg.contributorAccepted 0 (ctrGroup c.row * 16 + ctrNumber c.row) then 7 else 6) u)) ∧
    (s.comb.retained ≠ none →
      exec .combinerConfigSwitch s = .next (switchTables (advanceToReading s.comb.switchAt s)))

/-- A tick result is fitted to its edges and stored with those missed; interval and frequency slots take their edges, gates and limits. The model's choices that it rests on beside the rules: log 2, 3, 6, 12, 67. -/
def Obligations.TickResultsAndIntervals : Prop :=
  ∀ (s : State),
    (∀ (channel : Fin 80) (met : TdcTick) (ch : Nat) (e : List TickEdge × Nat) (a : Stamping) (y s0 s1 s2 u w v : State),
      ch = channel.val → hasTickResult ch = true → e = prescale s ch met.edges → a = stampTick s ch e.1 → y = keepDivider ch e.2 s →
      s0 = (match a.last with | some x => noteStamp ch (max x ((lastStampOf y ch).getD x)) y | none => y) →
      s1 = noteInput ch (!a.stamps.isEmpty || recentEdge s0 ch 0) s0 →
      ∀ f, f = (fitTick ch (a.stamps.reverse.map (·.1)) s1).1 →
      s2 = countTaken ch a (fitTick ch (a.stamps.reverse.map (·.1)) s1).2 →
      u = keepLine ch f.line (w1 Reg.tdcTickResult ch (tickResultOf s2 ch f (a.stamps.map (·.2))) s2) →
      w = compare ch (tickDifferences u ch f a.both) u → v = (if f.valid then trackDelays ch met w else w) →
      exec (.tdcTickResult channel met) s = .next (if 0x40 ≤ ch ∧ ch < 0x44 ∧ perEdge v ch = true then
        a.stamps.reverse.foldl (fun s e => edgeTaken ch (roundStamp e.1) (instantOfStamp v (e.1 : Rat)) s) v else v)) ∧
    (∀ (channel : Fin 80) (met : TdcTick), hasTickResult channel.val = false → exec (.tdcTickResult channel met) s = .next s) ∧
    (∀ (slot : Fin 8) dt edge u m x t a, u = elapse dt s → m = getMeas u slot.val → m.armed = true → m.start = none →
      givesEdge u (startChannel u slot.val) (startSense u slot.val) = true →
      stampEdge (startChannel u slot.val) edge u = (some x, t) →
      a = (roundStamp x, publisherFlags u (startChannel u slot.val)) → exec (.startEdgeTaken slot dt edge) s =
        .next (if oneEdge t slot.val then measDone slot.val a a true t
          else match m.stop with
            | some b => measDone slot.val a b false t
            | none => measState slot.val 2 (setMeas slot.val { m with start := some a, firstCycle := t.now / 2000 } t))) ∧
    (∀ (slot : Fin 8) dt edge u m x t b, u = elapse dt s → m = getMeas u slot.val → m.armed = true → m.stop = none →
      givesEdge u (stopChannel u slot.val) (stopSense u slot.val) = true →
      stampEdge (stopChannel u slot.val) edge u = (some x, t) →
      b = (roundStamp x, publisherFlags u (stopChannel u slot.val)) →
      (∀ a, m.start = some a → measMode t slot.val ≠ 2 ∨ a.1 < b.1 →
        exec (.tdcMeasureComplete slot dt edge) s = .next (measDone slot.val a b false t)) ∧
      (m.start = none → oneEdge t slot.val = true →
        exec (.tdcMeasureComplete slot dt edge) s = .next (measDone slot.val b b true t)) ∧
      (m.start = none → oneEdge t slot.val = false → measMode t slot.val = 2 →
        exec (.tdcMeasureComplete slot dt edge) s = .next (inc Reg.tdcEarlyStops slot.val t)) ∧
      (m.start = none → oneEdge t slot.val = false → measMode t slot.val ≠ 2 → exec (.tdcMeasureComplete slot dt edge) s =
        .next (setMeas slot.val { m with stop := some b, firstCycle := t.now / 2000 } t))) ∧
    (∀ slot : Fin 8, ((getMeas s slot.val).start.isSome ∨ (getMeas s slot.val).stop.isSome) →
      exec (.tdcMeasureOverflow slot) s =
        .next (measOverflow slot.val (advanceTo (((getMeas s slot.val).firstCycle + 2 ^ 32) * 2000) s))) ∧
    (∀ (slot : Fin 8) gate, (getFreq s slot.val).running = true →
      ((getFreq s slot.val).gap = true → exec (.freqGateEnd slot gate) s = .next (freqGap slot.val (getFreq s slot.val) s)) ∧
      (∀ a b, (getFreq s slot.val).gap = false → (getFreq s slot.val).startTick.isSome = true →
        (getFreq s slot.val).left = 0 → (getFreq s slot.val).first = some a → (getFreq s slot.val).last = some b →
        exec (.freqGateEnd slot gate) s = .next (freqWhole slot.val (getFreq s slot.val) a b s)))

/-- A stand-in moves from its trial to its run and back, a code-density run stores or fails, and the self-test reports. The model's choices that it rests on beside the rules: log 6, 34, 67. -/
def Obligations.StandInsRunsAndSelfTests : Prop :=
  ∀ (channel : Fin 80) (ch : Nat) (s : State), ch = channel.val →
    (∀ (u : Unit) x failed bad mean, getSI s ch = some x → failed = inputFailed s ch x → bad = (!failed && tooWide x.diffs) →
      mean = (if failed then 0 else roundTo (meanOf x.diffs)) →
      ((if slowChannel s ch && hasEdges s ch then 16 ≤ x.diffs.length else x.since + 64 ≤ r0 s Reg.tickSequence)) →
      (x.step = 1 → bad = true → exec (.tdcStandinStepEnd channel u) s =
        .next (standInFail ch x (inc0 Reg.tdcReserveAborts s))) ∧
      (x.step = 1 → bad = false → ∃ y v, y = { x with step := 2, since := r0 s Reg.tickSequence, diffs := [], d := mean } ∧
        v = (if x.selfTest then { s with tdc := { s.tdc with selfTest := some (ch, r0 s Reg.tickSequence) } } else s) ∧
        exec (.tdcStandinStepEnd channel u) s =
          .next (w1 Reg.tdcChannelState ch (if x.selfTest then 9 else 3) (putSI ch y v))) ∧
      (x.step = 3 → bad = true → exec (.tdcStandinStepEnd channel u) s = .next (standInFail ch x s)) ∧
      (x.step = 3 → bad = false → exec (.tdcStandinStepEnd channel u) s = .next (standInDone ch x
        (if failed then s else shiftLoop ch mean (w1 Reg.tdcLastCalShift ch (ofSigned 64 mean) s))))) ∧
    (∀ x : StandIn, (inputFailed s ch x = true ↔ hasEdges s ch = false ∨ x.diffs = []) ∧
      (tooWide x.diffs = true ↔ (32768 / 1000 : Rat) * (32768 / 1000) < varianceOf x.diffs)) ∧
    (∀ result x u, getSI s ch = some x → x.step = 2 → x.selfTest = false → x.since + 672 ≤ r0 s Reg.tickSequence →
      u = w1 Reg.tdcResidualInl ch (residualInl result) s →
      (codeDensityFails result = true → exec (.tdcCalRunEnd channel result) s =
        .next (reserveReady ch false (standInFail ch x u))) ∧
      (codeDensityFails result = false → ∀ y, y = { x with measured := codeDensityValues result.hist, residual := residualInl result } →
        (x.reserve = none → exec (.tdcCalRunEnd channel result) s = .next (reserveReady ch true (standInDone ch y u))) ∧
        (x.reserve ≠ none → exec (.tdcCalRunEnd channel result) s = .next (w1 Reg.tdcCalSource ch 0
          (w1 Reg.tdcChannelState ch 4 (setTables ch y.measured
            (putSI ch { y with step := 3, since := r0 u Reg.tickSequence, diffs := [] } u))))))) ∧
    (∀ (pairs : List SelfTestPair) (a b : Unit) t0 pass mean u, s.tdc.selfTest = some (ch, t0) → t0 + 32 ≤ r0 s Reg.tickSequence →
      pass = (pairs.all (fun p => decide ((pairError s ch p).natAbs * 1000 ≤ 12 * 2 ^ 25)) &&
        (meanErrors s ch pairs).all (fun m => decide (absRat m * 2000 ≤ 2 ^ 25))) →
      mean = ofSigned 64 (roundTo (largest (meanErrors s ch pairs) / 512)) →
      u = inc0 Reg.tdcSelfTestRuns { w1 Reg.tdcSelfTestResult 0 ((if pass then 2 else 3) + ch * 256 + mean * 2 ^ 64) s
        with tdc := { s.tdc with selfTest := none, testFailed := !pass } } →
      ∀ v, v = (if pass then u else raise Ev.tdcSelfTest (inc0 Reg.tdcSelfTestFails u)) →
      (getSI v ch = none → exec (.tdcSelfTestEnd pairs a b) s = .next v) ∧
      (∀ x, getSI v ch = some x → exec (.tdcSelfTestEnd pairs a b) s = .next (if x.reserve = none then standInEnd ch x.back x v
        else w1 Reg.tdcChannelState ch 4 (putSI ch { x with step := 3, since := r0 v Reg.tickSequence, diffs := [] } v))))

/-- A reference becomes absent, qualified or disqualified; the loop regains track; a holdover bin is kept; a lost XOSC rescales the rate. The model's choices that it rests on beside the rules: log 2, 6, 12, 37, 58, 67, 72. -/
def Obligations.ReferencesAndTheLoop : Prop :=
  ∀ (input : Fin 70) (i : Nat) (s : State), i = input.val →
    ((getRef s i).present = true → perEdge s i = true → exec (.refAbsentTimeout input) s =
      .next (checkPulse (becomeAbsent i (advanceTo ((getRef s i).edgeAt + edgeLimit s i) s)))) ∧
    ((getRef s i).present = true → perEdge s i = false → validResult s i (r0 s Reg.tickNumber) = none →
      7 ≤ (getRef s i).invalid → exec (.refAbsentTimeout input) s = .next (becomeAbsent i s)) ∧
    (refStateOf s i = 2 → offMagnitude s i ≤ bandOf s i → waitDone s i = true →
      exec (.waitToRestoreExpire input) s = .next (toQualified i s)) ∧
    (refStateOf s i = 5 → bandOf s i < offMagnitude s i → 7999 ≤ (getRef s i).beyond →
      exec (.refDisqualify input) s = .next (disqualify i s)) ∧
    (∀ r t, r0 s Reg.loopState = 1 → perEdge s (refSelected s) = false → s.refs.done = false →
      validResult s (refSelected s) (r0 s Reg.tickNumber) = some r →
      t = regainUpdate (refSelected s) ((resPhase r : Nat) : Rat) s → r0 t Reg.loopState = 2 →
      exec .regainToTrack s = .next { t with refs := { t.refs with done := true } }) ∧
    exec .holdoverBinEnd s = .next (recordBin s) ∧
    (∀ (a b : Nat) (k : Rat) u, r0 s Reg.timeBaseSource = 1 → k = ((a : Rat) / (b : Rat)) →
      u = raise Ev.timeBase (inc0 Reg.xoscLosses (w0 Reg.timeBaseSource 2 s)) → ∃ t,
      exec (.xoscLoss a b) s = .next (publishRate (w0 Reg.timeIncrement t.increment t)) ∧
      t = { u with increment := (roundTo ((s.increment : Rat) * k)).toNat, servo := { u.servo with
        laneFreqs := [], incs := [], iF := u.servo.iF * k
        nextInc := u.servo.nextInc.map (fun i => (roundTo ((i : Rat) * k)).toNat) } })

/-- Pulse edges and time-of-day messages are used or counted, a silent PTP parent is lost, a leap second changes UtcOffset. The model's choices that it rests on beside the rules: log 2, 3, 6, 12, 53, 56, 67, 68, 72. -/
def Obligations.PulseInputsTimeOfDayAndLeapSecond : Prop :=
  ∀ (input : Fin 2) (dt : Nat) (s u : State), u = elapse dt s →
    (∀ edge t, stampEdge (pulseChannel input.val) edge u = (none, t) → exec (.ppsiEdge input dt edge) s = .next t) ∧
    (∀ edge x t v w ch, ch = pulseChannel input.val → stampEdge ch edge u = (some x, t) →
      v = modServo (fun y => { y with stampSteps := tset (fun _ => 0) y.stampSteps ch y.steps })
        (writePulseStamp ch edge (breakRuns ch (noteInput ch true t))) →
      w = compare ch (((alsoStamp v ch (v.now / 2000) edge).map (fun y => ((y - x : Int) : Rat) / 512)).toList) v →
      exec (.ppsiEdge input dt edge) s =
        .next (checkPulse (placeFollowers ch (roundStamp x) (perEdgeUpdate ch (roundStamp x) w.now w)))) ∧
    (∀ bytes err i, i = pulseChannel input.val → r1 u Reg.todBaud i = 0 → exec (.todMessage input dt bytes err) s = .next u) ∧
    (∀ bytes err i, i = pulseChannel input.val → r1 u Reg.todBaud i ≠ 0 →
      (todWellFormed bytes err && todInTime u i) = false → Runs (.todMessage input dt bytes err) s
        (Sets [(Reg.todErrors, i, 0, (r1 u Reg.todErrors i + 1) % 2 ^ 64)] u)) ∧
    (∀ bytes err i again, i = pulseChannel input.val → r1 u Reg.todBaud i ≠ 0 →
      (todWellFormed bytes err && todInTime u i) = true →
      again = u.refs.tod.any (fun e => decide (e.1 = i) &&
        decide (e.2.pulses = field (r1 u Reg.tdcPulseStamp i) 159 128)) →
      exec (.todMessage input dt bytes err) s = .next (if again then updateUtc (acceptTod i bytes u)
        else pulseExchange i (updateUtc (acceptTod i bytes u)))) ∧
    (∀ slot heard, parentSlot s = some slot →
      heard = max s.servo.parentSince (((getPtp s slot).announce.map (·.2)).getD 0) →
      (heard + 3000 ≤ tickSeq s → exec .announceTimeout s = .next (sourceLost s)) ∧
      (tickSeq s < heard + 3000 → exec .announceTimeout s = .next s)) ∧
    (∀ p old utc day, p = r0 s Reg.leapPending → p ≠ 0 → s.servo.leapFrom = none → old = utcOffset s →
      utc = ((s.counter / 2 ^ 40 / 10 ^ 9 : Nat) : Int) - old →
      day = (utc / 86400 + 1) * 86400 - (if p = 2 then 1 else 0) → Runs .leapSecond s (fun t => ∃ u,
        u = advanceToReading (((day + old) * 10 ^ 9 * 2 ^ 40).toNat) s ∧
        RegsSet [(Reg.utcOffset, 0, 0, ofSigned 16 (if p = 1 then old + 1 else old - 1))] u t ∧
        t = { u with regs := t.regs, servo := { u.servo with leapFrom := some old } })) ∧
    (r0 s Reg.leapPending = 0 → exec .leapSecond s = .next s)

/-- A synthesiser relocks, locks, restarts its outputs or fails; anchored, follower, missed and re-aligned pulses. The model's choices that it rests on beside the rules: log 2, 3, 6, 11, 12, 56, 67, 70. -/
def Obligations.SynthesisersAndPulses : Prop :=
  ∀ (n : Fin 4) (k : Nat) (s : State), k = n.val →
    (synEnabled s k = true → (synRuns s k = true ∨ synRelocking s k = true) → exec (.synRelockTrigger n) s =
      .next (synRelock k (if synBeyond s k then 2 else 4) false s)) ∧
    (∀ cause low u y, y = getSyn (w1 Reg.synRelockCause k cause (inc Reg.synRelocks k s)) k →
      u = w1 Reg.synState k 3 (setSyn k { y with e := y.target, anchor := y.target, locked := false, relockAt := s.now, restartDue := false, low := y.low || low }
        (w1 Reg.synRelockCause k cause (inc Reg.synRelocks k s))) →
      synRelock k cause low s = publishSyn k ((outputsOf u k).foldl (fun s o => outRelock o (getSyn u k).low s) u)) ∧
    (synRelocking s k = true → exec (.synLockAchieved n) s =
      .next (publishSyn k (setSyn k { getSyn s k with locked := true, anchor := (getSyn s k).e } s))) ∧
    ((getSyn s k).restartDue = true → exec (.synOutputRestart n) s = .next (synRestart k s)) ∧
    (∀ u v, synRelocking s k = true → (getSyn s k).locked = false → u = advanceTo ((getSyn s k).relockAt + lockLimit s k) s →
      v = raise Ev.synLockFail (inc Reg.synLockFails k (w1 Reg.synState k 4 u)) → exec (.synLockTimeout n) s =
        .next ((outputsOf v k).foldl (fun s o => outRelock o true s)
          (setSyn k { getSyn v k with relockAt := v.now, restartDue := false, low := true } v))) ∧
    (∀ (a r : Int) u w t, plsModeOf s k = 2 → (getPls s k).aligned = true → a = nextAnchorPulse s k → r = a - (getPls s k).off →
      u = advanceToReading r.toNat s → t = pulseInstant u r →
      w = setPls k { getPls u k with lastA := a } u → pulseHeld w k = false →
      ((getPls w k).endAt = 0 ∨ pulseEnd (getPls w k) t (getPls u k).knownAt + 8000 ≤ t) →
      exec (.pulseAnchoredEmit n) s = .next (emit (.pulse k (asReading r) t) (inc Reg.plsCount k (setPls k
        { getPls w k with startAt := t, knownAt := t, missFrom := t, line := linePlace w (12 + k) ((t % 2000 : Nat) : Rat), endAt := min (t + r1 w Reg.plsWidth k * 1000) (max (pulseInstant u (r + (r1 u Reg.plsPeriod k : Int) * 2 ^ 40) - 8000) t) } w)))) ∧
    (∀ x rest u next, (getPls s k).due = x :: rest → u = advanceTo x.1 (setPls k { getPls s k with due := rest } s) →
      next = (match rest with
        | y :: _ => y.1 | [] => x.1 + (meanSpacing u (r1 u Reg.plsSource k) * 1000 / 65536).floor.toNat) →
      plsModeOf u k = 1 → pulseHeld u k = false →
      ((getPls u k).endAt = 0 ∨ pulseEnd (getPls u k) x.1 x.2 + 8000 ≤ x.1) →
      exec (.pulseFollowerEmit n) s = .next (emit (.pulse k (asReading (readingAtInstant u x.1)) x.1)
        (inc Reg.plsCount k (setPls k { getPls u k with startAt := x.1, knownAt := x.1, missFrom := x.1, line := linePlace u (12 + k) ((x.1 % 2000 : Nat) : Rat), endAt := min (x.1 + r1 u Reg.plsWidth k * 1000) (max (next - 8000) x.1) } u)))) ∧
    (plsModeOf s k = 1 → (getRef s (r1 s Reg.plsSource k)).present = false → ∃ u,
      u = advanceTo ((getPls s k).missFrom + (nominalPeriod s (r1 s Reg.plsSource k) * 1000 / 65536).floor.toNat) s ∧
      exec (.pulseMissed n) s =
        .next (publishPls k (inc Reg.plsMissed k (setPls k { getPls u k with missFrom := u.now } u)))) ∧
    ((getPls s k).alignDue = true → exec (.pulseAutoAlign n) s = .next (realign k s))

/-- What a PTP port sends when due and takes when its profile is on: sequence numbers, stamps, counters and exchanges. The model's choices that it rests on beside the rules: log 6, 11, 30, 41, 53, 68. -/
def Obligations.PtpMessagesSentAndTaken : Prop :=
  ∀ (port : Fin 64) (slot : Nat) (s : State), slotOf s port.val = some slot →
    (∀ (t : Int) u v stamp, ptpProfile s slot ≠ 0 → ptpMaster s slot = true → r0 s Reg.servoState ≠ 0 →
      ptpDue s (getPtp s slot).syncAt (syncInterval s slot) = true →
      u = setPtp slot { getPtp s slot with syncAt := tickSeq s + 1 } s → t = sendStamp u slot + txDelayUnits u slot →
      v = setPtp slot { getPtp u slot with syncSeq := ((getPtp s slot).syncSeq + 1) % 2 ^ 16 } u →
      exec (.ptpSyncSend port stamp) s = .next (if ptpMayBegin u slot then
          emit (.ptp port.val 0 (ptpMsg u slot 64 (getPtp s slot).syncSeq t (subNs t)
            (if ptpProfile u slot = 1 then wireRate u else 0) 0)) (countTx slot 64 (occupyLine slot 64 (inc Reg.ptpSyncSent slot v)))
        else setPtp slot { getPtp u slot with waiting := (getPtp s slot).waiting ++ [.sync] } u)) ∧
    (∀ (t : Int) u v q stamp, ptpProfile s slot ≠ 0 → ptpFollows s slot = true → linkStateOf s slot = 1 →
      ptpDue s (getPtp s slot).reqAt (syncInterval s slot) = true →
      u = setPtp slot { getPtp s slot with reqAt := tickSeq s + 1 } s →
      v = (if (getPtp s slot).req.isSome then discardExchange slot u else u) → t = sendStamp v slot + txDelayUnits v slot →
      q = { seq := (getPtp s slot).reqSeq, t3 := t, steps := s.servo.steps, tick := r0 v Reg.tickNumber, sync := (getPtp s slot).sync, stepFrom := none } →
      exec (.ptpDelayReqSend port stamp) s = .next (if ptpMayBegin u slot then
          emit (.ptp port.val 1 (ptpMsg v slot 64 (getPtp s slot).reqSeq t (subNs t) 0 0))
            (countTx slot 64 (occupyLine slot 64 (inc Reg.ptpDelayReqSent slot (setPtp slot { getPtp v slot with
              reqSeq := ((getPtp s slot).reqSeq + 1) % 2 ^ 16, req := some q, sync := none } v))))
        else setPtp slot { getPtp u slot with waiting := (getPtp s slot).waiting ++ [.delayReq] } u)) ∧
    (∀ u v, ptpProfile s slot ≠ 0 → ptpMaster s slot = true → r0 s Reg.servoState ≠ 0 →
      ptpDue s (getPtp s slot).annAt 1000 = true → u = setPtp slot { getPtp s slot with annAt := tickSeq s + 1 } s →
      v = setPtp slot { getPtp u slot with annSeq := ((getPtp s slot).annSeq + 1) % 2 ^ 16 } u →
      (ptpMayBegin u slot = true → ∃ m : AnnounceMsg, m.utcOffset = BitVec.ofNat 16 (r0 s Reg.utcOffset) ∧
        m.ptpTimescale = true ∧ m.head = ptpMsg u slot 82 (getPtp s slot).annSeq 0 0
          (if ptpProfile u slot = 1 then r0 u Reg.servoState * 2 ^ 24 else 0) 0 ∧
        exec (.ptpAnnounceSend port) s = .next (emit (.announce port.val m) (countTx slot 82 (occupyLine slot 82 v)))) ∧
      (ptpMayBegin u slot = false → exec (.ptpAnnounceSend port) s =
        .next (setPtp slot { getPtp u slot with waiting := (getPtp s slot).waiting ++ [.announce] } u))) ∧
    (∀ q rest u, (getPtp s slot).resps = q :: rest → ptpMaster s slot = true → ptpMayBegin s slot = true →
      u = setPtp slot { getPtp s slot with resps := rest } s → exec (.ptpDelayRespSend port) s = .next (emit
        (.ptp port.val 9 (ptpMsg u slot 72 q.seq q.t4 (-subNs q.t4) 0 q.source)) (countTx slot 72 (occupyLine slot 72 u)))) ∧
    (∀ (msg : PtpMsg) (stamp : BallStamp) u, ptpTaken s slot msg = true → u = inc Reg.ptpSyncReceived slot s →
      ptpFollows u slot = true → Runs (.ptpSyncReceive port msg stamp) s (fun t => t = { u with ptp := t.ptp, servo := t.servo } ∧
        (t.servo = if ptpProfile s slot = 1 then { s.servo with rateParent := toSigned 32 msg.specific.toNat } else s.servo) ∧
        getPtp t slot = { getPtp s slot with sync := (getPtp t slot).sync } ∧
        ∃ y, (getPtp t slot).sync = some y ∧ y.seq = msg.sequenceId.toNat ∧ y.twoStep = msg.twoStep ∧
          y.t2 = (receiveStamp u slot stamp).1 - rxDelayUnits u slot ∧ y.coarse = (receiveStamp u slot stamp).2 ∧
          y.corr = msg.correction * 2 ^ 24 ∧ y.steps = s.servo.steps ∧
          y.t1 = if msg.twoStep then none else some (partnerTime msg + msg.correction * 2 ^ 24))) ∧
    (∀ (msg : PtpMsg) (p : PtpPort), ptpTaken s slot msg = true → p = getPtp s slot →
      (exec (.ptpFollowUpReceive port msg) s = .next (setPtp slot { p with
        sync := p.sync.map (followUp msg), req := p.req.map (fun q => { q with sync := q.sync.map (followUp msg) }) } s)) ∧
      (∀ y : SyncSt, y.twoStep = true → y.t1 = none → y.seq = msg.sequenceId.toNat →
        (followUp msg y).t1 = some (partnerTime msg + y.corr + msg.correction * 2 ^ 24))) ∧
    (∀ (msg : PtpMsg) (stamp : BallStamp) u, ptpTaken s slot msg = true → u = inc Reg.ptpDelayReqReceived slot s →
      exec (.ptpDelayReqReceive port msg stamp) s = .next (if ptpMaster u slot then setPtp slot { getPtp u slot with
        resps := (getPtp u slot).resps ++ [{ source := msg.source.toNat, seq := msg.sequenceId.toNat, t4 := (receiveStamp u slot stamp).1 - rxDelayUnits u slot }] } u else u)) ∧
    (∀ (msg : PtpMsg) q u, ptpTaken s slot msg = true → ptpFollows s slot = true →
      msg.requesting = portIdentity s slot → (getPtp s slot).req = some q →
      u = setPtp slot { getPtp s slot with req := none } s →
      ((q.seq ≠ msg.sequenceId.toNat ∨ (∀ y, q.sync = some y → y.t1 = none)) →
        exec (.ptpDelayRespReceive port msg) s = .next (discardExchange slot u)) ∧
      (∀ y t1, q.seq = msg.sequenceId.toNat → q.sync = some y → y.t1 = some t1 →
        exec (.ptpDelayRespReceive port msg) s =
          .next (completeExchange slot y t1 q (partnerTime msg - msg.correction * 2 ^ 24)
            (decide (msg.correction % 65536 = 0)) u))) ∧
    (∀ msg : PtpMsg, (getPtp s slot).req = none → exec (.ptpDelayRespReceive port msg) s = .next s) ∧
    (∀ n, occupyLine slot n s = setPort slot { getPort s slot with
      lineUntil := max s.now (getPort s slot).lineUntil + (n + 20) * 8 * psPerBit (slotSpeed s slot) } s) ∧
    (∀ (msg : AnnounceMsg) u, ptpTaken s slot msg.head = true →
      u = setPtp slot { getPtp s slot with announce := some (msg, tickSeq s) } (inc Reg.ptpAnnounceReceived slot s) →
      exec (.ptpAnnounceReceive port msg) s = .next (if ptpFollows u slot then parentAnnounce slot msg u else u))

/-- A tick boundary comes when the counter reaches the next multiple of 125 us; TickNumber follows the counter, TickSequence rises by 1. The model's choices that it rests on beside the rules: log 2, 6, 12, 13, 14, 46, 48, 51, 55, 57, 71. -/
def Obligations.TickBoundaryAndApplyPoint : Prop :=
  ∀ (s : State), s.pwr.phase = .on →
    (∀ inp u v, u = steppedTick (applyNow (leftOvers s)) →
      v = advanceToReading ((u.tickPos + 1) * (125000 * 2 ^ 40)) u →
      exec (.tickBoundary inp) s = .next (raiseBoundary inp.work (some inp) v)) ∧
    (∀ work inp v c u w, c = curatorTick work v → u = cutCounted c.1 (takeInput inp c.2) →
      w = { markSleeps (markWakes (wakesLeftOver (judgeClose (numberTick (noteActive u))))) with
        workDue := some (r0 v Reg.tickNumber) } →
      raiseBoundary work (some inp) v = (if captureIsDue w || stepTwoIsDue w then w
        else boundaryWork (r0 v Reg.tickNumber) { w with workDue := none })) ∧
    (∀ work v x, x = runTick (tickLength v) ((List.range 8).map (fun c => tget (fun _ => 0) v.jobs c + work.getD c 0)) →
      curatorTick work v = if curatorRuns v then (cutOf x, notifyJobEnds (endSchedule x v)) else (none, { v with jobs := [] })) ∧
    (∀ v, RegsSet [(Reg.tickNumber, 0, 0, v.counter / (125000 * 2 ^ 40)),
        (Reg.tickSequence, 0, 0, (r0 v Reg.tickSequence + 1) % 2 ^ 64)] v (numberTick v) ∧
      numberTick v = { v with regs := (numberTick v).regs, tickPos := v.counter / (125000 * 2 ^ 40), boundaryAt := v.now,
                              boundaryReading := v.counter, applied := false }) ∧
    (s.applied = true → exec .applyPoint s = .next s) ∧
    (∀ t, s.applied = false → t = (applyDecided (advanceTo (s.boundaryAt + 18000000) (settled s))).2 →
      (t.tickPos < t.counter / (125000 * 2 ^ 40) → exec .applyPoint s =
        .next (raiseBoundary ((List.range 8).map (fun c => Config.freeValue (t.free + c))) none { t with free := t.free + 8 })) ∧
      (t.counter / (125000 * 2 ^ 40) ≤ t.tickPos →
        exec .applyPoint s = .next { t with tickPos := t.counter / (125000 * 2 ^ 40) }))

/-- The schedule of a tick uses at most its length; jobs 0 and 1 come first uncut; 2-7 take their shares in order, what is left goes to 2, 4, 5, 6, 7. The model's choices that it rests on beside the rules: log 14. -/
def Obligations.CuratorScheduleSharesATick : Prop :=
  ∀ (ns : Nat) (work : List Nat), work.length = 8 → ∀ x, x = runTick ns work →
    x.used.length = 8 ∧ x.work.length = 8 ∧ x.used.sum + x.left = ns ∧
    (∀ c, c < 8 → x.used.getD c 0 + x.work.getD c 0 = work.getD c 0) ∧
    (work.getD 0 0 + work.getD 1 0 ≤ ns → x.work.getD 0 0 = 0 ∧ x.work.getD 1 0 = 0) ∧
    x.used.getD 3 0 ≤ 60000 ∧
    (∀ c, cutOf x = some c → 2 ≤ c ∧ c < 8 ∧ 0 < x.work.getD c 0 ∧ x.left = 0) ∧
    (x.left ≠ 0 → ∀ c, c < 8 → c ≠ 3 → x.work.getD c 0 = 0) ∧
    (∀ c d, 2 ≤ c → c < d → d < 8 → x.used.getD c 0 < min (work.getD c 0) ([10000, 60000, 8000, 8000, 4000, 15000].getD (c - 2) 0) →
      x.left = 0 ∧ x.used.getD d 0 = 0) ∧
    (∀ c, 2 ≤ c → c < 8 → [10000, 60000, 8000, 8000, 4000, 15000].getD (c - 2) 0 < x.used.getD c 0 →
      (∀ d, 2 ≤ d → d < 8 → min (work.getD d 0) ([10000, 60000, 8000, 8000, 4000, 15000].getD (d - 2) 0) ≤ x.used.getD d 0) ∧
      ∀ d, 2 ≤ d → d < c → d ≠ 3 → x.work.getD d 0 = 0)

/-- Hellos, adjacencies, link states and route openings: what is sent, taken, expired, armed, answered, cancelled and opened. The model's choices that it rests on beside the rules: log 2, 6, 11, 12, 53, 54, 68, 69. -/
def Obligations.ZutumMessagesAndRoutes : Prop :=
  ∀ (s : State),
    (s.zut.helloDue = true → exec .helloSend s = .next ((portSlots s).foldl
      (fun s p => sendZutum p 1 (helloBody s p) s) { s with zut := { s.zut with helloDue := false } })) ∧
    (∀ (port : Fin 64) slot, slotOf s port.val = some slot → adjExpired s slot 0 = true →
      exec (.adjacencyTimeout port) s = .next (adjDown slot s)) ∧
    (ownChanged s = true → exec .linkstateOriginate s = .next (originate s)) ∧
    (s.zut.originAt + 8000 ≤ r0 s Reg.tickSequence → exec .linkstateRefresh s = .next (originate s)) ∧
    (∀ uid, expiredOrigin s (BitVec.toNat uid) = true → exec (.linkstateExpire uid) s =
      .next (databaseChanged { s with zut := { s.zut with
        parts := tdel (tdel s.zut.parts (uid.toNat * 2)) (uid.toNat * 2 + 1) } })) ∧
    (∀ (port : Fin 64) slot payload u (k : Nat) (c : Instr) (ok : Bytes → Bool), slotOf s port.val = some slot →
      u = w0 Reg.zutumFramesReceived ((r0 s Reg.zutumFramesReceived + 1) % 2 ^ 64) s →
      (k = 1 ∧ c = .helloReceive port payload ∧ ok = helloOk ∨ k = 2 ∧ c = .linkstateReceive port payload ∧ ok = linkstateOk ∨
        k = 3 ∧ c = .routeArmReceive port payload ∧ ok = armOk ∨ k = 4 ∧ c = .routeAnswer port payload ∧ ok = answerOk ∨
        k = 5 ∧ c = .routeCancel port payload ∧ ok = cancelOk) →
      (∀ body, zutumBody k payload = some body → zutumOn u slot = true → ok body = true → exec c s =
        .next { u with zut := { u.zut with
          inbox := u.zut.inbox ++ [{ slot := slot, tick := r0 u Reg.tickNumber, kind := k, sender := leAt payload 4 1, body := body }] } }) ∧
      ((∀ body, zutumBody k payload = some body → zutumOn u slot = false ∨ ok body = false) →
        Runs c s (Sets [(Reg.zutumFramesReceived, 0, 0, (r0 s Reg.zutumFramesReceived + 1) % 2 ^ 64),
          (Reg.zutumDrops, 0, 0, (r0 s Reg.zutumDrops + 1) % 2 ^ 64)] s))) ∧
    (∀ seq u p, seq = (s.zut.ownSeq + 1) % 2 ^ 32 → u = ownUid s →
      p = ((ownParts s).foldl (fun (a : Nat × List (Nat × LsPart)) b => (a.1 + 1, tput a.2 (u * 2 + a.1)
        { uid := u, part := a.1, seq := seq, body := withSeq b seq, freshAt := r0 s Reg.tickSequence }))
        (0, tdel (tdel s.zut.parts (u * 2)) (u * 2 + 1))).2 →
      originate s = (ownParts s).foldl (fun s b => queueFlood { except := none, kind := 2, body := withSeq b seq } s)
        (databaseChanged { s with zut := { s.zut with
          parts := p, ownSeq := seq, ownBodies := ownParts s, originateDue := false, originAt := r0 s Reg.tickSequence } })) ∧
    (curatorRuns s = true → isRoot s = true → s.zut.arm = none → s.zut.noneBefore ≤ r0 s Reg.tickNumber →
      s.zut.settleAt + r0 s Reg.zutumSettle ≤ r0 s Reg.tickSequence → needsOpening s = true →
      ∀ g u id t body, g = (makeGrants s).1 → u = (makeGrants s).2 → t = r0 u Reg.tickNumber + r0 u Reg.routeLead →
      id = (if (u.zut.lastId + 1) % 2 ^ 32 = 0 then 1 else (u.zut.lastId + 1) % 2 ^ 32) →
      body = bytesLE 8 (ownUid u) ++ bytesLE 4 id ++ bytesLE 8 t ++ bytesLE 4 (r0 u Reg.databaseDigest) ++
        bytesLE 1 g.length ++ bytesLE 3 0 ++ g.flatMap (fun e => bytesLE 8 e.1 ++ bytesLE 2 e.2) →
      exec .routeArm s = .next (floodNow { except := none, kind := 3, body := body } (w0 Reg.routeArmedTick t
        { u with zut := { u.zut with
          arm := some { id := id, tick := t, deadline := t - r0 u Reg.routeArmLead, digest := r0 u Reg.databaseDigest, originator := ownUid u, grants := g, cand := some (candidates g u) },
          noneBefore := t, lastId := id, ready := [ownUid u], armsSeen := (id, none) :: u.zut.armsSeen.take 63 } }))) ∧
    (∀ l, l = s.zut.waits.filter (fun a => decide (a.deadline ≤ r0 s Reg.tickNumber)) → l ≠ [] →
      exec .routeArmDeadline s = .next (l.foldl (fun s a => refuseRoute a.id 3 s)
        { s with zut := { s.zut with waits := s.zut.waits.filter (fun a => decide (r0 s Reg.tickNumber < a.deadline)) } })) ∧
    (∀ a, s.zut.arm = some a → a.originator = ownUid s →
      a.tick + largestHops s + 1 ≤ r0 s Reg.tickNumber + r0 s Reg.routeArmLead →
      (originsOf s.zut.parts).any (fun o => !s.zut.ready.contains o.uid) = true →
      exec .routeCancelDeadline s = .next (rootCancel a s)) ∧
    (∀ a c, s.zut.arm = some a → a.cand = some c → a.tick ≤ r0 s Reg.tickNumber →
      exec .routeOpening s = .next (settled s) ∧ (captureIsDue s = false → openingIsDue s = false → s.workDue = none →
        exec .routeOpening s = .next (routeOpen a c s)) ∧ ∃ u,
      (routeOpen a c s = updateSource u ∨ routeOpen a c s = updateUtc (updateSource (takeParent (sourceLost (dropParent u))))) ∧
      u.zut.arm = none ∧ u.zut.ready = [] ∧ u.zut.gm = c.gm ∧ r0 u Reg.routeArmedTick = 0 ∧ r0 u Reg.routeOpeningId = a.id ∧
      r0 u Reg.routeDigest = a.digest)

/-- Heartbeats, failure, degraded paths, takeover, role changes and arbitration between twins. The model's choices that it rests on beside the rules: log 2, 11, 12, 55. -/
def Obligations.TwinsWatchAndTakeOver : Prop :=
  ∀ (s : State),
    (s.tw.failDue = true → ∃ u, u = inc0 Reg.twinFailovers (setTwinFlag 1 true { s with tw := { s.tw with failDue := false } }) ∧
      exec .twinPeerFailed s = .next (if r0 u Reg.twinRole ≠ 1 then u
        else raise Ev.failover { u with tw := { u.tw with roleNext := some 2 } })) ∧
    (s.tw.degradeDue ≠ 0 → exec .twinPathDegraded s = .next (inc0 Reg.twinDegradedAlarms
      (setDegraded (s.tw.degraded ||| s.tw.degradeDue) { s with tw := { s.tw with degradeDue := 0 } }))) ∧
    (s.tw.takeoverDue = true → exec .twinRankTakeover s =
      .next { s with tw := { s.tw with takeoverDue := false, roleNext := some 2 } }) ∧
    (∀ r u v, s.tw.roleNext = some r →
      u = advanceToReading ((s.counter / (125000 * 2 ^ 40) + 1) * (125000 * 2 ^ 40)) (noteActive s) →
      u.tw.roleNext = some r → v = { u with tw := { u.tw with noted := true, roleNext := none } } →
      exec .twinRoleChange s = .next (if !twinOn v then v else if r = 1 ∧ twinActive v = true then
          setRole r (raise Ev.stepDown (inc0 Reg.twinStepDowns
            { v with tw := { v.tw with dualUntil := r0 v Reg.tickSequence + 1 + 8000 } }))
        else setRole r v)) ∧
    (∀ r, r0 s Reg.twinRole ≠ r → ∃ u, (setRole r s = u ∨ setRole r s = (List.range 12).foldl (fun s o => judgeOut o s) u) ∧
      u = (if r = 1 then selfTestLanes true else if r0 s Reg.twinRole = 1 then selfTestLanes false else id)
        (w0 Reg.twinRole r (if r = 2 then s else setTwinFlag 2 false s))) ∧
    (∀ (row : Fin 16) u, arbSilent s row.val = true →
      u = advanceToReading ((s.counter / (125000 * 2 ^ 40) + 1) * (125000 * 2 ^ 40)) s →
      Runs (.arbiterRelease row) s (Sets [(Reg.twinFollowTable, 0, row.val, 0)]
        { u with tw := { u.tw with arb := tdel u.tw.arb row.val } })) ∧
    (curatorRuns s = true → ∀ m c,
      ((∃ path body framed crc arrival, c = .twinHeartbeatReceive path body framed crc arrival ∧
          framed = ⟨.k27, [.k29]⟩ ∧ crc = bytesLE 4 (crc32c body) ∧ body.length = 40 ∧
          m = .heartbeat path body (cycleReading s arrival)) ∨
        (∃ port body, c = .twinActiveReceive port body ∧ m = .active port.val body) ∨
        (∃ port body, c = .dualActiveReceive port body ∧ m = .dual body)) →
      exec c s = .next { s with tw := { s.tw with inbox := s.tw.inbox ++ [m] } }) ∧
    (∀ c k, (∃ path body framed crc arrival, c = .twinHeartbeatReceive path body framed crc arrival ∧
          (framed ≠ ⟨.k27, [.k29]⟩ ∨ crc ≠ bytesLE 4 (crc32c body) ∨ body.length ≠ 40) ∧
          k = if path = .pair then 0 else 1) →
      Runs c s (Sets [(Reg.twinHbErrors, k, 0, (r1 s Reg.twinHbErrors k + 1) % 2 ^ 64)] s)) ∧
    (∀ port b, b.length = 40 → leAt b 0 1 = 1 → ∃ u,
      u = { s with tw := { s.tw with notices := s.tw.notices ++ [TwNotice.mk (hbPair b % 4096) (hbUid b) (hbRank b) port] } } ∧
      takeActive port b s = if twinOn u && hbValid u b then notePeer b { u with tw := { u.tw with gotActive := true } } else u) ∧
    (∀ b, twinOn s = true → b.length = 20 → leAt b 0 2 = r0 s Reg.twinPairId → leAt b 4 8 ≠ ownUid s →
      takeDual b s = { s with tw := { s.tw with gotDual := true } })

/-- Calibration runs start in order, end in success or failure, are abandoned or tried again; the notification job sends its copies. The model's choices that it rests on beside the rules: log 6, 12, 14, 24, 36, 46, 52, 63, 70, 71, 73. -/
def Obligations.CalibrationRunsAndEventNotifications : Prop :=
  ∀ (inst : Fin 80) (i : Nat) (s : State), i = inst.val →
    (∀ cls, curatorRuns s = true → s.now / 2000 = s.boundaryAt / 2000 → nextRun s (classCode cls) = some i →
      exec (.calRunStart cls inst) s = .next (startRun (classCode cls) i s)) ∧
    (∀ cls u, runLapsed s (classCode cls) i = true → u = freeReserve (getCal s (classCode cls) i).reserve s →
      exec (.calRunAbandon cls inst) s = .next (modCal (classCode cls) i
        (fun c => { c with running := none, pending := true, reserve := none }) u)) ∧
    (∀ cls, retryDue s (classCode cls) i (r0 s Reg.tickSequence) = true → exec (.calRetryExpire cls inst) s =
      .next (modCal (classCode cls) i (fun c => { c with pending := true, retryAt := 0 }) s)) ∧
    (∀ f b v checks, runLasted s 3 i 64 = true → v = padDelays i f b s →
      exec (.calRunEnd inst (.portDelay f b) checks) s = .next (if padsOff i v s || decide (1500 < portResidual f b) then calFail 3 i s
        else calSucceed 3 i (runMean s 3 i) v (roundTo (portResidual f b)).toNat s)) ∧
    (∀ sums checks, runLasted s 4 i 16 = true →
      exec (.calRunEnd inst (.output sums) checks) s =
        .next (if !increasing sums || decide (2000 * 2000 < outputResidual sums checks) then calFail 4 i s
          else calSucceed 4 i (runMean s 4 i) sums (rootRounded (outputResidual sums checks)) s)) ∧
    (∀ checks, runLasted s 5 0 8000 = true → exec (.calRunEnd inst .crystal checks) s = .next (if 10 ^ 12 < crystalOff s then calFail 5 0 s
        else calSucceed 5 0 (runMean s 5 0) [crystalValue s] (roundTo (Rat.ofInt (crystalOff s) / 10 ^ 6)).toNat s)) ∧
    (∀ codes checks u, (getLane s i).calDone = true → (getCal s 1 i).running ≠ none →
      u = modLane i (fun l => { l with calRun := false, calDone := false, scanFor := r0 s Reg.tickSequence :: l.scanFor }) s →
      exec (.calRunEnd inst (.lane codes) checks) s = .next (w1 (calIdx 1 0x0A) i (r1 s (calIdx 1 0x0A) i)
        (calSucceed 1 i (runMean u 1 i) codes 0 u))) ∧
    (∀ (code : Nat) c n hold x, code ∈ [1, 2, 3, 4, 5] → c = getCal s code i → n = min (r1 s (calIdx code 7) i + 1) 255 →
      hold = decide (r0 s Reg.calFailLimit ≤ n) → x = freeReserve c.reserve s → ∃ u,
      calFail code i s = raise Ev.calFailed (publishCal code i (recompute code i (publishSets code i u))) ∧
      RegsSet [(calIdx code 7, i, 0, n), (calIdx code 6, i, 0, (r1 x (calIdx code 6) i + 1) % 2 ^ 64)] x u ∧
      u = { x with regs := u.regs, cal := u.cal } ∧ getCal u code i = { c with
        running := none, pending := false, failed := true, held := hold || c.held, reserve := none,
        sets := if hold then [] else c.sets, retryAt := r0 s Reg.tickSequence + r0 s Reg.calRetryTicks }) ∧
    (∀ (code : Nat) c temp values quality x, code ∈ [1, 2, 3, 4, 5] → c = getCal s code i → x = freeReserve c.reserve s → ∃ u v,
      calSucceed code i temp values quality s = judgePendingCal code i (publishCal code i (recompute code i v)) ∧
      Sets [(calIdx code 5, i, 0, (r1 (publishSets code i u) (calIdx code 5) i + 1) % 2 ^ 64), (calIdx code 7, i, 0, 0),
        (calIdx code 0x0A, i, 0, quality % 2 ^ 32)] (publishSets code i u) v ∧
      RegsSet [(calIdx code 3, i, 0, ofSigned 16 temp), (calIdx code 4, i, 0, r0 s Reg.tickSequence)] x u ∧
      u = { x with regs := u.regs, cal := u.cal } ∧ getCal u code i = { c with
        running := none, pending := false, held := false, failed := false, retryAt := 0, reserve := none,
        sets := storeSet c.sets { temp := temp, values := values, tick := r0 s Reg.tickSequence, quality := quality } }) ∧
    (∀ u n, curatorRuns s = true → r0 s Reg.eventHold ≠ 1 →
      u = (if (perfNow s).ev.copies = [] then buildEventBody (perfNow s) else perfNow s) →
      n = Config.freeValue u.free % (u.ev.copies.length + 1) → exec .eventNotify s = .next ((u.ev.copies.take n).foldl
        (fun s k => eventCopy k s) { u with free := u.free + 1, ev := { u.ev with copies := u.ev.copies.drop n } })) ∧
    (curatorRuns s = true → r0 s Reg.eventHold ≠ 1 → tget (fun _ => 0) s.jobs 6 = 0 → notifyJobEnds s =
      (s.ev.copies.foldl (fun s k => eventCopy k s) { s with ev := { s.ev with copies := [] } })) ∧
    (∀ (k : Nat) x, k < 16 → getSession s k = some x → slotOpen s k = true → (r1 s Reg.lorakSubscriptions k).testBit 0 = true →
      leaves s x.peer = true → eventCopy k s = inc0 Reg.eventNotifySent (notifySession k 2 s.ev.body s))

/-- The Vitrine closes a due interval, flashes its records, follows SEAL_N, burns fuses and judges its microcode. The model's choices that it rests on beside the rules: log 2, 6, 12, 20, 53, 57, 63. -/
def Obligations.VitrineClosesBurnsAndSeals : Prop :=
  ∀ (s : State),
    (s.vit.closing = false → s.vit.unopened = false → judgeClose s = { s with vit :=
      if (((s.vit.reached / 2 ^ 40 / 10 ^ 9 : Nat) : Int) - utcOffset s) / (60 * (s.vit.interval : Int)) <
          (((s.boundaryReading / 2 ^ 40 / 10 ^ 9 : Nat) : Int) - utcOffset s) / (60 * (s.vit.interval : Int))
      then { s.vit with closing := true, closeUtc := r0 s Reg.utcOffset } else { s.vit with reached := max s.vit.reached s.boundaryReading } }) ∧
    (s.vit.closing = true → exec .intervalClose s = .next (openInterval false (writeRecords s.boundaryReading false s))) ∧
    (s.vit.closing = false → exec .intervalClose s = .next s) ∧
    Runs .vitrineRecordInFlash s (fun t => t = { s with regs := t.regs, vit := { s.vit with unflashed := [] } } ∧
      Keeps [Reg.vitrineRecords, Reg.oldestSequence, Reg.tailDigest] s t ∧
      (∀ i, (∀ e ∈ s.vit.unflashed, e.1 ≠ i) → i < 2 ^ 24 → (∀ e ∈ s.vit.unflashed, e.1 < 2 ^ 24) →
        rd t Reg.vitrineRecords 0 i = rd s Reg.vitrineRecords 0 i) ∧
      ((s.vit.unflashed.map Prod.fst).Nodup → (∀ e ∈ s.vit.unflashed, e.1 < 2 ^ 24) →
        ∀ e ∈ s.vit.unflashed, rd t Reg.vitrineRecords 0 e.1 = e.2)) ∧
    (∀ i v, s.vit.unflashed = [(i, v)] → rd s Reg.vitrineRecords 0 i = 0 → Runs .vitrineRecordInFlash s
      (fun t => RegsSet [(Reg.vitrineRecords, 0, i, v)] s t)) ∧
    (∀ v, v ≠ 0 → rd s Reg.vitrineRecords 0 0 = v → ∀ x, s.vit.unflashed = [(0, x)] → Runs .vitrineRecordInFlash s (fun t =>
      RegsSet [(Reg.vitrineRecords, 0, 0, x), (Reg.tailDigest, 0, 0, getBytes v 384 32),
        (Reg.oldestSequence, 0, 0, (getBytes v 0 4 + 1) % 2 ^ 32)] s t)) ∧
    (∀ close flushed, writeRecords close flushed s = writeRecord close flushed 64
      ((definedTenants s).foldl (fun s t => writeRecord close flushed t s) s)) ∧
    (∀ close flushed tenant head x, head = recordHead s (r0 s Reg.recordSequence) tenant close flushed →
      x = w0 Reg.recordSequence ((r0 s Reg.recordSequence + 1) % 2 ^ 32) (w0 Reg.lastDigest (ofLE (sha256 head)) s) →
      writeRecord close flushed tenant s = raise Ev.intervalClosed { x with vit := { s.vit with
        unflashed := s.vit.unflashed ++ [(r0 s Reg.recordSequence % 16384, ofLE (head ++ bytesLE 32 (ofLE (sha256 head))))],
        flashBy := if s.vit.unflashed = [] then r0 s Reg.tickSequence + 80 else s.vit.flashBy } }) ∧
    (∀ p x, x = { s.vit with
        mapInUse := rowsOf s Reg.tenantMap 0, interval := r0 s Reg.vitrineInterval,
        partialOpen := p || decide (r0 s Reg.vitrineInterval ≠ s.vit.interval), stepped := false,
        sealSeen := decide (r0 s Reg.sealState = 2), unopened := false, reached := s.boundaryReading, closing := false,
        freerunAt := if r0 s Reg.servoState = 3 then s.vit.freerunAt else none } →
      RegsSet [(Reg.tenantMapDigest, 0, 0, mapDigest x.mapInUse), (Reg.intervalOpenTime, 0, 0, time128 s.boundaryReading),
        (Reg.intervalQuality, 0, 0, qualityOf (r0 s Reg.servoState)), (Reg.vitrinePending, 0, 0, 0)]
        (dropIdx Reg.intervalCounts s) (openInterval p s) ∧
      openInterval p s = { s with regs := (openInterval p s).regs, vit := x }) ∧
    (s.pwr.phase ≠ .off → s.vit.low = false → ∃ u, u = setLive Ev.sealOpen true
        { closeDue s with vit := { (closeDue s).vit with low := true, lowAt := (closeDue s).now } } ∧
      exec .sealNFall s = .next (if r0 u Reg.sealState = 0 then w0 Reg.sealState 1 u else u)) ∧
    (s.pwr.phase = .off → s.vit.low = false → exec .sealNFall s = .next { s with vit := { s.vit with low := true } }) ∧
    (s.pwr.phase = .off → s.vit.low = true → exec .sealNRise s =
      .next { s with vit := { s.vit with low := false, wrote := false } }) ∧
    (∀ u, s.pwr.phase ≠ .off → s.vit.low = true → r0 s Reg.sealState = 1 → s.vit.burning = none → u = advanceTo (s.vit.lowAt + 10 ^ 10) s →
      exec .sealOpenQualified s = .next (if 4095 ≤ r0 u Reg.sealEvents then exhaust u
        else { u with vit := { u.vit with burning := some .unseal } })) ∧
    (∀ k u, s.vit.burning = some k → u = fuseBurned k s →
      exec .fuseBurnComplete s = .next (drain (fuseTurns u.vit.waiting.length u)) ∧
      (u.vit.waiting = [] → (∀ e ∈ u.lrk.sessions, e.2.held = []) → exec .fuseBurnComplete s = .next u)) ∧
    (∀ c u, c = closeDue s → u = sealLogEntry 1 0 0 0 0 0
        { w0 Reg.sealEvents (r0 c Reg.sealEvents + 1) c with vit := { c.vit with burning := none } } →
      fuseBurned .unseal s = (if u.vit.low = true ∧ r0 u Reg.sealState = 1 ∧ u.vit.lowAt + 10 ^ 10 ≤ u.now then
          { w0 Reg.sealState 2 u with vit := { u.vit with wrote := false, sealSeen := true } } else u)) ∧
    (∀ c u, c = closeDue s → u = { w0 Reg.sealEvents (r0 c Reg.sealEvents + 1) c with vit := { c.vit with burning := none } } →
      fuseBurned .firstWrite s = if r0 u Reg.sealState = 2 then { u with vit := { u.vit with wrote := true } } else u) ∧
    (∀ x, x = (if sealQualifies (closeDue s) then sealQualified (closeDue s) else closeDue s) → s.pwr.phase ≠ .off → s.vit.low = true → ∃ u v,
      u = setLive Ev.sealOpen false { x with vit := { x.vit with low := false, wrote := false } } ∧
      v = (if r0 x Reg.sealState = 1 ∨ r0 x Reg.sealState = 2 then w0 Reg.sealState 0 u else u) ∧
      exec .sealNRise s = .next (if r0 x Reg.sealState = 2 then sealLogEntry 2 0 0 0 0 0 v else v)) ∧
    (∀ (changed : List (Fin 65536 × Byte)) m d x, s.pwr.phase ≠ .off → s.vit.checkAt ≤ r0 s Reg.tickSequence →
      m = changed.foldl (fun m e => tset (fun _ => 0) m e.1.val e.2.toNat) s.vit.microcode →
      d = ofLE (sha256 ((List.range 65536).map (fun k => BitVec.ofNat 8 (tget (fun _ => 0) m k)))) →
      x = closeDue { s with vit := { s.vit with microcode := m } } → Runs (.microcodeCheck changed) s
        (Sets ((Reg.vitrineMicrocodeDigest, 0, 0, d) :: (if d = s.vit.fused then [] else [(Reg.vitrineState, 0, 0, 1)]))
          { x with vit := { x.vit with checkAt := r0 s Reg.tickSequence + 8000 } }))

/-- Power-up, brownout release, the image that runs, brownout, lockout and overtemperature: the state each leaves. The model's choices that it rests on beside the rules: log 6, 20, 47, 49, 50, 73. -/
def Obligations.PowerComesAndGoes : Prop :=
  ∀ (s : State),
    (∀ (p : Supply) straps (xosc : Fin 6), s.pwr.phase = .off → 33500 ≤ p.vin → (s.pwr.cause = 4 → p.reading < 95 * 256) → ∃ u,
      u = fullReset straps xosc.val { s with pwr := { s.pwr with reduced := true } } ∧
      exec (.powerUpStart p straps xosc) s = .next (w0 Reg.inputVoltage p.vin (openInterval true (vitrinePowerUp u)))) ∧
    (∀ (p : Supply) straps (xosc : Fin 6), (p.vin < 33500 ∨ s.pwr.cause = 4 ∧ 95 * 256 ≤ p.reading) →
      exec (.powerUpStart p straps xosc) s = .next s) ∧
    (∀ vin, s.pwr.phase ≠ .off → s.pwr.reduced = true → 35600 ≤ vin → exec (.brownoutRelease vin) s = .next
      (if s.pwr.phase = .on then powerDomains (w0 Reg.inputVoltage vin s)
       else { w0 Reg.inputVoltage vin s with pwr := { s.pwr with reduced := false } })) ∧
    (∀ vin, vin < 35600 → exec (.brownoutRelease vin) s = .next s) ∧
    (∀ a b f first second u, s.pwr.phase = .on → s.pwr.curator = .booting → f = firstImage s →
      first = (if f = 0 then a else b) → second = (if f = 0 then b else a) →
      u = { w0 Reg.bootOutcome (if first then if r0 s Reg.bootSelStrap = 1 then 2 else 0 else if second then 1 else 3)
          (if first then bootCheck f first s else bootCheck (1 - f) second (bootCheck f first s)) with
            pwr := { (if first then bootCheck f first s else bootCheck (1 - f) second (bootCheck f first s)).pwr with watchdog := 0 } } →
      (∀ i, i = (if first then f else 1 - f) → (first || second) = true → exec (.curatorImageRunning a b) s =
        .next (stepFour { w0 Reg.activeImage i (w1 Reg.firmwareVersion 0 (r1 u Reg.firmwareVersion (i + 1)) u) with
          pwr := { u.pwr with curator := .running } })) ∧
      ((first || second) = false → exec (.curatorImageRunning a b) s =
        .next (w1 Reg.firmwareVersion 0 0 { u with pwr := { u.pwr with curator := .noImage } }))) ∧
    (∀ i, i < 2 → Sets [(Reg.firmwareVersion, i + 1, 0, 0)]
        { s with pwr := if i = 0 then { s.pwr with imageA := false } else { s.pwr with imageB := false } } (bootCheck i false s) ∧
      (imageKnown s i = true → Sets [(Reg.firmwareVersion, i + 1, 0, r1 s Reg.firmwareVersion (i + 1))] s (bootCheck i true s))) ∧
    (∀ cause w, ∃ u, u = afresh (elapse 1600000000 (vitrineFlush (raise Ev.brownout
        { w with pwr := { w.pwr with cause := cause } }))) ∧
      powerLoss cause w = { u with tap := State.reset.tap, pwr := { u.pwr with phase := .off, reduced := true } }) ∧
    (∀ vin, s.pwr.phase ≠ .off → exec (.brownout vin) s = .next (if vin ≤ (if s.pwr.reduced then 34500 else 35300) then
      powerLoss 3 (w0 Reg.inputVoltage vin s) else s)) ∧
    (∀ vin u, u = (if s.pwr.phase = .off ∨ 33500 < vin then s else powerLoss 3 s) → exec (.undervoltageLockout vin) s =
      .next (if vin < 20000 then w0 Reg.lastResetCause 1 { u with pwr := { u.pwr with cause := 1 } } else u)) ∧
    (∀ (die : Fin 4) reading, s.pwr.phase ≠ .off → 115 * 256 ≤ reading → exec (.overtempShutdown die reading) s =
      .next (powerLoss 4 (w1 Reg.dieTemperature die.val (ofSigned 16 reading) s))) ∧
    (∀ (die : Fin 4) reading, exec (.overtempLimitCrossed die reading) s =
      .next (judgeOvertemp (w1 Reg.dieTemperature die.val (ofSigned 16 reading) s))) ∧
    (∀ i, i = (if r0 s Reg.activeImage = 0 then 1 else 0) → r0 s Reg.imageState = 1 → ∃ p,
      p = { s.pwr with blocks := s.pwr.blocks.filter (fun e => decide (e.1 / 131072 ≠ i)) } ∧
      Runs .imageEraseComplete s (Sets [(Reg.imageState, 0, 0, 2), (Reg.firmwareVersion, i + 1, 0, 0)]
        { s with pwr := if i = 0 then { p with imageA := false } else { p with imageB := false } })) ∧
    (∀ pass version i, i = (if r0 s Reg.activeImage = 0 then 1 else 0) → r0 s Reg.imageState = 3 →
      Runs (.imageCheckComplete pass version) s (Sets [(Reg.imageState, 0, 0, if pass then 4 else 5),
          (Reg.firmwareVersion, i + 1, 0, if pass then BitVec.toNat version else 0)]
        { s with pwr := if i = 0 then { s.pwr with imageA := pass } else { s.pwr with imageB := pass } }))

/-- Scheduled and watchdog resets take place when due; RESET_N holds the module; domains fall asleep and wake. The model's choices that it rests on beside the rules: log 2, 6, 11, 12, 32, 45, 47, 48, 49, 55, 57. -/
def Obligations.ResetsAndSleepingDomains : Prop :=
  ∀ (s : State),
    (∀ kind at_ u, s.pwr.resetNow = some (kind, at_) → at_ ≤ r0 s Reg.tickSequence →
      u = { s with pwr := { s.pwr with resetNow := none } } →
      (kind = 1 → exec .datapathReset s = .next (datapathReset u)) ∧
      (kind = 2 → exec .curatorReset s = .next (curatorReset 3 u)) ∧
      (∀ straps (xosc : Fin 6), kind = 3 → exec (.fullModuleReset straps xosc) s = .next (fullReset straps xosc.val s))) ∧
    (curatorRuns s = true → r0 s Reg.curatorWatchdogTicks ≤ s.pwr.watchdog →
      exec .curatorWatchdog s = .next (curatorReset 1 s)) ∧
    ((afresh s).opn = Opn.reset ∧ (afresh s).lrk = State.reset.lrk ∧ (afresh s).counter = 0 ∧
      (afresh s).increment = 2 ^ 41 ∧ (afresh s).core = State.reset.core ∧ (afresh s).sent = s.sent ∧
      (afresh s).pending = s.pending ∧ (afresh s).tap = s.tap ∧
      (∀ k, keptByFullReset k = false → tget regDefault (afresh s).regs k = tget regDefault State.reset.regs k) ∧
      (∀ c, c = closeDue s → (∀ k, keptByFullReset k = true → c.regsOk → tget regDefault (afresh s).regs k = tget regDefault c.regs k) ∧
        (afresh s).vit = { c.vit with
          stepped := true, freerunAt := c.vit.freerunAt.map (fun _ => 0), waiting := [],
          flashBy := c.vit.flashBy - r0 c Reg.tickSequence, checkAt := c.vit.checkAt - r0 c Reg.tickSequence })) ∧
    (∀ d, d = judgeGates s → ∃ u, datapathReset s = laneBankStart 6 (laneBankStart 5 (inc0 Reg.datapathResets
        (count Reg.resetDiscards 0 0 d.core.frames.length (loseWindows u)))) ∧
      u.core.frames = [] ∧ u.core.accts = [] ∧ u.comb.waiting = [] ∧ (loseWindows u).comb.windows = [] ∧
      ∀ k, k < 64 → (getPort u k).rx = none ∧ (getPort u k).tx = none ∧ (getPort u k).queue = [] ∧ (getPort u k).controls = []) ∧
    (∀ cause, ∃ u, curatorReset cause s = twinCuratorReset (recheck u) ∧ u.lrk = { s.lrk with sessions := [], own := [] } ∧
      u.opn.shadow = [] ∧ u.opn.armed = s.opn.armed ∧ u.ev.copies = [] ∧ u.jobs = [] ∧ u.vit.waiting = [] ∧
      u.zut.arm = s.zut.arm ∧ u.zut.parts = [] ∧ u.core = s.core ∧ u.pwr = { s.pwr with curator := .booting, watchdog := 0 } ∧
      r0 u Reg.curatorResetCause = cause ∧ r0 u Reg.curatorResets = (r0 s Reg.curatorResets + 1) % 2 ^ 64 ∧
      ∀ k, k < 16 → r1 u Reg.sessionState k = 0) ∧
    (∀ d, enterSleep d s = (if d = 4 then [4, 5, 6] else [d]).foldl (fun s d => enterOne d s) s) ∧
    (∀ d v, (r1 s Reg.domainState d = 2 ∨ r1 s Reg.domainState d = 4 → enterOne d s = s) ∧
      (r1 s Reg.domainState d ≠ 2 → r1 s Reg.domainState d ≠ 4 → v = sleepLives d (domainLeaves d s) →
        Sets [(Reg.domainState, d, 0, 2), (Reg.sleepStatus, d, 0, 1), (Reg.domainSleepAtTick, d, 0, 0),
          (Reg.sleepEntries, d, 0, (r1 v Reg.sleepEntries d + 1) % 2 ^ 64)]
          { v with pwr := { v.pwr with sleeps := tdel v.pwr.sleeps d, waking := tdel v.pwr.waking d } } (enterOne d s))) ∧
    (∀ d t code, ∃ u r, Sets [(Reg.domainState, d, 0, if (planOf s d).isSome then 1 else 0), (Reg.lastWakeSource, d, 0, code),
        (Reg.domainWakes, d, 0, (r1 s Reg.domainWakes d + 1) % 2 ^ 64),
        (Reg.sleepStatus, d, 0, if r1 s Reg.sleepStatus d = 1 then 0 else r1 s Reg.sleepStatus d)]
        { s with pwr := { s.pwr with waking := tdel s.pwr.waking d } } u ∧
      r = wakeLives d (domainReturns d (raise Ev.domainWake u)) ∧
      completeWake d t code s = if d = 4 then r.pwr.waitD4.foldl (fun s e => if r1 s Reg.domainState e.1 = 2 then
          startWake e.1 e.2 t s else s) { r with pwr := { r.pwr with waitD4 := [] } } else r) ∧
    (s.pwr.phase = .on → ∃ u, u = afresh { s with pwr := { s.pwr with cause := 2 } } ∧
      exec .resetNAssert s = .next { u with pwr := { u.pwr with phase := .held } }) ∧
    (∀ straps (xosc : Fin 6), s.pwr.phase = .held →
      exec (.resetNRelease straps xosc) s = .next (fullReset straps xosc.val s)) ∧
    (∀ d p, planOf (settled s) (swNum d) = some p → p.due = true →
      (∀ q u, u = scheduledWakes (openDue (settled s)) → planOf u (swNum d) = some q → q.due = true →
        exec (.domainSleepEntry d) s = .next (enterSleep (swNum d) u)) ∧
      (planOf (scheduledWakes (openDue (settled s))) (swNum d) = none →
        exec (.domainSleepEntry d) s = .next (scheduledWakes (openDue (settled s))))) ∧
    (∀ d source (lane : Fin 64), s.pwr.phase = .on →
      exec (.wakeSourceFire d source lane) s = .next (wakeBy (swNum d) source lane.val s)) ∧
    (∀ d e, s.pwr.waking.find? (fun e => e.1 = swNum d) = some e → exec (.domainWakeComplete d) s =
      .next (completeWake e.1 e.2.1 e.2.2 (advanceTo e.2.1 s)))

/-- Each TAP row of a powered module loads its instruction and its data; boundary instructions hold the balls, others free them. The model's choices that it rests on beside the rules: log 6, 11, 22, 23, 24, 73. -/
def Obligations.TestAccessPortLoadsItsInstruction : Prop :=
  ∀ (s : State), s.pwr.phase ≠ .off →
    exec .extest s = .next (loadTap 0 s) ∧ exec .samplePreload s = .next (loadTap 1 s) ∧ exec .idcode s = .next (loadTap 2 s) ∧
    exec .highz s = .next (loadTap 3 s) ∧ exec .clamp s = .next (loadTap 4 s) ∧ exec .extestPulse s = .next (loadTap 5 s) ∧
    exec .extestTrain s = .next (loadTap 6 s) ∧ exec .vitrineId s = .next (loadTap 0x20 s) ∧
    exec .svcPort s = .next (loadTap 0x21 s) ∧ exec .tapReset s = .next (loadTap 2 s) ∧
    (∀ b : BitVec 8, exec (.bypass b) s = .next
      (loadTap (if b.toNat ≤ 6 ∨ b.toNat = 0x20 ∨ b.toNat = 0x21 then 0xFF else b.toNat) s)) ∧
    (∀ code t, t = loadTap code s → t.tap.instruction = code ∧
      (t.tap.held = true ↔ code = 0 ∨ code = 3 ∨ code = 4 ∨ code = 5 ∨ code = 6) ∧
      (code = 2 → s.tap.held = false → t.tap.data = r0 s Reg.dieSteppings / 2 ^ 24 % 16 * 2 ^ 28 + 0x6432 * 2 ^ 12 +
        Config.jtagManufacturer.toNat * 2 + 1) ∧
      (code = 0x20 → s.tap.held = false →
        t.tap.data = r0 s Reg.vitrineVersion + r0 s Reg.vitrineMicrocodeDigest * 2 ^ 32) ∧
      (code ∈ [0, 1, 5, 6] → t.tap.data = t.tap.cells) ∧
      (code ∉ [0, 1, 2, 5, 6, 0x20] → t.tap.data = 0) ∧
      (code ∉ [0, 1, 5, 6] → t.tap.cells = s.tap.cells) ∧
      (s.tap.held = false → code ∉ [0, 3, 4, 5, 6] → t = { s with tap := t.tap, free := t.free }) ∧
      (s.tap.held = true → code ∈ [0, 3, 4, 5, 6] → t = { s with tap := t.tap, free := t.free }) ∧
      (code ∉ [0, 1, 3, 4, 5, 6] → s.tap.held = false → t.free = s.free)) ∧
    (s.tap.held = true → ∀ e, emit e s = s) ∧
    (∀ (peer : Peer) opcode p, peer.transport = .svc → s.tap.instruction = 0x21 → sendPdu peer opcode p s =
      { s with sent := s.sent ++ [.tapStream peer opcode p (svcFrame (pduBytes opcode p))] })

end
end

