-- ==== Sys2Proof/Laws/Tables.lean ====
section
/-! SUPPORT. The laws of sparse tables: read after write, and that every update keeps the canonical form. -/

namespace Sys2Proof.Machine

section
variable {α : Type}

theorem tget_tput (d : Nat → α) (m : List (Nat × α)) (k j : Nat) (v : α) :
    tget d (tput m k v) j = if j = k then v else tget d m j := by
  induction m with
  | nil => simp only [tput, tget]; split <;> split <;> simp_all
  | cons e t ih =>
    obtain ⟨a, b⟩ := e
    simp only [tput]
    split
    · simp only [tget, eq_comm (a := j)]
    · split
      · subst_vars; simp only [tget, eq_comm (a := j)]; split <;> rfl
      · simp only [tget, ih]; split <;> split <;> first | rfl | omega

theorem tget_tdel (d : Nat → α) (m : List (Nat × α)) (k j : Nat) :
    tget d (tdel m k) j = if j = k then d j else tget d m j := by
  induction m with
  | nil => simp [tdel, tget]
  | cons e t ih =>
    obtain ⟨a, b⟩ := e
    simp only [tdel, List.filter_cons] at ih ⊢
    by_cases h : a = k
    · subst h; simp only [ne_eq, not_true_eq_false, decide_false, Bool.false_eq_true, ite_false, ih, tget]
      split <;> simp_all [eq_comm]
    · simp only [ne_eq, h, not_false_eq_true, decide_true, ite_true, tget, ih]
      split <;> split <;> first | rfl | omega

theorem mem_tput {m : List (Nat × α)} {k : Nat} {v : α} {e : Nat × α} (h : e ∈ tput m k v) : e = (k, v) ∨ e ∈ m := by
  induction m with
  | nil => simpa [tput] using h
  | cons f t ih =>
    obtain ⟨a, b⟩ := f
    simp only [tput] at h
    split at h
    · simpa using h
    · split at h
      · rcases List.mem_cons.mp h with h | h
        · exact .inl h
        · exact .inr (List.mem_cons_of_mem _ h)
      · rcases List.mem_cons.mp h with h | h
        · exact .inr (h ▸ List.mem_cons_self)
        · exact (ih h).imp id (List.mem_cons_of_mem _)

variable [DecidableEq α]

/-- Read after write. -/
theorem tget_tset (d : Nat → α) (m : List (Nat × α)) (k j : Nat) (v : α) :
    tget d (tset d m k v) j = if j = k then v else tget d m j := by
  unfold tset
  split
  · rw [tget_tdel]; split <;> simp_all
  · exact tget_tput d m k j v

/-- Addresses strictly rising and no entry at its default, said as a pairwise order and a membership. -/
theorem twf_iff (d : Nat → α) (m : List (Nat × α)) :
    twf d m = true ↔ m.Pairwise (fun x y => x.1 < y.1) ∧ ∀ e ∈ m, e.2 ≠ d e.1 := by
  induction m with
  | nil => simp [twf]
  | cons e t ih =>
    obtain ⟨a, b⟩ := e
    cases t with
    | nil => simp [twf]
    | cons f u =>
      obtain ⟨c, x⟩ := f
      simp only [twf, Bool.and_eq_true, decide_eq_true_eq, ih, List.pairwise_cons, List.mem_cons, forall_eq_or_imp]
      constructor
      · rintro ⟨⟨h1, h2⟩, ⟨h3, h4⟩, h5, h6⟩
        exact ⟨⟨⟨h1, fun y hy => Nat.lt_trans h1 (h3 y hy)⟩, h3, h4⟩, h2, h5, h6⟩
      · rintro ⟨⟨⟨h1, _⟩, h3, h4⟩, h2, h5, h6⟩
        exact ⟨⟨h1, h2⟩, ⟨h3, h4⟩, h5, h6⟩

theorem twf_filter (d : Nat → α) (m : List (Nat × α)) (p : Nat × α → Bool) (h : twf d m = true) :
    twf d (m.filter p) = true := by
  rw [twf_iff] at h ⊢
  exact ⟨h.1.filter p, fun e he => h.2 e (List.mem_filter.mp he).1⟩

theorem twf_tput (d : Nat → α) (m : List (Nat × α)) (k : Nat) (v : α) (hv : v ≠ d k) (h : twf d m = true) :
    twf d (tput m k v) = true := by
  rw [twf_iff] at h ⊢
  refine ⟨?_, fun e he => (mem_tput he).elim (fun h' => h' ▸ hv) (h.2 e)⟩
  obtain ⟨hp, hd⟩ := h
  clear hd
  induction m with
  | nil => simp [tput]
  | cons f t ih =>
    obtain ⟨a, b⟩ := f
    rw [List.pairwise_cons] at hp
    simp only [tput]
    split
    · rename_i hk
      refine List.pairwise_cons.mpr ⟨?_, List.pairwise_cons.mpr hp⟩
      intro e he
      rcases List.mem_cons.mp he with rfl | he
      · exact hk
      · exact Nat.lt_trans hk (hp.1 e he)
    · split
      · subst_vars; exact List.pairwise_cons.mpr hp
      · refine List.pairwise_cons.mpr ⟨?_, ih hp.2⟩
        intro e he
        rcases mem_tput he with rfl | he
        · exact Nat.lt_of_le_of_ne (by simp only; omega) (by simp only; omega)
        · exact hp.1 e he

/-- A write keeps the canonical form. -/
theorem twf_tset (d : Nat → α) (m : List (Nat × α)) (k : Nat) (v : α) (h : twf d m = true) :
    twf d (tset d m k v) = true := by
  unfold tset
  split
  · exact twf_filter d m _ h
  · exact twf_tput d m k v (by assumption) h

end

end Sys2Proof.Machine
end

