-- ==== Sys2Proof/Laws/Follows.lean ====
section
/-! SUPPORT. `Follows`: what every operation over State does at most, with the laws of the primitive operations. -/

namespace Sys2Proof.Machine

theorem Advances.refl (s : State) : Advances s s := ⟨rfl, Nat.le_refl _, List.prefix_rfl, id, rfl, rfl⟩

theorem Advances.trans {s t u : State} (h : Advances s t) (k : Advances t u) : Advances s u :=
  ⟨k.queue.trans h.queue, Nat.le_trans h.time k.time, h.sent.trans k.sent, fun r => k.regs (h.regs r),
    k.fused.trans h.fused, k.factory.trans h.factory⟩

theorem Follows.refl (s : State) : Follows s s := ⟨Advances.refl s, rfl⟩

theorem Follows.trans {s t u : State} (h : Follows s t) (k : Follows t u) : Follows s u :=
  ⟨h.toAdvances.trans k.toAdvances, k.tap.trans h.tap⟩

/-- A change of none of the fields that matter. -/
theorem Follows.keeps {a s t : State} (h : Follows a s) (hp : t.pending = s.pending) (hn : t.now = s.now)
    (hs : t.sent = s.sent) (hr : t.regs = s.regs) (hv : t.vit.fused = s.vit.fused)
    (hc : t.cal.factory = s.cal.factory) (ht : t.tap = s.tap) : Follows a t :=
  h.trans ⟨⟨hp, hn ▸ Nat.le_refl _, hs ▸ List.prefix_rfl, fun r => by unfold State.regsOk; rw [hr]; exact r, hv, hc⟩, ht⟩

/-- The instruction and data of the port alone have changed. -/
theorem Advances.tapOnly {a s : State} (h : Advances a s) (x : TapSt) : Advances a { s with tap := x } :=
  h.trans ⟨rfl, Nat.le_refl _, List.prefix_rfl, id, rfl, rfl⟩

/-- A state put together anew from another's queue, time, emissions and registers. -/
theorem mk_follows {a s : State} {x2 : Nat} {x3 : Nat} {x4 : Nat} {x5 : Nat} {x6 : Nat} {x7 : Bool} {x8 : Option Nat}
    {x9 : List (Nat × Nat)} {x11 : Nat} {x13 : Opn} {x14 : Lrk} {x15 : EvSt} {x16 : List (Nat × PortSt)}
    {x17 : CoreSt} {x18 : PwrSt} {x19 : List (Nat × GateSt)} {x20 : CombSt} {x21 : List (Nat × PerfSt)} {x22 : ArchSt}
    {x23 : VitSt} {x24 : List (Nat × LaneSt)} {x25 : CalAll} {x26 : TdcSt} {x27 : RefsSt} {x28 : List (Nat × SynSt)}
    {x29 : List (Nat × OutSt)} {x30 : List (Nat × PlsSt)} {x31 : List (Nat × PtpPort)} {x32 : ServoSt} {x33 : ZutSt}
    {x34 : TwSt} (h : Follows a s) (hv : x23.fused = s.vit.fused) (hc : x25.factory = s.cal.factory) :
    Follows a (State.mk s.now x2 x3 x4 x5 x6 x7 x8 x9 s.regs x11 s.sent x13 x14 x15 x16 x17 x18 x19 x20 x21 x22 x23
      x24 x25 x26 x27 x28 x29 x30 x31 x32 x33 x34 s.tap s.pending) :=
  h.keeps rfl rfl rfl rfl hv hc rfl

theorem Follows.ite {a s t : State} {c : Prop} [Decidable c] (h : Follows a s) (k : Follows a t) :
    Follows a (if c then s else t) := by split <;> assumption

theorem forL_follows {α : Type} {a s : State} {l : List α} {f : α → State → State}
    (hf : ∀ x b, Follows a b → Follows a (f x b)) (h : Follows a s) : Follows a (forL l f s) := by
  unfold forL
  induction l generalizing s with
  | nil => exact h
  | cons x t ih => exact ih (hf x s h)

theorem forN_follows {a s : State} {n : Nat} {f : Nat → State → State}
    (hf : ∀ x b, Follows a b → Follows a (f x b)) (h : Follows a s) : Follows a (forN n f s) :=
  forL_follows (l := List.range n) hf h

/-- A fold that carries more than the state. -/
theorem forL_at {α σ : Type} (g : σ → State) {a : State} {l : List α} {f : α → σ → σ} {x : σ}
    (hf : ∀ i y, Follows a (g y) → Follows a (g (f i y))) (h : Follows a (g x)) : Follows a (g (forL l f x)) := by
  unfold forL
  induction l generalizing x with
  | nil => exact h
  | cons i t ih => exact ih (hf i x h)

theorem forL_snd {α β : Type} {a : State} {l : List α} {f : α → β × State → β × State} {x : β × State}
    (hf : ∀ i (y : β × State), Follows a y.2 → Follows a (f i y).2) (h : Follows a x.2) : Follows a (forL l f x).2 :=
  forL_at (fun (y : β × State) => y.2) hf h

theorem forL_third {α β γ : Type} {a : State} {l : List α} {f : α → β × γ × State → β × γ × State}
    {x : β × γ × State} (hf : ∀ i (y : β × γ × State), Follows a y.2.2 → Follows a (f i y).2.2) (h : Follows a x.2.2) :
    Follows a (forL l f x).2.2 :=
  forL_at (fun (y : β × γ × State) => y.2.2) hf h

theorem foldl_follows {α : Type} {a s : State} {l : List α} {f : State → α → State}
    (hf : ∀ b x, Follows a b → Follows a (f b x)) (h : Follows a s) : Follows a (l.foldl f s) :=
  forL_follows (f := fun x b => f b x) (fun x b => hf b x) h

theorem foldl_snd {α β : Type} {a : State} {l : List α} {f : β × State → α → β × State} {x : β × State}
    (hf : ∀ (y : β × State) i, Follows a y.2 → Follows a (f y i).2) (h : Follows a x.2) : Follows a (l.foldl f x).2 :=
  forL_snd (f := fun i y => f y i) (fun i y => hf y i) h

theorem forN_snd {β : Type} {a : State} {n : Nat} {f : Nat → β × State → β × State} {x : β × State}
    (hf : ∀ i (y : β × State), Follows a y.2 → Follows a (f i y).2) (h : Follows a x.2) : Follows a (forN n f x).2 :=
  forL_snd (l := List.range n) hf h

theorem forN_third {β γ : Type} {a : State} {n : Nat} {f : Nat → β × γ × State → β × γ × State}
    {x : β × γ × State} (hf : ∀ i (y : β × γ × State), Follows a y.2.2 → Follows a (f i y).2.2) (h : Follows a x.2.2) :
    Follows a (forN n f x).2.2 :=
  forL_third (l := List.range n) hf h

/-! The register file. -/

theorem wr_follows {a s : State} (h : Follows a s) (idx sub row v : Nat) : Follows a (wr idx sub row v s) :=
  h.trans ⟨⟨rfl, Nat.le_refl _, List.prefix_rfl, fun r => twf_tset _ _ _ _ r, rfl, rfl⟩, rfl⟩

theorem filter_follows {a s : State} (h : Follows a s) (p : Nat × Nat → Bool) :
    Follows a { s with regs := s.regs.filter p } :=
  h.trans ⟨⟨rfl, Nat.le_refl _, List.prefix_rfl, fun r => twf_filter _ _ _ r, rfl, rfl⟩, rfl⟩

theorem w1_follows {a s : State} (h : Follows a s) (idx sub v : Nat) : Follows a (w1 idx sub v s) := wr_follows h ..
theorem w0_follows {a s : State} (h : Follows a s) (idx v : Nat) : Follows a (w0 idx v s) := wr_follows h ..
theorem count_follows {a s : State} (h : Follows a s) (idx sub row n : Nat) : Follows a (count idx sub row n s) :=
  wr_follows h ..
theorem inc_follows {a s : State} (h : Follows a s) (idx sub : Nat) : Follows a (inc idx sub s) := wr_follows h ..
theorem inc0_follows {a s : State} (h : Follows a s) (idx : Nat) : Follows a (inc0 idx s) := wr_follows h ..
theorem dropIdx_follows {a s : State} (h : Follows a s) (idx : Nat) : Follows a (dropIdx idx s) := filter_follows h _
theorem dropRange_follows {a s : State} (h : Follows a s) (lo hi : Nat) : Follows a (dropRange lo hi s) :=
  filter_follows h _
theorem dropSub_follows {a s : State} (h : Follows a s) (lo hi sub : Nat) : Follows a (dropSub lo hi sub s) :=
  filter_follows h _

/-! Emissions and free values. -/

theorem emit_follows {a s : State} (h : Follows a s) (e : Emission) : Follows a (emit e s) := by
  unfold emit
  split
  · exact h
  · exact h.trans ⟨⟨rfl, Nat.le_refl _, List.prefix_append .., id, rfl, rfl⟩, rfl⟩

theorem draw_follows {a s : State} (h : Follows a s) : Follows a (draw s).2 := h.keeps rfl rfl rfl rfl rfl rfl rfl

/-! Ports, frames, accounts. -/

theorem setPort_follows {a s : State} (h : Follows a s) (slot : Nat) (p : PortSt) : Follows a (setPort slot p s) :=
  h.keeps rfl rfl rfl rfl rfl rfl rfl
theorem modPort_follows {a s : State} (h : Follows a s) (slot : Nat) (f : PortSt → PortSt) :
    Follows a (modPort slot f s) := h.keeps rfl rfl rfl rfl rfl rfl rfl
theorem setAcct_follows {a s : State} (h : Follows a s) (slot c : Nat) (x : Acct) : Follows a (setAcct slot c x s) :=
  h.keeps rfl rfl rfl rfl rfl rfl rfl
theorem setFrame_follows {a s : State} (h : Follows a s) (f : Frame) : Follows a (setFrame f s) :=
  h.keeps rfl rfl rfl rfl rfl rfl rfl
theorem dropFrame_follows {a s : State} (h : Follows a s) (id : Nat) : Follows a (dropFrame id s) :=
  h.keeps rfl rfl rfl rfl rfl rfl rfl

/-- An outcome that is a next state which follows. -/
def Ends (a : State) (o : Host.Outcome State Fault Refusal) : Prop := ∃ t, o = .next t ∧ Follows a t

theorem Ends.of {a t : State} (h : Follows a t) : Ends a (.next t) := ⟨t, rfl, h⟩

theorem Ends.ite {a : State} {c : Prop} [Decidable c] {x y : Host.Outcome State Fault Refusal} (h : Ends a x)
    (k : Ends a y) : Ends a (if c then x else y) := by split <;> assumption

/-- An outcome that is a next state which advances, whatever it does to the test access port. -/
def Moves (a : State) (o : Host.Outcome State Fault Refusal) : Prop := ∃ t, o = .next t ∧ Advances a t

theorem Moves.of {a t : State} (h : Advances a t) : Moves a (.next t) := ⟨t, rfl, h⟩

end Sys2Proof.Machine
end

