-- ==== Sys2Proof/Laws/FlagsFollows.lean ====
section
/-! SUPPORT. Every operation of Flags follows. -/

set_option linter.unreachableTactic false
set_option linter.unusedTactic false

namespace Sys2Proof.Machine

theorem archTrigger_follows {s0 s : State} (h : Follows s0 s) (kind : Nat) :
    Follows s0 (archTrigger kind s) := by
  unfold archTrigger
  repeat' (first
    | with_reducible assumption | with_reducible exact Follows.refl _ | with_reducible refine Follows.ite ?_ ?_ 
    | fail_if_no_progress (with_reducible refine mk_follows ?_ rfl rfl) | fail_if_no_progress intros | split | extract_lets | dsimp only | dsimp +zetaDelta only)

theorem archEventTrigger_follows {s0 s : State} (h : Follows s0 s) (w rise : Nat) :
    Follows s0 (archEventTrigger w rise s) := by
  unfold archEventTrigger
  repeat' (first
    | with_reducible assumption | with_reducible exact Follows.refl _ | with_reducible refine Follows.ite ?_ ?_ 
    | with_reducible refine archTrigger_follows ?_ ..
    | fail_if_no_progress (with_reducible refine mk_follows ?_ rfl rfl) | fail_if_no_progress intros | split | extract_lets | dsimp only | dsimp +zetaDelta only)

theorem pend_follows {s0 s : State} (h : Follows s0 s) (w bits : Nat) :
    Follows s0 (pend w bits s) := by
  unfold pend
  repeat' (first
    | with_reducible assumption | with_reducible exact Follows.refl _ | with_reducible refine Follows.ite ?_ ?_ 
    | with_reducible refine archEventTrigger_follows ?_ .. | with_reducible refine w1_follows ?_ ..
    | fail_if_no_progress (with_reducible refine mk_follows ?_ rfl rfl) | fail_if_no_progress intros | split | extract_lets | dsimp only | dsimp +zetaDelta only)

theorem noteEdge_follows {s0 s : State} (h : Follows s0 s) (n : Nat) :
    Follows s0 (noteEdge n s) := by
  unfold noteEdge
  repeat' (first
    | with_reducible assumption | with_reducible exact Follows.refl _ | with_reducible refine Follows.ite ?_ ?_ 
    | fail_if_no_progress (with_reducible refine mk_follows ?_ rfl rfl) | fail_if_no_progress intros | split | extract_lets | dsimp only | dsimp +zetaDelta only)

theorem raise_follows {s0 s : State} (h : Follows s0 s) (n : Nat) :
    Follows s0 (raise n s) := by
  unfold raise
  repeat' (first
    | with_reducible assumption | with_reducible exact Follows.refl _ | with_reducible refine Follows.ite ?_ ?_ 
    | with_reducible refine pend_follows ?_ .. | with_reducible refine count_follows ?_ .. | with_reducible refine noteEdge_follows ?_ ..
    | fail_if_no_progress (with_reducible refine mk_follows ?_ rfl rfl) | fail_if_no_progress intros | split | extract_lets | dsimp only | dsimp +zetaDelta only)

theorem setLive_follows {s0 s : State} (h : Follows s0 s) (n : Nat) (cond : Bool) :
    Follows s0 (setLive n cond s) := by
  unfold setLive
  repeat' (first
    | with_reducible assumption | with_reducible exact Follows.refl _ | with_reducible refine Follows.ite ?_ ?_ 
    | with_reducible refine count_follows ?_ .. | with_reducible refine pend_follows ?_ .. | with_reducible refine w1_follows ?_ ..
    | fail_if_no_progress (with_reducible refine mk_follows ?_ rfl rfl) | fail_if_no_progress intros | split | extract_lets | dsimp only | dsimp +zetaDelta only)

end Sys2Proof.Machine
end

