-- ==== Sys2Proof/Laws/PerfFollows.lean ====
section
/-! SUPPORT. Every operation of Perf follows. -/

set_option linter.unreachableTactic false
set_option linter.unusedTactic false

namespace Sys2Proof.Machine

theorem setPerf_follows {s0 s : State} (h : Follows s0 s) (k : Nat) (p : PerfSt) :
    Follows s0 (setPerf k p s) := by
  unfold setPerf
  repeat' (first
    | with_reducible assumption | with_reducible exact Follows.refl _ | with_reducible refine Follows.ite ?_ ?_ 
    | fail_if_no_progress (with_reducible refine mk_follows ?_ rfl rfl) | fail_if_no_progress intros | split | extract_lets | dsimp only | dsimp +zetaDelta only)

theorem perfWraps_follows {s0 s : State} (h : Follows s0 s) (k n : Nat) :
    Follows s0 (perfWraps k n s) := by
  unfold perfWraps
  repeat' (first
    | with_reducible assumption | with_reducible exact Follows.refl _ | with_reducible refine Follows.ite ?_ ?_ | with_reducible refine forN_snd ?_ ?_ | with_reducible refine forN_third ?_ ?_ 
    | with_reducible refine forN_follows ?_ ?_ | with_reducible refine raise_follows ?_ .. | with_reducible refine w0_follows ?_ ..
    | fail_if_no_progress (with_reducible refine mk_follows ?_ rfl rfl) | fail_if_no_progress intros | split | extract_lets | dsimp only | dsimp +zetaDelta only)

theorem perfCross_follows {s0 s : State} (h : Follows s0 s) (k : Nat) :
    Follows s0 (perfCross k s) := by
  unfold perfCross
  repeat' (first
    | with_reducible assumption | with_reducible exact Follows.refl _ | with_reducible refine Follows.ite ?_ ?_ 
    | with_reducible refine raise_follows ?_ .. | with_reducible refine archTrigger_follows ?_ ..
    | fail_if_no_progress (with_reducible refine mk_follows ?_ rfl rfl) | fail_if_no_progress intros | split | extract_lets | dsimp only | dsimp +zetaDelta only)

theorem perfGateEnd_follows {s0 s : State} (h : Follows s0 s) (k : Nat) :
    Follows s0 (perfGateEnd k s) := by
  unfold perfGateEnd
  repeat' (first
    | with_reducible assumption | with_reducible exact Follows.refl _ | with_reducible refine Follows.ite ?_ ?_ 
    | with_reducible refine w1_follows ?_ .. | with_reducible refine inc_follows ?_ .. | with_reducible refine setPerf_follows ?_ ..
    | fail_if_no_progress (with_reducible refine mk_follows ?_ rfl rfl) | fail_if_no_progress intros | split | extract_lets | dsimp only | dsimp +zetaDelta only)

theorem perfSettle_follows {s0 s : State} (h : Follows s0 s) (k : Nat) :
    Follows s0 (perfSettle k s) := by
  unfold perfSettle
  repeat' (first
    | with_reducible assumption | with_reducible exact Follows.refl _ | with_reducible refine Follows.ite ?_ ?_ 
    | with_reducible refine perfGateEnd_follows ?_ ..
    | fail_if_no_progress (with_reducible refine mk_follows ?_ rfl rfl) | fail_if_no_progress intros | split | extract_lets | dsimp only | dsimp +zetaDelta only)

theorem perfAdd_follows {s0 s : State} (h : Follows s0 s) (k n : Nat) :
    Follows s0 (perfAdd k n s) := by
  unfold perfAdd
  repeat' (first
    | with_reducible assumption | with_reducible exact Follows.refl _ | with_reducible refine Follows.ite ?_ ?_ 
    | with_reducible refine perfSettle_follows ?_ .. | with_reducible refine w1_follows ?_ .. | with_reducible refine perfWraps_follows ?_ .. | with_reducible refine perfCross_follows ?_ ..
    | fail_if_no_progress (with_reducible refine mk_follows ?_ rfl rfl) | fail_if_no_progress intros | split | extract_lets | dsimp only | dsimp +zetaDelta only)

theorem perfCycles_follows {s0 s : State} (h : Follows s0 s) (k n : Nat) :
    Follows s0 (perfCycles k n s) := by
  unfold perfCycles
  repeat' (first
    | with_reducible assumption | with_reducible exact Follows.refl _ | with_reducible refine Follows.ite ?_ ?_ | with_reducible refine forN_snd ?_ ?_ | with_reducible refine forN_third ?_ ?_ 
    | with_reducible refine perfSettle_follows ?_ .. | with_reducible refine perfWraps_follows ?_ .. | with_reducible refine w1_follows ?_ .. | with_reducible refine forN_follows ?_ ?_ | with_reducible refine perfCross_follows ?_ ..
    | fail_if_no_progress (with_reducible refine mk_follows ?_ rfl rfl) | fail_if_no_progress intros | split | extract_lets | dsimp only | dsimp +zetaDelta only)

theorem perfCount_follows {s0 s : State} (h : Follows s0 s) (mode block event inst n : Nat) :
    Follows s0 (perfCount mode block event inst n s) := by
  unfold perfCount
  repeat' (first
    | with_reducible assumption | with_reducible exact Follows.refl _ | with_reducible refine Follows.ite ?_ ?_ | with_reducible refine forL_snd ?_ ?_ | with_reducible refine forL_third ?_ ?_ 
    | with_reducible refine forL_follows ?_ ?_ | with_reducible refine perfAdd_follows ?_ ..
    | fail_if_no_progress (with_reducible refine mk_follows ?_ rfl rfl) | fail_if_no_progress intros | split | extract_lets | dsimp only | dsimp +zetaDelta only)

theorem perfEvent_follows {s0 s : State} (h : Follows s0 s) (block event inst n : Nat) :
    Follows s0 (perfEvent block event inst n s) := by
  unfold perfEvent
  repeat' (first
    | with_reducible assumption | with_reducible exact Follows.refl _ | with_reducible refine Follows.ite ?_ ?_ 
    | with_reducible refine perfCount_follows ?_ ..
    | fail_if_no_progress (with_reducible refine mk_follows ?_ rfl rfl) | fail_if_no_progress intros | split | extract_lets | dsimp only | dsimp +zetaDelta only)

theorem perfFlush_follows {s0 s : State} (h : Follows s0 s) (k : Nat) :
    Follows s0 (perfFlush k s) := by
  unfold perfFlush
  repeat' (first
    | with_reducible assumption | with_reducible exact Follows.refl _ | with_reducible refine Follows.ite ?_ ?_ 
    | with_reducible refine perfSettle_follows ?_ .. | with_reducible refine perfCycles_follows ?_ .. | with_reducible refine setPerf_follows ?_ ..
    | fail_if_no_progress (with_reducible refine mk_follows ?_ rfl rfl) | fail_if_no_progress intros | split | extract_lets | dsimp only | dsimp +zetaDelta only)

theorem perfNow_follows {s0 s : State} (h : Follows s0 s) :
    Follows s0 (perfNow s) := by
  unfold perfNow
  repeat' (first
    | with_reducible assumption | with_reducible exact Follows.refl _ | with_reducible refine Follows.ite ?_ ?_ | with_reducible refine forL_snd ?_ ?_ | with_reducible refine forL_third ?_ ?_ 
    | with_reducible refine forL_follows ?_ ?_ | with_reducible refine perfFlush_follows ?_ ..
    | fail_if_no_progress (with_reducible refine mk_follows ?_ rfl rfl) | fail_if_no_progress intros | split | extract_lets | dsimp only | dsimp +zetaDelta only)

end Sys2Proof.Machine
end

