-- ==== Sys2Proof/Laws/SwitchCoreFollows.lean ====
section
/-! SUPPORT. Every operation of SwitchCore follows. -/

set_option linter.unreachableTactic false
set_option linter.unusedTactic false

namespace Sys2Proof.Machine

theorem noteMinFree_follows {s0 s : State} (h : Follows s0 s) :
    Follows s0 (noteMinFree s) := by
  unfold noteMinFree
  repeat' (first
    | with_reducible assumption | with_reducible exact Follows.refl _ | with_reducible refine Follows.ite ?_ ?_ 
    | with_reducible refine w0_follows ?_ ..
    | fail_if_no_progress (with_reducible refine mk_follows ?_ rfl rfl) | fail_if_no_progress intros | split | extract_lets | dsimp only | dsimp +zetaDelta only)

theorem judgeOvercommit_follows {s0 s : State} (h : Follows s0 s) :
    Follows s0 (judgeOvercommit s) := by
  unfold judgeOvercommit
  repeat' (first
    | with_reducible assumption | with_reducible exact Follows.refl _ | with_reducible refine Follows.ite ?_ ?_ 
    | with_reducible refine setLive_follows ?_ ..
    | fail_if_no_progress (with_reducible refine mk_follows ?_ rfl rfl) | fail_if_no_progress intros | split | extract_lets | dsimp only | dsimp +zetaDelta only)

theorem freeLoad_follows {s0 s : State} (h : Follows s0 s) :
    Follows s0 (freeLoad s).2 := by
  unfold freeLoad
  repeat' (first
    | with_reducible assumption | with_reducible exact Follows.refl _ | with_reducible refine Follows.ite ?_ ?_ 
    | with_reducible refine draw_follows ?_ ..
    | fail_if_no_progress (with_reducible refine mk_follows ?_ rfl rfl) | fail_if_no_progress intros | split | extract_lets | dsimp only | dsimp +zetaDelta only)

theorem queueControl_follows {s0 s : State} (h : Follows s0 s) (slot : Nat) (c : Control) :
    Follows s0 (queueControl slot c s) := by
  unfold queueControl
  repeat' (first
    | with_reducible assumption | with_reducible exact Follows.refl _ | with_reducible refine Follows.ite ?_ ?_ 
    | with_reducible refine modPort_follows ?_ ..
    | fail_if_no_progress (with_reducible refine mk_follows ?_ rfl rfl) | fail_if_no_progress intros | split | extract_lets | dsimp only | dsimp +zetaDelta only)

theorem portEvent_follows {s0 s : State} (h : Follows s0 s) (slot event n : Nat) :
    Follows s0 (portEvent slot event n s) := by
  unfold portEvent
  repeat' (first
    | with_reducible assumption | with_reducible exact Follows.refl _ | with_reducible refine Follows.ite ?_ ?_ 
    | with_reducible refine perfEvent_follows ?_ ..
    | fail_if_no_progress (with_reducible refine mk_follows ?_ rfl rfl) | fail_if_no_progress intros | split | extract_lets | dsimp only | dsimp +zetaDelta only)

theorem classEvent_follows {s0 s : State} (h : Follows s0 s) (block slot c event n : Nat) :
    Follows s0 (classEvent block slot c event n s) := by
  unfold classEvent
  repeat' (first
    | with_reducible assumption | with_reducible exact Follows.refl _ | with_reducible refine Follows.ite ?_ ?_ 
    | with_reducible refine perfEvent_follows ?_ ..
    | fail_if_no_progress (with_reducible refine mk_follows ?_ rfl rfl) | fail_if_no_progress intros | split | extract_lets | dsimp only | dsimp +zetaDelta only)

theorem enterXoff_follows {s0 s : State} (h : Follows s0 s) (slot c : Nat) :
    Follows s0 (enterXoff slot c s) := by
  unfold enterXoff
  repeat' (first
    | with_reducible assumption | with_reducible exact Follows.refl _ | with_reducible refine Follows.ite ?_ ?_ 
    | with_reducible refine classEvent_follows ?_ .. | with_reducible refine inc_follows ?_ .. | with_reducible refine setAcct_follows ?_ .. | with_reducible refine queueControl_follows ?_ .. | with_reducible refine modPort_follows ?_ ..
    | fail_if_no_progress (with_reducible refine mk_follows ?_ rfl rfl) | fail_if_no_progress intros | split | extract_lets | dsimp only | dsimp +zetaDelta only)

theorem leaveXoff_follows {s0 s : State} (h : Follows s0 s) (slot c : Nat) :
    Follows s0 (leaveXoff slot c s) := by
  unfold leaveXoff
  repeat' (first
    | with_reducible assumption | with_reducible exact Follows.refl _ | with_reducible refine Follows.ite ?_ ?_ 
    | with_reducible refine setAcct_follows ?_ .. | with_reducible refine queueControl_follows ?_ .. | with_reducible refine modPort_follows ?_ ..
    | fail_if_no_progress (with_reducible refine mk_follows ?_ rfl rfl) | fail_if_no_progress intros | split | extract_lets | dsimp only | dsimp +zetaDelta only)

theorem xonSweep_follows {s0 s : State} (h : Follows s0 s) :
    Follows s0 (xonSweep s) := by
  unfold xonSweep
  repeat' (first
    | with_reducible assumption | with_reducible exact Follows.refl _ | with_reducible refine Follows.ite ?_ ?_ | with_reducible refine forL_snd ?_ ?_ | with_reducible refine forL_third ?_ ?_ 
    | with_reducible refine forL_follows ?_ ?_ | with_reducible refine leaveXoff_follows ?_ ..
    | fail_if_no_progress (with_reducible refine mk_follows ?_ rfl rfl) | fail_if_no_progress intros | split | extract_lets | dsimp only | dsimp +zetaDelta only)

theorem chargeCell_follows {s0 s : State} (h : Follows s0 s) (slot c : Nat) :
    Follows s0 (chargeCell slot c s).2 := by
  unfold chargeCell
  repeat' (first
    | with_reducible assumption | with_reducible exact Follows.refl _ | with_reducible refine Follows.ite ?_ ?_ 
    | with_reducible refine setAcct_follows ?_ .. | with_reducible refine enterXoff_follows ?_ ..
    | fail_if_no_progress (with_reducible refine mk_follows ?_ rfl rfl) | fail_if_no_progress intros | split | extract_lets | dsimp only | dsimp +zetaDelta only)

theorem archiveUpdate_follows {s0 s : State} (h : Follows s0 s) (seq : Nat) (f : Nat → Nat) :
    Follows s0 (archiveUpdate seq f s) := by
  unfold archiveUpdate
  repeat' (first
    | with_reducible assumption | with_reducible exact Follows.refl _ | with_reducible refine Follows.ite ?_ ?_ 
    | with_reducible refine wr_follows ?_ ..
    | fail_if_no_progress (with_reducible refine mk_follows ?_ rfl rfl) | fail_if_no_progress intros | split | extract_lets | dsimp only | dsimp +zetaDelta only)

theorem archiveFate_follows {s0 s : State} (h : Follows s0 s) (seq : Option Nat) (fate : Nat) :
    Follows s0 (archiveFate seq fate s) := by
  unfold archiveFate
  repeat' (first
    | with_reducible assumption | with_reducible exact Follows.refl _ | with_reducible refine Follows.ite ?_ ?_ 
    | with_reducible refine archiveUpdate_follows ?_ ..
    | fail_if_no_progress (with_reducible refine mk_follows ?_ rfl rfl) | fail_if_no_progress intros | split | extract_lets | dsimp only | dsimp +zetaDelta only)

theorem archiveRefate_follows {s0 s : State} (h : Follows s0 s) (seq : Option Nat) (port fate : Nat) :
    Follows s0 (archiveRefate seq port fate s) := by
  unfold archiveRefate
  repeat' (first
    | with_reducible assumption | with_reducible exact Follows.refl _ | with_reducible refine Follows.ite ?_ ?_ 
    | with_reducible refine archiveUpdate_follows ?_ ..
    | fail_if_no_progress (with_reducible refine mk_follows ?_ rfl rfl) | fail_if_no_progress intros | split | extract_lets | dsimp only | dsimp +zetaDelta only)

theorem freeFrame_follows {s0 s : State} (h : Follows s0 s) (f : Frame) :
    Follows s0 (freeFrame f s) := by
  unfold freeFrame
  repeat' (first
    | with_reducible assumption | with_reducible exact Follows.refl _ | with_reducible refine Follows.ite ?_ ?_ 
    | with_reducible refine perfEvent_follows ?_ .. | with_reducible refine dropFrame_follows ?_ .. | with_reducible refine xonSweep_follows ?_ .. | with_reducible refine setAcct_follows ?_ ..
    | fail_if_no_progress (with_reducible refine mk_follows ?_ rfl rfl) | fail_if_no_progress intros | split | extract_lets | dsimp only | dsimp +zetaDelta only)

theorem releaseRef_follows {s0 s : State} (h : Follows s0 s) (id slot : Nat) :
    Follows s0 (releaseRef id slot s) := by
  unfold releaseRef
  repeat' (first
    | with_reducible assumption | with_reducible exact Follows.refl _ | with_reducible refine Follows.ite ?_ ?_ 
    | with_reducible refine freeFrame_follows ?_ .. | with_reducible refine setFrame_follows ?_ ..
    | fail_if_no_progress (with_reducible refine mk_follows ?_ rfl rfl) | fail_if_no_progress intros | split | extract_lets | dsimp only | dsimp +zetaDelta only)

theorem endRef_follows {s0 s : State} (h : Follows s0 s) (id slot fate : Nat) :
    Follows s0 (endRef id slot fate s) := by
  unfold endRef
  repeat' (first
    | with_reducible assumption | with_reducible exact Follows.refl _ | with_reducible refine Follows.ite ?_ ?_ 
    | with_reducible refine releaseRef_follows ?_ .. | with_reducible refine archiveFate_follows ?_ ..
    | fail_if_no_progress (with_reducible refine mk_follows ?_ rfl rfl) | fail_if_no_progress intros | split | extract_lets | dsimp only | dsimp +zetaDelta only)

theorem placeRefs_follows {s0 s : State} (h : Follows s0 s) (slot refs : Nat) :
    Follows s0 (placeRefs slot refs s) := by
  unfold placeRefs
  repeat' (first
    | with_reducible assumption | with_reducible exact Follows.refl _ | with_reducible refine Follows.ite ?_ ?_ 
    | fail_if_no_progress (with_reducible refine mk_follows ?_ rfl rfl) | fail_if_no_progress intros | split | extract_lets | dsimp only | dsimp +zetaDelta only)

theorem countTx_follows {s0 s : State} (h : Follows s0 s) (slot n : Nat) :
    Follows s0 (countTx slot n s) := by
  unfold countTx
  repeat' (first
    | with_reducible assumption | with_reducible exact Follows.refl _ | with_reducible refine Follows.ite ?_ ?_ 
    | with_reducible refine portEvent_follows ?_ .. | with_reducible refine count_follows ?_ .. | with_reducible refine inc_follows ?_ ..
    | fail_if_no_progress (with_reducible refine mk_follows ?_ rfl rfl) | fail_if_no_progress intros | split | extract_lets | dsimp only | dsimp +zetaDelta only)

theorem countStomped_follows {s0 s : State} (h : Follows s0 s) (slot : Nat) :
    Follows s0 (countStomped slot s) := by
  unfold countStomped
  repeat' (first
    | with_reducible assumption | with_reducible exact Follows.refl _ | with_reducible refine Follows.ite ?_ ?_ 
    | with_reducible refine portEvent_follows ?_ .. | with_reducible refine inc_follows ?_ ..
    | fail_if_no_progress (with_reducible refine mk_follows ?_ rfl rfl) | fail_if_no_progress intros | split | extract_lets | dsimp only | dsimp +zetaDelta only)

theorem notePeak_follows {s0 s : State} (h : Follows s0 s) (slot c : Nat) :
    Follows s0 (notePeak slot c s) := by
  unfold notePeak
  repeat' (first
    | with_reducible assumption | with_reducible exact Follows.refl _ | with_reducible refine Follows.ite ?_ ?_ 
    | with_reducible refine w1_follows ?_ ..
    | fail_if_no_progress (with_reducible refine mk_follows ?_ rfl rfl) | fail_if_no_progress intros | split | extract_lets | dsimp only | dsimp +zetaDelta only)

theorem enqueue_follows {s0 s : State} (h : Follows s0 s) (slot : Nat) (q : QEntry) :
    Follows s0 (enqueue slot q s) := by
  unfold enqueue
  repeat' (first
    | with_reducible assumption | with_reducible exact Follows.refl _ | with_reducible refine Follows.ite ?_ ?_ 
    | with_reducible refine classEvent_follows ?_ .. | with_reducible refine notePeak_follows ?_ .. | with_reducible refine modPort_follows ?_ ..
    | fail_if_no_progress (with_reducible refine mk_follows ?_ rfl rfl) | fail_if_no_progress intros | split | extract_lets | dsimp only | dsimp +zetaDelta only)

theorem dequeue_follows {s0 s : State} (h : Follows s0 s) (slot id : Nat) :
    Follows s0 (dequeue slot id s) := by
  unfold dequeue
  repeat' (first
    | with_reducible assumption | with_reducible exact Follows.refl _ | with_reducible refine Follows.ite ?_ ?_ 
    | with_reducible refine modPort_follows ?_ ..
    | fail_if_no_progress (with_reducible refine mk_follows ?_ rfl rfl) | fail_if_no_progress intros | split | extract_lets | dsimp only | dsimp +zetaDelta only)

theorem settleHold_follows {s0 s : State} (h : Follows s0 s) (slot c : Nat) :
    Follows s0 (settleHold slot c s) := by
  unfold settleHold
  repeat' (first
    | with_reducible assumption | with_reducible exact Follows.refl _ | with_reducible refine Follows.ite ?_ ?_ 
    | with_reducible refine count_follows ?_ .. | with_reducible refine modPort_follows ?_ ..
    | fail_if_no_progress (with_reducible refine mk_follows ?_ rfl rfl) | fail_if_no_progress intros | split | extract_lets | dsimp only | dsimp +zetaDelta only)

theorem startHold_follows {s0 s : State} (h : Follows s0 s) (slot c : Nat) :
    Follows s0 (startHold slot c s) := by
  unfold startHold
  repeat' (first
    | with_reducible assumption | with_reducible exact Follows.refl _ | with_reducible refine Follows.ite ?_ ?_ 
    | with_reducible refine modPort_follows ?_ ..
    | fail_if_no_progress (with_reducible refine mk_follows ?_ rfl rfl) | fail_if_no_progress intros | split | extract_lets | dsimp only | dsimp +zetaDelta only)

theorem settleHolds_follows {s0 s : State} (h : Follows s0 s) (slot : Nat) :
    Follows s0 (settleHolds slot s) := by
  unfold settleHolds
  repeat' (first
    | with_reducible assumption | with_reducible exact Follows.refl _ | with_reducible refine Follows.ite ?_ ?_ | with_reducible refine forN_snd ?_ ?_ | with_reducible refine forN_third ?_ ?_ 
    | with_reducible refine forN_follows ?_ ?_ | with_reducible refine startHold_follows ?_ .. | with_reducible refine settleHold_follows ?_ ..
    | fail_if_no_progress (with_reducible refine mk_follows ?_ rfl rfl) | fail_if_no_progress intros | split | extract_lets | dsimp only | dsimp +zetaDelta only)

theorem loadPause_follows {s0 s : State} (h : Follows s0 s) (slot quanta : Nat) :
    Follows s0 (loadPause slot quanta s) := by
  unfold loadPause
  repeat' (first
    | with_reducible assumption | with_reducible exact Follows.refl _ | with_reducible refine Follows.ite ?_ ?_ 
    | with_reducible refine settleHolds_follows ?_ .. | with_reducible refine modPort_follows ?_ ..
    | fail_if_no_progress (with_reducible refine mk_follows ?_ rfl rfl) | fail_if_no_progress intros | split | extract_lets | dsimp only | dsimp +zetaDelta only)

theorem loadPfc_follows {s0 s : State} (h : Follows s0 s) (slot enable : Nat) (times : List Nat) :
    Follows s0 (loadPfc slot enable times s) := by
  unfold loadPfc
  repeat' (first
    | with_reducible assumption | with_reducible exact Follows.refl _ | with_reducible refine Follows.ite ?_ ?_ | with_reducible refine forN_snd ?_ ?_ | with_reducible refine forN_third ?_ ?_ 
    | with_reducible refine settleHolds_follows ?_ .. | with_reducible refine forN_follows ?_ ?_ | with_reducible refine modPort_follows ?_ ..
    | fail_if_no_progress (with_reducible refine mk_follows ?_ rfl rfl) | fail_if_no_progress intros | split | extract_lets | dsimp only | dsimp +zetaDelta only)

theorem stopTimers_follows {s0 s : State} (h : Follows s0 s) (slot : Nat) :
    Follows s0 (stopTimers slot s) := by
  unfold stopTimers
  repeat' (first
    | with_reducible assumption | with_reducible exact Follows.refl _ | with_reducible refine Follows.ite ?_ ?_ 
    | with_reducible refine settleHolds_follows ?_ .. | with_reducible refine modPort_follows ?_ ..
    | fail_if_no_progress (with_reducible refine mk_follows ?_ rfl rfl) | fail_if_no_progress intros | split | extract_lets | dsimp only | dsimp +zetaDelta only)

theorem classify_follows {s0 s : State} (h : Follows s0 s) (slot port : Nat) (t : Tags) (b : Bytes) :
    Follows s0 (classify slot port t b s).2 := by
  unfold classify
  repeat' (first
    | with_reducible assumption | with_reducible exact Follows.refl _ | with_reducible refine Follows.ite ?_ ?_ 
    | with_reducible refine count_follows ?_ .. | with_reducible refine inc_follows ?_ ..
    | fail_if_no_progress (with_reducible refine mk_follows ?_ rfl rfl) | fail_if_no_progress intros | split | extract_lets | dsimp only | dsimp +zetaDelta only)

theorem learnRow_follows {s0 s : State} (h : Follows s0 s) (r v : Nat) (moves : Bool) :
    Follows s0 (learnRow r v moves s) := by
  unfold learnRow
  repeat' (first
    | with_reducible assumption | with_reducible exact Follows.refl _ | with_reducible refine Follows.ite ?_ ?_ 
    | with_reducible refine wr_follows ?_ .. | with_reducible refine inc0_follows ?_ ..
    | fail_if_no_progress (with_reducible refine mk_follows ?_ rfl rfl) | fail_if_no_progress intros | split | extract_lets | dsimp only | dsimp +zetaDelta only)

theorem learn_follows {s0 s : State} (h : Follows s0 s) (slot port mac vid : Nat) :
    Follows s0 (learn slot port mac vid s) := by
  unfold learn
  repeat' (first
    | with_reducible assumption | with_reducible exact Follows.refl _ | with_reducible refine Follows.ite ?_ ?_ 
    | with_reducible refine learnRow_follows ?_ .. | with_reducible refine inc0_follows ?_ ..
    | fail_if_no_progress (with_reducible refine mk_follows ?_ rfl rfl) | fail_if_no_progress intros | split | extract_lets | dsimp only | dsimp +zetaDelta only)

theorem fdbSweep_follows {s0 s : State} (h : Follows s0 s) :
    Follows s0 (fdbSweep s) := by
  unfold fdbSweep
  repeat' (first
    | with_reducible assumption | with_reducible exact Follows.refl _ | with_reducible refine Follows.ite ?_ ?_ | with_reducible refine forL_snd ?_ ?_ | with_reducible refine forL_third ?_ ?_ 
    | with_reducible refine forL_follows ?_ ?_ | with_reducible refine wr_follows ?_ .. | with_reducible refine inc0_follows ?_ ..
    | fail_if_no_progress (with_reducible refine mk_follows ?_ rfl rfl) | fail_if_no_progress intros | split | extract_lets | dsimp only | dsimp +zetaDelta only)

theorem fdbFlush_follows {s0 s : State} (h : Follows s0 s) :
    Follows s0 (fdbFlush s) := by
  unfold fdbFlush
  repeat' (first
    | with_reducible assumption | with_reducible exact Follows.refl _ | with_reducible refine Follows.ite ?_ ?_ | with_reducible refine forL_snd ?_ ?_ | with_reducible refine forL_third ?_ ?_ 
    | with_reducible refine forL_follows ?_ ?_ | with_reducible refine wr_follows ?_ ..
    | fail_if_no_progress (with_reducible refine mk_follows ?_ rfl rfl) | fail_if_no_progress intros | split | extract_lets | dsimp only | dsimp +zetaDelta only)

theorem restartSweep_follows {s0 s : State} (h : Follows s0 s) :
    Follows s0 (restartSweep s) := by
  unfold restartSweep
  repeat' (first
    | with_reducible assumption | with_reducible exact Follows.refl _ | with_reducible refine Follows.ite ?_ ?_ 
    | fail_if_no_progress (with_reducible refine mk_follows ?_ rfl rfl) | fail_if_no_progress intros | split | extract_lets | dsimp only | dsimp +zetaDelta only)

theorem flushQueue_follows {s0 s : State} (h : Follows s0 s) (slot : Nat) :
    Follows s0 (flushQueue slot s).2 := by
  unfold flushQueue
  repeat' (first
    | with_reducible assumption | with_reducible exact Follows.refl _ | with_reducible refine Follows.ite ?_ ?_ | with_reducible refine forL_snd ?_ ?_ | with_reducible refine forL_third ?_ ?_ 
    | with_reducible refine forL_follows ?_ ?_ | with_reducible refine endRef_follows ?_ .. | with_reducible refine modPort_follows ?_ ..
    | fail_if_no_progress (with_reducible refine mk_follows ?_ rfl rfl) | fail_if_no_progress intros | split | extract_lets | dsimp only | dsimp +zetaDelta only)

end Sys2Proof.Machine
end

