-- ==== Sys2Proof/Laws/OperandsFollows.lean ====
section
/-! SUPPORT. Every operation of Operands follows. -/

set_option linter.unreachableTactic false
set_option linter.unusedTactic false

namespace Sys2Proof.Machine

theorem violate_follows {s0 s : State} (h : Follows s0 s) (opcode slot idx sub row seq item kind : Nat) :
    Follows s0 (violate opcode slot idx sub row seq item kind s) := by
  unfold violate
  repeat' (first
    | with_reducible assumption | with_reducible exact Follows.refl _ | with_reducible refine Follows.ite ?_ ?_ 
    | with_reducible refine inc_follows ?_ .. | with_reducible refine w1_follows ?_ ..
    | fail_if_no_progress (with_reducible refine mk_follows ?_ rfl rfl) | fail_if_no_progress intros | split | extract_lets | dsimp only | dsimp +zetaDelta only)

theorem catWriteAs_follows {s0 s : State} {eff : Nat → Nat → State → State} (h : Follows s0 s) (h_eff : ∀ i v b, Follows s0 b → Follows s0 (eff i v b)) (opcode : Nat) (w : WriteReq) (idx sub row : Nat) :
    Follows s0 (catWriteAs opcode w idx sub row eff s) := by
  unfold catWriteAs
  repeat' (first
    | with_reducible assumption | with_reducible exact Follows.refl _ | with_reducible refine Follows.ite ?_ ?_ 
    | with_reducible refine violate_follows ?_ ..
    | apply h_eff
    | fail_if_no_progress (with_reducible refine mk_follows ?_ rfl rfl) | fail_if_no_progress intros | split | extract_lets | dsimp only | dsimp +zetaDelta only)

theorem waitBehind_follows {s0 s : State} (h : Follows s0 s) (x : SealWait) :
    Follows s0 (waitBehind x s) := by
  unfold waitBehind
  repeat' (first
    | with_reducible assumption | with_reducible exact Follows.refl _ | with_reducible refine Follows.ite ?_ ?_ 
    | fail_if_no_progress (with_reducible refine mk_follows ?_ rfl rfl) | fail_if_no_progress intros | split | extract_lets | dsimp only | dsimp +zetaDelta only)

theorem catWrite_follows {s0 s : State} {eff : Nat → Nat → State → State} (h : Follows s0 s) (h_eff : ∀ i v b, Follows s0 b → Follows s0 (eff i v b)) (w : WriteReq) (idx sub row : Nat) :
    Follows s0 (catWrite w idx sub row eff s) := by
  unfold catWrite
  repeat' (first
    | with_reducible assumption | with_reducible exact Follows.refl _ | with_reducible refine Follows.ite ?_ ?_ 
    | with_reducible refine catWriteAs_follows ?_ ?_ .. | with_reducible refine waitBehind_follows ?_ ..
    | apply h_eff
    | fail_if_no_progress (with_reducible refine mk_follows ?_ rfl rfl) | fail_if_no_progress intros | split | extract_lets | dsimp only | dsimp +zetaDelta only)

theorem effStore_follows {s0 s : State} (h : Follows s0 s) (idx row : Nat) (st v : Nat) :
    Follows s0 (effStore idx row st v s) := by
  unfold effStore
  repeat' (first
    | with_reducible assumption | with_reducible exact Follows.refl _ | with_reducible refine Follows.ite ?_ ?_ 
    | with_reducible refine wr_follows ?_ ..
    | fail_if_no_progress (with_reducible refine mk_follows ?_ rfl rfl) | fail_if_no_progress intros | split | extract_lets | dsimp only | dsimp +zetaDelta only)

theorem effBool_follows {s0 s : State} {f : Nat → State → State} (h : Follows s0 s) (h_f : ∀ i b, Follows s0 b → Follows s0 (f i b)) (st v : Nat) :
    Follows s0 (effBool f st v s) := by
  unfold effBool
  repeat' (first
    | with_reducible assumption | with_reducible exact Follows.refl _ | with_reducible refine Follows.ite ?_ ?_ 
    | apply h_f
    | fail_if_no_progress (with_reducible refine mk_follows ?_ rfl rfl) | fail_if_no_progress intros | split | extract_lets | dsimp only | dsimp +zetaDelta only)

end Sys2Proof.Machine
end

