-- ==== Sys2Proof/Laws/GatesFollows.lean ====
section
/-! SUPPORT. Every operation of Gates follows. -/

set_option linter.unreachableTactic false
set_option linter.unusedTactic false

namespace Sys2Proof.Machine

theorem setGate_follows {s0 s : State} (h : Follows s0 s) (slot : Nat) (g : GateSt) :
    Follows s0 (setGate slot g s) := by
  unfold setGate
  repeat' (first
    | with_reducible assumption | with_reducible exact Follows.refl _ | with_reducible refine Follows.ite ?_ ?_ 
    | fail_if_no_progress (with_reducible refine mk_follows ?_ rfl rfl) | fail_if_no_progress intros | split | extract_lets | dsimp only | dsimp +zetaDelta only)

theorem syncGate_follows {s0 s : State} (h : Follows s0 s) (slot : Nat) :
    Follows s0 (syncGate slot s) := by
  unfold syncGate
  repeat' (first
    | with_reducible assumption | with_reducible exact Follows.refl _ | with_reducible refine Follows.ite ?_ ?_ 
    | with_reducible refine w1_follows ?_ .. | with_reducible refine setGate_follows ?_ ..
    | fail_if_no_progress (with_reducible refine mk_follows ?_ rfl rfl) | fail_if_no_progress intros | split | extract_lets | dsimp only | dsimp +zetaDelta only)

theorem judgePromotion_follows {s0 s : State} (h : Follows s0 s) (slot c : Nat) :
    Follows s0 (judgePromotion slot c s) := by
  unfold judgePromotion
  repeat' (first
    | with_reducible assumption | with_reducible exact Follows.refl _ | with_reducible refine Follows.ite ?_ ?_ 
    | with_reducible refine w1_follows ?_ ..
    | fail_if_no_progress (with_reducible refine mk_follows ?_ rfl rfl) | fail_if_no_progress intros | split | extract_lets | dsimp only | dsimp +zetaDelta only)

theorem judgeDeferral_follows {s0 s : State} (h : Follows s0 s) (slot c : Nat) :
    Follows s0 (judgeDeferral slot c s) := by
  unfold judgeDeferral
  repeat' (first
    | with_reducible assumption | with_reducible exact Follows.refl _ | with_reducible refine Follows.ite ?_ ?_ 
    | with_reducible refine classEvent_follows ?_ .. | with_reducible refine inc_follows ?_ .. | with_reducible refine modPort_follows ?_ ..
    | fail_if_no_progress (with_reducible refine mk_follows ?_ rfl rfl) | fail_if_no_progress intros | split | extract_lets | dsimp only | dsimp +zetaDelta only)

theorem judgeGates_follows {s0 s : State} (h : Follows s0 s) :
    Follows s0 (judgeGates s) := by
  unfold judgeGates
  repeat' (first
    | with_reducible assumption | with_reducible exact Follows.refl _ | with_reducible refine Follows.ite ?_ ?_ | with_reducible refine forL_snd ?_ ?_ | with_reducible refine forL_third ?_ ?_ | with_reducible refine forN_snd ?_ ?_ | with_reducible refine forN_third ?_ ?_ 
    | with_reducible refine forL_follows ?_ ?_ | with_reducible refine syncGate_follows ?_ .. | with_reducible refine forN_follows ?_ ?_ | with_reducible refine judgeDeferral_follows ?_ ..
    | fail_if_no_progress (with_reducible refine mk_follows ?_ rfl rfl) | fail_if_no_progress intros | split | extract_lets | dsimp only | dsimp +zetaDelta only)

/-- Time runs on or stands; the ledgers of the programmable counters take the cycles (R13, R371). -/
theorem advanceTo_follows {s0 s : State} (h : Follows s0 s) (t : Nat) : Follows s0 (advanceTo t s) := by
  unfold advanceTo
  split
  · exact h
  · exact h.trans ⟨⟨rfl, by simp only; omega, List.prefix_rfl, id, rfl, rfl⟩, rfl⟩

theorem elapse_follows {s0 s : State} (h : Follows s0 s) (dt : Nat) :
    Follows s0 (elapse dt s) := by
  unfold elapse
  repeat' (first
    | with_reducible assumption | with_reducible exact Follows.refl _ | with_reducible refine Follows.ite ?_ ?_ 
    | with_reducible refine advanceTo_follows ?_ ..
    | fail_if_no_progress (with_reducible refine mk_follows ?_ rfl rfl) | fail_if_no_progress intros | split | extract_lets | dsimp only | dsimp +zetaDelta only)

theorem advanceToReading_follows {s0 s : State} (h : Follows s0 s) (v : Nat) :
    Follows s0 (advanceToReading v s) := by
  unfold advanceToReading
  repeat' (first
    | with_reducible assumption | with_reducible exact Follows.refl _ | with_reducible refine Follows.ite ?_ ?_ 
    | with_reducible refine advanceTo_follows ?_ ..
    | fail_if_no_progress (with_reducible refine mk_follows ?_ rfl rfl) | fail_if_no_progress intros | split | extract_lets | dsimp only | dsimp +zetaDelta only)

theorem passCore_follows {s0 s : State} (h : Follows s0 s) (dt : Nat) :
    Follows s0 (passCore dt s) := by
  unfold passCore
  repeat' (first
    | with_reducible assumption | with_reducible exact Follows.refl _ | with_reducible refine Follows.ite ?_ ?_ 
    | with_reducible refine judgeGates_follows ?_ .. | with_reducible refine elapse_follows ?_ ..
    | fail_if_no_progress (with_reducible refine mk_follows ?_ rfl rfl) | fail_if_no_progress intros | split | extract_lets | dsimp only | dsimp +zetaDelta only)

theorem gatesAfterStep_follows {s0 s : State} (h : Follows s0 s) :
    Follows s0 (gatesAfterStep s) := by
  unfold gatesAfterStep
  repeat' (first
    | with_reducible assumption | with_reducible exact Follows.refl _ | with_reducible refine Follows.ite ?_ ?_ | with_reducible refine forL_snd ?_ ?_ | with_reducible refine forL_third ?_ ?_ 
    | with_reducible refine forL_follows ?_ ?_ | with_reducible refine syncGate_follows ?_ .. | with_reducible refine inc_follows ?_ .. | with_reducible refine raise_follows ?_ ..
    | fail_if_no_progress (with_reducible refine mk_follows ?_ rfl rfl) | fail_if_no_progress intros | split | extract_lets | dsimp only | dsimp +zetaDelta only)

theorem pendSwitch_follows {s0 s : State} (h : Follows s0 s) (slot : Nat) (old : Sched) :
    Follows s0 (pendSwitch slot old s) := by
  unfold pendSwitch
  repeat' (first
    | with_reducible assumption | with_reducible exact Follows.refl _ | with_reducible refine Follows.ite ?_ ?_ 
    | with_reducible refine syncGate_follows ?_ .. | with_reducible refine w1_follows ?_ .. | with_reducible refine setGate_follows ?_ ..
    | fail_if_no_progress (with_reducible refine mk_follows ?_ rfl rfl) | fail_if_no_progress intros | split | extract_lets | dsimp only | dsimp +zetaDelta only)

theorem execGateEntryBoundary_ends {s0 s : State} (h : Follows s0 s) (port : Fin 64) :
    Ends s0 (execGateEntryBoundary port s) := by
  unfold execGateEntryBoundary
  repeat' (first
    | with_reducible assumption | with_reducible exact Follows.refl _ | with_reducible refine Ends.of ?_ | with_reducible refine Ends.ite ?_ ?_ | with_reducible refine Follows.ite ?_ ?_ 
    | with_reducible refine judgeGates_follows ?_ .. | with_reducible refine advanceToReading_follows ?_ ..
    | fail_if_no_progress (with_reducible refine mk_follows ?_ rfl rfl) | fail_if_no_progress intros | split | extract_lets | dsimp only | dsimp +zetaDelta only)

theorem execGateListSwitch_ends {s0 s : State} (h : Follows s0 s) (port : Fin 64) :
    Ends s0 (execGateListSwitch port s) := by
  unfold execGateListSwitch
  repeat' (first
    | with_reducible assumption | with_reducible exact Follows.refl _ | with_reducible refine Ends.of ?_ | with_reducible refine Ends.ite ?_ ?_ | with_reducible refine Follows.ite ?_ ?_ 
    | with_reducible refine judgeGates_follows ?_ .. | with_reducible refine advanceToReading_follows ?_ ..
    | fail_if_no_progress (with_reducible refine mk_follows ?_ rfl rfl) | fail_if_no_progress intros | split | extract_lets | dsimp only | dsimp +zetaDelta only)

theorem execStarvePromotion_ends {s0 s : State} (h : Follows s0 s) (port : Fin 64) (cls : Fin 8) :
    Ends s0 (execStarvePromotion port cls s) := by
  unfold execStarvePromotion
  repeat' (first
    | with_reducible assumption | with_reducible exact Follows.refl _ | with_reducible refine Ends.of ?_ | with_reducible refine Ends.ite ?_ ?_ | with_reducible refine Follows.ite ?_ ?_ 
    | with_reducible refine advanceTo_follows ?_ .. | with_reducible refine inc_follows ?_ .. | with_reducible refine w1_follows ?_ ..
    | fail_if_no_progress (with_reducible refine mk_follows ?_ rfl rfl) | fail_if_no_progress intros | split | extract_lets | dsimp only | dsimp +zetaDelta only)

end Sys2Proof.Machine
end

