-- ==== Sys2Proof/Laws/CapturesFollows.lean ====
section
/-! SUPPORT. Every operation of Captures follows. -/

set_option linter.unreachableTactic false
set_option linter.unusedTactic false

namespace Sys2Proof.Machine

theorem modOpn_follows {s0 s : State} (h : Follows s0 s) (f : Opn → Opn) :
    Follows s0 (modOpn f s) := by
  unfold modOpn
  repeat' (first
    | with_reducible assumption | with_reducible exact Follows.refl _ | with_reducible refine Follows.ite ?_ ?_ 
    | fail_if_no_progress (with_reducible refine mk_follows ?_ rfl rfl) | fail_if_no_progress intros | split | extract_lets | dsimp only | dsimp +zetaDelta only)

theorem setBank_follows {s0 s : State} (h : Follows s0 s) (b : Nat) (x : Bank) :
    Follows s0 (setBank b x s) := by
  unfold setBank
  repeat' (first
    | with_reducible assumption | with_reducible exact Follows.refl _ | with_reducible refine Follows.ite ?_ ?_ 
    | with_reducible refine modOpn_follows ?_ ..
    | fail_if_no_progress (with_reducible refine mk_follows ?_ rfl rfl) | fail_if_no_progress intros | split | extract_lets | dsimp only | dsimp +zetaDelta only)

theorem captureBank_follows {s0 s : State} (h : Follows s0 s) (b : Nat) :
    Follows s0 (captureBank b s) := by
  unfold captureBank
  repeat' (first
    | with_reducible assumption | with_reducible exact Follows.refl _ | with_reducible refine Follows.ite ?_ ?_ | with_reducible refine forN_snd ?_ ?_ | with_reducible refine forN_third ?_ ?_ 
    | with_reducible refine forN_follows ?_ ?_ | with_reducible refine settleHolds_follows ?_ .. | with_reducible refine judgeGates_follows ?_ .. | with_reducible refine setBank_follows ?_ ..
    | fail_if_no_progress (with_reducible refine mk_follows ?_ rfl rfl) | fail_if_no_progress intros | split | extract_lets | dsimp only | dsimp +zetaDelta only)

theorem captureDue_follows {s0 s : State} (h : Follows s0 s) :
    Follows s0 (captureDue s) := by
  unfold captureDue
  repeat' (first
    | with_reducible assumption | with_reducible exact Follows.refl _ | with_reducible refine Follows.ite ?_ ?_ 
    | with_reducible refine captureBank_follows ?_ ..
    | fail_if_no_progress (with_reducible refine mk_follows ?_ rfl rfl) | fail_if_no_progress intros | split | extract_lets | dsimp only | dsimp +zetaDelta only)

theorem effClear_follows {s0 s : State} {f : Nat → State → State} (h : Follows s0 s) (h_f : ∀ i b, Follows s0 b → Follows s0 (f i b)) (st v : Nat) :
    Follows s0 (effClear f st v s) := by
  unfold effClear
  repeat' (first
    | with_reducible assumption | with_reducible exact Follows.refl _ | with_reducible refine Follows.ite ?_ ?_ 
    | with_reducible refine effBool_follows ?_ ?_ .. | with_reducible refine captureDue_follows ?_ ..
    | apply h_f
    | fail_if_no_progress (with_reducible refine mk_follows ?_ rfl rfl) | fail_if_no_progress intros | split | extract_lets | dsimp only | dsimp +zetaDelta only)

end Sys2Proof.Machine
end

