-- ==== Sys2Proof/Laws/CombinerFollows.lean ====
section
/-! SUPPORT. Every operation of Combiner follows. -/

set_option linter.unreachableTactic false
set_option linter.unusedTactic false

namespace Sys2Proof.Machine

theorem layoutStore_follows {s0 s : State} (h : Follows s0 s) :
    Follows s0 (layoutStore s) := by
  unfold layoutStore
  repeat' (first
    | with_reducible assumption | with_reducible exact Follows.refl _ | with_reducible refine Follows.ite ?_ ?_ | with_reducible refine forN_snd ?_ ?_ | with_reducible refine forN_third ?_ ?_ 
    | with_reducible refine wr_follows ?_ .. | with_reducible refine forN_follows ?_ ?_ | with_reducible refine w0_follows ?_ .. | with_reducible refine setLive_follows ?_ ..
    | fail_if_no_progress (with_reducible refine mk_follows ?_ rfl rfl) | fail_if_no_progress intros | split | extract_lets | dsimp only | dsimp +zetaDelta only)

theorem ctrCount_follows {s0 s : State} (h : Follows s0 s) (idx row : Nat) :
    Follows s0 (ctrCount idx row s) := by
  unfold ctrCount
  repeat' (first
    | with_reducible assumption | with_reducible exact Follows.refl _ | with_reducible refine Follows.ite ?_ ?_ 
    | with_reducible refine count_follows ?_ ..
    | fail_if_no_progress (with_reducible refine mk_follows ?_ rfl rfl) | fail_if_no_progress intros | split | extract_lets | dsimp only | dsimp +zetaDelta only)

theorem replaceWindow_follows {s0 s : State} (h : Follows s0 s) (w : Window) :
    Follows s0 (replaceWindow w s) := by
  unfold replaceWindow
  repeat' (first
    | with_reducible assumption | with_reducible exact Follows.refl _ | with_reducible refine Follows.ite ?_ ?_ 
    | fail_if_no_progress (with_reducible refine mk_follows ?_ rfl rfl) | fail_if_no_progress intros | split | extract_lets | dsimp only | dsimp +zetaDelta only)

theorem sectionLate_follows {s0 s : State} (h : Follows s0 s) (row : Nat) :
    Follows s0 (sectionLate row s) := by
  unfold sectionLate
  repeat' (first
    | with_reducible assumption | with_reducible exact Follows.refl _ | with_reducible refine Follows.ite ?_ ?_ 
    | with_reducible refine perfEvent_follows ?_ .. | with_reducible refine ctrCount_follows ?_ ..
    | fail_if_no_progress (with_reducible refine mk_follows ?_ rfl rfl) | fail_if_no_progress intros | split | extract_lets | dsimp only | dsimp +zetaDelta only)

theorem judgeSection_follows {s0 s : State} (h : Follows s0 s) (row arrival : Nat) (x : Section) :
    Follows s0 (judgeSection row arrival x s) := by
  unfold judgeSection
  repeat' (first
    | with_reducible assumption | with_reducible exact Follows.refl _ | with_reducible refine Follows.ite ?_ ?_ 
    | with_reducible refine ctrCount_follows ?_ .. | with_reducible refine sectionLate_follows ?_ .. | with_reducible refine perfEvent_follows ?_ .. | with_reducible refine count_follows ?_ .. | with_reducible refine replaceWindow_follows ?_ ..
    | fail_if_no_progress (with_reducible refine mk_follows ?_ rfl rfl) | fail_if_no_progress intros | split | extract_lets | dsimp only | dsimp +zetaDelta only)

theorem processContribution_follows {s0 s : State} (h : Follows s0 s) (c : Contribution) :
    Follows s0 (processContribution c s) := by
  unfold processContribution
  repeat' (first
    | with_reducible assumption | with_reducible exact Follows.refl _ | with_reducible refine Follows.ite ?_ ?_ | with_reducible refine forL_snd ?_ ?_ | with_reducible refine forL_third ?_ ?_ 
    | with_reducible refine forL_follows ?_ ?_ | with_reducible refine ctrCount_follows ?_ .. | with_reducible refine judgeSection_follows ?_ .. | with_reducible refine endRef_follows ?_ ..
    | fail_if_no_progress (with_reducible refine mk_follows ?_ rfl rfl) | fail_if_no_progress intros | split | extract_lets | dsimp only | dsimp +zetaDelta only)

theorem combinerRefuses_follows {s0 s b : State} (h : Follows s0 b) (f : State → State)
    (hf : combinerRefuses s = some f) : Follows s0 (f b) := by
  unfold combinerRefuses at hf
  split at hf
  · cases hf; exact inc0_follows h _
  · split at hf
    · cases hf; exact inc0_follows h _
    · cases hf

theorem drainBefore_follows {s0 s : State} (h : Follows s0 s) (v : Nat) :
    Follows s0 (drainBefore v s) := by
  unfold drainBefore
  repeat' (first
    | with_reducible assumption | with_reducible exact Follows.refl _ | with_reducible refine Follows.ite ?_ ?_ | with_reducible refine forL_snd ?_ ?_ | with_reducible refine forL_third ?_ ?_ 
    | with_reducible refine forL_follows ?_ ?_ | with_reducible refine processContribution_follows ?_ ..
    | fail_if_no_progress (with_reducible refine mk_follows ?_ rfl rfl) | fail_if_no_progress intros | split | extract_lets | dsimp only | dsimp +zetaDelta only)

theorem placeFrame_follows {s0 s : State} (h : Follows s0 s) (origin : FrameOrigin) (cls vid : Nat) (bytes : Bytes) (slot : Nat) :
    Follows s0 (placeFrame origin cls vid bytes slot s) := by
  unfold placeFrame
  repeat' (first
    | with_reducible assumption | with_reducible exact Follows.refl _ | with_reducible refine Follows.ite ?_ ?_ | with_reducible refine forN_snd ?_ ?_ | with_reducible refine forN_third ?_ ?_ 
    | with_reducible refine judgeGates_follows ?_ .. | with_reducible refine forN_follows ?_ ?_ | with_reducible refine freeLoad_follows ?_ .. | with_reducible refine setFrame_follows ?_ .. | with_reducible refine noteMinFree_follows ?_ .. | with_reducible refine perfEvent_follows ?_ .. | with_reducible refine enqueue_follows ?_ ..
    | fail_if_no_progress (with_reducible refine mk_follows ?_ rfl rfl) | fail_if_no_progress intros | split | extract_lets | dsimp only | dsimp +zetaDelta only)

theorem sendManagement_follows {s0 s : State} (h : Follows s0 s) (slot : Nat) (bytes : Bytes) :
    Follows s0 (sendManagement slot bytes s) := by
  unfold sendManagement
  repeat' (first
    | with_reducible assumption | with_reducible exact Follows.refl _ | with_reducible refine Follows.ite ?_ ?_ 
    | with_reducible refine inc0_follows ?_ .. | with_reducible refine placeFrame_follows ?_ ..
    | fail_if_no_progress (with_reducible refine mk_follows ?_ rfl rfl) | fail_if_no_progress intros | split | extract_lets | dsimp only | dsimp +zetaDelta only)

theorem sendOutput_follows {s0 s : State} (h : Follows s0 s) (g : Nat) (r : Nat) (bytes : Bytes) :
    Follows s0 (sendOutput g r bytes s) := by
  unfold sendOutput
  repeat' (first
    | with_reducible assumption | with_reducible exact Follows.refl _ | with_reducible refine Follows.ite ?_ ?_ 
    | with_reducible refine inc0_follows ?_ .. | with_reducible refine count_follows ?_ .. | with_reducible refine placeFrame_follows ?_ .. | with_reducible refine setAcct_follows ?_ .. | with_reducible refine raise_follows ?_ ..
    | fail_if_no_progress (with_reducible refine mk_follows ?_ rfl rfl) | fail_if_no_progress intros | split | extract_lets | dsimp only | dsimp +zetaDelta only)

theorem nextSeq_follows {s0 s : State} (h : Follows s0 s) (k : Nat) :
    Follows s0 (nextSeq k s).2 := by
  unfold nextSeq
  repeat' (first
    | with_reducible assumption | with_reducible exact Follows.refl _ | with_reducible refine Follows.ite ?_ ?_ 
    | fail_if_no_progress (with_reducible refine mk_follows ?_ rfl rfl) | fail_if_no_progress intros | split | extract_lets | dsimp only | dsimp +zetaDelta only)

theorem emitStream_follows {s0 s : State} (h : Follows s0 s) (w : Window) (st : Nat) :
    Follows s0 (emitStream w st s) := by
  unfold emitStream
  repeat' (first
    | with_reducible assumption | with_reducible exact Follows.refl _ | with_reducible refine Follows.ite ?_ ?_ | with_reducible refine foldl_follows ?_ ?_ | with_reducible refine foldl_snd ?_ ?_ | with_reducible refine forL_snd ?_ ?_ | with_reducible refine forL_third ?_ ?_ | with_reducible refine forN_snd ?_ ?_ | with_reducible refine forN_third ?_ ?_ 
    | with_reducible refine count_follows ?_ .. | with_reducible refine raise_follows ?_ .. | with_reducible refine w1_follows ?_ .. | with_reducible refine forN_follows ?_ ?_ | with_reducible refine forL_follows ?_ ?_ | with_reducible refine nextSeq_follows ?_ .. | with_reducible refine sendOutput_follows ?_ ..
    | fail_if_no_progress (with_reducible refine mk_follows ?_ rfl rfl) | fail_if_no_progress intros | split | extract_lets | dsimp only | dsimp +zetaDelta only)

theorem closeWindow_follows {s0 s : State} (h : Follows s0 s) (w : Window) :
    Follows s0 (closeWindow w s) := by
  unfold closeWindow
  repeat' (first
    | with_reducible assumption | with_reducible exact Follows.refl _ | with_reducible refine Follows.ite ?_ ?_ | with_reducible refine forN_snd ?_ ?_ | with_reducible refine forN_third ?_ ?_ 
    | with_reducible refine forN_follows ?_ ?_ | with_reducible refine emitStream_follows ?_ ..
    | fail_if_no_progress (with_reducible refine mk_follows ?_ rfl rfl) | fail_if_no_progress intros | split | extract_lets | dsimp only | dsimp +zetaDelta only)

theorem forceClose_follows {s0 s : State} (h : Follows s0 s) (ws : List Window) :
    Follows s0 (forceClose ws s) := by
  unfold forceClose
  repeat' (first
    | with_reducible assumption | with_reducible exact Follows.refl _ | with_reducible refine Follows.ite ?_ ?_ | with_reducible refine forL_snd ?_ ?_ | with_reducible refine forL_third ?_ ?_ 
    | with_reducible refine drainBefore_follows ?_ .. | with_reducible refine forL_follows ?_ ?_ | with_reducible refine count_follows ?_ .. | with_reducible refine closeWindow_follows ?_ ..
    | fail_if_no_progress (with_reducible refine mk_follows ?_ rfl rfl) | fail_if_no_progress intros | split | extract_lets | dsimp only | dsimp +zetaDelta only)

theorem combinerBeforeStep_follows {s0 s : State} (h : Follows s0 s) :
    Follows s0 (combinerBeforeStep s) := by
  unfold combinerBeforeStep
  repeat' (first
    | with_reducible assumption | with_reducible exact Follows.refl _ | with_reducible refine Follows.ite ?_ ?_ 
    | with_reducible refine forceClose_follows ?_ ..
    | fail_if_no_progress (with_reducible refine mk_follows ?_ rfl rfl) | fail_if_no_progress intros | split | extract_lets | dsimp only | dsimp +zetaDelta only)

theorem combinerEntersUnset_follows {s0 s : State} (h : Follows s0 s) :
    Follows s0 (combinerEntersUnset s) := by
  unfold combinerEntersUnset
  repeat' (first
    | with_reducible assumption | with_reducible exact Follows.refl _ | with_reducible refine Follows.ite ?_ ?_ | with_reducible refine forL_snd ?_ ?_ | with_reducible refine forL_third ?_ ?_ 
    | with_reducible refine forL_follows ?_ ?_ | with_reducible refine endRef_follows ?_ .. | with_reducible refine inc0_follows ?_ ..
    | fail_if_no_progress (with_reducible refine mk_follows ?_ rfl rfl) | fail_if_no_progress intros | split | extract_lets | dsimp only | dsimp +zetaDelta only)

theorem combinerLeavesUnset_follows {s0 s : State} (h : Follows s0 s) :
    Follows s0 (combinerLeavesUnset s) := by
  unfold combinerLeavesUnset
  repeat' (first
    | with_reducible assumption | with_reducible exact Follows.refl _ | with_reducible refine Follows.ite ?_ ?_ 
    | fail_if_no_progress (with_reducible refine mk_follows ?_ rfl rfl) | fail_if_no_progress intros | split | extract_lets | dsimp only | dsimp +zetaDelta only)

theorem switchTables_follows {s0 s : State} (h : Follows s0 s) :
    Follows s0 (switchTables s) := by
  unfold switchTables
  repeat' (first
    | with_reducible assumption | with_reducible exact Follows.refl _ | with_reducible refine Follows.ite ?_ ?_ 
    | with_reducible refine forceClose_follows ?_ .. | with_reducible refine w0_follows ?_ .. | with_reducible refine layoutStore_follows ?_ ..
    | fail_if_no_progress (with_reducible refine mk_follows ?_ rfl rfl) | fail_if_no_progress intros | split | extract_lets | dsimp only | dsimp +zetaDelta only)

theorem overdueSwitch_follows {s0 s : State} (h : Follows s0 s) :
    Follows s0 (overdueSwitch s) := by
  unfold overdueSwitch
  repeat' (first
    | with_reducible assumption | with_reducible exact Follows.refl _ | with_reducible refine Follows.ite ?_ ?_ 
    | with_reducible refine switchTables_follows ?_ ..
    | fail_if_no_progress (with_reducible refine mk_follows ?_ rfl rfl) | fail_if_no_progress intros | split | extract_lets | dsimp only | dsimp +zetaDelta only)

theorem pendTables_follows {s0 s : State} (h : Follows s0 s) (old : CombTables) :
    Follows s0 (pendTables old s) := by
  unfold pendTables
  repeat' (first
    | with_reducible assumption | with_reducible exact Follows.refl _ | with_reducible refine Follows.ite ?_ ?_ 
    | with_reducible refine w0_follows ?_ .. | with_reducible refine switchTables_follows ?_ ..
    | fail_if_no_progress (with_reducible refine mk_follows ?_ rfl rfl) | fail_if_no_progress intros | split | extract_lets | dsimp only | dsimp +zetaDelta only)

theorem execWindowOpen_ends {s0 s : State} (h : Follows s0 s) (group : Fin 256) (row : Fin 56) :
    Ends s0 (execWindowOpen group row s) := by
  unfold execWindowOpen
  repeat' (first
    | with_reducible assumption | with_reducible exact Follows.refl _ | with_reducible refine Ends.of ?_ | with_reducible refine Ends.ite ?_ ?_ | with_reducible refine Follows.ite ?_ ?_ 
    | with_reducible refine advanceToReading_follows ?_ .. | with_reducible refine forceClose_follows ?_ ..
    | fail_if_no_progress (with_reducible refine mk_follows ?_ rfl rfl) | fail_if_no_progress intros | split | extract_lets | dsimp only | dsimp +zetaDelta only)

theorem execCombinerAdd_ends {s0 s : State} (h : Follows s0 s) :
    Ends s0 (execCombinerAdd s) := by
  unfold execCombinerAdd
  repeat' (first
    | with_reducible assumption | with_reducible exact Follows.refl _ | with_reducible refine Ends.of ?_ | with_reducible refine Ends.ite ?_ ?_ | with_reducible refine Follows.ite ?_ ?_ 
    | with_reducible refine processContribution_follows ?_ ..
    | fail_if_no_progress (with_reducible refine mk_follows ?_ rfl rfl) | fail_if_no_progress intros | split | extract_lets | dsimp only | dsimp +zetaDelta only)

theorem execWindowClose_ends {s0 s : State} (h : Follows s0 s) (group : Fin 256) :
    Ends s0 (execWindowClose group s) := by
  unfold execWindowClose
  repeat' (first
    | with_reducible assumption | with_reducible exact Follows.refl _ | with_reducible refine Ends.of ?_ | with_reducible refine Ends.ite ?_ ?_ | with_reducible refine Follows.ite ?_ ?_ | with_reducible refine foldl_follows ?_ ?_ | with_reducible refine foldl_snd ?_ ?_ 
    | with_reducible refine advanceToReading_follows ?_ .. | with_reducible refine closeWindow_follows ?_ .. | with_reducible refine drainBefore_follows ?_ ..
    | fail_if_no_progress (with_reducible refine mk_follows ?_ rfl rfl) | fail_if_no_progress intros | split | extract_lets | dsimp only | dsimp +zetaDelta only)

theorem execCombinerConfigSwitch_ends {s0 s : State} (h : Follows s0 s) :
    Ends s0 (execCombinerConfigSwitch s) := by
  unfold execCombinerConfigSwitch
  repeat' (first
    | with_reducible assumption | with_reducible exact Follows.refl _ | with_reducible refine Ends.of ?_ | with_reducible refine Ends.ite ?_ ?_ | with_reducible refine Follows.ite ?_ ?_ 
    | with_reducible refine switchTables_follows ?_ .. | with_reducible refine advanceToReading_follows ?_ ..
    | fail_if_no_progress (with_reducible refine mk_follows ?_ rfl rfl) | fail_if_no_progress intros | split | extract_lets | dsimp only | dsimp +zetaDelta only)

theorem clearCombiner_follows {s0 s : State} (h : Follows s0 s) :
    Follows s0 (clearCombiner s) := by
  unfold clearCombiner
  repeat' (first
    | with_reducible assumption | with_reducible exact Follows.refl _ | with_reducible refine Follows.ite ?_ ?_ 
    | with_reducible refine dropRange_follows ?_ .. | with_reducible refine dropIdx_follows ?_ ..
    | fail_if_no_progress (with_reducible refine mk_follows ?_ rfl rfl) | fail_if_no_progress intros | split | extract_lets | dsimp only | dsimp +zetaDelta only)

theorem execCombinerCounterClear_ends {s0 s : State} (h : Follows s0 s) (w : WriteReq) :
    Ends s0 (execCombinerCounterClear w s) := by
  unfold execCombinerCounterClear
  repeat' (first
    | with_reducible assumption | with_reducible exact Follows.refl _ | with_reducible refine Ends.of ?_ | with_reducible refine Ends.ite ?_ ?_ | with_reducible refine Follows.ite ?_ ?_ 
    | with_reducible refine catWrite_follows ?_ ?_ .. | with_reducible refine effClear_follows ?_ ?_ .. | with_reducible refine clearCombiner_follows ?_ ..
    | fail_if_no_progress (with_reducible refine mk_follows ?_ rfl rfl) | fail_if_no_progress intros | split | extract_lets | dsimp only | dsimp +zetaDelta only)

end Sys2Proof.Machine
end

