-- ==== Sys2Proof/Laws/CountersFollows.lean ====
section
/-! SUPPORT. Every operation of Counters follows. -/

set_option linter.unreachableTactic false
set_option linter.unusedTactic false

namespace Sys2Proof.Machine

theorem perfGates_follows {s0 s : State} (h : Follows s0 s) (k : Nat) :
    Follows s0 (perfGates k s) := by
  unfold perfGates
  repeat' (first
    | with_reducible assumption | with_reducible exact Follows.refl _ | with_reducible refine Follows.ite ?_ ?_ 
    | with_reducible refine setPerf_follows ?_ ..
    | fail_if_no_progress (with_reducible refine mk_follows ?_ rfl rfl) | fail_if_no_progress intros | split | extract_lets | dsimp only | dsimp +zetaDelta only)

theorem perfTick_follows {s0 s : State} (h : Follows s0 s) :
    Follows s0 (perfTick s) := by
  unfold perfTick
  repeat' (first
    | with_reducible assumption | with_reducible exact Follows.refl _ | with_reducible refine Follows.ite ?_ ?_ | with_reducible refine forN_snd ?_ ?_ | with_reducible refine forN_third ?_ ?_ 
    | with_reducible refine forN_follows ?_ ?_ | with_reducible refine perfGates_follows ?_ .. | with_reducible refine perfNow_follows ?_ ..
    | fail_if_no_progress (with_reducible refine mk_follows ?_ rfl rfl) | fail_if_no_progress intros | split | extract_lets | dsimp only | dsimp +zetaDelta only)

theorem effPerfConfig_follows {s0 s : State} (h : Follows s0 s) (idx last : Nat) (k v : Nat) :
    Follows s0 (effPerfConfig idx last k v s) := by
  unfold effPerfConfig
  repeat' (first
    | with_reducible assumption | with_reducible exact Follows.refl _ | with_reducible refine Follows.ite ?_ ?_ 
    | with_reducible refine w1_follows ?_ .. | with_reducible refine perfAdd_follows ?_ .. | with_reducible refine perfFlush_follows ?_ .. | with_reducible refine setPerf_follows ?_ ..
    | fail_if_no_progress (with_reducible refine mk_follows ?_ rfl rfl) | fail_if_no_progress intros | split | extract_lets | dsimp only | dsimp +zetaDelta only)

theorem execPerfConfigWrite_ends {s0 s : State} (h : Follows s0 s) (counter : Fin 64) (gate : Bool) (last : Nat) (w : WriteReq) :
    Ends s0 (execPerfConfigWrite counter gate last w s) := by
  unfold execPerfConfigWrite
  repeat' (first
    | with_reducible assumption | with_reducible exact Follows.refl _ | with_reducible refine Ends.of ?_ | with_reducible refine Ends.ite ?_ ?_ | with_reducible refine Follows.ite ?_ ?_ 
    | with_reducible refine catWrite_follows ?_ ?_ .. | with_reducible refine effPerfConfig_follows ?_ ..
    | fail_if_no_progress (with_reducible refine mk_follows ?_ rfl rfl) | fail_if_no_progress intros | split | extract_lets | dsimp only | dsimp +zetaDelta only)

theorem effPerfPreset_follows {s0 s : State} (h : Follows s0 s) (last : Nat) (k v : Nat) :
    Follows s0 (effPerfPreset last k v s) := by
  unfold effPerfPreset
  repeat' (first
    | with_reducible assumption | with_reducible exact Follows.refl _ | with_reducible refine Follows.ite ?_ ?_ 
    | with_reducible refine perfFlush_follows ?_ .. | with_reducible refine perfAdd_follows ?_ .. | with_reducible refine setPerf_follows ?_ .. | with_reducible refine w1_follows ?_ ..
    | fail_if_no_progress (with_reducible refine mk_follows ?_ rfl rfl) | fail_if_no_progress intros | split | extract_lets | dsimp only | dsimp +zetaDelta only)

theorem effPerfThreshold_follows {s0 s : State} (h : Follows s0 s) (k v : Nat) :
    Follows s0 (effPerfThreshold k v s) := by
  unfold effPerfThreshold
  repeat' (first
    | with_reducible assumption | with_reducible exact Follows.refl _ | with_reducible refine Follows.ite ?_ ?_ 
    | with_reducible refine w1_follows ?_ .. | with_reducible refine perfFlush_follows ?_ ..
    | fail_if_no_progress (with_reducible refine mk_follows ?_ rfl rfl) | fail_if_no_progress intros | split | extract_lets | dsimp only | dsimp +zetaDelta only)

theorem execPerfCounterPreset_ends {s0 s : State} (h : Follows s0 s) (counter : Fin 64) (last : Nat) (w : WriteReq) :
    Ends s0 (execPerfCounterPreset counter last w s) := by
  unfold execPerfCounterPreset
  repeat' (first
    | with_reducible assumption | with_reducible exact Follows.refl _ | with_reducible refine Ends.of ?_ | with_reducible refine Ends.ite ?_ ?_ | with_reducible refine Follows.ite ?_ ?_ 
    | with_reducible refine catWrite_follows ?_ ?_ .. | with_reducible refine effPerfPreset_follows ?_ ..
    | fail_if_no_progress (with_reducible refine mk_follows ?_ rfl rfl) | fail_if_no_progress intros | split | extract_lets | dsimp only | dsimp +zetaDelta only)

theorem execPerfGateEnd_ends {s0 s : State} (h : Follows s0 s) (counter : Fin 64) :
    Ends s0 (execPerfGateEnd counter s) := by
  unfold execPerfGateEnd
  repeat' (first
    | with_reducible assumption | with_reducible exact Follows.refl _ | with_reducible refine Ends.of ?_ | with_reducible refine Ends.ite ?_ ?_ | with_reducible refine Follows.ite ?_ ?_ 
    | with_reducible refine perfGateEnd_follows ?_ ..
    | fail_if_no_progress (with_reducible refine mk_follows ?_ rfl rfl) | fail_if_no_progress intros | split | extract_lets | dsimp only | dsimp +zetaDelta only)

theorem effPerfOverflowClear_follows {s0 s : State} (h : Follows s0 s) (x1 v : Nat) :
    Follows s0 (effPerfOverflowClear x1 v s) := by
  unfold effPerfOverflowClear
  repeat' (first
    | with_reducible assumption | with_reducible exact Follows.refl _ | with_reducible refine Follows.ite ?_ ?_ 
    | with_reducible refine perfNow_follows ?_ .. | with_reducible refine w0_follows ?_ ..
    | fail_if_no_progress (with_reducible refine mk_follows ?_ rfl rfl) | fail_if_no_progress intros | split | extract_lets | dsimp only | dsimp +zetaDelta only)

theorem execPerfOverflowClear_ends {s0 s : State} (h : Follows s0 s) (w : WriteReq) :
    Ends s0 (execPerfOverflowClear w s) := by
  unfold execPerfOverflowClear
  repeat' (first
    | with_reducible assumption | with_reducible exact Follows.refl _ | with_reducible refine Ends.of ?_ | with_reducible refine Ends.ite ?_ ?_ | with_reducible refine Follows.ite ?_ ?_ 
    | with_reducible refine catWrite_follows ?_ ?_ .. | with_reducible refine effPerfOverflowClear_follows ?_ ..
    | fail_if_no_progress (with_reducible refine mk_follows ?_ rfl rfl) | fail_if_no_progress intros | split | extract_lets | dsimp only | dsimp +zetaDelta only)

theorem clearPortCounters_follows {s0 s : State} (h : Follows s0 s) (slot : Nat) :
    Follows s0 (clearPortCounters slot s) := by
  unfold clearPortCounters
  repeat' (first
    | with_reducible assumption | with_reducible exact Follows.refl _ | with_reducible refine Follows.ite ?_ ?_ 
    | with_reducible refine dropSub_follows ?_ .. | with_reducible refine settleHolds_follows ?_ ..
    | fail_if_no_progress (with_reducible refine mk_follows ?_ rfl rfl) | fail_if_no_progress intros | split | extract_lets | dsimp only | dsimp +zetaDelta only)

theorem resetPeaks_follows {s0 s : State} (h : Follows s0 s) :
    Follows s0 (resetPeaks s) := by
  unfold resetPeaks
  repeat' (first
    | with_reducible assumption | with_reducible exact Follows.refl _ | with_reducible refine Follows.ite ?_ ?_ | with_reducible refine forL_snd ?_ ?_ | with_reducible refine forL_third ?_ ?_ | with_reducible refine forN_snd ?_ ?_ | with_reducible refine forN_third ?_ ?_ 
    | with_reducible refine w0_follows ?_ .. | with_reducible refine dropRange_follows ?_ .. | with_reducible refine forL_follows ?_ ?_ | with_reducible refine forN_follows ?_ ?_ | with_reducible refine w1_follows ?_ ..
    | fail_if_no_progress (with_reducible refine mk_follows ?_ rfl rfl) | fail_if_no_progress intros | split | extract_lets | dsimp only | dsimp +zetaDelta only)

theorem clearCoreCounters_follows {s0 s : State} (h : Follows s0 s) :
    Follows s0 (clearCoreCounters s) := by
  unfold clearCoreCounters
  repeat' (first
    | with_reducible assumption | with_reducible exact Follows.refl _ | with_reducible refine Follows.ite ?_ ?_ 
    | with_reducible refine resetPeaks_follows ?_ .. | with_reducible refine dropRange_follows ?_ ..
    | fail_if_no_progress (with_reducible refine mk_follows ?_ rfl rfl) | fail_if_no_progress intros | split | extract_lets | dsimp only | dsimp +zetaDelta only)

theorem clearAllCounters_follows {s0 s : State} (h : Follows s0 s) : Follows s0 (clearAllCounters s) := by
  unfold clearAllCounters
  have k := forN_follows (n := 64) (f := settleHolds) (fun x b hb => settleHolds_follows hb x) (judgeGates_follows (perfNow_follows h))
  generalize forN 64 settleHolds (judgeGates (perfNow s)) = t at k ⊢
  have m := filter_follows k (fun e => !inRanges counterRanges (keyIdx e.1))
  dsimp only at m ⊢
  refine dropIdx_follows ?_ _
  exact m.keeps rfl rfl rfl rfl rfl rfl rfl

theorem clearGateCounters_follows {s0 s : State} (h : Follows s0 s) (slot : Nat) :
    Follows s0 (clearGateCounters slot s) := by
  unfold clearGateCounters
  repeat' (first
    | with_reducible assumption | with_reducible exact Follows.refl _ | with_reducible refine Follows.ite ?_ ?_ 
    | with_reducible refine judgeGates_follows ?_ .. | with_reducible refine dropSub_follows ?_ ..
    | fail_if_no_progress (with_reducible refine mk_follows ?_ rfl rfl) | fail_if_no_progress intros | split | extract_lets | dsimp only | dsimp +zetaDelta only)

theorem execGateCounterClear_ends {s0 s : State} (h : Follows s0 s) (port : Fin 64) (w : WriteReq) :
    Ends s0 (execGateCounterClear port w s) := by
  unfold execGateCounterClear
  repeat' (first
    | with_reducible assumption | with_reducible exact Follows.refl _ | with_reducible refine Ends.of ?_ | with_reducible refine Ends.ite ?_ ?_ | with_reducible refine Follows.ite ?_ ?_ 
    | with_reducible refine catWrite_follows ?_ ?_ .. | with_reducible refine effClear_follows ?_ ?_ .. | with_reducible refine clearGateCounters_follows ?_ ..
    | fail_if_no_progress (with_reducible refine mk_follows ?_ rfl rfl) | fail_if_no_progress intros | split | extract_lets | dsimp only | dsimp +zetaDelta only)

theorem execPortCounterClear_ends {s0 s : State} (h : Follows s0 s) (port : Fin 64) (w : WriteReq) :
    Ends s0 (execPortCounterClear port w s) := by
  unfold execPortCounterClear
  repeat' (first
    | with_reducible assumption | with_reducible exact Follows.refl _ | with_reducible refine Ends.of ?_ | with_reducible refine Ends.ite ?_ ?_ | with_reducible refine Follows.ite ?_ ?_ 
    | with_reducible refine catWrite_follows ?_ ?_ .. | with_reducible refine effClear_follows ?_ ?_ .. | with_reducible refine clearPortCounters_follows ?_ ..
    | fail_if_no_progress (with_reducible refine mk_follows ?_ rfl rfl) | fail_if_no_progress intros | split | extract_lets | dsimp only | dsimp +zetaDelta only)

theorem execClassRuleHitClear_ends {s0 s : State} (h : Follows s0 s) (w : WriteReq) :
    Ends s0 (execClassRuleHitClear w s) := by
  unfold execClassRuleHitClear
  repeat' (first
    | with_reducible assumption | with_reducible exact Follows.refl _ | with_reducible refine Ends.of ?_ | with_reducible refine Ends.ite ?_ ?_ | with_reducible refine Follows.ite ?_ ?_ 
    | with_reducible refine catWrite_follows ?_ ?_ .. | with_reducible refine effClear_follows ?_ ?_ .. | with_reducible refine dropIdx_follows ?_ ..
    | fail_if_no_progress (with_reducible refine mk_follows ?_ rfl rfl) | fail_if_no_progress intros | split | extract_lets | dsimp only | dsimp +zetaDelta only)

theorem execCoreCounterClear_ends {s0 s : State} (h : Follows s0 s) (w : WriteReq) :
    Ends s0 (execCoreCounterClear w s) := by
  unfold execCoreCounterClear
  repeat' (first
    | with_reducible assumption | with_reducible exact Follows.refl _ | with_reducible refine Ends.of ?_ | with_reducible refine Ends.ite ?_ ?_ | with_reducible refine Follows.ite ?_ ?_ 
    | with_reducible refine catWrite_follows ?_ ?_ .. | with_reducible refine effClear_follows ?_ ?_ .. | with_reducible refine clearCoreCounters_follows ?_ ..
    | fail_if_no_progress (with_reducible refine mk_follows ?_ rfl rfl) | fail_if_no_progress intros | split | extract_lets | dsimp only | dsimp +zetaDelta only)

theorem execCounterClearAll_ends {s0 s : State} (h : Follows s0 s) (w : WriteReq) :
    Ends s0 (execCounterClearAll w s) := by
  unfold execCounterClearAll
  repeat' (first
    | with_reducible assumption | with_reducible exact Follows.refl _ | with_reducible refine Ends.of ?_ | with_reducible refine Ends.ite ?_ ?_ | with_reducible refine Follows.ite ?_ ?_ 
    | with_reducible refine catWrite_follows ?_ ?_ .. | with_reducible refine effClear_follows ?_ ?_ .. | with_reducible refine clearAllCounters_follows ?_ ..
    | fail_if_no_progress (with_reducible refine mk_follows ?_ rfl rfl) | fail_if_no_progress intros | split | extract_lets | dsimp only | dsimp +zetaDelta only)

theorem archiveJudge_follows {s0 s : State} (h : Follows s0 s) (port cls : Nat) (egress : List Nat) :
    Follows s0 (archiveJudge port cls egress s).2 := by
  unfold archiveJudge
  repeat' (first
    | with_reducible assumption | with_reducible exact Follows.refl _ | with_reducible refine Follows.ite ?_ ?_ 
    | with_reducible refine count_follows ?_ .. | with_reducible refine inc0_follows ?_ .. | with_reducible refine perfFlush_follows ?_ ..
    | fail_if_no_progress (with_reducible refine mk_follows ?_ rfl rfl) | fail_if_no_progress intros | split | extract_lets | dsimp only | dsimp +zetaDelta only)

theorem archiveStore_follows {s0 s : State} (h : Follows s0 s) (record : Nat → Nat) :
    Follows s0 (archiveStore record s).2 := by
  unfold archiveStore
  repeat' (first
    | with_reducible assumption | with_reducible exact Follows.refl _ | with_reducible refine Follows.ite ?_ ?_ 
    | with_reducible refine inc0_follows ?_ .. | with_reducible refine wr_follows ?_ .. | with_reducible refine w0_follows ?_ ..
    | fail_if_no_progress (with_reducible refine mk_follows ?_ rfl rfl) | fail_if_no_progress intros | split | extract_lets | dsimp only | dsimp +zetaDelta only)

theorem archiveWatermarkTick_follows {s0 s : State} (h : Follows s0 s) :
    Follows s0 (archiveWatermarkTick s) := by
  unfold archiveWatermarkTick
  repeat' (first
    | with_reducible assumption | with_reducible exact Follows.refl _ | with_reducible refine Follows.ite ?_ ?_ 
    | with_reducible refine raise_follows ?_ ..
    | fail_if_no_progress (with_reducible refine mk_follows ?_ rfl rfl) | fail_if_no_progress intros | split | extract_lets | dsimp only | dsimp +zetaDelta only)

theorem effArchiveConfig_follows {s0 s : State} (h : Follows s0 s) (idx : Nat) (x1 v : Nat) :
    Follows s0 (effArchiveConfig idx x1 v s) := by
  unfold effArchiveConfig
  repeat' (first
    | with_reducible assumption | with_reducible exact Follows.refl _ | with_reducible refine Follows.ite ?_ ?_ 
    | with_reducible refine w0_follows ?_ .. | with_reducible refine count_follows ?_ ..
    | fail_if_no_progress (with_reducible refine mk_follows ?_ rfl rfl) | fail_if_no_progress intros | split | extract_lets | dsimp only | dsimp +zetaDelta only)

theorem execArchiveConfigWrite_ends {s0 s : State} (h : Follows s0 s) (object : Fin 3) (w : WriteReq) :
    Ends s0 (execArchiveConfigWrite object w s) := by
  unfold execArchiveConfigWrite
  repeat' (first
    | with_reducible assumption | with_reducible exact Follows.refl _ | with_reducible refine Ends.of ?_ | with_reducible refine Ends.ite ?_ ?_ | with_reducible refine Follows.ite ?_ ?_ 
    | with_reducible refine catWrite_follows ?_ ?_ .. | with_reducible refine effArchiveConfig_follows ?_ ..
    | fail_if_no_progress (with_reducible refine mk_follows ?_ rfl rfl) | fail_if_no_progress intros | split | extract_lets | dsimp only | dsimp +zetaDelta only)

theorem execArchiveTrigger_ends {s0 s : State} (h : Follows s0 s) (w : WriteReq) :
    Ends s0 (execArchiveTrigger w s) := by
  unfold execArchiveTrigger
  repeat' (first
    | with_reducible assumption | with_reducible exact Follows.refl _ | with_reducible refine Ends.of ?_ | with_reducible refine Ends.ite ?_ ?_ | with_reducible refine Follows.ite ?_ ?_ 
    | with_reducible refine catWrite_follows ?_ ?_ .. | with_reducible refine effBool_follows ?_ ?_ .. | with_reducible refine archTrigger_follows ?_ ..
    | fail_if_no_progress (with_reducible refine mk_follows ?_ rfl rfl) | fail_if_no_progress intros | split | extract_lets | dsimp only | dsimp +zetaDelta only)

theorem execArchiveReadIndexWrite_ends {s0 s : State} (h : Follows s0 s) (w : WriteReq) :
    Ends s0 (execArchiveReadIndexWrite w s) := by
  unfold execArchiveReadIndexWrite
  repeat' (first
    | with_reducible assumption | with_reducible exact Follows.refl _ | with_reducible refine Ends.of ?_ | with_reducible refine Ends.ite ?_ ?_ | with_reducible refine Follows.ite ?_ ?_ 
    | with_reducible refine catWrite_follows ?_ ?_ .. | with_reducible refine w0_follows ?_ ..
    | fail_if_no_progress (with_reducible refine mk_follows ?_ rfl rfl) | fail_if_no_progress intros | split | extract_lets | dsimp only | dsimp +zetaDelta only)

theorem clearArchive_follows {s0 s : State} (h : Follows s0 s) :
    Follows s0 (clearArchive s) := by
  unfold clearArchive
  repeat' (first
    | with_reducible assumption | with_reducible exact Follows.refl _ | with_reducible refine Follows.ite ?_ ?_ 
    | with_reducible refine w0_follows ?_ .. | with_reducible refine dropIdx_follows ?_ .. | with_reducible refine count_follows ?_ ..
    | fail_if_no_progress (with_reducible refine mk_follows ?_ rfl rfl) | fail_if_no_progress intros | split | extract_lets | dsimp only | dsimp +zetaDelta only)

theorem execArchiveClear_ends {s0 s : State} (h : Follows s0 s) (w : WriteReq) :
    Ends s0 (execArchiveClear w s) := by
  unfold execArchiveClear
  repeat' (first
    | with_reducible assumption | with_reducible exact Follows.refl _ | with_reducible refine Ends.of ?_ | with_reducible refine Ends.ite ?_ ?_ | with_reducible refine Follows.ite ?_ ?_ 
    | with_reducible refine catWrite_follows ?_ ?_ .. | with_reducible refine effClear_follows ?_ ?_ .. | with_reducible refine clearArchive_follows ?_ ..
    | fail_if_no_progress (with_reducible refine mk_follows ?_ rfl rfl) | fail_if_no_progress intros | split | extract_lets | dsimp only | dsimp +zetaDelta only)

end Sys2Proof.Machine
end

