-- ==== Sys2Proof/Laws/VitrineFollows.lean ====
section
/-! SUPPORT. Every operation of Vitrine follows. -/

set_option linter.unreachableTactic false
set_option linter.unusedTactic false

namespace Sys2Proof.Machine

theorem judgeClose_follows {s0 s : State} (h : Follows s0 s) :
    Follows s0 (judgeClose s) := by
  unfold judgeClose
  repeat' (first
    | with_reducible assumption | with_reducible exact Follows.refl _ | with_reducible refine Follows.ite ?_ ?_ 
    | fail_if_no_progress (with_reducible refine mk_follows ?_ rfl rfl) | fail_if_no_progress intros | split | extract_lets | dsimp only | dsimp +zetaDelta only)

theorem writeRecord_follows {s0 s : State} (h : Follows s0 s) (close : Nat) (flushed : Bool) (tenant : Nat) :
    Follows s0 (writeRecord close flushed tenant s) := by
  unfold writeRecord
  repeat' (first
    | with_reducible assumption | with_reducible exact Follows.refl _ | with_reducible refine Follows.ite ?_ ?_ 
    | with_reducible refine w0_follows ?_ .. | with_reducible refine raise_follows ?_ ..
    | fail_if_no_progress (with_reducible refine mk_follows ?_ rfl rfl) | fail_if_no_progress intros | split | extract_lets | dsimp only | dsimp +zetaDelta only)

theorem flashRecords_follows {s0 s : State} (h : Follows s0 s) :
    Follows s0 (flashRecords s) := by
  unfold flashRecords
  repeat' (first
    | with_reducible assumption | with_reducible exact Follows.refl _ | with_reducible refine Follows.ite ?_ ?_ | with_reducible refine forL_snd ?_ ?_ | with_reducible refine forL_third ?_ ?_ 
    | with_reducible refine forL_follows ?_ ?_ | with_reducible refine w0_follows ?_ .. | with_reducible refine wr_follows ?_ ..
    | fail_if_no_progress (with_reducible refine mk_follows ?_ rfl rfl) | fail_if_no_progress intros | split | extract_lets | dsimp only | dsimp +zetaDelta only)

theorem flashDue_follows {s0 s : State} (h : Follows s0 s) :
    Follows s0 (flashDue s) := by
  unfold flashDue
  repeat' (first
    | with_reducible assumption | with_reducible exact Follows.refl _ | with_reducible refine Follows.ite ?_ ?_ 
    | with_reducible refine flashRecords_follows ?_ ..
    | fail_if_no_progress (with_reducible refine mk_follows ?_ rfl rfl) | fail_if_no_progress intros | split | extract_lets | dsimp only | dsimp +zetaDelta only)

theorem writeRecords_follows {s0 s : State} (h : Follows s0 s) (close : Nat) (flushed : Bool) :
    Follows s0 (writeRecords close flushed s) := by
  unfold writeRecords
  repeat' (first
    | with_reducible assumption | with_reducible exact Follows.refl _ | with_reducible refine Follows.ite ?_ ?_ | with_reducible refine forL_snd ?_ ?_ | with_reducible refine forL_third ?_ ?_ 
    | with_reducible refine writeRecord_follows ?_ .. | with_reducible refine forL_follows ?_ ?_
    | fail_if_no_progress (with_reducible refine mk_follows ?_ rfl rfl) | fail_if_no_progress intros | split | extract_lets | dsimp only | dsimp +zetaDelta only)

theorem openInterval_follows {s0 s : State} (h : Follows s0 s) (isPartial : Bool) :
    Follows s0 (openInterval isPartial s) := by
  unfold openInterval
  repeat' (first
    | with_reducible assumption | with_reducible exact Follows.refl _ | with_reducible refine Follows.ite ?_ ?_ 
    | with_reducible refine w0_follows ?_ .. | with_reducible refine dropIdx_follows ?_ ..
    | fail_if_no_progress (with_reducible refine mk_follows ?_ rfl rfl) | fail_if_no_progress intros | split | extract_lets | dsimp only | dsimp +zetaDelta only)

theorem vitrineTick_follows {s0 s : State} (h : Follows s0 s) :
    Follows s0 (vitrineTick s) := by
  unfold vitrineTick
  repeat' (first
    | with_reducible assumption | with_reducible exact Follows.refl _ | with_reducible refine Follows.ite ?_ ?_ 
    | with_reducible refine w0_follows ?_ .. | with_reducible refine openInterval_follows ?_ ..
    | fail_if_no_progress (with_reducible refine mk_follows ?_ rfl rfl) | fail_if_no_progress intros | split | extract_lets | dsimp only | dsimp +zetaDelta only)

theorem closeDue_follows {s0 s : State} (h : Follows s0 s) :
    Follows s0 (closeDue s) := by
  unfold closeDue
  repeat' (first
    | with_reducible assumption | with_reducible exact Follows.refl _ | with_reducible refine Follows.ite ?_ ?_ 
    | with_reducible refine openInterval_follows ?_ .. | with_reducible refine writeRecords_follows ?_ ..
    | fail_if_no_progress (with_reducible refine mk_follows ?_ rfl rfl) | fail_if_no_progress intros | split | extract_lets | dsimp only | dsimp +zetaDelta only)

theorem vitrineSent_follows {s0 s : State} (h : Follows s0 s) (slot vid cls len : Nat) :
    Follows s0 (vitrineSent slot vid cls len s) := by
  unfold vitrineSent
  repeat' (first
    | with_reducible assumption | with_reducible exact Follows.refl _ | with_reducible refine Follows.ite ?_ ?_ 
    | with_reducible refine closeDue_follows ?_ .. | with_reducible refine count_follows ?_ ..
    | fail_if_no_progress (with_reducible refine mk_follows ?_ rfl rfl) | fail_if_no_progress intros | split | extract_lets | dsimp only | dsimp +zetaDelta only)

theorem amendRecords_follows {s0 s : State} (h : Follows s0 s) (tenant interval k len : Nat) :
    Follows s0 (amendRecords tenant interval k len s) := by
  unfold amendRecords
  repeat' (first
    | with_reducible assumption | with_reducible exact Follows.refl _ | with_reducible refine Follows.ite ?_ ?_ 
    | with_reducible refine w0_follows ?_ ..
    | fail_if_no_progress (with_reducible refine mk_follows ?_ rfl rfl) | fail_if_no_progress intros | split | extract_lets | dsimp only | dsimp +zetaDelta only)

theorem vitrineReceived_follows {s0 s : State} (h : Follows s0 s) (tenant interval cls len : Nat) :
    Follows s0 (vitrineReceived tenant interval cls len s) := by
  unfold vitrineReceived
  repeat' (first
    | with_reducible assumption | with_reducible exact Follows.refl _ | with_reducible refine Follows.ite ?_ ?_ 
    | with_reducible refine closeDue_follows ?_ .. | with_reducible refine amendRecords_follows ?_ .. | with_reducible refine count_follows ?_ ..
    | fail_if_no_progress (with_reducible refine mk_follows ?_ rfl rfl) | fail_if_no_progress intros | split | extract_lets | dsimp only | dsimp +zetaDelta only)

theorem vitrineAfterStep_follows {s0 s : State} (h : Follows s0 s) (back : Bool) :
    Follows s0 (vitrineAfterStep back s) := by
  unfold vitrineAfterStep
  repeat' (first
    | with_reducible assumption | with_reducible exact Follows.refl _ | with_reducible refine Follows.ite ?_ ?_ 
    | with_reducible refine closeDue_follows ?_ ..
    | fail_if_no_progress (with_reducible refine mk_follows ?_ rfl rfl) | fail_if_no_progress intros | split | extract_lets | dsimp only | dsimp +zetaDelta only)

theorem vitrineServo_follows {s0 s : State} (h : Follows s0 s) (servo : Nat) :
    Follows s0 (vitrineServo servo s) := by
  unfold vitrineServo
  repeat' (first
    | with_reducible assumption | with_reducible exact Follows.refl _ | with_reducible refine Follows.ite ?_ ?_ 
    | with_reducible refine closeDue_follows ?_ .. | with_reducible refine w0_follows ?_ ..
    | fail_if_no_progress (with_reducible refine mk_follows ?_ rfl rfl) | fail_if_no_progress intros | split | extract_lets | dsimp only | dsimp +zetaDelta only)

theorem execIntervalClose_ends {s0 s : State} (h : Follows s0 s) :
    Ends s0 (execIntervalClose s) := by
  unfold execIntervalClose
  repeat' (first
    | with_reducible assumption | with_reducible exact Follows.refl _ | with_reducible refine Ends.of ?_ | with_reducible refine Ends.ite ?_ ?_ | with_reducible refine Follows.ite ?_ ?_ 
    | with_reducible refine closeDue_follows ?_ ..
    | fail_if_no_progress (with_reducible refine mk_follows ?_ rfl rfl) | fail_if_no_progress intros | split | extract_lets | dsimp only | dsimp +zetaDelta only)

theorem execVitrineRecordInFlash_ends {s0 s : State} (h : Follows s0 s) :
    Ends s0 (execVitrineRecordInFlash s) := by
  unfold execVitrineRecordInFlash
  repeat' (first
    | with_reducible assumption | with_reducible exact Follows.refl _ | with_reducible refine Ends.of ?_ | with_reducible refine Ends.ite ?_ ?_ | with_reducible refine Follows.ite ?_ ?_ 
    | with_reducible refine flashRecords_follows ?_ ..
    | fail_if_no_progress (with_reducible refine mk_follows ?_ rfl rfl) | fail_if_no_progress intros | split | extract_lets | dsimp only | dsimp +zetaDelta only)

theorem sealLogEntry_follows {s0 s : State} (h : Follows s0 s) (kind idx sub transport row digest : Nat) :
    Follows s0 (sealLogEntry kind idx sub transport row digest s) := by
  unfold sealLogEntry
  repeat' (first
    | with_reducible assumption | with_reducible exact Follows.refl _ | with_reducible refine Follows.ite ?_ ?_ 
    | with_reducible refine wr_follows ?_ .. | with_reducible refine w0_follows ?_ ..
    | fail_if_no_progress (with_reducible refine mk_follows ?_ rfl rfl) | fail_if_no_progress intros | split | extract_lets | dsimp only | dsimp +zetaDelta only)

theorem exhaust_follows {s0 s : State} (h : Follows s0 s) :
    Follows s0 (exhaust s) := by
  unfold exhaust
  repeat' (first
    | with_reducible assumption | with_reducible exact Follows.refl _ | with_reducible refine Follows.ite ?_ ?_ 
    | with_reducible refine sealLogEntry_follows ?_ .. | with_reducible refine w0_follows ?_ ..
    | fail_if_no_progress (with_reducible refine mk_follows ?_ rfl rfl) | fail_if_no_progress intros | split | extract_lets | dsimp only | dsimp +zetaDelta only)

theorem applySeal_follows {s0 s : State} (h : Follows s0 s) (idx row : Nat) (w : WriteReq) :
    Follows s0 (applySeal idx row w s) := by
  unfold applySeal
  repeat' (first
    | with_reducible assumption | with_reducible exact Follows.refl _ | with_reducible refine Follows.ite ?_ ?_ 
    | with_reducible refine closeDue_follows ?_ .. | with_reducible refine inc0_follows ?_ .. | with_reducible refine wr_follows ?_ .. | with_reducible refine raise_follows ?_ .. | with_reducible refine w0_follows ?_ .. | with_reducible refine sealLogEntry_follows ?_ ..
    | fail_if_no_progress (with_reducible refine mk_follows ?_ rfl rfl) | fail_if_no_progress intros | split | extract_lets | dsimp only | dsimp +zetaDelta only)

theorem effSeal_follows {s0 s : State} (h : Follows s0 s) (opcode idx row : Nat) (w : WriteReq) (x1 x2 : Nat) :
    Follows s0 (effSeal opcode idx row w x1 x2 s) := by
  unfold effSeal
  repeat' (first
    | with_reducible assumption | with_reducible exact Follows.refl _ | with_reducible refine Follows.ite ?_ ?_ 
    | with_reducible refine applySeal_follows ?_ .. | with_reducible refine violate_follows ?_ .. | with_reducible refine exhaust_follows ?_ ..
    | fail_if_no_progress (with_reducible refine mk_follows ?_ rfl rfl) | fail_if_no_progress intros | split | extract_lets | dsimp only | dsimp +zetaDelta only)

theorem waitForFuse_follows {s0 s : State} (h : Follows s0 s) (waiting : List SealWait) :
    Follows s0 (waitForFuse waiting s) := by
  unfold waitForFuse
  repeat' (first
    | with_reducible assumption | with_reducible exact Follows.refl _ | with_reducible refine Follows.ite ?_ ?_ 
    | fail_if_no_progress (with_reducible refine mk_follows ?_ rfl rfl) | fail_if_no_progress intros | split | extract_lets | dsimp only | dsimp +zetaDelta only)

theorem execSealWrite_ends {s0 s : State} (h : Follows s0 s) (interval : Bool) (row : BitVec 32) (w : WriteReq) :
    Ends s0 (execSealWrite interval row w s) := by
  unfold execSealWrite
  repeat' (first
    | with_reducible assumption | with_reducible exact Follows.refl _ | with_reducible refine Ends.of ?_ | with_reducible refine Ends.ite ?_ ?_ | with_reducible refine Follows.ite ?_ ?_ 
    | with_reducible refine waitForFuse_follows ?_ .. | with_reducible refine catWrite_follows ?_ ?_ .. | with_reducible refine effSeal_follows ?_ ..
    | fail_if_no_progress (with_reducible refine mk_follows ?_ rfl rfl) | fail_if_no_progress intros | split | extract_lets | dsimp only | dsimp +zetaDelta only)

theorem execSealNFall_ends {s0 s : State} (h : Follows s0 s) :
    Ends s0 (execSealNFall s) := by
  unfold execSealNFall
  repeat' (first
    | with_reducible assumption | with_reducible exact Follows.refl _ | with_reducible refine Ends.of ?_ | with_reducible refine Ends.ite ?_ ?_ | with_reducible refine Follows.ite ?_ ?_ 
    | with_reducible refine closeDue_follows ?_ .. | with_reducible refine setLive_follows ?_ .. | with_reducible refine w0_follows ?_ ..
    | fail_if_no_progress (with_reducible refine mk_follows ?_ rfl rfl) | fail_if_no_progress intros | split | extract_lets | dsimp only | dsimp +zetaDelta only)

theorem sealQualified_follows {s0 s : State} (h : Follows s0 s) :
    Follows s0 (sealQualified s) := by
  unfold sealQualified
  repeat' (first
    | with_reducible assumption | with_reducible exact Follows.refl _ | with_reducible refine Follows.ite ?_ ?_ 
    | with_reducible refine exhaust_follows ?_ ..
    | fail_if_no_progress (with_reducible refine mk_follows ?_ rfl rfl) | fail_if_no_progress intros | split | extract_lets | dsimp only | dsimp +zetaDelta only)

theorem execSealOpenQualified_ends {s0 s : State} (h : Follows s0 s) :
    Ends s0 (execSealOpenQualified s) := by
  unfold execSealOpenQualified
  repeat' (first
    | with_reducible assumption | with_reducible exact Follows.refl _ | with_reducible refine Ends.of ?_ | with_reducible refine Ends.ite ?_ ?_ | with_reducible refine Follows.ite ?_ ?_ 
    | with_reducible refine sealQualified_follows ?_ .. | with_reducible refine advanceTo_follows ?_ ..
    | fail_if_no_progress (with_reducible refine mk_follows ?_ rfl rfl) | fail_if_no_progress intros | split | extract_lets | dsimp only | dsimp +zetaDelta only)

theorem fuseBurned_follows {s0 s : State} (h : Follows s0 s) (k : BurnKind) :
    Follows s0 (fuseBurned k s) := by
  unfold fuseBurned
  repeat' (first
    | with_reducible assumption | with_reducible exact Follows.refl _ | with_reducible refine Follows.ite ?_ ?_ 
    | with_reducible refine closeDue_follows ?_ .. | with_reducible refine w0_follows ?_ .. | with_reducible refine sealLogEntry_follows ?_ ..
    | fail_if_no_progress (with_reducible refine mk_follows ?_ rfl rfl) | fail_if_no_progress intros | split | extract_lets | dsimp only | dsimp +zetaDelta only)

theorem execSealNRise_ends {s0 s : State} (h : Follows s0 s) :
    Ends s0 (execSealNRise s) := by
  unfold execSealNRise
  repeat' (first
    | with_reducible assumption | with_reducible exact Follows.refl _ | with_reducible refine Ends.of ?_ | with_reducible refine Ends.ite ?_ ?_ | with_reducible refine Follows.ite ?_ ?_ 
    | with_reducible refine closeDue_follows ?_ .. | with_reducible refine sealQualified_follows ?_ .. | with_reducible refine setLive_follows ?_ .. | with_reducible refine w0_follows ?_ .. | with_reducible refine sealLogEntry_follows ?_ ..
    | fail_if_no_progress (with_reducible refine mk_follows ?_ rfl rfl) | fail_if_no_progress intros | split | extract_lets | dsimp only | dsimp +zetaDelta only)

theorem microcodeCheck_follows {s0 s : State} (h : Follows s0 s) :
    Follows s0 (microcodeCheck s) := by
  unfold microcodeCheck
  repeat' (first
    | with_reducible assumption | with_reducible exact Follows.refl _ | with_reducible refine Follows.ite ?_ ?_ 
    | with_reducible refine closeDue_follows ?_ .. | with_reducible refine w0_follows ?_ ..
    | fail_if_no_progress (with_reducible refine mk_follows ?_ rfl rfl) | fail_if_no_progress intros | split | extract_lets | dsimp only | dsimp +zetaDelta only)

theorem microcodeDue_follows {s0 s : State} (h : Follows s0 s) :
    Follows s0 (microcodeDue s) := by
  unfold microcodeDue
  repeat' (first
    | with_reducible assumption | with_reducible exact Follows.refl _ | with_reducible refine Follows.ite ?_ ?_ 
    | with_reducible refine microcodeCheck_follows ?_ ..
    | fail_if_no_progress (with_reducible refine mk_follows ?_ rfl rfl) | fail_if_no_progress intros | split | extract_lets | dsimp only | dsimp +zetaDelta only)

theorem execMicrocodeCheck_ends {s0 s : State} (h : Follows s0 s) (changed : List (Fin 65536 × Byte)) :
    Ends s0 (execMicrocodeCheck changed s) := by
  unfold execMicrocodeCheck
  repeat' (first
    | with_reducible assumption | with_reducible exact Follows.refl _ | with_reducible refine Ends.of ?_ | with_reducible refine Ends.ite ?_ ?_ | with_reducible refine Follows.ite ?_ ?_ | with_reducible refine foldl_follows ?_ ?_ | with_reducible refine foldl_snd ?_ ?_ 
    | with_reducible refine microcodeCheck_follows ?_ ..
    | fail_if_no_progress (with_reducible refine mk_follows ?_ rfl rfl) | fail_if_no_progress intros | split | extract_lets | dsimp only | dsimp +zetaDelta only)

theorem vitrineFlush_follows {s0 s : State} (h : Follows s0 s) :
    Follows s0 (vitrineFlush s) := by
  unfold vitrineFlush
  repeat' (first
    | with_reducible assumption | with_reducible exact Follows.refl _ | with_reducible refine Follows.ite ?_ ?_ 
    | with_reducible refine w0_follows ?_ .. | with_reducible refine closeDue_follows ?_ .. | with_reducible refine flashRecords_follows ?_ .. | with_reducible refine writeRecords_follows ?_ .. | with_reducible refine inc0_follows ?_ .. | with_reducible refine sealLogEntry_follows ?_ ..
    | fail_if_no_progress (with_reducible refine mk_follows ?_ rfl rfl) | fail_if_no_progress intros | split | extract_lets | dsimp only | dsimp +zetaDelta only)

theorem vitrineStarts_follows {s0 s : State} (h : Follows s0 s) :
    Follows s0 (vitrineStarts s) := by
  unfold vitrineStarts
  repeat' (first
    | with_reducible assumption | with_reducible exact Follows.refl _ | with_reducible refine Follows.ite ?_ ?_ 
    | with_reducible refine w0_follows ?_ ..
    | fail_if_no_progress (with_reducible refine mk_follows ?_ rfl rfl) | fail_if_no_progress intros | split | extract_lets | dsimp only | dsimp +zetaDelta only)

theorem vitrinePowerUp_follows {s0 s : State} (h : Follows s0 s) :
    Follows s0 (vitrinePowerUp s) := by
  unfold vitrinePowerUp
  repeat' (first
    | with_reducible assumption | with_reducible exact Follows.refl _ | with_reducible refine Follows.ite ?_ ?_ 
    | with_reducible refine vitrineStarts_follows ?_ .. | with_reducible refine sealLogEntry_follows ?_ .. | with_reducible refine microcodeCheck_follows ?_ ..
    | fail_if_no_progress (with_reducible refine mk_follows ?_ rfl rfl) | fail_if_no_progress intros | split | extract_lets | dsimp only | dsimp +zetaDelta only)

end Sys2Proof.Machine
end

