-- ==== Sys2Proof/Laws/CalibrationFollows.lean ====
section
/-! SUPPORT. Every operation of Calibration follows. -/

set_option linter.unreachableTactic false
set_option linter.unusedTactic false

namespace Sys2Proof.Machine

theorem setCal_follows {s0 s : State} (h : Follows s0 s) (code i : Nat) (c : CalSt) :
    Follows s0 (setCal code i c s) := by
  unfold setCal
  repeat' (first
    | with_reducible assumption | with_reducible exact Follows.refl _ | with_reducible refine Follows.ite ?_ ?_ 
    | fail_if_no_progress (with_reducible refine mk_follows ?_ rfl rfl) | fail_if_no_progress intros | split | extract_lets | dsimp only | dsimp +zetaDelta only)

theorem readSensor_follows {s0 s : State} (h : Follows s0 s) (k : Nat) (x : Int) :
    Follows s0 (readSensor k x s) := by
  unfold readSensor
  repeat' (first
    | with_reducible assumption | with_reducible exact Follows.refl _ | with_reducible refine Follows.ite ?_ ?_ 
    | fail_if_no_progress (with_reducible refine mk_follows ?_ rfl rfl) | fail_if_no_progress intros | split | extract_lets | dsimp only | dsimp +zetaDelta only)

theorem readSensors_follows {s0 s : State} (h : Follows s0 s) (base : Nat) (l : List Int) :
    Follows s0 (readSensors base l s) :=
  forL_snd (l := l) (f := fun x p => (p.1 + 1, readSensor (base + p.1) x p.2))
    (fun _ _ k => readSensor_follows k _ _) h

theorem publishCal_follows {s0 s : State} (h : Follows s0 s) (code i : Nat) :
    Follows s0 (publishCal code i s) := by
  unfold publishCal
  repeat' (first
    | with_reducible assumption | with_reducible exact Follows.refl _ | with_reducible refine Follows.ite ?_ ?_ 
    | with_reducible refine w1_follows ?_ .. | with_reducible refine w0_follows ?_ .. | with_reducible refine setLive_follows ?_ ..
    | fail_if_no_progress (with_reducible refine mk_follows ?_ rfl rfl) | fail_if_no_progress intros | split | extract_lets | dsimp only | dsimp +zetaDelta only)

theorem modCal_follows {s0 s : State} (h : Follows s0 s) (code i : Nat) (f : CalSt → CalSt) :
    Follows s0 (modCal code i f s) := by
  unfold modCal
  repeat' (first
    | with_reducible assumption | with_reducible exact Follows.refl _ | with_reducible refine Follows.ite ?_ ?_ 
    | with_reducible refine publishCal_follows ?_ .. | with_reducible refine setCal_follows ?_ ..
    | fail_if_no_progress (with_reducible refine mk_follows ?_ rfl rfl) | fail_if_no_progress intros | split | extract_lets | dsimp only | dsimp +zetaDelta only)

theorem setLane_follows {s0 s : State} (h : Follows s0 s) (lane : Nat) (l : LaneSt) :
    Follows s0 (setLane lane l s) := by
  unfold setLane
  repeat' (first
    | with_reducible assumption | with_reducible exact Follows.refl _ | with_reducible refine Follows.ite ?_ ?_ 
    | fail_if_no_progress (with_reducible refine mk_follows ?_ rfl rfl) | fail_if_no_progress intros | split | extract_lets | dsimp only | dsimp +zetaDelta only)

theorem modLane_follows {s0 s : State} (h : Follows s0 s) (lane : Nat) (f : LaneSt → LaneSt) :
    Follows s0 (modLane lane f s) := by
  unfold modLane
  repeat' (first
    | with_reducible assumption | with_reducible exact Follows.refl _ | with_reducible refine Follows.ite ?_ ?_ 
    | with_reducible refine setLane_follows ?_ ..
    | fail_if_no_progress (with_reducible refine mk_follows ?_ rfl rfl) | fail_if_no_progress intros | split | extract_lets | dsimp only | dsimp +zetaDelta only)

theorem publishPma_follows {s0 s : State} (h : Follows s0 s) (lane : Nat) :
    Follows s0 (publishPma lane s) := by
  unfold publishPma
  repeat' (first
    | with_reducible assumption | with_reducible exact Follows.refl _ | with_reducible refine Follows.ite ?_ ?_ 
    | with_reducible refine w1_follows ?_ ..
    | fail_if_no_progress (with_reducible refine mk_follows ?_ rfl rfl) | fail_if_no_progress intros | split | extract_lets | dsimp only | dsimp +zetaDelta only)

theorem setTables_follows {s0 s : State} (h : Follows s0 s) (ch : Nat) (v : List Int) :
    Follows s0 (setTables ch v s) := by
  unfold setTables
  repeat' (first
    | with_reducible assumption | with_reducible exact Follows.refl _ | with_reducible refine Follows.ite ?_ ?_ | with_reducible refine forN_snd ?_ ?_ | with_reducible refine forN_third ?_ ?_ 
    | with_reducible refine forN_follows ?_ ?_ | with_reducible refine wr_follows ?_ .. | with_reducible refine w1_follows ?_ ..
    | fail_if_no_progress (with_reducible refine mk_follows ?_ rfl rfl) | fail_if_no_progress intros | split | extract_lets | dsimp only | dsimp +zetaDelta only)

theorem setOut_follows {s0 s : State} (h : Follows s0 s) (o : Nat) (y : OutSt) :
    Follows s0 (setOut o y s) := by
  unfold setOut
  repeat' (first
    | with_reducible assumption | with_reducible exact Follows.refl _ | with_reducible refine Follows.ite ?_ ?_ 
    | fail_if_no_progress (with_reducible refine mk_follows ?_ rfl rfl) | fail_if_no_progress intros | split | extract_lets | dsimp only | dsimp +zetaDelta only)

theorem setLine_follows {s0 s : State} (h : Follows s0 s) (o : Nat) :
    Follows s0 (setLine o s) := by
  unfold setLine
  repeat' (first
    | with_reducible assumption | with_reducible exact Follows.refl _ | with_reducible refine Follows.ite ?_ ?_ 
    | with_reducible refine setOut_follows ?_ ..
    | fail_if_no_progress (with_reducible refine mk_follows ?_ rfl rfl) | fail_if_no_progress intros | split | extract_lets | dsimp only | dsimp +zetaDelta only)

theorem applyValues_follows {s0 s : State} (h : Follows s0 s) (code i : Nat) (v : List Int) :
    Follows s0 (applyValues code i v s) := by
  unfold applyValues
  repeat' (first
    | with_reducible assumption | with_reducible exact Follows.refl _ | with_reducible refine Follows.ite ?_ ?_ 
    | with_reducible refine setTables_follows ?_ .. | with_reducible refine publishPma_follows ?_ .. | with_reducible refine setLine_follows ?_ ..
    | fail_if_no_progress (with_reducible refine mk_follows ?_ rfl rfl) | fail_if_no_progress intros | split | extract_lets | dsimp only | dsimp +zetaDelta only)

theorem recompute_follows {s0 s : State} (h : Follows s0 s) (code i : Nat) :
    Follows s0 (recompute code i s) := by
  unfold recompute
  repeat' (first
    | with_reducible assumption | with_reducible exact Follows.refl _ | with_reducible refine Follows.ite ?_ ?_ 
    | with_reducible refine w1_follows ?_ .. | with_reducible refine modLane_follows ?_ .. | with_reducible refine setCal_follows ?_ .. | with_reducible refine applyValues_follows ?_ ..
    | fail_if_no_progress (with_reducible refine mk_follows ?_ rfl rfl) | fail_if_no_progress intros | split | extract_lets | dsimp only | dsimp +zetaDelta only)

theorem calBegin_follows {s0 s : State} (h : Follows s0 s) (code i : Nat) (reserve : Option Nat) :
    Follows s0 (calBegin code i reserve s) := by
  unfold calBegin
  repeat' (first
    | with_reducible assumption | with_reducible exact Follows.refl _ | with_reducible refine Follows.ite ?_ ?_ 
    | with_reducible refine modCal_follows ?_ ..
    | fail_if_no_progress (with_reducible refine mk_follows ?_ rfl rfl) | fail_if_no_progress intros | split | extract_lets | dsimp only | dsimp +zetaDelta only)

theorem publishSets_follows {s0 s : State} (h : Follows s0 s) (code i : Nat) :
    Follows s0 (publishSets code i s) := by
  unfold publishSets
  repeat' (first
    | with_reducible assumption | with_reducible exact Follows.refl _ | with_reducible refine Follows.ite ?_ ?_ | with_reducible refine forN_snd ?_ ?_ | with_reducible refine forN_third ?_ ?_ 
    | with_reducible refine forN_follows ?_ ?_ | with_reducible refine wr_follows ?_ ..
    | fail_if_no_progress (with_reducible refine mk_follows ?_ rfl rfl) | fail_if_no_progress intros | split | extract_lets | dsimp only | dsimp +zetaDelta only)

theorem freeReserve_follows {s0 s : State} (h : Follows s0 s) (r : Option Nat) :
    Follows s0 (freeReserve r s) := by
  unfold freeReserve
  repeat' (first
    | with_reducible assumption | with_reducible exact Follows.refl _ | with_reducible refine Follows.ite ?_ ?_ 
    | with_reducible refine w1_follows ?_ ..
    | fail_if_no_progress (with_reducible refine mk_follows ?_ rfl rfl) | fail_if_no_progress intros | split | extract_lets | dsimp only | dsimp +zetaDelta only)

theorem judgePendingCal_follows {s0 s : State} (h : Follows s0 s) (code i : Nat) :
    Follows s0 (judgePendingCal code i s) := by
  unfold judgePendingCal
  repeat' (first
    | with_reducible assumption | with_reducible exact Follows.refl _ | with_reducible refine Follows.ite ?_ ?_ 
    | with_reducible refine modCal_follows ?_ ..
    | fail_if_no_progress (with_reducible refine mk_follows ?_ rfl rfl) | fail_if_no_progress intros | split | extract_lets | dsimp only | dsimp +zetaDelta only)

theorem calSucceed_follows {s0 s : State} (h : Follows s0 s) (code i : Nat) (temp : Int) (values : List Int) (quality : Nat) :
    Follows s0 (calSucceed code i temp values quality s) := by
  unfold calSucceed
  repeat' (first
    | with_reducible assumption | with_reducible exact Follows.refl _ | with_reducible refine Follows.ite ?_ ?_ 
    | with_reducible refine freeReserve_follows ?_ .. | with_reducible refine setCal_follows ?_ .. | with_reducible refine publishSets_follows ?_ .. | with_reducible refine w1_follows ?_ .. | with_reducible refine inc_follows ?_ .. | with_reducible refine judgePendingCal_follows ?_ .. | with_reducible refine publishCal_follows ?_ .. | with_reducible refine recompute_follows ?_ ..
    | fail_if_no_progress (with_reducible refine mk_follows ?_ rfl rfl) | fail_if_no_progress intros | split | extract_lets | dsimp only | dsimp +zetaDelta only)

theorem calFail_follows {s0 s : State} (h : Follows s0 s) (code i : Nat) :
    Follows s0 (calFail code i s) := by
  unfold calFail
  repeat' (first
    | with_reducible assumption | with_reducible exact Follows.refl _ | with_reducible refine Follows.ite ?_ ?_ 
    | with_reducible refine freeReserve_follows ?_ .. | with_reducible refine setCal_follows ?_ .. | with_reducible refine publishSets_follows ?_ .. | with_reducible refine w1_follows ?_ .. | with_reducible refine inc_follows ?_ .. | with_reducible refine raise_follows ?_ .. | with_reducible refine publishCal_follows ?_ .. | with_reducible refine recompute_follows ?_ ..
    | fail_if_no_progress (with_reducible refine mk_follows ?_ rfl rfl) | fail_if_no_progress intros | split | extract_lets | dsimp only | dsimp +zetaDelta only)

theorem calAbandon_follows {s0 s : State} (h : Follows s0 s) (code i : Nat) :
    Follows s0 (calAbandon code i s) := by
  unfold calAbandon
  repeat' (first
    | with_reducible assumption | with_reducible exact Follows.refl _ | with_reducible refine Follows.ite ?_ ?_ 
    | with_reducible refine freeReserve_follows ?_ .. | with_reducible refine modCal_follows ?_ ..
    | fail_if_no_progress (with_reducible refine mk_follows ?_ rfl rfl) | fail_if_no_progress intros | split | extract_lets | dsimp only | dsimp +zetaDelta only)

theorem calRequestInst_follows {s0 s : State} (h : Follows s0 s) (code i : Nat) :
    Follows s0 (calRequestInst code i s) := by
  unfold calRequestInst
  repeat' (first
    | with_reducible assumption | with_reducible exact Follows.refl _ | with_reducible refine Follows.ite ?_ ?_ 
    | with_reducible refine modCal_follows ?_ ..
    | fail_if_no_progress (with_reducible refine mk_follows ?_ rfl rfl) | fail_if_no_progress intros | split | extract_lets | dsimp only | dsimp +zetaDelta only)

theorem discardSets_follows {s0 s : State} (h : Follows s0 s) :
    Follows s0 (discardSets s) := by
  unfold discardSets
  repeat' (first
    | with_reducible assumption | with_reducible exact Follows.refl _ | with_reducible refine Follows.ite ?_ ?_ | with_reducible refine forL_snd ?_ ?_ | with_reducible refine forL_third ?_ ?_ | with_reducible refine forN_snd ?_ ?_ | with_reducible refine forN_third ?_ ?_ 
    | with_reducible refine forL_follows ?_ ?_ | with_reducible refine forN_follows ?_ ?_ | with_reducible refine setCal_follows ?_ .. | with_reducible refine publishCal_follows ?_ .. | with_reducible refine recompute_follows ?_ .. | with_reducible refine publishSets_follows ?_ ..
    | fail_if_no_progress (with_reducible refine mk_follows ?_ rfl rfl) | fail_if_no_progress intros | split | extract_lets | dsimp only | dsimp +zetaDelta only)

theorem calTick_follows {s0 s : State} (h : Follows s0 s) :
    Follows s0 (calTick s) := by
  unfold calTick
  repeat' (first
    | with_reducible assumption | with_reducible exact Follows.refl _ | with_reducible refine Follows.ite ?_ ?_ | with_reducible refine forL_snd ?_ ?_ | with_reducible refine forL_third ?_ ?_ | with_reducible refine forN_snd ?_ ?_ | with_reducible refine forN_third ?_ ?_ 
    | with_reducible refine forL_follows ?_ ?_ | with_reducible refine forN_follows ?_ ?_ | with_reducible refine w1_follows ?_ .. | with_reducible refine recompute_follows ?_ .. | with_reducible refine judgePendingCal_follows ?_ ..
    | fail_if_no_progress (with_reducible refine mk_follows ?_ rfl rfl) | fail_if_no_progress intros | split | extract_lets | dsimp only | dsimp +zetaDelta only)

end Sys2Proof.Machine
end

