-- ==== Sys2Proof/Laws/TdcFollows.lean ====
section
/-! SUPPORT. Every operation of Tdc follows. -/

set_option linter.unreachableTactic false
set_option linter.unusedTactic false

namespace Sys2Proof.Machine

theorem putSI_follows {s0 s : State} (h : Follows s0 s) (ch : Nat) (x : StandIn) :
    Follows s0 (putSI ch x s) := by
  unfold putSI
  repeat' (first
    | with_reducible assumption | with_reducible exact Follows.refl _ | with_reducible refine Follows.ite ?_ ?_ 
    | fail_if_no_progress (with_reducible refine mk_follows ?_ rfl rfl) | fail_if_no_progress intros | split | extract_lets | dsimp only | dsimp +zetaDelta only)

theorem delSI_follows {s0 s : State} (h : Follows s0 s) (ch : Nat) :
    Follows s0 (delSI ch s) := by
  unfold delSI
  repeat' (first
    | with_reducible assumption | with_reducible exact Follows.refl _ | with_reducible refine Follows.ite ?_ ?_ 
    | fail_if_no_progress (with_reducible refine mk_follows ?_ rfl rfl) | fail_if_no_progress intros | split | extract_lets | dsimp only | dsimp +zetaDelta only)

theorem keepDivider_follows {s0 s : State} (h : Follows s0 s) (ch c : Nat) :
    Follows s0 (keepDivider ch c s) := by
  unfold keepDivider
  repeat' (first
    | with_reducible assumption | with_reducible exact Follows.refl _ | with_reducible refine Follows.ite ?_ ?_ 
    | fail_if_no_progress (with_reducible refine mk_follows ?_ rfl rfl) | fail_if_no_progress intros | split | extract_lets | dsimp only | dsimp +zetaDelta only)

theorem noteTaken_follows {s0 s : State} (h : Follows s0 s) (ch : Nat) (l : List (Int × Bool)) :
    Follows s0 (noteTaken ch l s) := by
  unfold noteTaken
  repeat' (first
    | with_reducible assumption | with_reducible exact Follows.refl _ | with_reducible refine Follows.ite ?_ ?_ 
    | fail_if_no_progress (with_reducible refine mk_follows ?_ rfl rfl) | fail_if_no_progress intros | split | extract_lets | dsimp only | dsimp +zetaDelta only)

theorem noteStamp_follows {s0 s : State} (h : Follows s0 s) (ch : Nat) (x : Int) :
    Follows s0 (noteStamp ch x s) := by
  unfold noteStamp
  repeat' (first
    | with_reducible assumption | with_reducible exact Follows.refl _ | with_reducible refine Follows.ite ?_ ?_ 
    | fail_if_no_progress (with_reducible refine mk_follows ?_ rfl rfl) | fail_if_no_progress intros | split | extract_lets | dsimp only | dsimp +zetaDelta only)

theorem stampEdge_follows {s0 s : State} (h : Follows s0 s) (ch : Nat) (e : EdgeSample) :
    Follows s0 (stampEdge ch e s).2 := by
  unfold stampEdge
  repeat' (first
    | with_reducible assumption | with_reducible exact Follows.refl _ | with_reducible refine Follows.ite ?_ ?_ 
    | with_reducible refine perfEvent_follows ?_ .. | with_reducible refine inc_follows ?_ .. | with_reducible refine noteTaken_follows ?_ .. | with_reducible refine noteStamp_follows ?_ ..
    | fail_if_no_progress (with_reducible refine mk_follows ?_ rfl rfl) | fail_if_no_progress intros | split | extract_lets | dsimp only | dsimp +zetaDelta only)

theorem fitTick_follows {s0 s : State} (h : Follows s0 s) (ch : Nat) (xs : List Int) :
    Follows s0 (fitTick ch xs s).2 := by
  unfold fitTick
  repeat' (first
    | with_reducible assumption | with_reducible exact Follows.refl _ | with_reducible refine Follows.ite ?_ ?_ 
    | with_reducible refine draw_follows ?_ ..
    | fail_if_no_progress (with_reducible refine mk_follows ?_ rfl rfl) | fail_if_no_progress intros | split | extract_lets | dsimp only | dsimp +zetaDelta only)

theorem noteInput_follows {s0 s : State} (h : Follows s0 s) (ch : Nat) (present : Bool) :
    Follows s0 (noteInput ch present s) := by
  unfold noteInput
  repeat' (first
    | with_reducible assumption | with_reducible exact Follows.refl _ | with_reducible refine Follows.ite ?_ ?_ 
    | with_reducible refine w1_follows ?_ ..
    | fail_if_no_progress (with_reducible refine mk_follows ?_ rfl rfl) | fail_if_no_progress intros | split | extract_lets | dsimp only | dsimp +zetaDelta only)

theorem trackDelays_follows {s0 s : State} (h : Follows s0 s) (ch : Nat) (met : TdcTick) :
    Follows s0 (trackDelays ch met s) := by
  unfold trackDelays
  repeat' (first
    | with_reducible assumption | with_reducible exact Follows.refl _ | with_reducible refine Follows.ite ?_ ?_ 
    | with_reducible refine publishPma_follows ?_ .. | with_reducible refine modLane_follows ?_ ..
    | fail_if_no_progress (with_reducible refine mk_follows ?_ rfl rfl) | fail_if_no_progress intros | split | extract_lets | dsimp only | dsimp +zetaDelta only)

theorem keepLine_follows {s0 s : State} (h : Follows s0 s) (ch : Nat) (line : Option LineFit) :
    Follows s0 (keepLine ch line s) := by
  unfold keepLine
  repeat' (first
    | with_reducible assumption | with_reducible exact Follows.refl _ | with_reducible refine Follows.ite ?_ ?_ 
    | fail_if_no_progress (with_reducible refine mk_follows ?_ rfl rfl) | fail_if_no_progress intros | split | extract_lets | dsimp only | dsimp +zetaDelta only)

theorem compare_follows {s0 s : State} (h : Follows s0 s) (ch : Nat) (l : List Rat) :
    Follows s0 (compare ch l s) := by
  unfold compare
  repeat' (first
    | with_reducible assumption | with_reducible exact Follows.refl _ | with_reducible refine Follows.ite ?_ ?_ 
    | with_reducible refine putSI_follows ?_ ..
    | fail_if_no_progress (with_reducible refine mk_follows ?_ rfl rfl) | fail_if_no_progress intros | split | extract_lets | dsimp only | dsimp +zetaDelta only)

theorem countTaken_follows {s0 s : State} (h : Follows s0 s) (ch : Nat) (a : Stamping) :
    Follows s0 (countTaken ch a s) := by
  unfold countTaken
  repeat' (first
    | with_reducible assumption | with_reducible exact Follows.refl _ | with_reducible refine Follows.ite ?_ ?_ 
    | with_reducible refine perfEvent_follows ?_ .. | with_reducible refine count_follows ?_ .. | with_reducible refine noteTaken_follows ?_ ..
    | fail_if_no_progress (with_reducible refine mk_follows ?_ rfl rfl) | fail_if_no_progress intros | split | extract_lets | dsimp only | dsimp +zetaDelta only)

theorem publishTick_follows {s0 s : State} (h : Follows s0 s) (ch : Nat) (met : TdcTick) (a : Stamping) :
    Follows s0 (publishTick ch met a s) := by
  unfold publishTick
  repeat' (first
    | with_reducible assumption | with_reducible exact Follows.refl _ | with_reducible refine Follows.ite ?_ ?_ 
    | with_reducible refine noteStamp_follows ?_ .. | with_reducible refine noteInput_follows ?_ .. | with_reducible refine fitTick_follows ?_ .. | with_reducible refine countTaken_follows ?_ .. | with_reducible refine keepLine_follows ?_ .. | with_reducible refine w1_follows ?_ .. | with_reducible refine compare_follows ?_ .. | with_reducible refine trackDelays_follows ?_ ..
    | fail_if_no_progress (with_reducible refine mk_follows ?_ rfl rfl) | fail_if_no_progress intros | split | extract_lets | dsimp only | dsimp +zetaDelta only)

theorem setMeas_follows {s0 s : State} (h : Follows s0 s) (k : Nat) (m : MeasSlot) :
    Follows s0 (setMeas k m s) := by
  unfold setMeas
  repeat' (first
    | with_reducible assumption | with_reducible exact Follows.refl _ | with_reducible refine Follows.ite ?_ ?_ 
    | fail_if_no_progress (with_reducible refine mk_follows ?_ rfl rfl) | fail_if_no_progress intros | split | extract_lets | dsimp only | dsimp +zetaDelta only)

theorem measState_follows {s0 s : State} (h : Follows s0 s) (k st : Nat) :
    Follows s0 (measState k st s) := by
  unfold measState
  repeat' (first
    | with_reducible assumption | with_reducible exact Follows.refl _ | with_reducible refine Follows.ite ?_ ?_ 
    | with_reducible refine w1_follows ?_ ..
    | fail_if_no_progress (with_reducible refine mk_follows ?_ rfl rfl) | fail_if_no_progress intros | split | extract_lets | dsimp only | dsimp +zetaDelta only)

theorem measDone_follows {s0 s : State} (h : Follows s0 s) (k : Nat) (a b : Int × Nat) (same : Bool) :
    Follows s0 (measDone k a b same s) := by
  unfold measDone
  repeat' (first
    | with_reducible assumption | with_reducible exact Follows.refl _ | with_reducible refine Follows.ite ?_ ?_ 
    | with_reducible refine setMeas_follows ?_ .. | with_reducible refine w1_follows ?_ ..
    | fail_if_no_progress (with_reducible refine mk_follows ?_ rfl rfl) | fail_if_no_progress intros | split | extract_lets | dsimp only | dsimp +zetaDelta only)

theorem takeStart_follows {s0 s : State} (h : Follows s0 s) (k : Nat) (e : EdgeSample) :
    Follows s0 (takeStart k e s) := by
  unfold takeStart
  repeat' (first
    | with_reducible assumption | with_reducible exact Follows.refl _ | with_reducible refine Follows.ite ?_ ?_ 
    | with_reducible refine stampEdge_follows ?_ .. | with_reducible refine measDone_follows ?_ .. | with_reducible refine measState_follows ?_ .. | with_reducible refine setMeas_follows ?_ ..
    | fail_if_no_progress (with_reducible refine mk_follows ?_ rfl rfl) | fail_if_no_progress intros | split | extract_lets | dsimp only | dsimp +zetaDelta only)

theorem takeStop_follows {s0 s : State} (h : Follows s0 s) (k : Nat) (e : EdgeSample) :
    Follows s0 (takeStop k e s) := by
  unfold takeStop
  repeat' (first
    | with_reducible assumption | with_reducible exact Follows.refl _ | with_reducible refine Follows.ite ?_ ?_ 
    | with_reducible refine stampEdge_follows ?_ .. | with_reducible refine measDone_follows ?_ .. | with_reducible refine inc_follows ?_ .. | with_reducible refine setMeas_follows ?_ ..
    | fail_if_no_progress (with_reducible refine mk_follows ?_ rfl rfl) | fail_if_no_progress intros | split | extract_lets | dsimp only | dsimp +zetaDelta only)

theorem measAbandon_follows {s0 s : State} (h : Follows s0 s) (k : Nat) :
    Follows s0 (measAbandon k s) := by
  unfold measAbandon
  repeat' (first
    | with_reducible assumption | with_reducible exact Follows.refl _ | with_reducible refine Follows.ite ?_ ?_ 
    | with_reducible refine measState_follows ?_ .. | with_reducible refine setMeas_follows ?_ ..
    | fail_if_no_progress (with_reducible refine mk_follows ?_ rfl rfl) | fail_if_no_progress intros | split | extract_lets | dsimp only | dsimp +zetaDelta only)

theorem effTdcMeasureConfig_follows {s0 s : State} (h : Follows s0 s) (k v : Nat) :
    Follows s0 (effTdcMeasureConfig k v s) := by
  unfold effTdcMeasureConfig
  repeat' (first
    | with_reducible assumption | with_reducible exact Follows.refl _ | with_reducible refine Follows.ite ?_ ?_ 
    | with_reducible refine w1_follows ?_ .. | with_reducible refine measAbandon_follows ?_ ..
    | fail_if_no_progress (with_reducible refine mk_follows ?_ rfl rfl) | fail_if_no_progress intros | split | extract_lets | dsimp only | dsimp +zetaDelta only)

theorem execTdcMeasureConfigWrite_ends {s0 s : State} (h : Follows s0 s) (slot : Fin 8) (w : WriteReq) :
    Ends s0 (execTdcMeasureConfigWrite slot w s) := by
  unfold execTdcMeasureConfigWrite
  repeat' (first
    | with_reducible assumption | with_reducible exact Follows.refl _ | with_reducible refine Ends.of ?_ | with_reducible refine Ends.ite ?_ ?_ | with_reducible refine Follows.ite ?_ ?_ 
    | with_reducible refine catWrite_follows ?_ ?_ .. | with_reducible refine effTdcMeasureConfig_follows ?_ ..
    | fail_if_no_progress (with_reducible refine mk_follows ?_ rfl rfl) | fail_if_no_progress intros | split | extract_lets | dsimp only | dsimp +zetaDelta only)

theorem measStart_follows {s0 s : State} (h : Follows s0 s) (k : Nat) :
    Follows s0 (measStart k s) := by
  unfold measStart
  repeat' (first
    | with_reducible assumption | with_reducible exact Follows.refl _ | with_reducible refine Follows.ite ?_ ?_ 
    | with_reducible refine measState_follows ?_ .. | with_reducible refine setMeas_follows ?_ ..
    | fail_if_no_progress (with_reducible refine mk_follows ?_ rfl rfl) | fail_if_no_progress intros | split | extract_lets | dsimp only | dsimp +zetaDelta only)

theorem execTdcMeasureStart_ends {s0 s : State} (h : Follows s0 s) (slot : Fin 8) (w : WriteReq) :
    Ends s0 (execTdcMeasureStart slot w s) := by
  unfold execTdcMeasureStart
  repeat' (first
    | with_reducible assumption | with_reducible exact Follows.refl _ | with_reducible refine Ends.of ?_ | with_reducible refine Ends.ite ?_ ?_ | with_reducible refine Follows.ite ?_ ?_ 
    | with_reducible refine catWrite_follows ?_ ?_ .. | with_reducible refine effBool_follows ?_ ?_ .. | with_reducible refine measStart_follows ?_ ..
    | fail_if_no_progress (with_reducible refine mk_follows ?_ rfl rfl) | fail_if_no_progress intros | split | extract_lets | dsimp only | dsimp +zetaDelta only)

theorem execStartEdgeTaken_ends {s0 s : State} (h : Follows s0 s) (slot : Fin 8) (dt : Nat) (edge : EdgeSample) :
    Ends s0 (execStartEdgeTaken slot dt edge s) := by
  unfold execStartEdgeTaken
  repeat' (first
    | with_reducible assumption | with_reducible exact Follows.refl _ | with_reducible refine Ends.of ?_ | with_reducible refine Ends.ite ?_ ?_ | with_reducible refine Follows.ite ?_ ?_ 
    | with_reducible refine takeStart_follows ?_ .. | with_reducible refine elapse_follows ?_ ..
    | fail_if_no_progress (with_reducible refine mk_follows ?_ rfl rfl) | fail_if_no_progress intros | split | extract_lets | dsimp only | dsimp +zetaDelta only)

theorem execTdcMeasureComplete_ends {s0 s : State} (h : Follows s0 s) (slot : Fin 8) (dt : Nat) (edge : EdgeSample) :
    Ends s0 (execTdcMeasureComplete slot dt edge s) := by
  unfold execTdcMeasureComplete
  repeat' (first
    | with_reducible assumption | with_reducible exact Follows.refl _ | with_reducible refine Ends.of ?_ | with_reducible refine Ends.ite ?_ ?_ | with_reducible refine Follows.ite ?_ ?_ 
    | with_reducible refine takeStop_follows ?_ .. | with_reducible refine elapse_follows ?_ ..
    | fail_if_no_progress (with_reducible refine mk_follows ?_ rfl rfl) | fail_if_no_progress intros | split | extract_lets | dsimp only | dsimp +zetaDelta only)

theorem measOverflow_follows {s0 s : State} (h : Follows s0 s) (k : Nat) :
    Follows s0 (measOverflow k s) := by
  unfold measOverflow
  repeat' (first
    | with_reducible assumption | with_reducible exact Follows.refl _ | with_reducible refine Follows.ite ?_ ?_ 
    | with_reducible refine setMeas_follows ?_ .. | with_reducible refine w1_follows ?_ ..
    | fail_if_no_progress (with_reducible refine mk_follows ?_ rfl rfl) | fail_if_no_progress intros | split | extract_lets | dsimp only | dsimp +zetaDelta only)

theorem execTdcMeasureOverflow_ends {s0 s : State} (h : Follows s0 s) (slot : Fin 8) :
    Ends s0 (execTdcMeasureOverflow slot s) := by
  unfold execTdcMeasureOverflow
  repeat' (first
    | with_reducible assumption | with_reducible exact Follows.refl _ | with_reducible refine Ends.of ?_ | with_reducible refine Ends.ite ?_ ?_ | with_reducible refine Follows.ite ?_ ?_ 
    | with_reducible refine measOverflow_follows ?_ .. | with_reducible refine advanceTo_follows ?_ ..
    | fail_if_no_progress (with_reducible refine mk_follows ?_ rfl rfl) | fail_if_no_progress intros | split | extract_lets | dsimp only | dsimp +zetaDelta only)

theorem setFreq_follows {s0 s : State} (h : Follows s0 s) (k : Nat) (f : FreqSlot) :
    Follows s0 (setFreq k f s) := by
  unfold setFreq
  repeat' (first
    | with_reducible assumption | with_reducible exact Follows.refl _ | with_reducible refine Follows.ite ?_ ?_ 
    | fail_if_no_progress (with_reducible refine mk_follows ?_ rfl rfl) | fail_if_no_progress intros | split | extract_lets | dsimp only | dsimp +zetaDelta only)

theorem freqState_follows {s0 s : State} (h : Follows s0 s) (k st : Nat) :
    Follows s0 (freqState k st s) := by
  unfold freqState
  repeat' (first
    | with_reducible assumption | with_reducible exact Follows.refl _ | with_reducible refine Follows.ite ?_ ?_ 
    | with_reducible refine w1_follows ?_ ..
    | fail_if_no_progress (with_reducible refine mk_follows ?_ rfl rfl) | fail_if_no_progress intros | split | extract_lets | dsimp only | dsimp +zetaDelta only)

theorem effFreqMeasureConfig_follows {s0 s : State} (h : Follows s0 s) (k v : Nat) :
    Follows s0 (effFreqMeasureConfig k v s) := by
  unfold effFreqMeasureConfig
  repeat' (first
    | with_reducible assumption | with_reducible exact Follows.refl _ | with_reducible refine Follows.ite ?_ ?_ 
    | with_reducible refine freqState_follows ?_ .. | with_reducible refine setFreq_follows ?_ .. | with_reducible refine w1_follows ?_ ..
    | fail_if_no_progress (with_reducible refine mk_follows ?_ rfl rfl) | fail_if_no_progress intros | split | extract_lets | dsimp only | dsimp +zetaDelta only)

theorem execFreqMeasureConfigWrite_ends {s0 s : State} (h : Follows s0 s) (slot : Fin 8) (w : WriteReq) :
    Ends s0 (execFreqMeasureConfigWrite slot w s) := by
  unfold execFreqMeasureConfigWrite
  repeat' (first
    | with_reducible assumption | with_reducible exact Follows.refl _ | with_reducible refine Ends.of ?_ | with_reducible refine Ends.ite ?_ ?_ | with_reducible refine Follows.ite ?_ ?_ 
    | with_reducible refine catWrite_follows ?_ ?_ .. | with_reducible refine effFreqMeasureConfig_follows ?_ ..
    | fail_if_no_progress (with_reducible refine mk_follows ?_ rfl rfl) | fail_if_no_progress intros | split | extract_lets | dsimp only | dsimp +zetaDelta only)

theorem freqStart_follows {s0 s : State} (h : Follows s0 s) (k : Nat) :
    Follows s0 (freqStart k s) := by
  unfold freqStart
  repeat' (first
    | with_reducible assumption | with_reducible exact Follows.refl _ | with_reducible refine Follows.ite ?_ ?_ 
    | with_reducible refine freqState_follows ?_ .. | with_reducible refine setFreq_follows ?_ ..
    | fail_if_no_progress (with_reducible refine mk_follows ?_ rfl rfl) | fail_if_no_progress intros | split | extract_lets | dsimp only | dsimp +zetaDelta only)

theorem execFreqMeasureStart_ends {s0 s : State} (h : Follows s0 s) (slot : Fin 8) (w : WriteReq) :
    Ends s0 (execFreqMeasureStart slot w s) := by
  unfold execFreqMeasureStart
  repeat' (first
    | with_reducible assumption | with_reducible exact Follows.refl _ | with_reducible refine Ends.of ?_ | with_reducible refine Ends.ite ?_ ?_ | with_reducible refine Follows.ite ?_ ?_ 
    | with_reducible refine catWrite_follows ?_ ?_ .. | with_reducible refine effBool_follows ?_ ?_ .. | with_reducible refine freqStart_follows ?_ ..
    | fail_if_no_progress (with_reducible refine mk_follows ?_ rfl rfl) | fail_if_no_progress intros | split | extract_lets | dsimp only | dsimp +zetaDelta only)

theorem freqTake_follows {s0 s : State} (h : Follows s0 s) (k ended : Nat) (f : FreqSlot) (a : Nat) :
    Follows s0 (freqTake k ended f a s) := by
  unfold freqTake
  repeat' (first
    | with_reducible assumption | with_reducible exact Follows.refl _ | with_reducible refine Follows.ite ?_ ?_ 
    | with_reducible refine setFreq_follows ?_ ..
    | fail_if_no_progress (with_reducible refine mk_follows ?_ rfl rfl) | fail_if_no_progress intros | split | extract_lets | dsimp only | dsimp +zetaDelta only)

theorem freqTick_follows {s0 s : State} (h : Follows s0 s) (ended begun : Nat) :
    Follows s0 (freqTick ended begun s) := by
  unfold freqTick
  repeat' (first
    | with_reducible assumption | with_reducible exact Follows.refl _ | with_reducible refine Follows.ite ?_ ?_ | with_reducible refine forN_snd ?_ ?_ | with_reducible refine forN_third ?_ ?_ 
    | with_reducible refine forN_follows ?_ ?_ | with_reducible refine setFreq_follows ?_ .. | with_reducible refine freqTake_follows ?_ ..
    | fail_if_no_progress (with_reducible refine mk_follows ?_ rfl rfl) | fail_if_no_progress intros | split | extract_lets | dsimp only | dsimp +zetaDelta only)

theorem freqGap_follows {s0 s : State} (h : Follows s0 s) (k : Nat) (f : FreqSlot) :
    Follows s0 (freqGap k f s) := by
  unfold freqGap
  repeat' (first
    | with_reducible assumption | with_reducible exact Follows.refl _ | with_reducible refine Follows.ite ?_ ?_ 
    | with_reducible refine draw_follows ?_ .. | with_reducible refine setFreq_follows ?_ .. | with_reducible refine w1_follows ?_ ..
    | fail_if_no_progress (with_reducible refine mk_follows ?_ rfl rfl) | fail_if_no_progress intros | split | extract_lets | dsimp only | dsimp +zetaDelta only)

theorem freqWhole_follows {s0 s : State} (h : Follows s0 s) (k : Nat) (f : FreqSlot) (a b : GateBound) :
    Follows s0 (freqWhole k f a b s) := by
  unfold freqWhole
  repeat' (first
    | with_reducible assumption | with_reducible exact Follows.refl _ | with_reducible refine Follows.ite ?_ ?_ 
    | with_reducible refine setFreq_follows ?_ .. | with_reducible refine w1_follows ?_ ..
    | fail_if_no_progress (with_reducible refine mk_follows ?_ rfl rfl) | fail_if_no_progress intros | split | extract_lets | dsimp only | dsimp +zetaDelta only)

theorem execFreqGateEnd_ends {s0 s : State} (h : Follows s0 s) (slot : Fin 8) (x1 : Unit) :
    Ends s0 (execFreqGateEnd slot x1 s) := by
  unfold execFreqGateEnd
  repeat' (first
    | with_reducible assumption | with_reducible exact Follows.refl _ | with_reducible refine Ends.of ?_ | with_reducible refine Ends.ite ?_ ?_ | with_reducible refine Follows.ite ?_ ?_ 
    | with_reducible refine freqGap_follows ?_ .. | with_reducible refine freqWhole_follows ?_ ..
    | fail_if_no_progress (with_reducible refine mk_follows ?_ rfl rfl) | fail_if_no_progress intros | split | extract_lets | dsimp only | dsimp +zetaDelta only)

end Sys2Proof.Machine
end

