-- ==== Sys2Proof/Laws/RefsFollows.lean ====
section
/-! SUPPORT. Every operation of Refs follows. -/

set_option linter.unreachableTactic false
set_option linter.unusedTactic false

namespace Sys2Proof.Machine

theorem setRef_follows {s0 s : State} (h : Follows s0 s) (i : Nat) (r : RefIn) :
    Follows s0 (setRef i r s) := by
  unfold setRef
  repeat' (first
    | with_reducible assumption | with_reducible exact Follows.refl _ | with_reducible refine Follows.ite ?_ ?_ 
    | fail_if_no_progress (with_reducible refine mk_follows ?_ rfl rfl) | fail_if_no_progress intros | split | extract_lets | dsimp only | dsimp +zetaDelta only)

theorem modRef_follows {s0 s : State} (h : Follows s0 s) (i : Nat) (f : RefIn → RefIn) :
    Follows s0 (modRef i f s) := by
  unfold modRef
  repeat' (first
    | with_reducible assumption | with_reducible exact Follows.refl _ | with_reducible refine Follows.ite ?_ ?_ 
    | with_reducible refine setRef_follows ?_ ..
    | fail_if_no_progress (with_reducible refine mk_follows ?_ rfl rfl) | fail_if_no_progress intros | split | extract_lets | dsimp only | dsimp +zetaDelta only)

theorem setPls_follows {s0 s : State} (h : Follows s0 s) (k : Nat) (y : PlsSt) :
    Follows s0 (setPls k y s) := by
  unfold setPls
  repeat' (first
    | with_reducible assumption | with_reducible exact Follows.refl _ | with_reducible refine Follows.ite ?_ ?_ 
    | fail_if_no_progress (with_reducible refine mk_follows ?_ rfl rfl) | fail_if_no_progress intros | split | extract_lets | dsimp only | dsimp +zetaDelta only)

theorem publishPls_follows {s0 s : State} (h : Follows s0 s) (n : Nat) :
    Follows s0 (publishPls n s) := by
  unfold publishPls
  repeat' (first
    | with_reducible assumption | with_reducible exact Follows.refl _ | with_reducible refine Follows.ite ?_ ?_ 
    | with_reducible refine w1_follows ?_ ..
    | fail_if_no_progress (with_reducible refine mk_follows ?_ rfl rfl) | fail_if_no_progress intros | split | extract_lets | dsimp only | dsimp +zetaDelta only)

theorem dropFollowers_follows {s0 s : State} (h : Follows s0 s) (i : Nat) :
    Follows s0 (dropFollowers i s) := by
  unfold dropFollowers
  repeat' (first
    | with_reducible assumption | with_reducible exact Follows.refl _ | with_reducible refine Follows.ite ?_ ?_ | with_reducible refine forN_snd ?_ ?_ | with_reducible refine forN_third ?_ ?_ 
    | with_reducible refine forN_follows ?_ ?_ | with_reducible refine publishPls_follows ?_ .. | with_reducible refine setPls_follows ?_ ..
    | fail_if_no_progress (with_reducible refine mk_follows ?_ rfl rfl) | fail_if_no_progress intros | split | extract_lets | dsimp only | dsimp +zetaDelta only)

theorem becomeAbsent_follows {s0 s : State} (h : Follows s0 s) (i : Nat) :
    Follows s0 (becomeAbsent i s) := by
  unfold becomeAbsent
  repeat' (first
    | with_reducible assumption | with_reducible exact Follows.refl _ | with_reducible refine Follows.ite ?_ ?_ 
    | with_reducible refine noteInput_follows ?_ .. | with_reducible refine dropFollowers_follows ?_ .. | with_reducible refine modRef_follows ?_ .. | with_reducible refine w1_follows ?_ .. | with_reducible refine raise_follows ?_ .. | with_reducible refine inc_follows ?_ ..
    | fail_if_no_progress (with_reducible refine mk_follows ?_ rfl rfl) | fail_if_no_progress intros | split | extract_lets | dsimp only | dsimp +zetaDelta only)

theorem publishOffset_follows {s0 s : State} (h : Follows s0 s) (i : Nat) :
    Follows s0 (publishOffset i s) := by
  unfold publishOffset
  repeat' (first
    | with_reducible assumption | with_reducible exact Follows.refl _ | with_reducible refine Follows.ite ?_ ?_ 
    | with_reducible refine w1_follows ?_ ..
    | fail_if_no_progress (with_reducible refine mk_follows ?_ rfl rfl) | fail_if_no_progress intros | split | extract_lets | dsimp only | dsimp +zetaDelta only)

theorem takeTickResult_follows {s0 s : State} (h : Follows s0 s) (i n : Nat) :
    Follows s0 (takeTickResult i n s) := by
  unfold takeTickResult
  repeat' (first
    | with_reducible assumption | with_reducible exact Follows.refl _ | with_reducible refine Follows.ite ?_ ?_ 
    | with_reducible refine modRef_follows ?_ .. | with_reducible refine becomeAbsent_follows ?_ ..
    | fail_if_no_progress (with_reducible refine mk_follows ?_ rfl rfl) | fail_if_no_progress intros | split | extract_lets | dsimp only | dsimp +zetaDelta only)

theorem checkEdgeTimeout_follows {s0 s : State} (h : Follows s0 s) (i : Nat) :
    Follows s0 (checkEdgeTimeout i s) := by
  unfold checkEdgeTimeout
  repeat' (first
    | with_reducible assumption | with_reducible exact Follows.refl _ | with_reducible refine Follows.ite ?_ ?_ 
    | with_reducible refine becomeAbsent_follows ?_ ..
    | fail_if_no_progress (with_reducible refine mk_follows ?_ rfl rfl) | fail_if_no_progress intros | split | extract_lets | dsimp only | dsimp +zetaDelta only)

theorem toWaiting_follows {s0 s : State} (h : Follows s0 s) (i : Nat) :
    Follows s0 (toWaiting i s) := by
  unfold toWaiting
  repeat' (first
    | with_reducible assumption | with_reducible exact Follows.refl _ | with_reducible refine Follows.ite ?_ ?_ 
    | with_reducible refine modRef_follows ?_ .. | with_reducible refine w1_follows ?_ ..
    | fail_if_no_progress (with_reducible refine mk_follows ?_ rfl rfl) | fail_if_no_progress intros | split | extract_lets | dsimp only | dsimp +zetaDelta only)

theorem toBeyond_follows {s0 s : State} (h : Follows s0 s) (i : Nat) :
    Follows s0 (toBeyond i s) := by
  unfold toBeyond
  repeat' (first
    | with_reducible assumption | with_reducible exact Follows.refl _ | with_reducible refine Follows.ite ?_ ?_ 
    | with_reducible refine modRef_follows ?_ .. | with_reducible refine w1_follows ?_ ..
    | fail_if_no_progress (with_reducible refine mk_follows ?_ rfl rfl) | fail_if_no_progress intros | split | extract_lets | dsimp only | dsimp +zetaDelta only)

theorem toQualified_follows {s0 s : State} (h : Follows s0 s) (i : Nat) :
    Follows s0 (toQualified i s) := by
  unfold toQualified
  repeat' (first
    | with_reducible assumption | with_reducible exact Follows.refl _ | with_reducible refine Follows.ite ?_ ?_ 
    | with_reducible refine w1_follows ?_ ..
    | fail_if_no_progress (with_reducible refine mk_follows ?_ rfl rfl) | fail_if_no_progress intros | split | extract_lets | dsimp only | dsimp +zetaDelta only)

theorem disqualify_follows {s0 s : State} (h : Follows s0 s) (i : Nat) :
    Follows s0 (disqualify i s) := by
  unfold disqualify
  repeat' (first
    | with_reducible assumption | with_reducible exact Follows.refl _ | with_reducible refine Follows.ite ?_ ?_ 
    | with_reducible refine raise_follows ?_ .. | with_reducible refine inc_follows ?_ .. | with_reducible refine w1_follows ?_ ..
    | fail_if_no_progress (with_reducible refine mk_follows ?_ rfl rfl) | fail_if_no_progress intros | split | extract_lets | dsimp only | dsimp +zetaDelta only)

theorem judgeOffset_follows {s0 s : State} (h : Follows s0 s) (i : Nat) :
    Follows s0 (judgeOffset i s) := by
  unfold judgeOffset
  repeat' (first
    | with_reducible assumption | with_reducible exact Follows.refl _ | with_reducible refine Follows.ite ?_ ?_ 
    | with_reducible refine toBeyond_follows ?_ .. | with_reducible refine raise_follows ?_ .. | with_reducible refine inc_follows ?_ .. | with_reducible refine w1_follows ?_ .. | with_reducible refine toQualified_follows ?_ .. | with_reducible refine toWaiting_follows ?_ ..
    | fail_if_no_progress (with_reducible refine mk_follows ?_ rfl rfl) | fail_if_no_progress intros | split | extract_lets | dsimp only | dsimp +zetaDelta only)

theorem judgeRef_follows {s0 s : State} (h : Follows s0 s) (i : Nat) :
    Follows s0 (judgeRef i s) := by
  unfold judgeRef
  repeat' (first
    | with_reducible assumption | with_reducible exact Follows.refl _ | with_reducible refine Follows.ite ?_ ?_ 
    | with_reducible refine w1_follows ?_ .. | with_reducible refine toWaiting_follows ?_ .. | with_reducible refine toQualified_follows ?_ .. | with_reducible refine modRef_follows ?_ .. | with_reducible refine judgeOffset_follows ?_ .. | with_reducible refine disqualify_follows ?_ ..
    | fail_if_no_progress (with_reducible refine mk_follows ?_ rfl rfl) | fail_if_no_progress intros | split | extract_lets | dsimp only | dsimp +zetaDelta only)

theorem evaluateInput_follows {s0 s : State} (h : Follows s0 s) (ended i : Nat) :
    Follows s0 (evaluateInput ended i s) := by
  unfold evaluateInput
  repeat' (first
    | with_reducible assumption | with_reducible exact Follows.refl _ | with_reducible refine Follows.ite ?_ ?_ 
    | with_reducible refine modRef_follows ?_ .. | with_reducible refine checkEdgeTimeout_follows ?_ .. | with_reducible refine takeTickResult_follows ?_ .. | with_reducible refine publishOffset_follows ?_ .. | with_reducible refine judgeRef_follows ?_ .. | with_reducible refine setRef_follows ?_ ..
    | fail_if_no_progress (with_reducible refine mk_follows ?_ rfl rfl) | fail_if_no_progress intros | split | extract_lets | dsimp only | dsimp +zetaDelta only)

theorem setFlag_follows {s0 s : State} (h : Follows s0 s) (i j : Nat) (on : Bool) :
    Follows s0 (setFlag i j on s) := by
  unfold setFlag
  repeat' (first
    | with_reducible assumption | with_reducible exact Follows.refl _ | with_reducible refine Follows.ite ?_ ?_ 
    | with_reducible refine w1_follows ?_ ..
    | fail_if_no_progress (with_reducible refine mk_follows ?_ rfl rfl) | fail_if_no_progress intros | split | extract_lets | dsimp only | dsimp +zetaDelta only)

theorem judgePair_follows {s0 s : State} (h : Follows s0 s) (i j : Nat) :
    Follows s0 (judgePair i j s) := by
  unfold judgePair
  repeat' (first
    | with_reducible assumption | with_reducible exact Follows.refl _ | with_reducible refine Follows.ite ?_ ?_ 
    | with_reducible refine setFlag_follows ?_ .. | with_reducible refine raise_follows ?_ ..
    | fail_if_no_progress (with_reducible refine mk_follows ?_ rfl rfl) | fail_if_no_progress intros | split | extract_lets | dsimp only | dsimp +zetaDelta only)

theorem setWinner_follows {s0 s : State} (h : Follows s0 s) (k : Nat) (v : Option Nat) :
    Follows s0 (setWinner k v s) := by
  unfold setWinner
  repeat' (first
    | with_reducible assumption | with_reducible exact Follows.refl _ | with_reducible refine Follows.ite ?_ ?_ 
    | fail_if_no_progress (with_reducible refine mk_follows ?_ rfl rfl) | fail_if_no_progress intros | split | extract_lets | dsimp only | dsimp +zetaDelta only)

theorem setOpenVote_follows {s0 s : State} (h : Follows s0 s) (k : Nat) (on : Bool) :
    Follows s0 (setOpenVote k on s) := by
  unfold setOpenVote
  repeat' (first
    | with_reducible assumption | with_reducible exact Follows.refl _ | with_reducible refine Follows.ite ?_ ?_ 
    | fail_if_no_progress (with_reducible refine mk_follows ?_ rfl rfl) | fail_if_no_progress intros | split | extract_lets | dsimp only | dsimp +zetaDelta only)

theorem votePair_follows {s0 s : State} (h : Follows s0 s) (i j : Nat) :
    Follows s0 (votePair i j s) := by
  unfold votePair
  repeat' (first
    | with_reducible assumption | with_reducible exact Follows.refl _ | with_reducible refine Follows.ite ?_ ?_ 
    | with_reducible refine raise_follows ?_ .. | with_reducible refine inc0_follows ?_ .. | with_reducible refine setOpenVote_follows ?_ .. | with_reducible refine setWinner_follows ?_ ..
    | fail_if_no_progress (with_reducible refine mk_follows ?_ rfl rfl) | fail_if_no_progress intros | split | extract_lets | dsimp only | dsimp +zetaDelta only)

theorem endVote_follows {s0 s : State} (h : Follows s0 s) (i j : Nat) :
    Follows s0 (endVote i j s) := by
  unfold endVote
  repeat' (first
    | with_reducible assumption | with_reducible exact Follows.refl _ | with_reducible refine Follows.ite ?_ ?_ 
    | with_reducible refine setOpenVote_follows ?_ .. | with_reducible refine setWinner_follows ?_ ..
    | fail_if_no_progress (with_reducible refine mk_follows ?_ rfl rfl) | fail_if_no_progress intros | split | extract_lets | dsimp only | dsimp +zetaDelta only)

theorem voteRank_follows {s0 s : State} (h : Follows s0 s) (l : List (Nat × Nat)) (r : Nat) :
    Follows s0 (voteRank l r s) := by
  unfold voteRank
  repeat' (first
    | with_reducible assumption | with_reducible exact Follows.refl _ | with_reducible refine Follows.ite ?_ ?_ | with_reducible refine forL_snd ?_ ?_ | with_reducible refine forL_third ?_ ?_ 
    | with_reducible refine forL_follows ?_ ?_ | with_reducible refine votePair_follows ?_ ..
    | fail_if_no_progress (with_reducible refine mk_follows ?_ rfl rfl) | fail_if_no_progress intros | split | extract_lets | dsimp only | dsimp +zetaDelta only)

theorem witnessStep_follows {s0 s : State} (h : Follows s0 s) :
    Follows s0 (witnessStep s) := by
  unfold witnessStep
  repeat' (first
    | with_reducible assumption | with_reducible exact Follows.refl _ | with_reducible refine Follows.ite ?_ ?_ | with_reducible refine forL_snd ?_ ?_ | with_reducible refine forL_third ?_ ?_ | with_reducible refine forN_snd ?_ ?_ | with_reducible refine forN_third ?_ ?_ 
    | with_reducible refine forL_follows ?_ ?_ | with_reducible refine judgePair_follows ?_ .. | with_reducible refine forN_follows ?_ ?_ | with_reducible refine voteRank_follows ?_ .. | with_reducible refine endVote_follows ?_ ..
    | fail_if_no_progress (with_reducible refine mk_follows ?_ rfl rfl) | fail_if_no_progress intros | split | extract_lets | dsimp only | dsimp +zetaDelta only)

theorem publishFlags_follows {s0 s : State} (h : Follows s0 s) :
    Follows s0 (publishFlags s) := by
  unfold publishFlags
  repeat' (first
    | with_reducible assumption | with_reducible exact Follows.refl _ | with_reducible refine Follows.ite ?_ ?_ | with_reducible refine forN_snd ?_ ?_ | with_reducible refine forN_third ?_ ?_ 
    | with_reducible refine forN_follows ?_ ?_ | with_reducible refine w1_follows ?_ ..
    | fail_if_no_progress (with_reducible refine mk_follows ?_ rfl rfl) | fail_if_no_progress intros | split | extract_lets | dsimp only | dsimp +zetaDelta only)

theorem recordBin_follows {s0 s : State} (h : Follows s0 s) :
    Follows s0 (recordBin s) := by
  unfold recordBin
  repeat' (first
    | with_reducible assumption | with_reducible exact Follows.refl _ | with_reducible refine Follows.ite ?_ ?_ | with_reducible refine forL_snd ?_ ?_ | with_reducible refine forL_third ?_ ?_ 
    | with_reducible refine dropIdx_follows ?_ .. | with_reducible refine forL_follows ?_ ?_ | with_reducible refine wr_follows ?_ ..
    | fail_if_no_progress (with_reducible refine mk_follows ?_ rfl rfl) | fail_if_no_progress intros | split | extract_lets | dsimp only | dsimp +zetaDelta only)

theorem holdoverEntry_follows {s0 s : State} (h : Follows s0 s) :
    Follows s0 (holdoverEntry s) := by
  unfold holdoverEntry
  repeat' (first
    | with_reducible assumption | with_reducible exact Follows.refl _ | with_reducible refine Follows.ite ?_ ?_ 
    | with_reducible refine recordBin_follows ?_ .. | with_reducible refine w0_follows ?_ .. | with_reducible refine inc0_follows ?_ .. | with_reducible refine raise_follows ?_ ..
    | fail_if_no_progress (with_reducible refine mk_follows ?_ rfl rfl) | fail_if_no_progress intros | split | extract_lets | dsimp only | dsimp +zetaDelta only)

theorem setLoopControl_follows {s0 s : State} (h : Follows s0 s) (x : Rat) :
    Follows s0 (setLoopControl x s) := by
  unfold setLoopControl
  repeat' (first
    | with_reducible assumption | with_reducible exact Follows.refl _ | with_reducible refine Follows.ite ?_ ?_ 
    | with_reducible refine w0_follows ?_ ..
    | fail_if_no_progress (with_reducible refine mk_follows ?_ rfl rfl) | fail_if_no_progress intros | split | extract_lets | dsimp only | dsimp +zetaDelta only)

theorem accumulate_follows {s0 s : State} (h : Follows s0 s) (i : Nat) :
    Follows s0 (accumulate i s) := by
  unfold accumulate
  repeat' (first
    | with_reducible assumption | with_reducible exact Follows.refl _ | with_reducible refine Follows.ite ?_ ?_ 
    | fail_if_no_progress (with_reducible refine mk_follows ?_ rfl rfl) | fail_if_no_progress intros | split | extract_lets | dsimp only | dsimp +zetaDelta only)

theorem publishPhi_follows {s0 s : State} (h : Follows s0 s) (phi : Rat) :
    Follows s0 (publishPhi phi s) := by
  unfold publishPhi
  repeat' (first
    | with_reducible assumption | with_reducible exact Follows.refl _ | with_reducible refine Follows.ite ?_ ?_ 
    | with_reducible refine w0_follows ?_ ..
    | fail_if_no_progress (with_reducible refine mk_follows ?_ rfl rfl) | fail_if_no_progress intros | split | extract_lets | dsimp only | dsimp +zetaDelta only)

theorem trackUpdate_follows {s0 s : State} (h : Follows s0 s) (i : Nat) (phase : Rat) :
    Follows s0 (trackUpdate i phase s) := by
  unfold trackUpdate
  repeat' (first
    | with_reducible assumption | with_reducible exact Follows.refl _ | with_reducible refine Follows.ite ?_ ?_ 
    | with_reducible refine accumulate_follows ?_ .. | with_reducible refine inc_follows ?_ .. | with_reducible refine publishPhi_follows ?_ .. | with_reducible refine setLoopControl_follows ?_ ..
    | fail_if_no_progress (with_reducible refine mk_follows ?_ rfl rfl) | fail_if_no_progress intros | split | extract_lets | dsimp only | dsimp +zetaDelta only)

theorem enterTrack_follows {s0 s : State} (h : Follows s0 s) (i : Nat) (phase : Rat) :
    Follows s0 (enterTrack i phase s) := by
  unfold enterTrack
  repeat' (first
    | with_reducible assumption | with_reducible exact Follows.refl _ | with_reducible refine Follows.ite ?_ ?_ 
    | with_reducible refine publishPhi_follows ?_ .. | with_reducible refine w0_follows ?_ ..
    | fail_if_no_progress (with_reducible refine mk_follows ?_ rfl rfl) | fail_if_no_progress intros | split | extract_lets | dsimp only | dsimp +zetaDelta only)

theorem regainUpdate_follows {s0 s : State} (h : Follows s0 s) (i : Nat) (phase : Rat) :
    Follows s0 (regainUpdate i phase s) := by
  unfold regainUpdate
  repeat' (first
    | with_reducible assumption | with_reducible exact Follows.refl _ | with_reducible refine Follows.ite ?_ ?_ 
    | with_reducible refine setLoopControl_follows ?_ .. | with_reducible refine enterTrack_follows ?_ ..
    | fail_if_no_progress (with_reducible refine mk_follows ?_ rfl rfl) | fail_if_no_progress intros | split | extract_lets | dsimp only | dsimp +zetaDelta only)

theorem loopSample_follows {s0 s : State} (h : Follows s0 s) (i : Nat) (phase : Rat) :
    Follows s0 (loopSample i phase s) := by
  unfold loopSample
  repeat' (first
    | with_reducible assumption | with_reducible exact Follows.refl _ | with_reducible refine Follows.ite ?_ ?_ 
    | with_reducible refine regainUpdate_follows ?_ .. | with_reducible refine trackUpdate_follows ?_ ..
    | fail_if_no_progress (with_reducible refine mk_follows ?_ rfl rfl) | fail_if_no_progress intros | split | extract_lets | dsimp only | dsimp +zetaDelta only)

theorem loopTick_follows {s0 s : State} (h : Follows s0 s) (ended : Nat) :
    Follows s0 (loopTick ended s) := by
  unfold loopTick
  repeat' (first
    | with_reducible assumption | with_reducible exact Follows.refl _ | with_reducible refine Follows.ite ?_ ?_ 
    | with_reducible refine setLoopControl_follows ?_ .. | with_reducible refine loopSample_follows ?_ .. | with_reducible refine accumulate_follows ?_ ..
    | fail_if_no_progress (with_reducible refine mk_follows ?_ rfl rfl) | fail_if_no_progress intros | split | extract_lets | dsimp only | dsimp +zetaDelta only)

theorem selectStep_follows {s0 s : State} (h : Follows s0 s) :
    Follows s0 (selectStep s).2 := by
  unfold selectStep
  repeat' (first
    | with_reducible assumption | with_reducible exact Follows.refl _ | with_reducible refine Follows.ite ?_ ?_ 
    | with_reducible refine raise_follows ?_ .. | with_reducible refine inc0_follows ?_ .. | with_reducible refine w0_follows ?_ .. | with_reducible refine holdoverEntry_follows ?_ ..
    | fail_if_no_progress (with_reducible refine mk_follows ?_ rfl rfl) | fail_if_no_progress intros | split | extract_lets | dsimp only | dsimp +zetaDelta only)

theorem binTick_follows {s0 s : State} (h : Follows s0 s) :
    Follows s0 (binTick s) := by
  unfold binTick
  repeat' (first
    | with_reducible assumption | with_reducible exact Follows.refl _ | with_reducible refine Follows.ite ?_ ?_ 
    | with_reducible refine recordBin_follows ?_ ..
    | fail_if_no_progress (with_reducible refine mk_follows ?_ rfl rfl) | fail_if_no_progress intros | split | extract_lets | dsimp only | dsimp +zetaDelta only)

theorem updateTimeBase_follows {s0 s : State} (h : Follows s0 s) :
    Follows s0 (updateTimeBase s) := by
  unfold updateTimeBase
  repeat' (first
    | with_reducible assumption | with_reducible exact Follows.refl _ | with_reducible refine Follows.ite ?_ ?_ 
    | with_reducible refine w0_follows ?_ ..
    | fail_if_no_progress (with_reducible refine mk_follows ?_ rfl rfl) | fail_if_no_progress intros | split | extract_lets | dsimp only | dsimp +zetaDelta only)

theorem refTick_follows {s0 s : State} (h : Follows s0 s) (ended : Nat) :
    Follows s0 (refTick ended s) := by
  unfold refTick
  repeat' (first
    | with_reducible assumption | with_reducible exact Follows.refl _ | with_reducible refine Follows.ite ?_ ?_ | with_reducible refine forN_snd ?_ ?_ | with_reducible refine forN_third ?_ ?_ 
    | with_reducible refine binTick_follows ?_ .. | with_reducible refine updateTimeBase_follows ?_ .. | with_reducible refine forN_follows ?_ ?_ | with_reducible refine evaluateInput_follows ?_ .. | with_reducible refine witnessStep_follows ?_ .. | with_reducible refine selectStep_follows ?_ .. | with_reducible refine loopTick_follows ?_ .. | with_reducible refine publishFlags_follows ?_ ..
    | fail_if_no_progress (with_reducible refine mk_follows ?_ rfl rfl) | fail_if_no_progress intros | split | extract_lets | dsimp only | dsimp +zetaDelta only)

theorem perEdgeUpdate_follows {s0 s : State} (h : Follows s0 s) (i : Nat) (x : Int) (t : Nat) :
    Follows s0 (perEdgeUpdate i x t s) := by
  unfold perEdgeUpdate
  repeat' (first
    | with_reducible assumption | with_reducible exact Follows.refl _ | with_reducible refine Follows.ite ?_ ?_ 
    | with_reducible refine setRef_follows ?_ .. | with_reducible refine becomeAbsent_follows ?_ .. | with_reducible refine modRef_follows ?_ .. | with_reducible refine publishOffset_follows ?_ .. | with_reducible refine judgeOffset_follows ?_ .. | with_reducible refine loopSample_follows ?_ ..
    | fail_if_no_progress (with_reducible refine mk_follows ?_ rfl rfl) | fail_if_no_progress intros | split | extract_lets | dsimp only | dsimp +zetaDelta only)

theorem writePulseStamp_follows {s0 s : State} (h : Follows s0 s) (ch : Nat) (e : EdgeSample) :
    Follows s0 (writePulseStamp ch e s) := by
  unfold writePulseStamp
  repeat' (first
    | with_reducible assumption | with_reducible exact Follows.refl _ | with_reducible refine Follows.ite ?_ ?_ 
    | with_reducible refine w1_follows ?_ ..
    | fail_if_no_progress (with_reducible refine mk_follows ?_ rfl rfl) | fail_if_no_progress intros | split | extract_lets | dsimp only | dsimp +zetaDelta only)

theorem execWaitToRestoreExpire_ends {s0 s : State} (h : Follows s0 s) (input : Fin 70) :
    Ends s0 (execWaitToRestoreExpire input s) := by
  unfold execWaitToRestoreExpire
  repeat' (first
    | with_reducible assumption | with_reducible exact Follows.refl _ | with_reducible refine Ends.of ?_ | with_reducible refine Ends.ite ?_ ?_ | with_reducible refine Follows.ite ?_ ?_ 
    | with_reducible refine toQualified_follows ?_ ..
    | fail_if_no_progress (with_reducible refine mk_follows ?_ rfl rfl) | fail_if_no_progress intros | split | extract_lets | dsimp only | dsimp +zetaDelta only)

theorem execRefDisqualify_ends {s0 s : State} (h : Follows s0 s) (input : Fin 70) :
    Ends s0 (execRefDisqualify input s) := by
  unfold execRefDisqualify
  repeat' (first
    | with_reducible assumption | with_reducible exact Follows.refl _ | with_reducible refine Ends.of ?_ | with_reducible refine Ends.ite ?_ ?_ | with_reducible refine Follows.ite ?_ ?_ 
    | with_reducible refine disqualify_follows ?_ ..
    | fail_if_no_progress (with_reducible refine mk_follows ?_ rfl rfl) | fail_if_no_progress intros | split | extract_lets | dsimp only | dsimp +zetaDelta only)

theorem execRegainToTrack_ends {s0 s : State} (h : Follows s0 s) :
    Ends s0 (execRegainToTrack s) := by
  unfold execRegainToTrack
  repeat' (first
    | with_reducible assumption | with_reducible exact Follows.refl _ | with_reducible refine Ends.of ?_ | with_reducible refine Ends.ite ?_ ?_ | with_reducible refine Follows.ite ?_ ?_ 
    | with_reducible refine regainUpdate_follows ?_ ..
    | fail_if_no_progress (with_reducible refine mk_follows ?_ rfl rfl) | fail_if_no_progress intros | split | extract_lets | dsimp only | dsimp +zetaDelta only)

theorem execHoldoverBinEnd_ends {s0 s : State} (h : Follows s0 s) :
    Ends s0 (execHoldoverBinEnd s) := by
  unfold execHoldoverBinEnd
  repeat' (first
    | with_reducible assumption | with_reducible exact Follows.refl _ | with_reducible refine Ends.of ?_ | with_reducible refine Ends.ite ?_ ?_ | with_reducible refine Follows.ite ?_ ?_ 
    | with_reducible refine recordBin_follows ?_ ..
    | fail_if_no_progress (with_reducible refine mk_follows ?_ rfl rfl) | fail_if_no_progress intros | split | extract_lets | dsimp only | dsimp +zetaDelta only)

theorem acceptTod_follows {s0 s : State} (h : Follows s0 s) (i : Nat) (b : Bytes) :
    Follows s0 (acceptTod i b s) := by
  unfold acceptTod
  repeat' (first
    | with_reducible assumption | with_reducible exact Follows.refl _ | with_reducible refine Follows.ite ?_ ?_ 
    | with_reducible refine inc_follows ?_ .. | with_reducible refine w1_follows ?_ .. | with_reducible refine raise_follows ?_ ..
    | fail_if_no_progress (with_reducible refine mk_follows ?_ rfl rfl) | fail_if_no_progress intros | split | extract_lets | dsimp only | dsimp +zetaDelta only)

end Sys2Proof.Machine
end

