-- ==== Sys2Proof/Laws/ClocksFollows.lean ====
section
/-! SUPPORT. Every operation of Clocks follows. -/

set_option linter.unreachableTactic false
set_option linter.unusedTactic false

namespace Sys2Proof.Machine

theorem setSyn_follows {s0 s : State} (h : Follows s0 s) (k : Nat) (y : SynSt) :
    Follows s0 (setSyn k y s) := by
  unfold setSyn
  repeat' (first
    | with_reducible assumption | with_reducible exact Follows.refl _ | with_reducible refine Follows.ite ?_ ?_ 
    | fail_if_no_progress (with_reducible refine mk_follows ?_ rfl rfl) | fail_if_no_progress intros | split | extract_lets | dsimp only | dsimp +zetaDelta only)

theorem synRetarget_follows {s0 s : State} (h : Follows s0 s) (k : Nat) (write : Bool) :
    Follows s0 (synRetarget k write s) := by
  unfold synRetarget
  repeat' (first
    | with_reducible assumption | with_reducible exact Follows.refl _ | with_reducible refine Follows.ite ?_ ?_ 
    | with_reducible refine raise_follows ?_ .. | with_reducible refine inc_follows ?_ .. | with_reducible refine setSyn_follows ?_ ..
    | fail_if_no_progress (with_reducible refine mk_follows ?_ rfl rfl) | fail_if_no_progress intros | split | extract_lets | dsimp only | dsimp +zetaDelta only)

theorem publishOut_follows {s0 s : State} (h : Follows s0 s) (o : Nat) :
    Follows s0 (publishOut o s) := by
  unfold publishOut
  repeat' (first
    | with_reducible assumption | with_reducible exact Follows.refl _ | with_reducible refine Follows.ite ?_ ?_ 
    | with_reducible refine w1_follows ?_ ..
    | fail_if_no_progress (with_reducible refine mk_follows ?_ rfl rfl) | fail_if_no_progress intros | split | extract_lets | dsimp only | dsimp +zetaDelta only)

theorem publishSyn_follows {s0 s : State} (h : Follows s0 s) (k : Nat) :
    Follows s0 (publishSyn k s) := by
  unfold publishSyn
  repeat' (first
    | with_reducible assumption | with_reducible exact Follows.refl _ | with_reducible refine Follows.ite ?_ ?_ | with_reducible refine forL_snd ?_ ?_ | with_reducible refine forL_third ?_ ?_ 
    | with_reducible refine w1_follows ?_ .. | with_reducible refine forL_follows ?_ ?_ | with_reducible refine publishOut_follows ?_ ..
    | fail_if_no_progress (with_reducible refine mk_follows ?_ rfl rfl) | fail_if_no_progress intros | split | extract_lets | dsimp only | dsimp +zetaDelta only)

theorem keepPhase_follows {s0 s : State} (h : Follows s0 s) (o : Nat) (was : Rat) :
    Follows s0 (keepPhase o was s) := by
  unfold keepPhase
  repeat' (first
    | with_reducible assumption | with_reducible exact Follows.refl _ | with_reducible refine Follows.ite ?_ ?_ 
    | with_reducible refine setOut_follows ?_ ..
    | fail_if_no_progress (with_reducible refine mk_follows ?_ rfl rfl) | fail_if_no_progress intros | split | extract_lets | dsimp only | dsimp +zetaDelta only)

theorem keepAlign_follows {s0 s : State} (h : Follows s0 s) (k : Nat) (was : Rat) :
    Follows s0 (keepAlign k was s) := by
  unfold keepAlign
  repeat' (first
    | with_reducible assumption | with_reducible exact Follows.refl _ | with_reducible refine Follows.ite ?_ ?_ 
    | with_reducible refine setSyn_follows ?_ ..
    | fail_if_no_progress (with_reducible refine mk_follows ?_ rfl rfl) | fail_if_no_progress intros | split | extract_lets | dsimp only | dsimp +zetaDelta only)

theorem keepingPhases_follows {s0 s : State} {f : State → State} (h : Follows s0 s) (h_f : ∀ b, Follows s0 b → Follows s0 (f b)) (k : Nat) :
    Follows s0 (keepingPhases k f s) := by
  unfold keepingPhases
  repeat' (first
    | with_reducible assumption | with_reducible exact Follows.refl _ | with_reducible refine Follows.ite ?_ ?_ | with_reducible refine forL_snd ?_ ?_ | with_reducible refine forL_third ?_ ?_ 
    | with_reducible refine keepAlign_follows ?_ .. | with_reducible refine forL_follows ?_ ?_ | with_reducible refine keepPhase_follows ?_ ..
    | apply h_f
    | fail_if_no_progress (with_reducible refine mk_follows ?_ rfl rfl) | fail_if_no_progress intros | split | extract_lets | dsimp only | dsimp +zetaDelta only)

theorem takeDelay_follows {s0 s : State} (h : Follows s0 s) (o : Nat) :
    Follows s0 (takeDelay o s) := by
  unfold takeDelay
  repeat' (first
    | with_reducible assumption | with_reducible exact Follows.refl _ | with_reducible refine Follows.ite ?_ ?_ 
    | with_reducible refine setLine_follows ?_ .. | with_reducible refine setOut_follows ?_ ..
    | fail_if_no_progress (with_reducible refine mk_follows ?_ rfl rfl) | fail_if_no_progress intros | split | extract_lets | dsimp only | dsimp +zetaDelta only)

theorem outDelayed_follows {s0 s : State} (h : Follows s0 s) (o : Nat) :
    Follows s0 (outDelayed o s) := by
  unfold outDelayed
  repeat' (first
    | with_reducible assumption | with_reducible exact Follows.refl _ | with_reducible refine Follows.ite ?_ ?_ 
    | with_reducible refine takeDelay_follows ?_ .. | with_reducible refine setOut_follows ?_ ..
    | fail_if_no_progress (with_reducible refine mk_follows ?_ rfl rfl) | fail_if_no_progress intros | split | extract_lets | dsimp only | dsimp +zetaDelta only)

theorem judgeOut_follows {s0 s : State} (h : Follows s0 s) (o : Nat) :
    Follows s0 (judgeOut o s) := by
  unfold judgeOut
  repeat' (first
    | with_reducible assumption | with_reducible exact Follows.refl _ | with_reducible refine Follows.ite ?_ ?_ 
    | with_reducible refine setOut_follows ?_ .. | with_reducible refine publishOut_follows ?_ .. | with_reducible refine w1_follows ?_ ..
    | fail_if_no_progress (with_reducible refine mk_follows ?_ rfl rfl) | fail_if_no_progress intros | split | extract_lets | dsimp only | dsimp +zetaDelta only)

theorem outRelock_follows {s0 s : State} (h : Follows s0 s) (o : Nat) (low : Bool) :
    Follows s0 (outRelock o low s) := by
  unfold outRelock
  repeat' (first
    | with_reducible assumption | with_reducible exact Follows.refl _ | with_reducible refine Follows.ite ?_ ?_ 
    | with_reducible refine judgeOut_follows ?_ .. | with_reducible refine setOut_follows ?_ ..
    | fail_if_no_progress (with_reducible refine mk_follows ?_ rfl rfl) | fail_if_no_progress intros | split | extract_lets | dsimp only | dsimp +zetaDelta only)

theorem synRelock_follows {s0 s : State} (h : Follows s0 s) (k cause : Nat) (low : Bool) :
    Follows s0 (synRelock k cause low s) := by
  unfold synRelock
  repeat' (first
    | with_reducible assumption | with_reducible exact Follows.refl _ | with_reducible refine Follows.ite ?_ ?_ | with_reducible refine forL_snd ?_ ?_ | with_reducible refine forL_third ?_ ?_ 
    | with_reducible refine w1_follows ?_ .. | with_reducible refine inc_follows ?_ .. | with_reducible refine setSyn_follows ?_ .. | with_reducible refine publishSyn_follows ?_ .. | with_reducible refine forL_follows ?_ ?_ | with_reducible refine outRelock_follows ?_ ..
    | fail_if_no_progress (with_reducible refine mk_follows ?_ rfl rfl) | fail_if_no_progress intros | split | extract_lets | dsimp only | dsimp +zetaDelta only)

theorem synStop_follows {s0 s : State} (h : Follows s0 s) (k : Nat) :
    Follows s0 (synStop k s) := by
  unfold synStop
  repeat' (first
    | with_reducible assumption | with_reducible exact Follows.refl _ | with_reducible refine Follows.ite ?_ ?_ | with_reducible refine forL_snd ?_ ?_ | with_reducible refine forL_third ?_ ?_ 
    | with_reducible refine w1_follows ?_ .. | with_reducible refine setSyn_follows ?_ .. | with_reducible refine publishSyn_follows ?_ .. | with_reducible refine forL_follows ?_ ?_ | with_reducible refine outRelock_follows ?_ ..
    | fail_if_no_progress (with_reducible refine mk_follows ?_ rfl rfl) | fail_if_no_progress intros | split | extract_lets | dsimp only | dsimp +zetaDelta only)

theorem synJudge_follows {s0 s : State} (h : Follows s0 s) (k : Nat) :
    Follows s0 (synJudge k s) := by
  unfold synJudge
  repeat' (first
    | with_reducible assumption | with_reducible exact Follows.refl _ | with_reducible refine Follows.ite ?_ ?_ 
    | with_reducible refine w1_follows ?_ ..
    | fail_if_no_progress (with_reducible refine mk_follows ?_ rfl rfl) | fail_if_no_progress intros | split | extract_lets | dsimp only | dsimp +zetaDelta only)

theorem rotate_follows {s0 s : State} (h : Follows s0 s) (k : Nat) :
    Follows s0 (rotate k s) := by
  unfold rotate
  repeat' (first
    | with_reducible assumption | with_reducible exact Follows.refl _ | with_reducible refine Follows.ite ?_ ?_ 
    | with_reducible refine setSyn_follows ?_ ..
    | fail_if_no_progress (with_reducible refine mk_follows ?_ rfl rfl) | fail_if_no_progress intros | split | extract_lets | dsimp only | dsimp +zetaDelta only)

theorem synTick_follows {s0 s : State} (h : Follows s0 s) (k : Nat) :
    Follows s0 (synTick k s) := by
  unfold synTick
  repeat' (first
    | with_reducible assumption | with_reducible exact Follows.refl _ | with_reducible refine Follows.ite ?_ ?_ 
    | with_reducible refine synRetarget_follows ?_ .. | with_reducible refine synRelock_follows ?_ .. | with_reducible refine publishSyn_follows ?_ .. | with_reducible refine synJudge_follows ?_ .. | with_reducible refine keepingPhases_follows ?_ ?_ .. | with_reducible refine rotate_follows ?_ ..
    | fail_if_no_progress (with_reducible refine mk_follows ?_ rfl rfl) | fail_if_no_progress intros | split | extract_lets | dsimp only | dsimp +zetaDelta only)

theorem outRestart_follows {s0 s : State} (h : Follows s0 s) (own : Bool) (t : Rat) (o : Nat) :
    Follows s0 (outRestart own t o s) := by
  unfold outRestart
  repeat' (first
    | with_reducible assumption | with_reducible exact Follows.refl _ | with_reducible refine Follows.ite ?_ ?_ 
    | with_reducible refine takeDelay_follows ?_ .. | with_reducible refine judgeOut_follows ?_ .. | with_reducible refine setOut_follows ?_ ..
    | fail_if_no_progress (with_reducible refine mk_follows ?_ rfl rfl) | fail_if_no_progress intros | split | extract_lets | dsimp only | dsimp +zetaDelta only)

theorem alignedEdge_follows {s0 s : State} (h : Follows s0 s) (k : Nat) (relock : Bool) :
    Follows s0 (alignedEdge k relock s).2 := by
  unfold alignedEdge
  repeat' (first
    | with_reducible assumption | with_reducible exact Follows.refl _ | with_reducible refine Follows.ite ?_ ?_ 
    | with_reducible refine draw_follows ?_ .. | with_reducible refine setSyn_follows ?_ ..
    | fail_if_no_progress (with_reducible refine mk_follows ?_ rfl rfl) | fail_if_no_progress intros | split | extract_lets | dsimp only | dsimp +zetaDelta only)

theorem synRestart_follows {s0 s : State} (h : Follows s0 s) (k : Nat) :
    Follows s0 (synRestart k s) := by
  unfold synRestart
  repeat' (first
    | with_reducible assumption | with_reducible exact Follows.refl _ | with_reducible refine Follows.ite ?_ ?_ | with_reducible refine forL_snd ?_ ?_ | with_reducible refine forL_third ?_ ?_ 
    | with_reducible refine synJudge_follows ?_ .. | with_reducible refine w1_follows ?_ .. | with_reducible refine setSyn_follows ?_ .. | with_reducible refine alignedEdge_follows ?_ .. | with_reducible refine publishSyn_follows ?_ .. | with_reducible refine forL_follows ?_ ?_ | with_reducible refine outRestart_follows ?_ ..
    | fail_if_no_progress (with_reducible refine mk_follows ?_ rfl rfl) | fail_if_no_progress intros | split | extract_lets | dsimp only | dsimp +zetaDelta only)

theorem synBoundary_follows {s0 s : State} (h : Follows s0 s) (k : Nat) :
    Follows s0 (synBoundary k s) := by
  unfold synBoundary
  repeat' (first
    | with_reducible assumption | with_reducible exact Follows.refl _ | with_reducible refine Follows.ite ?_ ?_ 
    | with_reducible refine synRestart_follows ?_ .. | with_reducible refine setSyn_follows ?_ ..
    | fail_if_no_progress (with_reducible refine mk_follows ?_ rfl rfl) | fail_if_no_progress intros | split | extract_lets | dsimp only | dsimp +zetaDelta only)

theorem freeOutputs_follows {s0 s : State} (h : Follows s0 s) (k : Nat) :
    Follows s0 (freeOutputs k s) := by
  unfold freeOutputs
  repeat' (first
    | with_reducible assumption | with_reducible exact Follows.refl _ | with_reducible refine Follows.ite ?_ ?_ | with_reducible refine forL_snd ?_ ?_ | with_reducible refine forL_third ?_ ?_ 
    | with_reducible refine setSyn_follows ?_ .. | with_reducible refine forL_follows ?_ ?_ | with_reducible refine setOut_follows ?_ ..
    | fail_if_no_progress (with_reducible refine mk_follows ?_ rfl rfl) | fail_if_no_progress intros | split | extract_lets | dsimp only | dsimp +zetaDelta only)

theorem synConfigured_follows {s0 s : State} (h : Follows s0 s) (k old : Nat) :
    Follows s0 (synConfigured k old s) := by
  unfold synConfigured
  repeat' (first
    | with_reducible assumption | with_reducible exact Follows.refl _ | with_reducible refine Follows.ite ?_ ?_ 
    | with_reducible refine synStop_follows ?_ .. | with_reducible refine synRelock_follows ?_ .. | with_reducible refine synRetarget_follows ?_ .. | with_reducible refine freeOutputs_follows ?_ ..
    | fail_if_no_progress (with_reducible refine mk_follows ?_ rfl rfl) | fail_if_no_progress intros | split | extract_lets | dsimp only | dsimp +zetaDelta only)

theorem outConfigured_follows {s0 s : State} (h : Follows s0 s) (o old : Nat) :
    Follows s0 (outConfigured o old s) := by
  unfold outConfigured
  repeat' (first
    | with_reducible assumption | with_reducible exact Follows.refl _ | with_reducible refine Follows.ite ?_ ?_ 
    | with_reducible refine outRelock_follows ?_ ..
    | fail_if_no_progress (with_reducible refine mk_follows ?_ rfl rfl) | fail_if_no_progress intros | split | extract_lets | dsimp only | dsimp +zetaDelta only)

theorem clocksSleep_follows {s0 s : State} (h : Follows s0 s) :
    Follows s0 (clocksSleep s) := by
  unfold clocksSleep
  repeat' (first
    | with_reducible assumption | with_reducible exact Follows.refl _ | with_reducible refine Follows.ite ?_ ?_ | with_reducible refine forN_snd ?_ ?_ | with_reducible refine forN_third ?_ ?_ 
    | with_reducible refine forN_follows ?_ ?_ | with_reducible refine synStop_follows ?_ ..
    | fail_if_no_progress (with_reducible refine mk_follows ?_ rfl rfl) | fail_if_no_progress intros | split | extract_lets | dsimp only | dsimp +zetaDelta only)

theorem clocksWake_follows {s0 s : State} (h : Follows s0 s) :
    Follows s0 (clocksWake s) := by
  unfold clocksWake
  repeat' (first
    | with_reducible assumption | with_reducible exact Follows.refl _ | with_reducible refine Follows.ite ?_ ?_ | with_reducible refine forN_snd ?_ ?_ | with_reducible refine forN_third ?_ ?_ 
    | with_reducible refine forN_follows ?_ ?_ | with_reducible refine setPls_follows ?_ .. | with_reducible refine synRelock_follows ?_ .. | with_reducible refine synRetarget_follows ?_ ..
    | fail_if_no_progress (with_reducible refine mk_follows ?_ rfl rfl) | fail_if_no_progress intros | split | extract_lets | dsimp only | dsimp +zetaDelta only)

theorem effSynOffset_follows {s0 s : State} (h : Follows s0 s) (k v : Nat) :
    Follows s0 (effSynOffset k v s) := by
  unfold effSynOffset
  repeat' (first
    | with_reducible assumption | with_reducible exact Follows.refl _ | with_reducible refine Follows.ite ?_ ?_ 
    | with_reducible refine w1_follows ?_ .. | with_reducible refine synRetarget_follows ?_ .. | with_reducible refine synRelock_follows ?_ .. | with_reducible refine synJudge_follows ?_ ..
    | fail_if_no_progress (with_reducible refine mk_follows ?_ rfl rfl) | fail_if_no_progress intros | split | extract_lets | dsimp only | dsimp +zetaDelta only)

theorem execSynOffsetWrite_ends {s0 s : State} (h : Follows s0 s) (syn : Fin 4) (w : WriteReq) :
    Ends s0 (execSynOffsetWrite syn w s) := by
  unfold execSynOffsetWrite
  repeat' (first
    | with_reducible assumption | with_reducible exact Follows.refl _ | with_reducible refine Ends.of ?_ | with_reducible refine Ends.ite ?_ ?_ | with_reducible refine Follows.ite ?_ ?_ 
    | with_reducible refine catWrite_follows ?_ ?_ .. | with_reducible refine effSynOffset_follows ?_ ..
    | fail_if_no_progress (with_reducible refine mk_follows ?_ rfl rfl) | fail_if_no_progress intros | split | extract_lets | dsimp only | dsimp +zetaDelta only)

theorem execSynRelockTrigger_ends {s0 s : State} (h : Follows s0 s) (syn : Fin 4) :
    Ends s0 (execSynRelockTrigger syn s) := by
  unfold execSynRelockTrigger
  repeat' (first
    | with_reducible assumption | with_reducible exact Follows.refl _ | with_reducible refine Ends.of ?_ | with_reducible refine Ends.ite ?_ ?_ | with_reducible refine Follows.ite ?_ ?_ 
    | with_reducible refine synRelock_follows ?_ ..
    | fail_if_no_progress (with_reducible refine mk_follows ?_ rfl rfl) | fail_if_no_progress intros | split | extract_lets | dsimp only | dsimp +zetaDelta only)

theorem execSynLockAchieved_ends {s0 s : State} (h : Follows s0 s) (syn : Fin 4) :
    Ends s0 (execSynLockAchieved syn s) := by
  unfold execSynLockAchieved
  repeat' (first
    | with_reducible assumption | with_reducible exact Follows.refl _ | with_reducible refine Ends.of ?_ | with_reducible refine Ends.ite ?_ ?_ | with_reducible refine Follows.ite ?_ ?_ 
    | with_reducible refine publishSyn_follows ?_ .. | with_reducible refine setSyn_follows ?_ ..
    | fail_if_no_progress (with_reducible refine mk_follows ?_ rfl rfl) | fail_if_no_progress intros | split | extract_lets | dsimp only | dsimp +zetaDelta only)

theorem execSynOutputRestart_ends {s0 s : State} (h : Follows s0 s) (syn : Fin 4) :
    Ends s0 (execSynOutputRestart syn s) := by
  unfold execSynOutputRestart
  repeat' (first
    | with_reducible assumption | with_reducible exact Follows.refl _ | with_reducible refine Ends.of ?_ | with_reducible refine Ends.ite ?_ ?_ | with_reducible refine Follows.ite ?_ ?_ 
    | with_reducible refine synRestart_follows ?_ ..
    | fail_if_no_progress (with_reducible refine mk_follows ?_ rfl rfl) | fail_if_no_progress intros | split | extract_lets | dsimp only | dsimp +zetaDelta only)

theorem execSynLockTimeout_ends {s0 s : State} (h : Follows s0 s) (syn : Fin 4) :
    Ends s0 (execSynLockTimeout syn s) := by
  unfold execSynLockTimeout
  repeat' (first
    | with_reducible assumption | with_reducible exact Follows.refl _ | with_reducible refine Ends.of ?_ | with_reducible refine Ends.ite ?_ ?_ | with_reducible refine Follows.ite ?_ ?_ | with_reducible refine forL_snd ?_ ?_ | with_reducible refine forL_third ?_ ?_ 
    | with_reducible refine advanceTo_follows ?_ .. | with_reducible refine raise_follows ?_ .. | with_reducible refine inc_follows ?_ .. | with_reducible refine w1_follows ?_ .. | with_reducible refine setSyn_follows ?_ .. | with_reducible refine forL_follows ?_ ?_ | with_reducible refine outRelock_follows ?_ ..
    | fail_if_no_progress (with_reducible refine mk_follows ?_ rfl rfl) | fail_if_no_progress intros | split | extract_lets | dsimp only | dsimp +zetaDelta only)

theorem effOutEnable_follows {s0 s : State} (h : Follows s0 s) (o v : Nat) :
    Follows s0 (effOutEnable o v s) := by
  unfold effOutEnable
  repeat' (first
    | with_reducible assumption | with_reducible exact Follows.refl _ | with_reducible refine Follows.ite ?_ ?_ 
    | with_reducible refine judgeOut_follows ?_ .. | with_reducible refine w1_follows ?_ ..
    | fail_if_no_progress (with_reducible refine mk_follows ?_ rfl rfl) | fail_if_no_progress intros | split | extract_lets | dsimp only | dsimp +zetaDelta only)

theorem execOutEnableWrite_ends {s0 s : State} (h : Follows s0 s) (output : Fin 12) (w : WriteReq) :
    Ends s0 (execOutEnableWrite output w s) := by
  unfold execOutEnableWrite
  repeat' (first
    | with_reducible assumption | with_reducible exact Follows.refl _ | with_reducible refine Ends.of ?_ | with_reducible refine Ends.ite ?_ ?_ | with_reducible refine Follows.ite ?_ ?_ 
    | with_reducible refine catWrite_follows ?_ ?_ .. | with_reducible refine effOutEnable_follows ?_ ..
    | fail_if_no_progress (with_reducible refine mk_follows ?_ rfl rfl) | fail_if_no_progress intros | split | extract_lets | dsimp only | dsimp +zetaDelta only)

theorem publishAnchor_follows {s0 s : State} (h : Follows s0 s) (n : Nat) :
    Follows s0 (publishAnchor n s) := by
  unfold publishAnchor
  repeat' (first
    | with_reducible assumption | with_reducible exact Follows.refl _ | with_reducible refine Follows.ite ?_ ?_ 
    | with_reducible refine w1_follows ?_ ..
    | fail_if_no_progress (with_reducible refine mk_follows ?_ rfl rfl) | fail_if_no_progress intros | split | extract_lets | dsimp only | dsimp +zetaDelta only)

theorem realign_follows {s0 s : State} (h : Follows s0 s) (n : Nat) :
    Follows s0 (realign n s) := by
  unfold realign
  repeat' (first
    | with_reducible assumption | with_reducible exact Follows.refl _ | with_reducible refine Follows.ite ?_ ?_ 
    | with_reducible refine setPls_follows ?_ .. | with_reducible refine publishPls_follows ?_ .. | with_reducible refine publishAnchor_follows ?_ .. | with_reducible refine inc_follows ?_ ..
    | fail_if_no_progress (with_reducible refine mk_follows ?_ rfl rfl) | fail_if_no_progress intros | split | extract_lets | dsimp only | dsimp +zetaDelta only)

theorem realignAtOpening_follows {s0 s : State} (h : Follows s0 s) :
    Follows s0 (realignAtOpening s) := by
  unfold realignAtOpening
  repeat' (first
    | with_reducible assumption | with_reducible exact Follows.refl _ | with_reducible refine Follows.ite ?_ ?_ | with_reducible refine forL_snd ?_ ?_ | with_reducible refine forL_third ?_ ?_ 
    | with_reducible refine w0_follows ?_ .. | with_reducible refine forL_follows ?_ ?_ | with_reducible refine realign_follows ?_ ..
    | fail_if_no_progress (with_reducible refine mk_follows ?_ rfl rfl) | fail_if_no_progress intros | split | extract_lets | dsimp only | dsimp +zetaDelta only)

theorem plsConfigured_follows {s0 s : State} (h : Follows s0 s) (n : Nat) (modeSet : Bool) :
    Follows s0 (plsConfigured n modeSet s) := by
  unfold plsConfigured
  repeat' (first
    | with_reducible assumption | with_reducible exact Follows.refl _ | with_reducible refine Follows.ite ?_ ?_ 
    | with_reducible refine publishPls_follows ?_ .. | with_reducible refine setPls_follows ?_ ..
    | fail_if_no_progress (with_reducible refine mk_follows ?_ rfl rfl) | fail_if_no_progress intros | split | extract_lets | dsimp only | dsimp +zetaDelta only)

theorem anchorsKeep_follows {s0 s : State} (h : Follows s0 s) (d : Int) :
    Follows s0 (anchorsKeep d s) := by
  unfold anchorsKeep
  repeat' (first
    | with_reducible assumption | with_reducible exact Follows.refl _ | with_reducible refine Follows.ite ?_ ?_ | with_reducible refine forN_snd ?_ ?_ | with_reducible refine forN_third ?_ ?_ 
    | with_reducible refine forN_follows ?_ ?_ | with_reducible refine publishAnchor_follows ?_ .. | with_reducible refine setPls_follows ?_ ..
    | fail_if_no_progress (with_reducible refine mk_follows ?_ rfl rfl) | fail_if_no_progress intros | split | extract_lets | dsimp only | dsimp +zetaDelta only)

theorem sendPulse_follows {s0 s : State} (h : Follows s0 s) (n t known next : Nat) (reading : Int) :
    Follows s0 (sendPulse n t known next reading s) := by
  unfold sendPulse
  repeat' (first
    | with_reducible assumption | with_reducible exact Follows.refl _ | with_reducible refine Follows.ite ?_ ?_ 
    | with_reducible refine emit_follows ?_ .. | with_reducible refine inc_follows ?_ .. | with_reducible refine setPls_follows ?_ ..
    | fail_if_no_progress (with_reducible refine mk_follows ?_ rfl rfl) | fail_if_no_progress intros | split | extract_lets | dsimp only | dsimp +zetaDelta only)

theorem execPulseAnchoredEmit_ends {s0 s : State} (h : Follows s0 s) (pls : Fin 4) :
    Ends s0 (execPulseAnchoredEmit pls s) := by
  unfold execPulseAnchoredEmit
  repeat' (first
    | with_reducible assumption | with_reducible exact Follows.refl _ | with_reducible refine Ends.of ?_ | with_reducible refine Ends.ite ?_ ?_ | with_reducible refine Follows.ite ?_ ?_ 
    | with_reducible refine advanceToReading_follows ?_ .. | with_reducible refine sendPulse_follows ?_ .. | with_reducible refine setPls_follows ?_ ..
    | fail_if_no_progress (with_reducible refine mk_follows ?_ rfl rfl) | fail_if_no_progress intros | split | extract_lets | dsimp only | dsimp +zetaDelta only)

theorem placeFollowers_follows {s0 s : State} (h : Follows s0 s) (i : Nat) (x : Int) :
    Follows s0 (placeFollowers i x s) := by
  unfold placeFollowers
  repeat' (first
    | with_reducible assumption | with_reducible exact Follows.refl _ | with_reducible refine Follows.ite ?_ ?_ | with_reducible refine forN_snd ?_ ?_ | with_reducible refine forN_third ?_ ?_ 
    | with_reducible refine forN_follows ?_ ?_ | with_reducible refine setPls_follows ?_ .. | with_reducible refine publishPls_follows ?_ ..
    | fail_if_no_progress (with_reducible refine mk_follows ?_ rfl rfl) | fail_if_no_progress intros | split | extract_lets | dsimp only | dsimp +zetaDelta only)

theorem execPulseFollowerEmit_ends {s0 s : State} (h : Follows s0 s) (pls : Fin 4) :
    Ends s0 (execPulseFollowerEmit pls s) := by
  unfold execPulseFollowerEmit
  repeat' (first
    | with_reducible assumption | with_reducible exact Follows.refl _ | with_reducible refine Ends.of ?_ | with_reducible refine Ends.ite ?_ ?_ | with_reducible refine Follows.ite ?_ ?_ 
    | with_reducible refine advanceTo_follows ?_ .. | with_reducible refine setPls_follows ?_ .. | with_reducible refine sendPulse_follows ?_ ..
    | fail_if_no_progress (with_reducible refine mk_follows ?_ rfl rfl) | fail_if_no_progress intros | split | extract_lets | dsimp only | dsimp +zetaDelta only)

theorem execPulseMissed_ends {s0 s : State} (h : Follows s0 s) (pls : Fin 4) :
    Ends s0 (execPulseMissed pls s) := by
  unfold execPulseMissed
  repeat' (first
    | with_reducible assumption | with_reducible exact Follows.refl _ | with_reducible refine Ends.of ?_ | with_reducible refine Ends.ite ?_ ?_ | with_reducible refine Follows.ite ?_ ?_ 
    | with_reducible refine advanceTo_follows ?_ .. | with_reducible refine publishPls_follows ?_ .. | with_reducible refine inc_follows ?_ .. | with_reducible refine setPls_follows ?_ ..
    | fail_if_no_progress (with_reducible refine mk_follows ?_ rfl rfl) | fail_if_no_progress intros | split | extract_lets | dsimp only | dsimp +zetaDelta only)

theorem plsBoundary_follows {s0 s : State} (h : Follows s0 s) (n : Nat) :
    Follows s0 (plsBoundary n s) := by
  unfold plsBoundary
  repeat' (first
    | with_reducible assumption | with_reducible exact Follows.refl _ | with_reducible refine Follows.ite ?_ ?_ 
    | with_reducible refine realign_follows ?_ .. | with_reducible refine setPls_follows ?_ ..
    | fail_if_no_progress (with_reducible refine mk_follows ?_ rfl rfl) | fail_if_no_progress intros | split | extract_lets | dsimp only | dsimp +zetaDelta only)

theorem execPulseAutoAlign_ends {s0 s : State} (h : Follows s0 s) (pls : Fin 4) :
    Ends s0 (execPulseAutoAlign pls s) := by
  unfold execPulseAutoAlign
  repeat' (first
    | with_reducible assumption | with_reducible exact Follows.refl _ | with_reducible refine Ends.of ?_ | with_reducible refine Ends.ite ?_ ?_ | with_reducible refine Follows.ite ?_ ?_ 
    | with_reducible refine realign_follows ?_ ..
    | fail_if_no_progress (with_reducible refine mk_follows ?_ rfl rfl) | fail_if_no_progress intros | split | extract_lets | dsimp only | dsimp +zetaDelta only)

end Sys2Proof.Machine
end

