-- ==== Sys2Proof/Laws/ServoFollows.lean ====
section
/-! SUPPORT. Every operation of Servo follows. -/

set_option linter.unreachableTactic false
set_option linter.unusedTactic false

namespace Sys2Proof.Machine

theorem setPtp_follows {s0 s : State} (h : Follows s0 s) (slot : Nat) (p : PtpPort) :
    Follows s0 (setPtp slot p s) := by
  unfold setPtp
  repeat' (first
    | with_reducible assumption | with_reducible exact Follows.refl _ | with_reducible refine Follows.ite ?_ ?_ 
    | fail_if_no_progress (with_reducible refine mk_follows ?_ rfl rfl) | fail_if_no_progress intros | split | extract_lets | dsimp only | dsimp +zetaDelta only)

theorem modServo_follows {s0 s : State} (h : Follows s0 s) (f : ServoSt → ServoSt) :
    Follows s0 (modServo f s) := by
  unfold modServo
  repeat' (first
    | with_reducible assumption | with_reducible exact Follows.refl _ | with_reducible refine Follows.ite ?_ ?_ 
    | fail_if_no_progress (with_reducible refine mk_follows ?_ rfl rfl) | fail_if_no_progress intros | split | extract_lets | dsimp only | dsimp +zetaDelta only)

theorem setServoFlag_follows {s0 s : State} (h : Follows s0 s) (i : Nat) (on : Bool) :
    Follows s0 (setServoFlag i on s) := by
  unfold setServoFlag
  repeat' (first
    | with_reducible assumption | with_reducible exact Follows.refl _ | with_reducible refine Follows.ite ?_ ?_ 
    | with_reducible refine w0_follows ?_ ..
    | fail_if_no_progress (with_reducible refine mk_follows ?_ rfl rfl) | fail_if_no_progress intros | split | extract_lets | dsimp only | dsimp +zetaDelta only)

theorem enterServo_follows {s0 s : State} (h : Follows s0 s) (st : Nat) :
    Follows s0 (enterServo st s) := by
  unfold enterServo
  repeat' (first
    | with_reducible assumption | with_reducible exact Follows.refl _ | with_reducible refine Follows.ite ?_ ?_ 
    | with_reducible refine vitrineServo_follows ?_ .. | with_reducible refine combinerLeavesUnset_follows ?_ .. | with_reducible refine combinerEntersUnset_follows ?_ .. | with_reducible refine w0_follows ?_ .. | with_reducible refine modServo_follows ?_ .. | with_reducible refine raise_follows ?_ .. | with_reducible refine inc0_follows ?_ ..
    | fail_if_no_progress (with_reducible refine mk_follows ?_ rfl rfl) | fail_if_no_progress intros | split | extract_lets | dsimp only | dsimp +zetaDelta only)

theorem sourceLost_follows {s0 s : State} (h : Follows s0 s) :
    Follows s0 (sourceLost s) := by
  unfold sourceLost
  repeat' (first
    | with_reducible assumption | with_reducible exact Follows.refl _ | with_reducible refine Follows.ite ?_ ?_ 
    | with_reducible refine enterServo_follows ?_ .. | with_reducible refine modServo_follows ?_ ..
    | fail_if_no_progress (with_reducible refine mk_follows ?_ rfl rfl) | fail_if_no_progress intros | split | extract_lets | dsimp only | dsimp +zetaDelta only)

theorem decideStep_follows {s0 s : State} (h : Follows s0 s) (d : Int) :
    Follows s0 (decideStep d s) := by
  unfold decideStep
  repeat' (first
    | with_reducible assumption | with_reducible exact Follows.refl _ | with_reducible refine Follows.ite ?_ ?_ 
    | with_reducible refine modServo_follows ?_ ..
    | fail_if_no_progress (with_reducible refine mk_follows ?_ rfl rfl) | fail_if_no_progress intros | split | extract_lets | dsimp only | dsimp +zetaDelta only)

theorem refuseStep_follows {s0 s : State} (h : Follows s0 s) (d : Int) :
    Follows s0 (refuseStep d s) := by
  unfold refuseStep
  repeat' (first
    | with_reducible assumption | with_reducible exact Follows.refl _ | with_reducible refine Follows.ite ?_ ?_ 
    | with_reducible refine w0_follows ?_ .. | with_reducible refine setServoFlag_follows ?_ .. | with_reducible refine inc0_follows ?_ .. | with_reducible refine modServo_follows ?_ .. | with_reducible refine setLive_follows ?_ ..
    | fail_if_no_progress (with_reducible refine mk_follows ?_ rfl rfl) | fail_if_no_progress intros | split | extract_lets | dsimp only | dsimp +zetaDelta only)

theorem clearRefused_follows {s0 s : State} (h : Follows s0 s) :
    Follows s0 (clearRefused s) := by
  unfold clearRefused
  repeat' (first
    | with_reducible assumption | with_reducible exact Follows.refl _ | with_reducible refine Follows.ite ?_ ?_ 
    | with_reducible refine modServo_follows ?_ .. | with_reducible refine setLive_follows ?_ .. | with_reducible refine w0_follows ?_ .. | with_reducible refine setServoFlag_follows ?_ ..
    | fail_if_no_progress (with_reducible refine mk_follows ?_ rfl rfl) | fail_if_no_progress intros | split | extract_lets | dsimp only | dsimp +zetaDelta only)

theorem exchangesStep_follows {s0 s : State} (h : Follows s0 s) :
    Follows s0 (exchangesStep s) := by
  unfold exchangesStep
  repeat' (first
    | with_reducible assumption | with_reducible exact Follows.refl _ | with_reducible refine Follows.ite ?_ ?_ 
    | fail_if_no_progress (with_reducible refine mk_follows ?_ rfl rfl) | fail_if_no_progress intros | split | extract_lets | dsimp only | dsimp +zetaDelta only)

theorem stepCounter_follows {s0 s : State} (h : Follows s0 s) (d : Int) :
    Follows s0 (stepCounter d s) := by
  unfold stepCounter
  repeat' (first
    | with_reducible assumption | with_reducible exact Follows.refl _ | with_reducible refine Follows.ite ?_ ?_ 
    | with_reducible refine exchangesStep_follows ?_ .. | with_reducible refine combinerBeforeStep_follows ?_ .. | with_reducible refine judgeGates_follows ?_ .. | with_reducible refine modServo_follows ?_ .. | with_reducible refine vitrineAfterStep_follows ?_ .. | with_reducible refine gatesAfterStep_follows ?_ .. | with_reducible refine anchorsKeep_follows ?_ ..
    | fail_if_no_progress (with_reducible refine mk_follows ?_ rfl rfl) | fail_if_no_progress intros | split | extract_lets | dsimp only | dsimp +zetaDelta only)

theorem loopFeed_follows {s0 s : State} (h : Follows s0 s) (kind : Nat) (theta : Rat) :
    Follows s0 (loopFeed kind theta s) := by
  unfold loopFeed
  repeat' (first
    | with_reducible assumption | with_reducible exact Follows.refl _ | with_reducible refine Follows.ite ?_ ?_ 
    | with_reducible refine modServo_follows ?_ ..
    | fail_if_no_progress (with_reducible refine mk_follows ?_ rfl rfl) | fail_if_no_progress intros | split | extract_lets | dsimp only | dsimp +zetaDelta only)

theorem setPortState_follows {s0 s : State} (h : Follows s0 s) (slot st : Nat) :
    Follows s0 (setPortState slot st s) := by
  unfold setPortState
  repeat' (first
    | with_reducible assumption | with_reducible exact Follows.refl _ | with_reducible refine Follows.ite ?_ ?_ 
    | with_reducible refine w1_follows ?_ .. | with_reducible refine setPtp_follows ?_ ..
    | fail_if_no_progress (with_reducible refine mk_follows ?_ rfl rfl) | fail_if_no_progress intros | split | extract_lets | dsimp only | dsimp +zetaDelta only)

theorem dropParent_follows {s0 s : State} (h : Follows s0 s) :
    Follows s0 (dropParent s) := by
  unfold dropParent
  repeat' (first
    | with_reducible assumption | with_reducible exact Follows.refl _ | with_reducible refine Follows.ite ?_ ?_ 
    | with_reducible refine setServoFlag_follows ?_ .. | with_reducible refine modServo_follows ?_ ..
    | fail_if_no_progress (with_reducible refine mk_follows ?_ rfl rfl) | fail_if_no_progress intros | split | extract_lets | dsimp only | dsimp +zetaDelta only)

theorem judgeLock_follows {s0 s : State} (h : Follows s0 s) (pulse : Bool) :
    Follows s0 (judgeLock pulse s) := by
  unfold judgeLock
  repeat' (first
    | with_reducible assumption | with_reducible exact Follows.refl _ | with_reducible refine Follows.ite ?_ ?_ 
    | with_reducible refine enterServo_follows ?_ ..
    | fail_if_no_progress (with_reducible refine mk_follows ?_ rfl rfl) | fail_if_no_progress intros | split | extract_lets | dsimp only | dsimp +zetaDelta only)

theorem noteExchange_follows {s0 s : State} (h : Follows s0 s) (theta : Rat) :
    Follows s0 (noteExchange theta s) := by
  unfold noteExchange
  repeat' (first
    | with_reducible assumption | with_reducible exact Follows.refl _ | with_reducible refine Follows.ite ?_ ?_ 
    | with_reducible refine modServo_follows ?_ ..
    | fail_if_no_progress (with_reducible refine mk_follows ?_ rfl rfl) | fail_if_no_progress intros | split | extract_lets | dsimp only | dsimp +zetaDelta only)

theorem stepOrSlew_follows {s0 s : State} (h : Follows s0 s) (kind : Nat) (theta : Rat) :
    Follows s0 (stepOrSlew kind theta s) := by
  unfold stepOrSlew
  repeat' (first
    | with_reducible assumption | with_reducible exact Follows.refl _ | with_reducible refine Follows.ite ?_ ?_ 
    | with_reducible refine refuseStep_follows ?_ .. | with_reducible refine clearRefused_follows ?_ .. | with_reducible refine loopFeed_follows ?_ .. | with_reducible refine decideStep_follows ?_ ..
    | fail_if_no_progress (with_reducible refine mk_follows ?_ rfl rfl) | fail_if_no_progress intros | split | extract_lets | dsimp only | dsimp +zetaDelta only)

theorem servoExchange_follows {s0 s : State} (h : Follows s0 s) (kind : Nat) (theta : Rat) :
    Follows s0 (servoExchange kind theta s) := by
  unfold servoExchange
  repeat' (first
    | with_reducible assumption | with_reducible exact Follows.refl _ | with_reducible refine Follows.ite ?_ ?_ 
    | with_reducible refine noteExchange_follows ?_ .. | with_reducible refine w0_follows ?_ .. | with_reducible refine refuseStep_follows ?_ .. | with_reducible refine enterServo_follows ?_ .. | with_reducible refine clearRefused_follows ?_ .. | with_reducible refine decideStep_follows ?_ .. | with_reducible refine loopFeed_follows ?_ .. | with_reducible refine judgeLock_follows ?_ .. | with_reducible refine stepOrSlew_follows ?_ ..
    | fail_if_no_progress (with_reducible refine mk_follows ?_ rfl rfl) | fail_if_no_progress intros | split | extract_lets | dsimp only | dsimp +zetaDelta only)

theorem updateSource_follows {s0 s : State} (h : Follows s0 s) :
    Follows s0 (updateSource s) := by
  unfold updateSource
  repeat' (first
    | with_reducible assumption | with_reducible exact Follows.refl _ | with_reducible refine Follows.ite ?_ ?_ 
    | with_reducible refine w0_follows ?_ ..
    | fail_if_no_progress (with_reducible refine mk_follows ?_ rfl rfl) | fail_if_no_progress intros | split | extract_lets | dsimp only | dsimp +zetaDelta only)

theorem updateUtc_follows {s0 s : State} (h : Follows s0 s) :
    Follows s0 (updateUtc s) := by
  unfold updateUtc
  repeat' (first
    | with_reducible assumption | with_reducible exact Follows.refl _ | with_reducible refine Follows.ite ?_ ?_ 
    | with_reducible refine setServoFlag_follows ?_ .. | with_reducible refine w0_follows ?_ .. | with_reducible refine modServo_follows ?_ ..
    | fail_if_no_progress (with_reducible refine mk_follows ?_ rfl rfl) | fail_if_no_progress intros | split | extract_lets | dsimp only | dsimp +zetaDelta only)

theorem checkPulse_follows {s0 s : State} (h : Follows s0 s) :
    Follows s0 (checkPulse s) := by
  unfold checkPulse
  repeat' (first
    | with_reducible assumption | with_reducible exact Follows.refl _ | with_reducible refine Follows.ite ?_ ?_ 
    | with_reducible refine updateSource_follows ?_ .. | with_reducible refine sourceLost_follows ?_ ..
    | fail_if_no_progress (with_reducible refine mk_follows ?_ rfl rfl) | fail_if_no_progress intros | split | extract_lets | dsimp only | dsimp +zetaDelta only)

theorem effRootTimeSource_follows {s0 s : State} (h : Follows s0 s) (x1 v : Nat) :
    Follows s0 (effRootTimeSource x1 v s) := by
  unfold effRootTimeSource
  repeat' (first
    | with_reducible assumption | with_reducible exact Follows.refl _ | with_reducible refine Follows.ite ?_ ?_ 
    | with_reducible refine updateUtc_follows ?_ .. | with_reducible refine updateSource_follows ?_ .. | with_reducible refine w0_follows ?_ .. | with_reducible refine sourceLost_follows ?_ ..
    | fail_if_no_progress (with_reducible refine mk_follows ?_ rfl rfl) | fail_if_no_progress intros | split | extract_lets | dsimp only | dsimp +zetaDelta only)

theorem pulseExchange_follows {s0 s : State} (h : Follows s0 s) (i : Nat) :
    Follows s0 (pulseExchange i s) := by
  unfold pulseExchange
  repeat' (first
    | with_reducible assumption | with_reducible exact Follows.refl _ | with_reducible refine Follows.ite ?_ ?_ 
    | with_reducible refine modServo_follows ?_ .. | with_reducible refine updateSource_follows ?_ .. | with_reducible refine servoExchange_follows ?_ ..
    | fail_if_no_progress (with_reducible refine mk_follows ?_ rfl rfl) | fail_if_no_progress intros | split | extract_lets | dsimp only | dsimp +zetaDelta only)

theorem takeLaneFreq_follows {s0 s : State} (h : Follows s0 s) (ended : Nat) :
    Follows s0 (takeLaneFreq ended s) := by
  unfold takeLaneFreq
  repeat' (first
    | with_reducible assumption | with_reducible exact Follows.refl _ | with_reducible refine Follows.ite ?_ ?_ 
    | with_reducible refine modServo_follows ?_ ..
    | fail_if_no_progress (with_reducible refine mk_follows ?_ rfl rfl) | fail_if_no_progress intros | split | extract_lets | dsimp only | dsimp +zetaDelta only)

theorem publishRate_follows {s0 s : State} (h : Follows s0 s) :
    Follows s0 (publishRate s) := by
  unfold publishRate
  repeat' (first
    | with_reducible assumption | with_reducible exact Follows.refl _ | with_reducible refine Follows.ite ?_ ?_ 
    | with_reducible refine w0_follows ?_ ..
    | fail_if_no_progress (with_reducible refine mk_follows ?_ rfl rfl) | fail_if_no_progress intros | split | extract_lets | dsimp only | dsimp +zetaDelta only)

theorem judgeSaturation_follows {s0 s : State} (h : Follows s0 s) (sat clipped : Bool) :
    Follows s0 (judgeSaturation sat clipped s) := by
  unfold judgeSaturation
  repeat' (first
    | with_reducible assumption | with_reducible exact Follows.refl _ | with_reducible refine Follows.ite ?_ ?_ 
    | with_reducible refine inc0_follows ?_ .. | with_reducible refine modServo_follows ?_ .. | with_reducible refine setLive_follows ?_ .. | with_reducible refine setServoFlag_follows ?_ ..
    | fail_if_no_progress (with_reducible refine mk_follows ?_ rfl rfl) | fail_if_no_progress intros | split | extract_lets | dsimp only | dsimp +zetaDelta only)

theorem servoJobInternal_follows {s0 s : State} (h : Follows s0 s) :
    Follows s0 (servoJobInternal s) := by
  unfold servoJobInternal
  repeat' (first
    | with_reducible assumption | with_reducible exact Follows.refl _ | with_reducible refine Follows.ite ?_ ?_ 
    | with_reducible refine modServo_follows ?_ .. | with_reducible refine w0_follows ?_ .. | with_reducible refine judgeSaturation_follows ?_ ..
    | fail_if_no_progress (with_reducible refine mk_follows ?_ rfl rfl) | fail_if_no_progress intros | split | extract_lets | dsimp only | dsimp +zetaDelta only)

theorem servoJobExternal_follows {s0 s : State} (h : Follows s0 s) :
    Follows s0 (servoJobExternal s) := by
  unfold servoJobExternal
  repeat' (first
    | with_reducible assumption | with_reducible exact Follows.refl _ | with_reducible refine Follows.ite ?_ ?_ 
    | with_reducible refine w0_follows ?_ .. | with_reducible refine modServo_follows ?_ .. | with_reducible refine setLive_follows ?_ .. | with_reducible refine setServoFlag_follows ?_ .. | with_reducible refine inc0_follows ?_ ..
    | fail_if_no_progress (with_reducible refine mk_follows ?_ rfl rfl) | fail_if_no_progress intros | split | extract_lets | dsimp only | dsimp +zetaDelta only)

theorem servoJob_follows {s0 s : State} (h : Follows s0 s) (ended : Nat) :
    Follows s0 (servoJob ended s) := by
  unfold servoJob
  repeat' (first
    | with_reducible assumption | with_reducible exact Follows.refl _ | with_reducible refine Follows.ite ?_ ?_ 
    | with_reducible refine takeLaneFreq_follows ?_ .. | with_reducible refine updateUtc_follows ?_ .. | with_reducible refine checkPulse_follows ?_ .. | with_reducible refine modServo_follows ?_ .. | with_reducible refine servoJobExternal_follows ?_ .. | with_reducible refine publishRate_follows ?_ .. | with_reducible refine servoJobInternal_follows ?_ .. | with_reducible refine judgeLock_follows ?_ ..
    | fail_if_no_progress (with_reducible refine mk_follows ?_ rfl rfl) | fail_if_no_progress intros | split | extract_lets | dsimp only | dsimp +zetaDelta only)

theorem switchMode_follows {s0 s : State} (h : Follows s0 s) (m : Nat) :
    Follows s0 (switchMode m s) := by
  unfold switchMode
  repeat' (first
    | with_reducible assumption | with_reducible exact Follows.refl _ | with_reducible refine Follows.ite ?_ ?_ 
    | with_reducible refine modServo_follows ?_ .. | with_reducible refine w0_follows ?_ ..
    | fail_if_no_progress (with_reducible refine mk_follows ?_ rfl rfl) | fail_if_no_progress intros | split | extract_lets | dsimp only | dsimp +zetaDelta only)

theorem timeGiven_follows {s0 s : State} (h : Follows s0 s) :
    Follows s0 (timeGiven s) := by
  unfold timeGiven
  repeat' (first
    | with_reducible assumption | with_reducible exact Follows.refl _ | with_reducible refine Follows.ite ?_ ?_ 
    | with_reducible refine modServo_follows ?_ .. | with_reducible refine updateSource_follows ?_ .. | with_reducible refine enterServo_follows ?_ ..
    | fail_if_no_progress (with_reducible refine mk_follows ?_ rfl rfl) | fail_if_no_progress intros | split | extract_lets | dsimp only | dsimp +zetaDelta only)

theorem applyDecided_follows {s0 s : State} (h : Follows s0 s) :
    Follows s0 (applyDecided s).2 := by
  unfold applyDecided
  repeat' (first
    | with_reducible assumption | with_reducible exact Follows.refl _ | with_reducible refine Follows.ite ?_ ?_ 
    | with_reducible refine modServo_follows ?_ .. | with_reducible refine publishRate_follows ?_ .. | with_reducible refine w0_follows ?_ .. | with_reducible refine switchMode_follows ?_ .. | with_reducible refine timeGiven_follows ?_ .. | with_reducible refine stepCounter_follows ?_ .. | with_reducible refine inc0_follows ?_ .. | with_reducible refine raise_follows ?_ ..
    | fail_if_no_progress (with_reducible refine mk_follows ?_ rfl rfl) | fail_if_no_progress intros | split | extract_lets | dsimp only | dsimp +zetaDelta only)

theorem effTimeIncrementSet_follows {s0 s : State} (h : Follows s0 s) (x1 v : Nat) :
    Follows s0 (effTimeIncrementSet x1 v s) := by
  unfold effTimeIncrementSet
  repeat' (first
    | with_reducible assumption | with_reducible exact Follows.refl _ | with_reducible refine Follows.ite ?_ ?_ 
    | with_reducible refine w0_follows ?_ .. | with_reducible refine setLive_follows ?_ .. | with_reducible refine setServoFlag_follows ?_ .. | with_reducible refine modServo_follows ?_ ..
    | fail_if_no_progress (with_reducible refine mk_follows ?_ rfl rfl) | fail_if_no_progress intros | split | extract_lets | dsimp only | dsimp +zetaDelta only)

theorem execTimeIncrementSetWrite_ends {s0 s : State} (h : Follows s0 s) (w : WriteReq) :
    Ends s0 (execTimeIncrementSetWrite w s) := by
  unfold execTimeIncrementSetWrite
  repeat' (first
    | with_reducible assumption | with_reducible exact Follows.refl _ | with_reducible refine Ends.of ?_ | with_reducible refine Ends.ite ?_ ?_ | with_reducible refine Follows.ite ?_ ?_ 
    | with_reducible refine catWrite_follows ?_ ?_ .. | with_reducible refine effTimeIncrementSet_follows ?_ ..
    | fail_if_no_progress (with_reducible refine mk_follows ?_ rfl rfl) | fail_if_no_progress intros | split | extract_lets | dsimp only | dsimp +zetaDelta only)

theorem effTimeStep_follows {s0 s : State} (h : Follows s0 s) (x1 v : Nat) :
    Follows s0 (effTimeStep x1 v s) := by
  unfold effTimeStep
  repeat' (first
    | with_reducible assumption | with_reducible exact Follows.refl _ | with_reducible refine Follows.ite ?_ ?_ 
    | with_reducible refine decideStep_follows ?_ .. | with_reducible refine clearRefused_follows ?_ .. | with_reducible refine refuseStep_follows ?_ ..
    | fail_if_no_progress (with_reducible refine mk_follows ?_ rfl rfl) | fail_if_no_progress intros | split | extract_lets | dsimp only | dsimp +zetaDelta only)

theorem execTimeStepWrite_ends {s0 s : State} (h : Follows s0 s) (w : WriteReq) :
    Ends s0 (execTimeStepWrite w s) := by
  unfold execTimeStepWrite
  repeat' (first
    | with_reducible assumption | with_reducible exact Follows.refl _ | with_reducible refine Ends.of ?_ | with_reducible refine Ends.ite ?_ ?_ | with_reducible refine Follows.ite ?_ ?_ 
    | with_reducible refine catWrite_follows ?_ ?_ .. | with_reducible refine effTimeStep_follows ?_ ..
    | fail_if_no_progress (with_reducible refine mk_follows ?_ rfl rfl) | fail_if_no_progress intros | split | extract_lets | dsimp only | dsimp +zetaDelta only)

theorem effServoStateSet_follows {s0 s : State} (h : Follows s0 s) (x1 v : Nat) :
    Follows s0 (effServoStateSet x1 v s) := by
  unfold effServoStateSet
  repeat' (first
    | with_reducible assumption | with_reducible exact Follows.refl _ | with_reducible refine Follows.ite ?_ ?_ 
    | with_reducible refine w0_follows ?_ .. | with_reducible refine enterServo_follows ?_ ..
    | fail_if_no_progress (with_reducible refine mk_follows ?_ rfl rfl) | fail_if_no_progress intros | split | extract_lets | dsimp only | dsimp +zetaDelta only)

theorem execServoStateSetWrite_ends {s0 s : State} (h : Follows s0 s) (w : WriteReq) :
    Ends s0 (execServoStateSetWrite w s) := by
  unfold execServoStateSetWrite
  repeat' (first
    | with_reducible assumption | with_reducible exact Follows.refl _ | with_reducible refine Ends.of ?_ | with_reducible refine Ends.ite ?_ ?_ | with_reducible refine Follows.ite ?_ ?_ 
    | with_reducible refine catWrite_follows ?_ ?_ .. | with_reducible refine effServoStateSet_follows ?_ ..
    | fail_if_no_progress (with_reducible refine mk_follows ?_ rfl rfl) | fail_if_no_progress intros | split | extract_lets | dsimp only | dsimp +zetaDelta only)

theorem effServoMode_follows {s0 s : State} (h : Follows s0 s) (x1 v : Nat) :
    Follows s0 (effServoMode x1 v s) := by
  unfold effServoMode
  repeat' (first
    | with_reducible assumption | with_reducible exact Follows.refl _ | with_reducible refine Follows.ite ?_ ?_ 
    | with_reducible refine modServo_follows ?_ .. | with_reducible refine w0_follows ?_ ..
    | fail_if_no_progress (with_reducible refine mk_follows ?_ rfl rfl) | fail_if_no_progress intros | split | extract_lets | dsimp only | dsimp +zetaDelta only)

theorem execServoModeWrite_ends {s0 s : State} (h : Follows s0 s) (w : WriteReq) :
    Ends s0 (execServoModeWrite w s) := by
  unfold execServoModeWrite
  repeat' (first
    | with_reducible assumption | with_reducible exact Follows.refl _ | with_reducible refine Ends.of ?_ | with_reducible refine Ends.ite ?_ ?_ | with_reducible refine Follows.ite ?_ ?_ 
    | with_reducible refine catWrite_follows ?_ ?_ .. | with_reducible refine effServoMode_follows ?_ ..
    | fail_if_no_progress (with_reducible refine mk_follows ?_ rfl rfl) | fail_if_no_progress intros | split | extract_lets | dsimp only | dsimp +zetaDelta only)

theorem effTimeSet_follows {s0 s : State} (h : Follows s0 s) (x1 v : Nat) :
    Follows s0 (effTimeSet x1 v s) := by
  unfold effTimeSet
  repeat' (first
    | with_reducible assumption | with_reducible exact Follows.refl _ | with_reducible refine Follows.ite ?_ ?_ 
    | with_reducible refine modServo_follows ?_ .. | with_reducible refine inc0_follows ?_ ..
    | fail_if_no_progress (with_reducible refine mk_follows ?_ rfl rfl) | fail_if_no_progress intros | split | extract_lets | dsimp only | dsimp +zetaDelta only)

theorem execTimeSet_ends {s0 s : State} (h : Follows s0 s) (w : WriteReq) :
    Ends s0 (execTimeSet w s) := by
  unfold execTimeSet
  repeat' (first
    | with_reducible assumption | with_reducible exact Follows.refl _ | with_reducible refine Ends.of ?_ | with_reducible refine Ends.ite ?_ ?_ | with_reducible refine Follows.ite ?_ ?_ 
    | with_reducible refine catWrite_follows ?_ ?_ .. | with_reducible refine effTimeSet_follows ?_ ..
    | fail_if_no_progress (with_reducible refine mk_follows ?_ rfl rfl) | fail_if_no_progress intros | split | extract_lets | dsimp only | dsimp +zetaDelta only)

theorem effServoCommand_follows {s0 s : State} (h : Follows s0 s) (x1 v : Nat) :
    Follows s0 (effServoCommand x1 v s) := by
  unfold effServoCommand
  repeat' (first
    | with_reducible assumption | with_reducible exact Follows.refl _ | with_reducible refine Follows.ite ?_ ?_ 
    | with_reducible refine enterServo_follows ?_ ..
    | fail_if_no_progress (with_reducible refine mk_follows ?_ rfl rfl) | fail_if_no_progress intros | split | extract_lets | dsimp only | dsimp +zetaDelta only)

theorem execServoEnterTest_ends {s0 s : State} (h : Follows s0 s) (w : WriteReq) :
    Ends s0 (execServoEnterTest w s) := by
  unfold execServoEnterTest
  repeat' (first
    | with_reducible assumption | with_reducible exact Follows.refl _ | with_reducible refine Ends.of ?_ | with_reducible refine Ends.ite ?_ ?_ | with_reducible refine Follows.ite ?_ ?_ 
    | with_reducible refine catWrite_follows ?_ ?_ .. | with_reducible refine effServoCommand_follows ?_ ..
    | fail_if_no_progress (with_reducible refine mk_follows ?_ rfl rfl) | fail_if_no_progress intros | split | extract_lets | dsimp only | dsimp +zetaDelta only)

theorem execServoLeaveTest_ends {s0 s : State} (h : Follows s0 s) (w : WriteReq) :
    Ends s0 (execServoLeaveTest w s) := by
  unfold execServoLeaveTest
  repeat' (first
    | with_reducible assumption | with_reducible exact Follows.refl _ | with_reducible refine Ends.of ?_ | with_reducible refine Ends.ite ?_ ?_ | with_reducible refine Follows.ite ?_ ?_ 
    | with_reducible refine catWrite_follows ?_ ?_ .. | with_reducible refine effServoCommand_follows ?_ ..
    | fail_if_no_progress (with_reducible refine mk_follows ?_ rfl rfl) | fail_if_no_progress intros | split | extract_lets | dsimp only | dsimp +zetaDelta only)

theorem execServoEnterRecovery_ends {s0 s : State} (h : Follows s0 s) (w : WriteReq) :
    Ends s0 (execServoEnterRecovery w s) := by
  unfold execServoEnterRecovery
  repeat' (first
    | with_reducible assumption | with_reducible exact Follows.refl _ | with_reducible refine Ends.of ?_ | with_reducible refine Ends.ite ?_ ?_ | with_reducible refine Follows.ite ?_ ?_ 
    | with_reducible refine catWrite_follows ?_ ?_ .. | with_reducible refine effServoCommand_follows ?_ ..
    | fail_if_no_progress (with_reducible refine mk_follows ?_ rfl rfl) | fail_if_no_progress intros | split | extract_lets | dsimp only | dsimp +zetaDelta only)

theorem acceptStepNow_follows {s0 s : State} (h : Follows s0 s) :
    Follows s0 (acceptStepNow s) := by
  unfold acceptStepNow
  repeat' (first
    | with_reducible assumption | with_reducible exact Follows.refl _ | with_reducible refine Follows.ite ?_ ?_ 
    | with_reducible refine modServo_follows ?_ ..
    | fail_if_no_progress (with_reducible refine mk_follows ?_ rfl rfl) | fail_if_no_progress intros | split | extract_lets | dsimp only | dsimp +zetaDelta only)

theorem execAcceptStep_ends {s0 s : State} (h : Follows s0 s) (w : WriteReq) :
    Ends s0 (execAcceptStep w s) := by
  unfold execAcceptStep
  repeat' (first
    | with_reducible assumption | with_reducible exact Follows.refl _ | with_reducible refine Ends.of ?_ | with_reducible refine Ends.ite ?_ ?_ | with_reducible refine Follows.ite ?_ ?_ 
    | with_reducible refine catWrite_follows ?_ ?_ .. | with_reducible refine effBool_follows ?_ ?_ .. | with_reducible refine acceptStepNow_follows ?_ ..
    | fail_if_no_progress (with_reducible refine mk_follows ?_ rfl rfl) | fail_if_no_progress intros | split | extract_lets | dsimp only | dsimp +zetaDelta only)

theorem breakRuns_follows {s0 s : State} (h : Follows s0 s) (i : Nat) :
    Follows s0 (breakRuns i s) := by
  unfold breakRuns
  repeat' (first
    | with_reducible assumption | with_reducible exact Follows.refl _ | with_reducible refine Follows.ite ?_ ?_ 
    | with_reducible refine modServo_follows ?_ ..
    | fail_if_no_progress (with_reducible refine mk_follows ?_ rfl rfl) | fail_if_no_progress intros | split | extract_lets | dsimp only | dsimp +zetaDelta only)

theorem edgeTaken_follows {s0 s : State} (h : Follows s0 s) (i : Nat) (x : Int) (t : Nat) :
    Follows s0 (edgeTaken i x t s) := by
  unfold edgeTaken
  repeat' (first
    | with_reducible assumption | with_reducible exact Follows.refl _ | with_reducible refine Follows.ite ?_ ?_ 
    | with_reducible refine placeFollowers_follows ?_ .. | with_reducible refine perEdgeUpdate_follows ?_ ..
    | fail_if_no_progress (with_reducible refine mk_follows ?_ rfl rfl) | fail_if_no_progress intros | split | extract_lets | dsimp only | dsimp +zetaDelta only)

theorem execTdcTickResult_ends {s0 s : State} (h : Follows s0 s) (channel : Fin 80) (met : TdcTick) :
    Ends s0 (execTdcTickResult channel met s) := by
  unfold execTdcTickResult
  repeat' (first
    | with_reducible assumption | with_reducible exact Follows.refl _ | with_reducible refine Ends.of ?_ | with_reducible refine Ends.ite ?_ ?_ | with_reducible refine Follows.ite ?_ ?_ | with_reducible refine forL_snd ?_ ?_ | with_reducible refine forL_third ?_ ?_ 
    | with_reducible refine publishTick_follows ?_ .. | with_reducible refine keepDivider_follows ?_ .. | with_reducible refine forL_follows ?_ ?_ | with_reducible refine edgeTaken_follows ?_ ..
    | fail_if_no_progress (with_reducible refine mk_follows ?_ rfl rfl) | fail_if_no_progress intros | split | extract_lets | dsimp only | dsimp +zetaDelta only)

theorem execPpsiEdge_ends {s0 s : State} (h : Follows s0 s) (input : Fin 2) (dt : Nat) (edge : EdgeSample) :
    Ends s0 (execPpsiEdge input dt edge s) := by
  unfold execPpsiEdge
  repeat' (first
    | with_reducible assumption | with_reducible exact Follows.refl _ | with_reducible refine Ends.of ?_ | with_reducible refine Ends.ite ?_ ?_ | with_reducible refine Follows.ite ?_ ?_ 
    | with_reducible refine elapse_follows ?_ .. | with_reducible refine stampEdge_follows ?_ .. | with_reducible refine breakRuns_follows ?_ .. | with_reducible refine noteInput_follows ?_ .. | with_reducible refine modServo_follows ?_ .. | with_reducible refine writePulseStamp_follows ?_ .. | with_reducible refine compare_follows ?_ .. | with_reducible refine checkPulse_follows ?_ .. | with_reducible refine edgeTaken_follows ?_ ..
    | fail_if_no_progress (with_reducible refine mk_follows ?_ rfl rfl) | fail_if_no_progress intros | split | extract_lets | dsimp only | dsimp +zetaDelta only)

theorem execRefAbsentTimeout_ends {s0 s : State} (h : Follows s0 s) (input : Fin 70) :
    Ends s0 (execRefAbsentTimeout input s) := by
  unfold execRefAbsentTimeout
  repeat' (first
    | with_reducible assumption | with_reducible exact Follows.refl _ | with_reducible refine Ends.of ?_ | with_reducible refine Ends.ite ?_ ?_ | with_reducible refine Follows.ite ?_ ?_ 
    | with_reducible refine checkPulse_follows ?_ .. | with_reducible refine becomeAbsent_follows ?_ .. | with_reducible refine advanceTo_follows ?_ ..
    | fail_if_no_progress (with_reducible refine mk_follows ?_ rfl rfl) | fail_if_no_progress intros | split | extract_lets | dsimp only | dsimp +zetaDelta only)

theorem execTodMessage_ends {s0 s : State} (h : Follows s0 s) (input : Fin 2) (dt : Nat) (bytes : Bytes) (framingError : Bool) :
    Ends s0 (execTodMessage input dt bytes framingError s) := by
  unfold execTodMessage
  repeat' (first
    | with_reducible assumption | with_reducible exact Follows.refl _ | with_reducible refine Ends.of ?_ | with_reducible refine Ends.ite ?_ ?_ | with_reducible refine Follows.ite ?_ ?_ 
    | with_reducible refine elapse_follows ?_ .. | with_reducible refine updateUtc_follows ?_ .. | with_reducible refine acceptTod_follows ?_ .. | with_reducible refine pulseExchange_follows ?_ .. | with_reducible refine inc_follows ?_ ..
    | fail_if_no_progress (with_reducible refine mk_follows ?_ rfl rfl) | fail_if_no_progress intros | split | extract_lets | dsimp only | dsimp +zetaDelta only)

theorem execLeapSecond_ends {s0 s : State} (h : Follows s0 s) :
    Ends s0 (execLeapSecond s) := by
  unfold execLeapSecond
  repeat' (first
    | with_reducible assumption | with_reducible exact Follows.refl _ | with_reducible refine Ends.of ?_ | with_reducible refine Ends.ite ?_ ?_ | with_reducible refine Follows.ite ?_ ?_ 
    | with_reducible refine advanceToReading_follows ?_ .. | with_reducible refine w0_follows ?_ .. | with_reducible refine modServo_follows ?_ ..
    | fail_if_no_progress (with_reducible refine mk_follows ?_ rfl rfl) | fail_if_no_progress intros | split | extract_lets | dsimp only | dsimp +zetaDelta only)

theorem execXoscLoss_ends {s0 s : State} (h : Follows s0 s) (ratioNum ratioDen : Nat) :
    Ends s0 (execXoscLoss ratioNum ratioDen s) := by
  unfold execXoscLoss
  repeat' (first
    | with_reducible assumption | with_reducible exact Follows.refl _ | with_reducible refine Ends.of ?_ | with_reducible refine Ends.ite ?_ ?_ | with_reducible refine Follows.ite ?_ ?_ 
    | with_reducible refine raise_follows ?_ .. | with_reducible refine inc0_follows ?_ .. | with_reducible refine w0_follows ?_ .. | with_reducible refine modServo_follows ?_ .. | with_reducible refine publishRate_follows ?_ ..
    | fail_if_no_progress (with_reducible refine mk_follows ?_ rfl rfl) | fail_if_no_progress intros | split | extract_lets | dsimp only | dsimp +zetaDelta only)

theorem occupyLine_follows {s0 s : State} (h : Follows s0 s) (slot n : Nat) :
    Follows s0 (occupyLine slot n s) := by
  unfold occupyLine
  repeat' (first
    | with_reducible assumption | with_reducible exact Follows.refl _ | with_reducible refine Follows.ite ?_ ?_ 
    | with_reducible refine modPort_follows ?_ ..
    | fail_if_no_progress (with_reducible refine mk_follows ?_ rfl rfl) | fail_if_no_progress intros | split | extract_lets | dsimp only | dsimp +zetaDelta only)

theorem ptpWait_follows {s0 s : State} (h : Follows s0 s) (slot : Nat) (k : PtpSend) :
    Follows s0 (ptpWait slot k s) := by
  unfold ptpWait
  repeat' (first
    | with_reducible assumption | with_reducible exact Follows.refl _ | with_reducible refine Follows.ite ?_ ?_ 
    | with_reducible refine setPtp_follows ?_ ..
    | fail_if_no_progress (with_reducible refine mk_follows ?_ rfl rfl) | fail_if_no_progress intros | split | extract_lets | dsimp only | dsimp +zetaDelta only)

theorem sendSync_follows {s0 s : State} (h : Follows s0 s) (port slot : Nat) :
    Follows s0 (sendSync port slot s) := by
  unfold sendSync
  repeat' (first
    | with_reducible assumption | with_reducible exact Follows.refl _ | with_reducible refine Follows.ite ?_ ?_ 
    | with_reducible refine setPtp_follows ?_ .. | with_reducible refine emit_follows ?_ .. | with_reducible refine countTx_follows ?_ .. | with_reducible refine occupyLine_follows ?_ .. | with_reducible refine inc_follows ?_ ..
    | fail_if_no_progress (with_reducible refine mk_follows ?_ rfl rfl) | fail_if_no_progress intros | split | extract_lets | dsimp only | dsimp +zetaDelta only)

theorem discardExchange_follows {s0 s : State} (h : Follows s0 s) (slot : Nat) :
    Follows s0 (discardExchange slot s) := by
  unfold discardExchange
  repeat' (first
    | with_reducible assumption | with_reducible exact Follows.refl _ | with_reducible refine Follows.ite ?_ ?_ 
    | with_reducible refine modServo_follows ?_ .. | with_reducible refine inc_follows ?_ ..
    | fail_if_no_progress (with_reducible refine mk_follows ?_ rfl rfl) | fail_if_no_progress intros | split | extract_lets | dsimp only | dsimp +zetaDelta only)

theorem sendDelayReq_follows {s0 s : State} (h : Follows s0 s) (port slot : Nat) :
    Follows s0 (sendDelayReq port slot s) := by
  unfold sendDelayReq
  repeat' (first
    | with_reducible assumption | with_reducible exact Follows.refl _ | with_reducible refine Follows.ite ?_ ?_ 
    | with_reducible refine discardExchange_follows ?_ .. | with_reducible refine setPtp_follows ?_ .. | with_reducible refine emit_follows ?_ .. | with_reducible refine countTx_follows ?_ .. | with_reducible refine occupyLine_follows ?_ .. | with_reducible refine inc_follows ?_ ..
    | fail_if_no_progress (with_reducible refine mk_follows ?_ rfl rfl) | fail_if_no_progress intros | split | extract_lets | dsimp only | dsimp +zetaDelta only)

theorem sendDelayResp_follows {s0 s : State} (h : Follows s0 s) (port slot : Nat) :
    Follows s0 (sendDelayResp port slot s) := by
  unfold sendDelayResp
  repeat' (first
    | with_reducible assumption | with_reducible exact Follows.refl _ | with_reducible refine Follows.ite ?_ ?_ 
    | with_reducible refine setPtp_follows ?_ .. | with_reducible refine emit_follows ?_ .. | with_reducible refine countTx_follows ?_ .. | with_reducible refine occupyLine_follows ?_ ..
    | fail_if_no_progress (with_reducible refine mk_follows ?_ rfl rfl) | fail_if_no_progress intros | split | extract_lets | dsimp only | dsimp +zetaDelta only)

theorem execPtpSyncSend_ends {s0 s : State} (h : Follows s0 s) (port : Fin 64) (x1 : Unit) :
    Ends s0 (execPtpSyncSend port x1 s) := by
  unfold execPtpSyncSend
  repeat' (first
    | with_reducible assumption | with_reducible exact Follows.refl _ | with_reducible refine Ends.of ?_ | with_reducible refine Ends.ite ?_ ?_ | with_reducible refine Follows.ite ?_ ?_ 
    | with_reducible refine setPtp_follows ?_ .. | with_reducible refine sendSync_follows ?_ .. | with_reducible refine ptpWait_follows ?_ ..
    | fail_if_no_progress (with_reducible refine mk_follows ?_ rfl rfl) | fail_if_no_progress intros | split | extract_lets | dsimp only | dsimp +zetaDelta only)

theorem execPtpDelayReqSend_ends {s0 s : State} (h : Follows s0 s) (port : Fin 64) (x1 : Unit) :
    Ends s0 (execPtpDelayReqSend port x1 s) := by
  unfold execPtpDelayReqSend
  repeat' (first
    | with_reducible assumption | with_reducible exact Follows.refl _ | with_reducible refine Ends.of ?_ | with_reducible refine Ends.ite ?_ ?_ | with_reducible refine Follows.ite ?_ ?_ 
    | with_reducible refine setPtp_follows ?_ .. | with_reducible refine sendDelayReq_follows ?_ .. | with_reducible refine ptpWait_follows ?_ ..
    | fail_if_no_progress (with_reducible refine mk_follows ?_ rfl rfl) | fail_if_no_progress intros | split | extract_lets | dsimp only | dsimp +zetaDelta only)

theorem execPtpDelayRespSend_ends {s0 s : State} (h : Follows s0 s) (port : Fin 64) :
    Ends s0 (execPtpDelayRespSend port s) := by
  unfold execPtpDelayRespSend
  repeat' (first
    | with_reducible assumption | with_reducible exact Follows.refl _ | with_reducible refine Ends.of ?_ | with_reducible refine Ends.ite ?_ ?_ | with_reducible refine Follows.ite ?_ ?_ 
    | with_reducible refine setPtp_follows ?_ .. | with_reducible refine sendDelayResp_follows ?_ .. | with_reducible refine ptpWait_follows ?_ ..
    | fail_if_no_progress (with_reducible refine mk_follows ?_ rfl rfl) | fail_if_no_progress intros | split | extract_lets | dsimp only | dsimp +zetaDelta only)

theorem execPtpSyncReceive_ends {s0 s : State} (h : Follows s0 s) (port : Fin 64) (msg : PtpMsg) (stamp : BallStamp) :
    Ends s0 (execPtpSyncReceive port msg stamp s) := by
  unfold execPtpSyncReceive
  repeat' (first
    | with_reducible assumption | with_reducible exact Follows.refl _ | with_reducible refine Ends.of ?_ | with_reducible refine Ends.ite ?_ ?_ | with_reducible refine Follows.ite ?_ ?_ 
    | with_reducible refine inc_follows ?_ .. | with_reducible refine setPtp_follows ?_ .. | with_reducible refine modServo_follows ?_ ..
    | fail_if_no_progress (with_reducible refine mk_follows ?_ rfl rfl) | fail_if_no_progress intros | split | extract_lets | dsimp only | dsimp +zetaDelta only)

theorem execPtpFollowUpReceive_ends {s0 s : State} (h : Follows s0 s) (port : Fin 64) (msg : PtpMsg) :
    Ends s0 (execPtpFollowUpReceive port msg s) := by
  unfold execPtpFollowUpReceive
  repeat' (first
    | with_reducible assumption | with_reducible exact Follows.refl _ | with_reducible refine Ends.of ?_ | with_reducible refine Ends.ite ?_ ?_ | with_reducible refine Follows.ite ?_ ?_ 
    | with_reducible refine setPtp_follows ?_ ..
    | fail_if_no_progress (with_reducible refine mk_follows ?_ rfl rfl) | fail_if_no_progress intros | split | extract_lets | dsimp only | dsimp +zetaDelta only)

theorem execPtpDelayReqReceive_ends {s0 s : State} (h : Follows s0 s) (port : Fin 64) (msg : PtpMsg) (stamp : BallStamp) :
    Ends s0 (execPtpDelayReqReceive port msg stamp s) := by
  unfold execPtpDelayReqReceive
  repeat' (first
    | with_reducible assumption | with_reducible exact Follows.refl _ | with_reducible refine Ends.of ?_ | with_reducible refine Ends.ite ?_ ?_ | with_reducible refine Follows.ite ?_ ?_ 
    | with_reducible refine inc_follows ?_ .. | with_reducible refine setPtp_follows ?_ ..
    | fail_if_no_progress (with_reducible refine mk_follows ?_ rfl rfl) | fail_if_no_progress intros | split | extract_lets | dsimp only | dsimp +zetaDelta only)

theorem completeExchange_follows {s0 s : State} (h : Follows s0 s) (slot : Nat) (y : SyncSt) (t1 : Int) (q : ReqSt) (t4 : Int) (respCoarse : Bool) :
    Follows s0 (completeExchange slot y t1 q t4 respCoarse s) := by
  unfold completeExchange
  repeat' (first
    | with_reducible assumption | with_reducible exact Follows.refl _ | with_reducible refine Follows.ite ?_ ?_ 
    | with_reducible refine w1_follows ?_ .. | with_reducible refine discardExchange_follows ?_ .. | with_reducible refine setPtp_follows ?_ .. | with_reducible refine inc_follows ?_ .. | with_reducible refine updateSource_follows ?_ .. | with_reducible refine servoExchange_follows ?_ ..
    | fail_if_no_progress (with_reducible refine mk_follows ?_ rfl rfl) | fail_if_no_progress intros | split | extract_lets | dsimp only | dsimp +zetaDelta only)

theorem execPtpDelayRespReceive_ends {s0 s : State} (h : Follows s0 s) (port : Fin 64) (msg : PtpMsg) :
    Ends s0 (execPtpDelayRespReceive port msg s) := by
  unfold execPtpDelayRespReceive
  repeat' (first
    | with_reducible assumption | with_reducible exact Follows.refl _ | with_reducible refine Ends.of ?_ | with_reducible refine Ends.ite ?_ ?_ | with_reducible refine Follows.ite ?_ ?_ 
    | with_reducible refine setPtp_follows ?_ .. | with_reducible refine discardExchange_follows ?_ .. | with_reducible refine completeExchange_follows ?_ ..
    | fail_if_no_progress (with_reducible refine mk_follows ?_ rfl rfl) | fail_if_no_progress intros | split | extract_lets | dsimp only | dsimp +zetaDelta only)

theorem parentAnnounce_follows {s0 s : State} (h : Follows s0 s) (slot : Nat) (m : AnnounceMsg) :
    Follows s0 (parentAnnounce slot m s) := by
  unfold parentAnnounce
  repeat' (first
    | with_reducible assumption | with_reducible exact Follows.refl _ | with_reducible refine Follows.ite ?_ ?_ 
    | with_reducible refine modServo_follows ?_ .. | with_reducible refine setServoFlag_follows ?_ .. | with_reducible refine sourceLost_follows ?_ .. | with_reducible refine updateSource_follows ?_ .. | with_reducible refine enterServo_follows ?_ .. | with_reducible refine updateUtc_follows ?_ ..
    | fail_if_no_progress (with_reducible refine mk_follows ?_ rfl rfl) | fail_if_no_progress intros | split | extract_lets | dsimp only | dsimp +zetaDelta only)

theorem execPtpAnnounceReceive_ends {s0 s : State} (h : Follows s0 s) (port : Fin 64) (msg : AnnounceMsg) :
    Ends s0 (execPtpAnnounceReceive port msg s) := by
  unfold execPtpAnnounceReceive
  repeat' (first
    | with_reducible assumption | with_reducible exact Follows.refl _ | with_reducible refine Ends.of ?_ | with_reducible refine Ends.ite ?_ ?_ | with_reducible refine Follows.ite ?_ ?_ 
    | with_reducible refine setPtp_follows ?_ .. | with_reducible refine inc_follows ?_ .. | with_reducible refine parentAnnounce_follows ?_ ..
    | fail_if_no_progress (with_reducible refine mk_follows ?_ rfl rfl) | fail_if_no_progress intros | split | extract_lets | dsimp only | dsimp +zetaDelta only)

theorem execAnnounceTimeout_ends {s0 s : State} (h : Follows s0 s) :
    Ends s0 (execAnnounceTimeout s) := by
  unfold execAnnounceTimeout
  repeat' (first
    | with_reducible assumption | with_reducible exact Follows.refl _ | with_reducible refine Ends.of ?_ | with_reducible refine Ends.ite ?_ ?_ | with_reducible refine Follows.ite ?_ ?_ 
    | with_reducible refine sourceLost_follows ?_ ..
    | fail_if_no_progress (with_reducible refine mk_follows ?_ rfl rfl) | fail_if_no_progress intros | split | extract_lets | dsimp only | dsimp +zetaDelta only)

theorem clearPtp_follows {s0 s : State} (h : Follows s0 s) (slot : Nat) :
    Follows s0 (clearPtp slot s) := by
  unfold clearPtp
  repeat' (first
    | with_reducible assumption | with_reducible exact Follows.refl _ | with_reducible refine Follows.ite ?_ ?_ 
    | with_reducible refine dropSub_follows ?_ ..
    | fail_if_no_progress (with_reducible refine mk_follows ?_ rfl rfl) | fail_if_no_progress intros | split | extract_lets | dsimp only | dsimp +zetaDelta only)

theorem execPtpCounterClear_ends {s0 s : State} (h : Follows s0 s) (port : Fin 64) (w : WriteReq) :
    Ends s0 (execPtpCounterClear port w s) := by
  unfold execPtpCounterClear
  repeat' (first
    | with_reducible assumption | with_reducible exact Follows.refl _ | with_reducible refine Ends.of ?_ | with_reducible refine Ends.ite ?_ ?_ | with_reducible refine Follows.ite ?_ ?_ 
    | with_reducible refine catWrite_follows ?_ ?_ .. | with_reducible refine effClear_follows ?_ ?_ .. | with_reducible refine clearPtp_follows ?_ ..
    | fail_if_no_progress (with_reducible refine mk_follows ?_ rfl rfl) | fail_if_no_progress intros | split | extract_lets | dsimp only | dsimp +zetaDelta only)

end Sys2Proof.Machine
end

