-- ==== Sys2Proof/Laws/ZutumFollows.lean ====
section
/-! SUPPORT. Every operation of Zutum follows. -/

set_option linter.unreachableTactic false
set_option linter.unusedTactic false

namespace Sys2Proof.Machine

theorem modZut_follows {s0 s : State} (h : Follows s0 s) (f : ZutSt → ZutSt) :
    Follows s0 (modZut f s) := by
  unfold modZut
  repeat' (first
    | with_reducible assumption | with_reducible exact Follows.refl _ | with_reducible refine Follows.ite ?_ ?_ 
    | fail_if_no_progress (with_reducible refine mk_follows ?_ rfl rfl) | fail_if_no_progress intros | split | extract_lets | dsimp only | dsimp +zetaDelta only)

theorem sendZutum_follows {s0 s : State} (h : Follows s0 s) (slot kind : Nat) (body : Bytes) :
    Follows s0 (sendZutum slot kind body s) := by
  unfold sendZutum
  repeat' (first
    | with_reducible assumption | with_reducible exact Follows.refl _ | with_reducible refine Follows.ite ?_ ?_ 
    | with_reducible refine sendManagement_follows ?_ .. | with_reducible refine inc0_follows ?_ ..
    | fail_if_no_progress (with_reducible refine mk_follows ?_ rfl rfl) | fail_if_no_progress intros | split | extract_lets | dsimp only | dsimp +zetaDelta only)

theorem floodNow_follows {s0 s : State} (h : Follows s0 s) (f : Flood) :
    Follows s0 (floodNow f s) := by
  unfold floodNow
  repeat' (first
    | with_reducible assumption | with_reducible exact Follows.refl _ | with_reducible refine Follows.ite ?_ ?_ | with_reducible refine forL_snd ?_ ?_ | with_reducible refine forL_third ?_ ?_ 
    | with_reducible refine forL_follows ?_ ?_ | with_reducible refine sendZutum_follows ?_ ..
    | fail_if_no_progress (with_reducible refine mk_follows ?_ rfl rfl) | fail_if_no_progress intros | split | extract_lets | dsimp only | dsimp +zetaDelta only)

theorem queueFlood_follows {s0 s : State} (h : Follows s0 s) (f : Flood) :
    Follows s0 (queueFlood f s) := by
  unfold queueFlood
  repeat' (first
    | with_reducible assumption | with_reducible exact Follows.refl _ | with_reducible refine Follows.ite ?_ ?_ 
    | with_reducible refine modZut_follows ?_ ..
    | fail_if_no_progress (with_reducible refine mk_follows ?_ rfl rfl) | fail_if_no_progress intros | split | extract_lets | dsimp only | dsimp +zetaDelta only)

theorem zutumReceive_follows {s0 s : State} (h : Follows s0 s) (port kind : Nat) (payload : Bytes) (ok : Bytes → Bool) :
    Follows s0 (zutumReceive port kind payload ok s) := by
  unfold zutumReceive
  repeat' (first
    | with_reducible assumption | with_reducible exact Follows.refl _ | with_reducible refine Follows.ite ?_ ?_ 
    | with_reducible refine inc0_follows ?_ .. | with_reducible refine modZut_follows ?_ ..
    | fail_if_no_progress (with_reducible refine mk_follows ?_ rfl rfl) | fail_if_no_progress intros | split | extract_lets | dsimp only | dsimp +zetaDelta only)

theorem holdReady_follows {s0 s : State} (h : Follows s0 s) (id : Nat) (uids : List Nat) :
    Follows s0 (holdReady id uids s) := by
  unfold holdReady
  repeat' (first
    | with_reducible assumption | with_reducible exact Follows.refl _ | with_reducible refine Follows.ite ?_ ?_ 
    | with_reducible refine modZut_follows ?_ ..
    | fail_if_no_progress (with_reducible refine mk_follows ?_ rfl rfl) | fail_if_no_progress intros | split | extract_lets | dsimp only | dsimp +zetaDelta only)

theorem sendAnswer_follows {s0 s : State} (h : Follows s0 s) (id result : Nat) (uids : List Nat) :
    Follows s0 (sendAnswer id result uids s) := by
  unfold sendAnswer
  repeat' (first
    | with_reducible assumption | with_reducible exact Follows.refl _ | with_reducible refine Follows.ite ?_ ?_ 
    | with_reducible refine sendZutum_follows ?_ ..
    | fail_if_no_progress (with_reducible refine mk_follows ?_ rfl rfl) | fail_if_no_progress intros | split | extract_lets | dsimp only | dsimp +zetaDelta only)

theorem refuseRoute_follows {s0 s : State} (h : Follows s0 s) (id code : Nat) :
    Follows s0 (refuseRoute id code s) := by
  unfold refuseRoute
  repeat' (first
    | with_reducible assumption | with_reducible exact Follows.refl _ | with_reducible refine Follows.ite ?_ ?_ 
    | with_reducible refine sendAnswer_follows ?_ .. | with_reducible refine inc0_follows ?_ ..
    | fail_if_no_progress (with_reducible refine mk_follows ?_ rfl rfl) | fail_if_no_progress intros | split | extract_lets | dsimp only | dsimp +zetaDelta only)

theorem matchedArm_follows {s0 s : State} (h : Follows s0 s) (a : RouteArm) :
    Follows s0 (matchedArm a s) := by
  unfold matchedArm
  repeat' (first
    | with_reducible assumption | with_reducible exact Follows.refl _ | with_reducible refine Follows.ite ?_ ?_ 
    | with_reducible refine refuseRoute_follows ?_ .. | with_reducible refine modZut_follows ?_ .. | with_reducible refine holdReady_follows ?_ .. | with_reducible refine w0_follows ?_ ..
    | fail_if_no_progress (with_reducible refine mk_follows ?_ rfl rfl) | fail_if_no_progress intros | split | extract_lets | dsimp only | dsimp +zetaDelta only)

theorem recheckArm_follows {s0 s : State} (h : Follows s0 s) :
    Follows s0 (recheckArm s) := by
  unfold recheckArm
  repeat' (first
    | with_reducible assumption | with_reducible exact Follows.refl _ | with_reducible refine Follows.ite ?_ ?_ | with_reducible refine forL_snd ?_ ?_ | with_reducible refine forL_third ?_ ?_ 
    | with_reducible refine forL_follows ?_ ?_ | with_reducible refine matchedArm_follows ?_ .. | with_reducible refine modZut_follows ?_ ..
    | fail_if_no_progress (with_reducible refine mk_follows ?_ rfl rfl) | fail_if_no_progress intros | split | extract_lets | dsimp only | dsimp +zetaDelta only)

theorem adoptAddresses_follows {s0 s : State} (h : Follows s0 s) (l : List Origin) :
    Follows s0 (adoptAddresses l s) := by
  unfold adoptAddresses
  repeat' (first
    | with_reducible assumption | with_reducible exact Follows.refl _ | with_reducible refine Follows.ite ?_ ?_ | with_reducible refine forL_snd ?_ ?_ | with_reducible refine forL_third ?_ ?_ 
    | with_reducible refine forL_follows ?_ ?_ | with_reducible refine wr_follows ?_ ..
    | fail_if_no_progress (with_reducible refine mk_follows ?_ rfl rfl) | fail_if_no_progress intros | split | extract_lets | dsimp only | dsimp +zetaDelta only)

theorem databaseChanged_follows {s0 s : State} (h : Follows s0 s) :
    Follows s0 (databaseChanged s) := by
  unfold databaseChanged
  repeat' (first
    | with_reducible assumption | with_reducible exact Follows.refl _ | with_reducible refine Follows.ite ?_ ?_ | with_reducible refine forL_snd ?_ ?_ | with_reducible refine forL_third ?_ ?_ 
    | with_reducible refine modZut_follows ?_ .. | with_reducible refine w0_follows ?_ .. | with_reducible refine raise_follows ?_ .. | with_reducible refine adoptAddresses_follows ?_ .. | with_reducible refine forL_follows ?_ ?_ | with_reducible refine inc0_follows ?_ .. | with_reducible refine recheckArm_follows ?_ ..
    | fail_if_no_progress (with_reducible refine mk_follows ?_ rfl rfl) | fail_if_no_progress intros | split | extract_lets | dsimp only | dsimp +zetaDelta only)

theorem originate_follows {s0 s : State} (h : Follows s0 s) :
    Follows s0 (originate s) := by
  unfold originate
  repeat' (first
    | with_reducible assumption | with_reducible exact Follows.refl _ | with_reducible refine Follows.ite ?_ ?_ | with_reducible refine foldl_follows ?_ ?_ | with_reducible refine foldl_snd ?_ ?_ | with_reducible refine forL_snd ?_ ?_ | with_reducible refine forL_third ?_ ?_ 
    | with_reducible refine modZut_follows ?_ .. | with_reducible refine databaseChanged_follows ?_ .. | with_reducible refine forL_follows ?_ ?_ | with_reducible refine queueFlood_follows ?_ ..
    | fail_if_no_progress (with_reducible refine mk_follows ?_ rfl rfl) | fail_if_no_progress intros | split | extract_lets | dsimp only | dsimp +zetaDelta only)

theorem removeOrigin_follows {s0 s : State} (h : Follows s0 s) (uid : Nat) :
    Follows s0 (removeOrigin uid s) := by
  unfold removeOrigin
  repeat' (first
    | with_reducible assumption | with_reducible exact Follows.refl _ | with_reducible refine Follows.ite ?_ ?_ 
    | with_reducible refine databaseChanged_follows ?_ .. | with_reducible refine modZut_follows ?_ ..
    | fail_if_no_progress (with_reducible refine mk_follows ?_ rfl rfl) | fail_if_no_progress intros | split | extract_lets | dsimp only | dsimp +zetaDelta only)

theorem setAdj_follows {s0 s : State} (h : Follows s0 s) (slot st : Nat) :
    Follows s0 (setAdj slot st s) := by
  unfold setAdj
  repeat' (first
    | with_reducible assumption | with_reducible exact Follows.refl _ | with_reducible refine Follows.ite ?_ ?_ 
    | with_reducible refine modZut_follows ?_ .. | with_reducible refine raise_follows ?_ .. | with_reducible refine w1_follows ?_ ..
    | fail_if_no_progress (with_reducible refine mk_follows ?_ rfl rfl) | fail_if_no_progress intros | split | extract_lets | dsimp only | dsimp +zetaDelta only)

theorem adjDown_follows {s0 s : State} (h : Follows s0 s) (slot : Nat) :
    Follows s0 (adjDown slot s) := by
  unfold adjDown
  repeat' (first
    | with_reducible assumption | with_reducible exact Follows.refl _ | with_reducible refine Follows.ite ?_ ?_ 
    | with_reducible refine w1_follows ?_ .. | with_reducible refine setAdj_follows ?_ .. | with_reducible refine modZut_follows ?_ ..
    | fail_if_no_progress (with_reducible refine mk_follows ?_ rfl rfl) | fail_if_no_progress intros | split | extract_lets | dsimp only | dsimp +zetaDelta only)

theorem dropHellos_follows {s0 s : State} (h : Follows s0 s) (slot : Nat) :
    Follows s0 (dropHellos slot s) := by
  unfold dropHellos
  repeat' (first
    | with_reducible assumption | with_reducible exact Follows.refl _ | with_reducible refine Follows.ite ?_ ?_ 
    | with_reducible refine modZut_follows ?_ ..
    | fail_if_no_progress (with_reducible refine mk_follows ?_ rfl rfl) | fail_if_no_progress intros | split | extract_lets | dsimp only | dsimp +zetaDelta only)

theorem sendHellos_follows {s0 s : State} (h : Follows s0 s) :
    Follows s0 (sendHellos s) := by
  unfold sendHellos
  repeat' (first
    | with_reducible assumption | with_reducible exact Follows.refl _ | with_reducible refine Follows.ite ?_ ?_ | with_reducible refine forL_snd ?_ ?_ | with_reducible refine forL_third ?_ ?_ 
    | with_reducible refine forL_follows ?_ ?_ | with_reducible refine sendZutum_follows ?_ .. | with_reducible refine modZut_follows ?_ ..
    | fail_if_no_progress (with_reducible refine mk_follows ?_ rfl rfl) | fail_if_no_progress intros | split | extract_lets | dsimp only | dsimp +zetaDelta only)

theorem execHelloSend_ends {s0 s : State} (h : Follows s0 s) :
    Ends s0 (execHelloSend s) := by
  unfold execHelloSend
  repeat' (first
    | with_reducible assumption | with_reducible exact Follows.refl _ | with_reducible refine Ends.of ?_ | with_reducible refine Ends.ite ?_ ?_ | with_reducible refine Follows.ite ?_ ?_ 
    | with_reducible refine sendHellos_follows ?_ ..
    | fail_if_no_progress (with_reducible refine mk_follows ?_ rfl rfl) | fail_if_no_progress intros | split | extract_lets | dsimp only | dsimp +zetaDelta only)

theorem takeHello_follows {s0 s : State} (h : Follows s0 s) (senderPort slot : Nat) (b : Bytes) :
    Follows s0 (takeHello senderPort slot b s) := by
  unfold takeHello
  repeat' (first
    | with_reducible assumption | with_reducible exact Follows.refl _ | with_reducible refine Follows.ite ?_ ?_ 
    | with_reducible refine setAdj_follows ?_ .. | with_reducible refine w1_follows ?_ .. | with_reducible refine modZut_follows ?_ ..
    | fail_if_no_progress (with_reducible refine mk_follows ?_ rfl rfl) | fail_if_no_progress intros | split | extract_lets | dsimp only | dsimp +zetaDelta only)

theorem execHelloReceive_ends {s0 s : State} (h : Follows s0 s) (port : Fin 64) (payload : Bytes) :
    Ends s0 (execHelloReceive port payload s) := by
  unfold execHelloReceive
  repeat' (first
    | with_reducible assumption | with_reducible exact Follows.refl _ | with_reducible refine Ends.of ?_ | with_reducible refine Ends.ite ?_ ?_ | with_reducible refine Follows.ite ?_ ?_ 
    | with_reducible refine zutumReceive_follows ?_ ..
    | fail_if_no_progress (with_reducible refine mk_follows ?_ rfl rfl) | fail_if_no_progress intros | split | extract_lets | dsimp only | dsimp +zetaDelta only)

theorem execAdjacencyTimeout_ends {s0 s : State} (h : Follows s0 s) (port : Fin 64) :
    Ends s0 (execAdjacencyTimeout port s) := by
  unfold execAdjacencyTimeout
  repeat' (first
    | with_reducible assumption | with_reducible exact Follows.refl _ | with_reducible refine Ends.of ?_ | with_reducible refine Ends.ite ?_ ?_ | with_reducible refine Follows.ite ?_ ?_ 
    | with_reducible refine adjDown_follows ?_ ..
    | fail_if_no_progress (with_reducible refine mk_follows ?_ rfl rfl) | fail_if_no_progress intros | split | extract_lets | dsimp only | dsimp +zetaDelta only)

theorem execLinkstateRefresh_ends {s0 s : State} (h : Follows s0 s) :
    Ends s0 (execLinkstateRefresh s) := by
  unfold execLinkstateRefresh
  repeat' (first
    | with_reducible assumption | with_reducible exact Follows.refl _ | with_reducible refine Ends.of ?_ | with_reducible refine Ends.ite ?_ ?_ | with_reducible refine Follows.ite ?_ ?_ 
    | with_reducible refine originate_follows ?_ ..
    | fail_if_no_progress (with_reducible refine mk_follows ?_ rfl rfl) | fail_if_no_progress intros | split | extract_lets | dsimp only | dsimp +zetaDelta only)

theorem execLinkstateOriginate_ends {s0 s : State} (h : Follows s0 s) :
    Ends s0 (execLinkstateOriginate s) := by
  unfold execLinkstateOriginate
  repeat' (first
    | with_reducible assumption | with_reducible exact Follows.refl _ | with_reducible refine Ends.of ?_ | with_reducible refine Ends.ite ?_ ?_ | with_reducible refine Follows.ite ?_ ?_ 
    | with_reducible refine originate_follows ?_ ..
    | fail_if_no_progress (with_reducible refine mk_follows ?_ rfl rfl) | fail_if_no_progress intros | split | extract_lets | dsimp only | dsimp +zetaDelta only)

theorem takeLinkstate_follows {s0 s : State} (h : Follows s0 s) (slot : Nat) (b : Bytes) :
    Follows s0 (takeLinkstate slot b s) := by
  unfold takeLinkstate
  repeat' (first
    | with_reducible assumption | with_reducible exact Follows.refl _ | with_reducible refine Follows.ite ?_ ?_ 
    | with_reducible refine originate_follows ?_ .. | with_reducible refine modZut_follows ?_ .. | with_reducible refine inc0_follows ?_ .. | with_reducible refine databaseChanged_follows ?_ .. | with_reducible refine queueFlood_follows ?_ ..
    | fail_if_no_progress (with_reducible refine mk_follows ?_ rfl rfl) | fail_if_no_progress intros | split | extract_lets | dsimp only | dsimp +zetaDelta only)

theorem execLinkstateReceive_ends {s0 s : State} (h : Follows s0 s) (port : Fin 64) (payload : Bytes) :
    Ends s0 (execLinkstateReceive port payload s) := by
  unfold execLinkstateReceive
  repeat' (first
    | with_reducible assumption | with_reducible exact Follows.refl _ | with_reducible refine Ends.of ?_ | with_reducible refine Ends.ite ?_ ?_ | with_reducible refine Follows.ite ?_ ?_ 
    | with_reducible refine zutumReceive_follows ?_ ..
    | fail_if_no_progress (with_reducible refine mk_follows ?_ rfl rfl) | fail_if_no_progress intros | split | extract_lets | dsimp only | dsimp +zetaDelta only)

theorem execLinkstateExpire_ends {s0 s : State} (h : Follows s0 s) (uid : BitVec 64) :
    Ends s0 (execLinkstateExpire uid s) := by
  unfold execLinkstateExpire
  repeat' (first
    | with_reducible assumption | with_reducible exact Follows.refl _ | with_reducible refine Ends.of ?_ | with_reducible refine Ends.ite ?_ ?_ | with_reducible refine Follows.ite ?_ ?_ 
    | with_reducible refine removeOrigin_follows ?_ ..
    | fail_if_no_progress (with_reducible refine mk_follows ?_ rfl rfl) | fail_if_no_progress intros | split | extract_lets | dsimp only | dsimp +zetaDelta only)

theorem makeGrants_follows {s0 s : State} (h : Follows s0 s) :
    Follows s0 (makeGrants s).2 := by
  unfold makeGrants
  repeat' (first
    | with_reducible assumption | with_reducible exact Follows.refl _ | with_reducible refine Follows.ite ?_ ?_ | with_reducible refine foldl_follows ?_ ?_ | with_reducible refine foldl_snd ?_ ?_ 
    | with_reducible refine wr_follows ?_ .. | with_reducible refine raise_follows ?_ .. | with_reducible refine inc0_follows ?_ ..
    | fail_if_no_progress (with_reducible refine mk_follows ?_ rfl rfl) | fail_if_no_progress intros | split | extract_lets | dsimp only | dsimp +zetaDelta only)

theorem rootArm_follows {s0 s : State} (h : Follows s0 s) :
    Follows s0 (rootArm s) := by
  unfold rootArm
  repeat' (first
    | with_reducible assumption | with_reducible exact Follows.refl _ | with_reducible refine Follows.ite ?_ ?_ 
    | with_reducible refine makeGrants_follows ?_ .. | with_reducible refine modZut_follows ?_ .. | with_reducible refine floodNow_follows ?_ .. | with_reducible refine w0_follows ?_ ..
    | fail_if_no_progress (with_reducible refine mk_follows ?_ rfl rfl) | fail_if_no_progress intros | split | extract_lets | dsimp only | dsimp +zetaDelta only)

theorem execRouteArm_ends {s0 s : State} (h : Follows s0 s) :
    Ends s0 (execRouteArm s) := by
  unfold execRouteArm
  repeat' (first
    | with_reducible assumption | with_reducible exact Follows.refl _ | with_reducible refine Ends.of ?_ | with_reducible refine Ends.ite ?_ ?_ | with_reducible refine Follows.ite ?_ ?_ 
    | with_reducible refine rootArm_follows ?_ ..
    | fail_if_no_progress (with_reducible refine mk_follows ?_ rfl rfl) | fail_if_no_progress intros | split | extract_lets | dsimp only | dsimp +zetaDelta only)

theorem takeRouteArm_follows {s0 s : State} (h : Follows s0 s) (slot came : Nat) (b : Bytes) :
    Follows s0 (takeRouteArm slot came b s) := by
  unfold takeRouteArm
  repeat' (first
    | with_reducible assumption | with_reducible exact Follows.refl _ | with_reducible refine Follows.ite ?_ ?_ 
    | with_reducible refine modZut_follows ?_ .. | with_reducible refine queueFlood_follows ?_ .. | with_reducible refine refuseRoute_follows ?_ .. | with_reducible refine matchedArm_follows ?_ ..
    | fail_if_no_progress (with_reducible refine mk_follows ?_ rfl rfl) | fail_if_no_progress intros | split | extract_lets | dsimp only | dsimp +zetaDelta only)

theorem execRouteArmReceive_ends {s0 s : State} (h : Follows s0 s) (port : Fin 64) (payload : Bytes) :
    Ends s0 (execRouteArmReceive port payload s) := by
  unfold execRouteArmReceive
  repeat' (first
    | with_reducible assumption | with_reducible exact Follows.refl _ | with_reducible refine Ends.of ?_ | with_reducible refine Ends.ite ?_ ?_ | with_reducible refine Follows.ite ?_ ?_ 
    | with_reducible refine zutumReceive_follows ?_ ..
    | fail_if_no_progress (with_reducible refine mk_follows ?_ rfl rfl) | fail_if_no_progress intros | split | extract_lets | dsimp only | dsimp +zetaDelta only)

theorem refuseWaits_follows {s0 s : State} (h : Follows s0 s) (n : Nat) :
    Follows s0 (refuseWaits n s) := by
  unfold refuseWaits
  repeat' (first
    | with_reducible assumption | with_reducible exact Follows.refl _ | with_reducible refine Follows.ite ?_ ?_ | with_reducible refine forL_snd ?_ ?_ | with_reducible refine forL_third ?_ ?_ 
    | with_reducible refine forL_follows ?_ ?_ | with_reducible refine refuseRoute_follows ?_ .. | with_reducible refine modZut_follows ?_ ..
    | fail_if_no_progress (with_reducible refine mk_follows ?_ rfl rfl) | fail_if_no_progress intros | split | extract_lets | dsimp only | dsimp +zetaDelta only)

theorem execRouteArmDeadline_ends {s0 s : State} (h : Follows s0 s) :
    Ends s0 (execRouteArmDeadline s) := by
  unfold execRouteArmDeadline
  repeat' (first
    | with_reducible assumption | with_reducible exact Follows.refl _ | with_reducible refine Ends.of ?_ | with_reducible refine Ends.ite ?_ ?_ | with_reducible refine Follows.ite ?_ ?_ 
    | with_reducible refine refuseWaits_follows ?_ ..
    | fail_if_no_progress (with_reducible refine mk_follows ?_ rfl rfl) | fail_if_no_progress intros | split | extract_lets | dsimp only | dsimp +zetaDelta only)

theorem dropArm_follows {s0 s : State} (h : Follows s0 s) :
    Follows s0 (dropArm s) := by
  unfold dropArm
  repeat' (first
    | with_reducible assumption | with_reducible exact Follows.refl _ | with_reducible refine Follows.ite ?_ ?_ 
    | with_reducible refine w0_follows ?_ .. | with_reducible refine modZut_follows ?_ ..
    | fail_if_no_progress (with_reducible refine mk_follows ?_ rfl rfl) | fail_if_no_progress intros | split | extract_lets | dsimp only | dsimp +zetaDelta only)

theorem rootCancel_follows {s0 s : State} (h : Follows s0 s) (a : RouteArm) :
    Follows s0 (rootCancel a s) := by
  unfold rootCancel
  repeat' (first
    | with_reducible assumption | with_reducible exact Follows.refl _ | with_reducible refine Follows.ite ?_ ?_ 
    | with_reducible refine modZut_follows ?_ .. | with_reducible refine floodNow_follows ?_ .. | with_reducible refine inc0_follows ?_ .. | with_reducible refine dropArm_follows ?_ ..
    | fail_if_no_progress (with_reducible refine mk_follows ?_ rfl rfl) | fail_if_no_progress intros | split | extract_lets | dsimp only | dsimp +zetaDelta only)

theorem takeAnswer_follows {s0 s : State} (h : Follows s0 s) (x1 : Nat) (b : Bytes) :
    Follows s0 (takeAnswer x1 b s) := by
  unfold takeAnswer
  repeat' (first
    | with_reducible assumption | with_reducible exact Follows.refl _ | with_reducible refine Follows.ite ?_ ?_ 
    | with_reducible refine modZut_follows ?_ .. | with_reducible refine rootCancel_follows ?_ .. | with_reducible refine holdReady_follows ?_ .. | with_reducible refine sendAnswer_follows ?_ ..
    | fail_if_no_progress (with_reducible refine mk_follows ?_ rfl rfl) | fail_if_no_progress intros | split | extract_lets | dsimp only | dsimp +zetaDelta only)

theorem execRouteAnswer_ends {s0 s : State} (h : Follows s0 s) (port : Fin 64) (payload : Bytes) :
    Ends s0 (execRouteAnswer port payload s) := by
  unfold execRouteAnswer
  repeat' (first
    | with_reducible assumption | with_reducible exact Follows.refl _ | with_reducible refine Ends.of ?_ | with_reducible refine Ends.ite ?_ ?_ | with_reducible refine Follows.ite ?_ ?_ 
    | with_reducible refine zutumReceive_follows ?_ ..
    | fail_if_no_progress (with_reducible refine mk_follows ?_ rfl rfl) | fail_if_no_progress intros | split | extract_lets | dsimp only | dsimp +zetaDelta only)

theorem execRouteCancelDeadline_ends {s0 s : State} (h : Follows s0 s) :
    Ends s0 (execRouteCancelDeadline s) := by
  unfold execRouteCancelDeadline
  repeat' (first
    | with_reducible assumption | with_reducible exact Follows.refl _ | with_reducible refine Ends.of ?_ | with_reducible refine Ends.ite ?_ ?_ | with_reducible refine Follows.ite ?_ ?_ 
    | with_reducible refine rootCancel_follows ?_ ..
    | fail_if_no_progress (with_reducible refine mk_follows ?_ rfl rfl) | fail_if_no_progress intros | split | extract_lets | dsimp only | dsimp +zetaDelta only)

theorem takeCancel_follows {s0 s : State} (h : Follows s0 s) (slot came : Nat) (b : Bytes) :
    Follows s0 (takeCancel slot came b s) := by
  unfold takeCancel
  repeat' (first
    | with_reducible assumption | with_reducible exact Follows.refl _ | with_reducible refine Follows.ite ?_ ?_ 
    | with_reducible refine modZut_follows ?_ .. | with_reducible refine queueFlood_follows ?_ .. | with_reducible refine inc0_follows ?_ .. | with_reducible refine dropArm_follows ?_ ..
    | fail_if_no_progress (with_reducible refine mk_follows ?_ rfl rfl) | fail_if_no_progress intros | split | extract_lets | dsimp only | dsimp +zetaDelta only)

theorem execRouteCancel_ends {s0 s : State} (h : Follows s0 s) (port : Fin 64) (payload : Bytes) :
    Ends s0 (execRouteCancel port payload s) := by
  unfold execRouteCancel
  repeat' (first
    | with_reducible assumption | with_reducible exact Follows.refl _ | with_reducible refine Ends.of ?_ | with_reducible refine Ends.ite ?_ ?_ | with_reducible refine Follows.ite ?_ ?_ 
    | with_reducible refine zutumReceive_follows ?_ ..
    | fail_if_no_progress (with_reducible refine mk_follows ?_ rfl rfl) | fail_if_no_progress intros | split | extract_lets | dsimp only | dsimp +zetaDelta only)

theorem applyGrants_follows {s0 s : State} (h : Follows s0 s) (g : List (Nat × Nat)) :
    Follows s0 (applyGrants g s) := by
  unfold applyGrants
  repeat' (first
    | with_reducible assumption | with_reducible exact Follows.refl _ | with_reducible refine Follows.ite ?_ ?_ | with_reducible refine forL_snd ?_ ?_ | with_reducible refine forL_third ?_ ?_ 
    | with_reducible refine forL_follows ?_ ?_ | with_reducible refine w0_follows ?_ ..
    | fail_if_no_progress (with_reducible refine mk_follows ?_ rfl rfl) | fail_if_no_progress intros | split | extract_lets | dsimp only | dsimp +zetaDelta only)

theorem takeParent_follows {s0 s : State} (h : Follows s0 s) :
    Follows s0 (takeParent s) := by
  unfold takeParent
  repeat' (first
    | with_reducible assumption | with_reducible exact Follows.refl _ | with_reducible refine Follows.ite ?_ ?_ 
    | with_reducible refine modServo_follows ?_ .. | with_reducible refine setServoFlag_follows ?_ ..
    | fail_if_no_progress (with_reducible refine mk_follows ?_ rfl rfl) | fail_if_no_progress intros | split | extract_lets | dsimp only | dsimp +zetaDelta only)

theorem routeOpen_follows {s0 s : State} (h : Follows s0 s) (a : RouteArm) (c : RouteCand) :
    Follows s0 (routeOpen a c s) := by
  unfold routeOpen
  repeat' (first
    | with_reducible assumption | with_reducible exact Follows.refl _ | with_reducible refine Follows.ite ?_ ?_ | with_reducible refine forL_snd ?_ ?_ | with_reducible refine forL_third ?_ ?_ 
    | with_reducible refine applyGrants_follows ?_ .. | with_reducible refine dropIdx_follows ?_ .. | with_reducible refine forL_follows ?_ ?_ | with_reducible refine wr_follows ?_ .. | with_reducible refine setPortState_follows ?_ .. | with_reducible refine w0_follows ?_ .. | with_reducible refine setLive_follows ?_ .. | with_reducible refine inc0_follows ?_ .. | with_reducible refine modZut_follows ?_ .. | with_reducible refine dropArm_follows ?_ .. | with_reducible refine updateSource_follows ?_ .. | with_reducible refine updateUtc_follows ?_ .. | with_reducible refine takeParent_follows ?_ .. | with_reducible refine sourceLost_follows ?_ .. | with_reducible refine dropParent_follows ?_ ..
    | fail_if_no_progress (with_reducible refine mk_follows ?_ rfl rfl) | fail_if_no_progress intros | split | extract_lets | dsimp only | dsimp +zetaDelta only)

theorem routeOpenDue_follows {s0 s : State} (h : Follows s0 s) :
    Follows s0 (routeOpenDue s) := by
  unfold routeOpenDue
  repeat' (first
    | with_reducible assumption | with_reducible exact Follows.refl _ | with_reducible refine Follows.ite ?_ ?_ 
    | with_reducible refine routeOpen_follows ?_ ..
    | fail_if_no_progress (with_reducible refine mk_follows ?_ rfl rfl) | fail_if_no_progress intros | split | extract_lets | dsimp only | dsimp +zetaDelta only)

theorem zutumLinkFell_follows {s0 s : State} (h : Follows s0 s) (slot : Nat) :
    Follows s0 (zutumLinkFell slot s) := by
  unfold zutumLinkFell
  repeat' (first
    | with_reducible assumption | with_reducible exact Follows.refl _ | with_reducible refine Follows.ite ?_ ?_ 
    | with_reducible refine dropHellos_follows ?_ .. | with_reducible refine adjDown_follows ?_ .. | with_reducible refine setPortState_follows ?_ .. | with_reducible refine setPtp_follows ?_ .. | with_reducible refine updateSource_follows ?_ .. | with_reducible refine sourceLost_follows ?_ .. | with_reducible refine dropParent_follows ?_ ..
    | fail_if_no_progress (with_reducible refine mk_follows ?_ rfl rfl) | fail_if_no_progress intros | split | extract_lets | dsimp only | dsimp +zetaDelta only)

theorem zutumLinkRose_follows {s0 s : State} (h : Follows s0 s) (slot : Nat) :
    Follows s0 (zutumLinkRose slot s) := by
  unfold zutumLinkRose
  repeat' (first
    | with_reducible assumption | with_reducible exact Follows.refl _ | with_reducible refine Follows.ite ?_ ?_ 
    | with_reducible refine w1_follows ?_ ..
    | fail_if_no_progress (with_reducible refine mk_follows ?_ rfl rfl) | fail_if_no_progress intros | split | extract_lets | dsimp only | dsimp +zetaDelta only)

theorem effZutumEnable_follows {s0 s : State} (h : Follows s0 s) (x1 v : Nat) :
    Follows s0 (effZutumEnable x1 v s) := by
  unfold effZutumEnable
  repeat' (first
    | with_reducible assumption | with_reducible exact Follows.refl _ | with_reducible refine Follows.ite ?_ ?_ | with_reducible refine forL_snd ?_ ?_ | with_reducible refine forL_third ?_ ?_ 
    | with_reducible refine w0_follows ?_ .. | with_reducible refine forL_follows ?_ ?_ | with_reducible refine dropHellos_follows ?_ .. | with_reducible refine adjDown_follows ?_ ..
    | fail_if_no_progress (with_reducible refine mk_follows ?_ rfl rfl) | fail_if_no_progress intros | split | extract_lets | dsimp only | dsimp +zetaDelta only)

theorem zutumAct_follows {s0 s : State} (h : Follows s0 s) (x : ZutIn) :
    Follows s0 (zutumAct x s) := by
  unfold zutumAct
  repeat' (first
    | with_reducible assumption | with_reducible exact Follows.refl _ | with_reducible refine Follows.ite ?_ ?_ 
    | with_reducible refine takeHello_follows ?_ .. | with_reducible refine takeLinkstate_follows ?_ .. | with_reducible refine takeRouteArm_follows ?_ .. | with_reducible refine takeAnswer_follows ?_ .. | with_reducible refine takeCancel_follows ?_ ..
    | fail_if_no_progress (with_reducible refine mk_follows ?_ rfl rfl) | fail_if_no_progress intros | split | extract_lets | dsimp only | dsimp +zetaDelta only)

theorem zutumInbox_follows {s0 s : State} (h : Follows s0 s) :
    Follows s0 (zutumInbox s) := by
  unfold zutumInbox
  repeat' (first
    | with_reducible assumption | with_reducible exact Follows.refl _ | with_reducible refine Follows.ite ?_ ?_ | with_reducible refine forL_snd ?_ ?_ | with_reducible refine forL_third ?_ ?_ 
    | with_reducible refine forL_follows ?_ ?_ | with_reducible refine zutumAct_follows ?_ .. | with_reducible refine modZut_follows ?_ ..
    | fail_if_no_progress (with_reducible refine mk_follows ?_ rfl rfl) | fail_if_no_progress intros | split | extract_lets | dsimp only | dsimp +zetaDelta only)

theorem zutumJob_follows {s0 s : State} (h : Follows s0 s) :
    Follows s0 (zutumJob s) := by
  unfold zutumJob
  repeat' (first
    | with_reducible assumption | with_reducible exact Follows.refl _ | with_reducible refine Follows.ite ?_ ?_ | with_reducible refine forL_snd ?_ ?_ | with_reducible refine forL_third ?_ ?_ 
    | with_reducible refine refuseWaits_follows ?_ .. | with_reducible refine zutumInbox_follows ?_ .. | with_reducible refine sendHellos_follows ?_ .. | with_reducible refine forL_follows ?_ ?_ | with_reducible refine adjDown_follows ?_ .. | with_reducible refine removeOrigin_follows ?_ .. | with_reducible refine originate_follows ?_ .. | with_reducible refine modZut_follows ?_ .. | with_reducible refine floodNow_follows ?_ .. | with_reducible refine sendAnswer_follows ?_ ..
    | fail_if_no_progress (with_reducible refine mk_follows ?_ rfl rfl) | fail_if_no_progress intros | split | extract_lets | dsimp only | dsimp +zetaDelta only)

theorem sendAnnounce_follows {s0 s : State} (h : Follows s0 s) (port slot : Nat) :
    Follows s0 (sendAnnounce port slot s) := by
  unfold sendAnnounce
  repeat' (first
    | with_reducible assumption | with_reducible exact Follows.refl _ | with_reducible refine Follows.ite ?_ ?_ 
    | with_reducible refine setPtp_follows ?_ .. | with_reducible refine emit_follows ?_ .. | with_reducible refine countTx_follows ?_ .. | with_reducible refine occupyLine_follows ?_ ..
    | fail_if_no_progress (with_reducible refine mk_follows ?_ rfl rfl) | fail_if_no_progress intros | split | extract_lets | dsimp only | dsimp +zetaDelta only)

theorem execPtpAnnounceSend_ends {s0 s : State} (h : Follows s0 s) (port : Fin 64) :
    Ends s0 (execPtpAnnounceSend port s) := by
  unfold execPtpAnnounceSend
  repeat' (first
    | with_reducible assumption | with_reducible exact Follows.refl _ | with_reducible refine Ends.of ?_ | with_reducible refine Ends.ite ?_ ?_ | with_reducible refine Follows.ite ?_ ?_ 
    | with_reducible refine setPtp_follows ?_ .. | with_reducible refine sendAnnounce_follows ?_ .. | with_reducible refine ptpWait_follows ?_ ..
    | fail_if_no_progress (with_reducible refine mk_follows ?_ rfl rfl) | fail_if_no_progress intros | split | extract_lets | dsimp only | dsimp +zetaDelta only)

theorem sendWaiting_follows {s0 s : State} (h : Follows s0 s) (port slot : Nat) (k : PtpSend) :
    Follows s0 (sendWaiting port slot k s) := by
  unfold sendWaiting
  repeat' (first
    | with_reducible assumption | with_reducible exact Follows.refl _ | with_reducible refine Follows.ite ?_ ?_ 
    | with_reducible refine sendSync_follows ?_ .. | with_reducible refine sendAnnounce_follows ?_ .. | with_reducible refine sendDelayResp_follows ?_ .. | with_reducible refine sendDelayReq_follows ?_ ..
    | fail_if_no_progress (with_reducible refine mk_follows ?_ rfl rfl) | fail_if_no_progress intros | split | extract_lets | dsimp only | dsimp +zetaDelta only)

theorem releasePtp_follows {s0 s : State} (h : Follows s0 s) (slot : Nat) :
    Follows s0 (releasePtp slot s) := by
  unfold releasePtp
  repeat' (first
    | with_reducible assumption | with_reducible exact Follows.refl _ | with_reducible refine Follows.ite ?_ ?_ | with_reducible refine forL_snd ?_ ?_ | with_reducible refine forL_third ?_ ?_ 
    | with_reducible refine forL_follows ?_ ?_ | with_reducible refine sendWaiting_follows ?_ .. | with_reducible refine setPtp_follows ?_ ..
    | fail_if_no_progress (with_reducible refine mk_follows ?_ rfl rfl) | fail_if_no_progress intros | split | extract_lets | dsimp only | dsimp +zetaDelta only)

end Sys2Proof.Machine
end

