-- ==== Sys2Proof/Laws/LanesFollows.lean ====
section
/-! SUPPORT. Every operation of Lanes follows. -/

set_option linter.unreachableTactic false
set_option linter.unusedTactic false

namespace Sys2Proof.Machine

theorem dropHandover_follows {s0 s : State} (h : Follows s0 s) (lane : Nat) :
    Follows s0 (dropHandover lane s) := by
  unfold dropHandover
  repeat' (first
    | with_reducible assumption | with_reducible exact Follows.refl _ | with_reducible refine Follows.ite ?_ ?_ 
    | with_reducible refine modLane_follows ?_ .. | with_reducible refine w1_follows ?_ ..
    | fail_if_no_progress (with_reducible refine mk_follows ?_ rfl rfl) | fail_if_no_progress intros | split | extract_lets | dsimp only | dsimp +zetaDelta only)

theorem dropChecker_follows {s0 s : State} (h : Follows s0 s) (lane : Nat) :
    Follows s0 (dropChecker lane s) := by
  unfold dropChecker
  repeat' (first
    | with_reducible assumption | with_reducible exact Follows.refl _ | with_reducible refine Follows.ite ?_ ?_ 
    | with_reducible refine w1_follows ?_ ..
    | fail_if_no_progress (with_reducible refine mk_follows ?_ rfl rfl) | fail_if_no_progress intros | split | extract_lets | dsimp only | dsimp +zetaDelta only)

theorem setLaneState_follows {s0 s : State} (h : Follows s0 s) (lane st : Nat) :
    Follows s0 (setLaneState lane st s) := by
  unfold setLaneState
  repeat' (first
    | with_reducible assumption | with_reducible exact Follows.refl _ | with_reducible refine Follows.ite ?_ ?_ 
    | with_reducible refine w1_follows ?_ .. | with_reducible refine modLane_follows ?_ .. | with_reducible refine dropHandover_follows ?_ .. | with_reducible refine dropChecker_follows ?_ ..
    | fail_if_no_progress (with_reducible refine mk_follows ?_ rfl rfl) | fail_if_no_progress intros | split | extract_lets | dsimp only | dsimp +zetaDelta only)

theorem discardTx_follows {s0 s : State} (h : Follows s0 s) (slot : Nat) :
    Follows s0 (discardTx slot s) := by
  unfold discardTx
  repeat' (first
    | with_reducible assumption | with_reducible exact Follows.refl _ | with_reducible refine Follows.ite ?_ ?_ 
    | with_reducible refine archiveRefate_follows ?_ .. | with_reducible refine modPort_follows ?_ .. | with_reducible refine inc_follows ?_ .. | with_reducible refine releaseRef_follows ?_ ..
    | fail_if_no_progress (with_reducible refine mk_follows ?_ rfl rfl) | fail_if_no_progress intros | split | extract_lets | dsimp only | dsimp +zetaDelta only)

theorem linkMoved_follows {s0 s : State} (h : Follows s0 s) (slot before : Nat) :
    Follows s0 (linkMoved slot before s) := by
  unfold linkMoved
  repeat' (first
    | with_reducible assumption | with_reducible exact Follows.refl _ | with_reducible refine Follows.ite ?_ ?_ 
    | with_reducible refine discardTx_follows ?_ .. | with_reducible refine stopTimers_follows ?_ .. | with_reducible refine judgeGates_follows ?_ .. | with_reducible refine zutumLinkFell_follows ?_ .. | with_reducible refine zutumLinkRose_follows ?_ ..
    | fail_if_no_progress (with_reducible refine mk_follows ?_ rfl rfl) | fail_if_no_progress intros | split | extract_lets | dsimp only | dsimp +zetaDelta only)

theorem linkChanged_follows {s0 s : State} (h : Follows s0 s) (slot before : Nat) :
    Follows s0 (linkChanged slot before s) := by
  unfold linkChanged
  repeat' (first
    | with_reducible assumption | with_reducible exact Follows.refl _ | with_reducible refine Follows.ite ?_ ?_ 
    | with_reducible refine raise_follows ?_ .. | with_reducible refine linkMoved_follows ?_ ..
    | fail_if_no_progress (with_reducible refine mk_follows ?_ rfl rfl) | fail_if_no_progress intros | split | extract_lets | dsimp only | dsimp +zetaDelta only)

theorem withLinks_follows {s0 s : State} {f : State → State} (h : Follows s0 s) (h_f : ∀ b, Follows s0 b → Follows s0 (f b)) (g : Nat) :
    Follows s0 (withLinks g f s) := by
  unfold withLinks
  repeat' (first
    | with_reducible assumption | with_reducible exact Follows.refl _ | with_reducible refine Follows.ite ?_ ?_ 
    | with_reducible refine linkChanged_follows ?_ ..
    | apply h_f
    | fail_if_no_progress (with_reducible refine mk_follows ?_ rfl rfl) | fail_if_no_progress intros | split | extract_lets | dsimp only | dsimp +zetaDelta only)

theorem othersWait_follows {s0 s : State} (h : Follows s0 s) (lane : Nat) :
    Follows s0 (othersWait lane s) := by
  unfold othersWait
  repeat' (first
    | with_reducible assumption | with_reducible exact Follows.refl _ | with_reducible refine Follows.ite ?_ ?_ | with_reducible refine forL_snd ?_ ?_ | with_reducible refine forL_third ?_ ?_ 
    | with_reducible refine forL_follows ?_ ?_ | with_reducible refine setLaneState_follows ?_ ..
    | fail_if_no_progress (with_reducible refine mk_follows ?_ rfl rfl) | fail_if_no_progress intros | split | extract_lets | dsimp only | dsimp +zetaDelta only)

theorem startLane_follows {s0 s : State} (h : Follows s0 s) (lane : Nat) :
    Follows s0 (startLane lane s) := by
  unfold startLane
  repeat' (first
    | with_reducible assumption | with_reducible exact Follows.refl _ | with_reducible refine Follows.ite ?_ ?_ 
    | with_reducible refine setLaneState_follows ?_ ..
    | fail_if_no_progress (with_reducible refine mk_follows ?_ rfl rfl) | fail_if_no_progress intros | split | extract_lets | dsimp only | dsimp +zetaDelta only)

theorem stopLane_follows {s0 s : State} (h : Follows s0 s) (lane : Nat) :
    Follows s0 (stopLane lane s) := by
  unfold stopLane
  repeat' (first
    | with_reducible assumption | with_reducible exact Follows.refl _ | with_reducible refine Follows.ite ?_ ?_ 
    | with_reducible refine othersWait_follows ?_ .. | with_reducible refine setLaneState_follows ?_ ..
    | fail_if_no_progress (with_reducible refine mk_follows ?_ rfl rfl) | fail_if_no_progress intros | split | extract_lets | dsimp only | dsimp +zetaDelta only)

theorem restartLanes_follows {s0 s : State} (h : Follows s0 s) (lanes : List Nat) :
    Follows s0 (restartLanes lanes s) := by
  unfold restartLanes
  repeat' (first
    | with_reducible assumption | with_reducible exact Follows.refl _ | with_reducible refine Follows.ite ?_ ?_ | with_reducible refine forL_snd ?_ ?_ | with_reducible refine forL_third ?_ ?_ 
    | with_reducible refine forL_follows ?_ ?_ | with_reducible refine setLaneState_follows ?_ ..
    | fail_if_no_progress (with_reducible refine mk_follows ?_ rfl rfl) | fail_if_no_progress intros | split | extract_lets | dsimp only | dsimp +zetaDelta only)

theorem laneObjectChanged_follows {s0 s : State} (h : Follows s0 s) (idx sub : Nat) :
    Follows s0 (laneObjectChanged idx sub s) := by
  unfold laneObjectChanged
  repeat' (first
    | with_reducible assumption | with_reducible exact Follows.refl _ | with_reducible refine Follows.ite ?_ ?_ 
    | with_reducible refine withLinks_follows ?_ ?_ .. | with_reducible refine restartLanes_follows ?_ ..
    | fail_if_no_progress (with_reducible refine mk_follows ?_ rfl rfl) | fail_if_no_progress intros | split | extract_lets | dsimp only | dsimp +zetaDelta only)

theorem laneModeChanged_follows {s0 s : State} (h : Follows s0 s) (g : Nat) :
    Follows s0 (laneModeChanged g s) := by
  unfold laneModeChanged
  repeat' (first
    | with_reducible assumption | with_reducible exact Follows.refl _ | with_reducible refine Follows.ite ?_ ?_ 
    | with_reducible refine w1_follows ?_ .. | with_reducible refine startLane_follows ?_ ..
    | fail_if_no_progress (with_reducible refine mk_follows ?_ rfl rfl) | fail_if_no_progress intros | split | extract_lets | dsimp only | dsimp +zetaDelta only)

theorem laneBankSleep_follows {s0 s : State} (h : Follows s0 s) (bank : Nat) :
    Follows s0 (laneBankSleep bank s) := by
  unfold laneBankSleep
  repeat' (first
    | with_reducible assumption | with_reducible exact Follows.refl _ | with_reducible refine Follows.ite ?_ ?_ | with_reducible refine forN_snd ?_ ?_ | with_reducible refine forN_third ?_ ?_ 
    | with_reducible refine forN_follows ?_ ?_ | with_reducible refine withLinks_follows ?_ ?_ .. | with_reducible refine stopLane_follows ?_ ..
    | fail_if_no_progress (with_reducible refine mk_follows ?_ rfl rfl) | fail_if_no_progress intros | split | extract_lets | dsimp only | dsimp +zetaDelta only)

theorem laneBankStart_follows {s0 s : State} (h : Follows s0 s) (bank : Nat) :
    Follows s0 (laneBankStart bank s) := by
  unfold laneBankStart
  repeat' (first
    | with_reducible assumption | with_reducible exact Follows.refl _ | with_reducible refine Follows.ite ?_ ?_ | with_reducible refine forN_snd ?_ ?_ | with_reducible refine forN_third ?_ ?_ 
    | with_reducible refine forN_follows ?_ ?_ | with_reducible refine withLinks_follows ?_ ?_ .. | with_reducible refine startLane_follows ?_ ..
    | fail_if_no_progress (with_reducible refine mk_follows ?_ rfl rfl) | fail_if_no_progress intros | split | extract_lets | dsimp only | dsimp +zetaDelta only)

theorem onLane_follows {s0 s : State} {f : State → State} (h : Follows s0 s) (h_f : ∀ b, Follows s0 b → Follows s0 (f b)) (lane : Nat) :
    Follows s0 (onLane lane f s) := by
  unfold onLane
  repeat' (first
    | with_reducible assumption | with_reducible exact Follows.refl _ | with_reducible refine Follows.ite ?_ ?_ 
    | with_reducible refine withLinks_follows ?_ ?_ ..
    | apply h_f
    | fail_if_no_progress (with_reducible refine mk_follows ?_ rfl rfl) | fail_if_no_progress intros | split | extract_lets | dsimp only | dsimp +zetaDelta only)

theorem execLaneSignalDetected_ends {s0 s : State} (h : Follows s0 s) (lane : Fin 64) :
    Ends s0 (execLaneSignalDetected lane s) := by
  unfold execLaneSignalDetected
  repeat' (first
    | with_reducible assumption | with_reducible exact Follows.refl _ | with_reducible refine Ends.of ?_ | with_reducible refine Ends.ite ?_ ?_ | with_reducible refine Follows.ite ?_ ?_ 
    | with_reducible refine onLane_follows ?_ ?_ .. | with_reducible refine setLaneState_follows ?_ ..
    | fail_if_no_progress (with_reducible refine mk_follows ?_ rfl rfl) | fail_if_no_progress intros | split | extract_lets | dsimp only | dsimp +zetaDelta only)

theorem execLaneCdrLocked_ends {s0 s : State} (h : Follows s0 s) (lane : Fin 64) :
    Ends s0 (execLaneCdrLocked lane s) := by
  unfold execLaneCdrLocked
  repeat' (first
    | with_reducible assumption | with_reducible exact Follows.refl _ | with_reducible refine Ends.of ?_ | with_reducible refine Ends.ite ?_ ?_ | with_reducible refine Follows.ite ?_ ?_ 
    | with_reducible refine onLane_follows ?_ ?_ .. | with_reducible refine setLaneState_follows ?_ ..
    | fail_if_no_progress (with_reducible refine mk_follows ?_ rfl rfl) | fail_if_no_progress intros | split | extract_lets | dsimp only | dsimp +zetaDelta only)

theorem singleReversal_follows {s0 s : State} (h : Follows s0 s) (lane : Nat) :
    Follows s0 (singleReversal lane s) := by
  unfold singleReversal
  repeat' (first
    | with_reducible assumption | with_reducible exact Follows.refl _ | with_reducible refine Follows.ite ?_ ?_ 
    | with_reducible refine w1_follows ?_ ..
    | fail_if_no_progress (with_reducible refine mk_follows ?_ rfl rfl) | fail_if_no_progress intros | split | extract_lets | dsimp only | dsimp +zetaDelta only)

theorem judgeTraining_follows {s0 s : State} (h : Follows s0 s) (lane : Nat) :
    Follows s0 (judgeTraining lane s) := by
  unfold judgeTraining
  repeat' (first
    | with_reducible assumption | with_reducible exact Follows.refl _ | with_reducible refine Follows.ite ?_ ?_ 
    | with_reducible refine setLane_follows ?_ ..
    | fail_if_no_progress (with_reducible refine mk_follows ?_ rfl rfl) | fail_if_no_progress intros | split | extract_lets | dsimp only | dsimp +zetaDelta only)

theorem decidePolarity_follows {s0 s : State} (h : Follows s0 s) (lane : Nat) :
    Follows s0 (decidePolarity lane s) := by
  unfold decidePolarity
  repeat' (first
    | with_reducible assumption | with_reducible exact Follows.refl _ | with_reducible refine Follows.ite ?_ ?_ 
    | with_reducible refine setLaneState_follows ?_ .. | with_reducible refine w1_follows ?_ .. | with_reducible refine judgeTraining_follows ?_ .. | with_reducible refine singleReversal_follows ?_ ..
    | fail_if_no_progress (with_reducible refine mk_follows ?_ rfl rfl) | fail_if_no_progress intros | split | extract_lets | dsimp only | dsimp +zetaDelta only)

theorem setTaps_follows {s0 s : State} (h : Follows s0 s) (lane ctle ffe dfe : Nat) :
    Follows s0 (setTaps lane ctle ffe dfe s) := by
  unfold setTaps
  repeat' (first
    | with_reducible assumption | with_reducible exact Follows.refl _ | with_reducible refine Follows.ite ?_ ?_ 
    | with_reducible refine modLane_follows ?_ .. | with_reducible refine w1_follows ?_ ..
    | fail_if_no_progress (with_reducible refine mk_follows ?_ rfl rfl) | fail_if_no_progress intros | split | extract_lets | dsimp only | dsimp +zetaDelta only)

theorem execLaneEqualised_ends {s0 s : State} (h : Follows s0 s) (lane : Fin 64) (ctle : Fin 16) (ffe : BitVec 96) (dfe : BitVec 32) :
    Ends s0 (execLaneEqualised lane ctle ffe dfe s) := by
  unfold execLaneEqualised
  repeat' (first
    | with_reducible assumption | with_reducible exact Follows.refl _ | with_reducible refine Ends.of ?_ | with_reducible refine Ends.ite ?_ ?_ | with_reducible refine Follows.ite ?_ ?_ 
    | with_reducible refine onLane_follows ?_ ?_ .. | with_reducible refine setLaneState_follows ?_ .. | with_reducible refine setTaps_follows ?_ .. | with_reducible refine decidePolarity_follows ?_ ..
    | fail_if_no_progress (with_reducible refine mk_follows ?_ rfl rfl) | fail_if_no_progress intros | split | extract_lets | dsimp only | dsimp +zetaDelta only)

theorem execPolarityTrialSwitch_ends {s0 s : State} (h : Follows s0 s) (lane : Fin 64) :
    Ends s0 (execPolarityTrialSwitch lane s) := by
  unfold execPolarityTrialSwitch
  repeat' (first
    | with_reducible assumption | with_reducible exact Follows.refl _ | with_reducible refine Ends.of ?_ | with_reducible refine Ends.ite ?_ ?_ | with_reducible refine Follows.ite ?_ ?_ 
    | with_reducible refine modLane_follows ?_ ..
    | fail_if_no_progress (with_reducible refine mk_follows ?_ rfl rfl) | fail_if_no_progress intros | split | extract_lets | dsimp only | dsimp +zetaDelta only)

theorem execLanePolarityDecided_ends {s0 s : State} (h : Follows s0 s) (lane : Fin 64) :
    Ends s0 (execLanePolarityDecided lane s) := by
  unfold execLanePolarityDecided
  repeat' (first
    | with_reducible assumption | with_reducible exact Follows.refl _ | with_reducible refine Ends.of ?_ | with_reducible refine Ends.ite ?_ ?_ | with_reducible refine Follows.ite ?_ ?_ 
    | with_reducible refine onLane_follows ?_ ?_ .. | with_reducible refine decidePolarity_follows ?_ ..
    | fail_if_no_progress (with_reducible refine mk_follows ?_ rfl rfl) | fail_if_no_progress intros | split | extract_lets | dsimp only | dsimp +zetaDelta only)

theorem execTrainingFrameReceive_ends {s0 s : State} (h : Follows s0 s) (lane : Fin 64) (head : BitVec 48) :
    Ends s0 (execTrainingFrameReceive lane head s) := by
  unfold execTrainingFrameReceive
  repeat' (first
    | with_reducible assumption | with_reducible exact Follows.refl _ | with_reducible refine Ends.of ?_ | with_reducible refine Ends.ite ?_ ?_ | with_reducible refine Follows.ite ?_ ?_ 
    | with_reducible refine judgeTraining_follows ?_ .. | with_reducible refine modLane_follows ?_ ..
    | fail_if_no_progress (with_reducible refine mk_follows ?_ rfl rfl) | fail_if_no_progress intros | split | extract_lets | dsimp only | dsimp +zetaDelta only)

theorem loopOrder_follows {s0 s : State} (h : Follows s0 s) (lane : Nat) :
    Follows s0 (loopOrder lane s) := by
  unfold loopOrder
  repeat' (first
    | with_reducible assumption | with_reducible exact Follows.refl _ | with_reducible refine Follows.ite ?_ ?_ 
    | with_reducible refine w1_follows ?_ ..
    | fail_if_no_progress (with_reducible refine mk_follows ?_ rfl rfl) | fail_if_no_progress intros | split | extract_lets | dsimp only | dsimp +zetaDelta only)

theorem execLaneOrderDecided_ends {s0 s : State} (h : Follows s0 s) (slot : Fin 64) (markersExchanged : Bool) :
    Ends s0 (execLaneOrderDecided slot markersExchanged s) := by
  unfold execLaneOrderDecided
  repeat' (first
    | with_reducible assumption | with_reducible exact Follows.refl _ | with_reducible refine Ends.of ?_ | with_reducible refine Ends.ite ?_ ?_ | with_reducible refine Follows.ite ?_ ?_ | with_reducible refine forL_snd ?_ ?_ | with_reducible refine forL_third ?_ ?_ 
    | with_reducible refine w1_follows ?_ .. | with_reducible refine withLinks_follows ?_ ?_ .. | with_reducible refine forL_follows ?_ ?_ | with_reducible refine setLaneState_follows ?_ .. | with_reducible refine modLane_follows ?_ .. | with_reducible refine singleReversal_follows ?_ ..
    | fail_if_no_progress (with_reducible refine mk_follows ?_ rfl rfl) | fail_if_no_progress intros | split | extract_lets | dsimp only | dsimp +zetaDelta only)

theorem execLaneLocked_ends {s0 s : State} (h : Follows s0 s) (slot : Fin 64) (rxDelay txDelay arrivals : List (BitVec 64)) :
    Ends s0 (execLaneLocked slot rxDelay txDelay arrivals s) := by
  unfold execLaneLocked
  repeat' (first
    | with_reducible assumption | with_reducible exact Follows.refl _ | with_reducible refine Ends.of ?_ | with_reducible refine Ends.ite ?_ ?_ | with_reducible refine Follows.ite ?_ ?_ | with_reducible refine foldl_follows ?_ ?_ | with_reducible refine foldl_snd ?_ ?_ 
    | with_reducible refine withLinks_follows ?_ ?_ .. | with_reducible refine setLaneState_follows ?_ .. | with_reducible refine modLane_follows ?_ .. | with_reducible refine publishPma_follows ?_ .. | with_reducible refine w1_follows ?_ .. | with_reducible refine judgeTraining_follows ?_ ..
    | fail_if_no_progress (with_reducible refine mk_follows ?_ rfl rfl) | fail_if_no_progress intros | split | extract_lets | dsimp only | dsimp +zetaDelta only)

theorem execLaneStateTimeout_ends {s0 s : State} (h : Follows s0 s) (lane : Fin 64) :
    Ends s0 (execLaneStateTimeout lane s) := by
  unfold execLaneStateTimeout
  repeat' (first
    | with_reducible assumption | with_reducible exact Follows.refl _ | with_reducible refine Ends.of ?_ | with_reducible refine Ends.ite ?_ ?_ | with_reducible refine Follows.ite ?_ ?_ | with_reducible refine forL_snd ?_ ?_ | with_reducible refine forL_third ?_ ?_ 
    | with_reducible refine advanceTo_follows ?_ .. | with_reducible refine forL_follows ?_ ?_ | with_reducible refine w1_follows ?_ .. | with_reducible refine inc_follows ?_ .. | with_reducible refine onLane_follows ?_ ?_ .. | with_reducible refine setLaneState_follows ?_ ..
    | fail_if_no_progress (with_reducible refine mk_follows ?_ rfl rfl) | fail_if_no_progress intros | split | extract_lets | dsimp only | dsimp +zetaDelta only)

theorem execLaneBackoffEnd_ends {s0 s : State} (h : Follows s0 s) (lane : Fin 64) :
    Ends s0 (execLaneBackoffEnd lane s) := by
  unfold execLaneBackoffEnd
  repeat' (first
    | with_reducible assumption | with_reducible exact Follows.refl _ | with_reducible refine Ends.of ?_ | with_reducible refine Ends.ite ?_ ?_ | with_reducible refine Follows.ite ?_ ?_ 
    | with_reducible refine onLane_follows ?_ ?_ .. | with_reducible refine setLaneState_follows ?_ .. | with_reducible refine advanceTo_follows ?_ ..
    | fail_if_no_progress (with_reducible refine mk_follows ?_ rfl rfl) | fail_if_no_progress intros | split | extract_lets | dsimp only | dsimp +zetaDelta only)

theorem execLaneLinkDown_ends {s0 s : State} (h : Follows s0 s) (lane : Fin 64) (cause : DownCause) :
    Ends s0 (execLaneLinkDown lane cause s) := by
  unfold execLaneLinkDown
  repeat' (first
    | with_reducible assumption | with_reducible exact Follows.refl _ | with_reducible refine Ends.of ?_ | with_reducible refine Ends.ite ?_ ?_ | with_reducible refine Follows.ite ?_ ?_ 
    | with_reducible refine onLane_follows ?_ ?_ .. | with_reducible refine othersWait_follows ?_ .. | with_reducible refine setLaneState_follows ?_ .. | with_reducible refine inc_follows ?_ ..
    | fail_if_no_progress (with_reducible refine mk_follows ?_ rfl rfl) | fail_if_no_progress intros | split | extract_lets | dsimp only | dsimp +zetaDelta only)

theorem execLaneLossBeforeUp_ends {s0 s : State} (h : Follows s0 s) (lane : Fin 64) (cause : EarlyLoss) :
    Ends s0 (execLaneLossBeforeUp lane cause s) := by
  unfold execLaneLossBeforeUp
  repeat' (first
    | with_reducible assumption | with_reducible exact Follows.refl _ | with_reducible refine Ends.of ?_ | with_reducible refine Ends.ite ?_ ?_ | with_reducible refine Follows.ite ?_ ?_ 
    | with_reducible refine onLane_follows ?_ ?_ .. | with_reducible refine othersWait_follows ?_ .. | with_reducible refine setLaneState_follows ?_ ..
    | fail_if_no_progress (with_reducible refine mk_follows ?_ rfl rfl) | fail_if_no_progress intros | split | extract_lets | dsimp only | dsimp +zetaDelta only)

theorem effLaneEnable_follows {s0 s : State} (h : Follows s0 s) (lane v : Nat) :
    Follows s0 (effLaneEnable lane v s) := by
  unfold effLaneEnable
  repeat' (first
    | with_reducible assumption | with_reducible exact Follows.refl _ | with_reducible refine Follows.ite ?_ ?_ 
    | with_reducible refine onLane_follows ?_ ?_ .. | with_reducible refine w1_follows ?_ .. | with_reducible refine stopLane_follows ?_ .. | with_reducible refine startLane_follows ?_ ..
    | fail_if_no_progress (with_reducible refine mk_follows ?_ rfl rfl) | fail_if_no_progress intros | split | extract_lets | dsimp only | dsimp +zetaDelta only)

theorem execLaneEnableWrite_ends {s0 s : State} (h : Follows s0 s) (lane : Fin 64) (w : WriteReq) :
    Ends s0 (execLaneEnableWrite lane w s) := by
  unfold execLaneEnableWrite
  repeat' (first
    | with_reducible assumption | with_reducible exact Follows.refl _ | with_reducible refine Ends.of ?_ | with_reducible refine Ends.ite ?_ ?_ | with_reducible refine Follows.ite ?_ ?_ 
    | with_reducible refine catWrite_follows ?_ ?_ .. | with_reducible refine effLaneEnable_follows ?_ ..
    | fail_if_no_progress (with_reducible refine mk_follows ?_ rfl rfl) | fail_if_no_progress intros | split | extract_lets | dsimp only | dsimp +zetaDelta only)

theorem execAdaptWindowEval_ends {s0 s : State} (h : Follows s0 s) (lane : Fin 64) (transitions : Fin 1025) (rarest : LevelStats) (ctle : Fin 16) (ffe : BitVec 96) (dfe : BitVec 32) :
    Ends s0 (execAdaptWindowEval lane transitions rarest ctle ffe dfe s) := by
  unfold execAdaptWindowEval
  repeat' (first
    | with_reducible assumption | with_reducible exact Follows.refl _ | with_reducible refine Ends.of ?_ | with_reducible refine Ends.ite ?_ ?_ | with_reducible refine Follows.ite ?_ ?_ 
    | with_reducible refine setLane_follows ?_ .. | with_reducible refine count_follows ?_ .. | with_reducible refine inc_follows ?_ .. | with_reducible refine w1_follows ?_ .. | with_reducible refine setTaps_follows ?_ ..
    | fail_if_no_progress (with_reducible refine mk_follows ?_ rfl rfl) | fail_if_no_progress intros | split | extract_lets | dsimp only | dsimp +zetaDelta only)

theorem startHandover_follows {s0 s : State} (h : Follows s0 s) (lane : Nat) (cal : Bool) :
    Follows s0 (startHandover lane cal s) := by
  unfold startHandover
  repeat' (first
    | with_reducible assumption | with_reducible exact Follows.refl _ | with_reducible refine Follows.ite ?_ ?_ 
    | with_reducible refine modLane_follows ?_ .. | with_reducible refine w1_follows ?_ ..
    | fail_if_no_progress (with_reducible refine mk_follows ?_ rfl rfl) | fail_if_no_progress intros | split | extract_lets | dsimp only | dsimp +zetaDelta only)

theorem startLaneRun_follows {s0 s : State} (h : Follows s0 s) (lane : Nat) :
    Follows s0 (startLaneRun lane s) := by
  unfold startLaneRun
  repeat' (first
    | with_reducible assumption | with_reducible exact Follows.refl _ | with_reducible refine Follows.ite ?_ ?_ 
    | with_reducible refine calBegin_follows ?_ .. | with_reducible refine startHandover_follows ?_ ..
    | fail_if_no_progress (with_reducible refine mk_follows ?_ rfl rfl) | fail_if_no_progress intros | split | extract_lets | dsimp only | dsimp +zetaDelta only)

theorem effReserveRequest_follows {s0 s : State} (h : Follows s0 s) (st v : Nat) :
    Follows s0 (effReserveRequest st v s) := by
  unfold effReserveRequest
  repeat' (first
    | with_reducible assumption | with_reducible exact Follows.refl _ | with_reducible refine Follows.ite ?_ ?_ 
    | with_reducible refine effBool_follows ?_ ?_ .. | with_reducible refine calRequestInst_follows ?_ ..
    | fail_if_no_progress (with_reducible refine mk_follows ?_ rfl rfl) | fail_if_no_progress intros | split | extract_lets | dsimp only | dsimp +zetaDelta only)

theorem execReserveRequest_ends {s0 s : State} (h : Follows s0 s) (lane : Fin 64) (w : WriteReq) :
    Ends s0 (execReserveRequest lane w s) := by
  unfold execReserveRequest
  repeat' (first
    | with_reducible assumption | with_reducible exact Follows.refl _ | with_reducible refine Ends.of ?_ | with_reducible refine Ends.ite ?_ ?_ | with_reducible refine Follows.ite ?_ ?_ 
    | with_reducible refine catWrite_follows ?_ ?_ .. | with_reducible refine effReserveRequest_follows ?_ ..
    | fail_if_no_progress (with_reducible refine mk_follows ?_ rfl rfl) | fail_if_no_progress intros | split | extract_lets | dsimp only | dsimp +zetaDelta only)

theorem handoverFailed_follows {s0 s : State} (h : Follows s0 s) (lane : Nat) :
    Follows s0 (handoverFailed lane s) := by
  unfold handoverFailed
  repeat' (first
    | with_reducible assumption | with_reducible exact Follows.refl _ | with_reducible refine Follows.ite ?_ ?_ 
    | with_reducible refine modLane_follows ?_ .. | with_reducible refine inc_follows ?_ .. | with_reducible refine calFail_follows ?_ ..
    | fail_if_no_progress (with_reducible refine mk_follows ?_ rfl rfl) | fail_if_no_progress intros | split | extract_lets | dsimp only | dsimp +zetaDelta only)

theorem phaseEnd_follows {s0 s : State} (h : Follows s0 s) (lane : Nat) (agree : Bool) :
    Follows s0 (phaseEnd lane agree s) := by
  unfold phaseEnd
  repeat' (first
    | with_reducible assumption | with_reducible exact Follows.refl _ | with_reducible refine Follows.ite ?_ ?_ 
    | with_reducible refine setLane_follows ?_ .. | with_reducible refine w1_follows ?_ .. | with_reducible refine handoverFailed_follows ?_ .. | with_reducible refine inc_follows ?_ ..
    | fail_if_no_progress (with_reducible refine mk_follows ?_ rfl rfl) | fail_if_no_progress intros | split | extract_lets | dsimp only | dsimp +zetaDelta only)

theorem execReservePhaseEnd_ends {s0 s : State} (h : Follows s0 s) (lane : Fin 64) (agree : Bool) :
    Ends s0 (execReservePhaseEnd lane agree s) := by
  unfold execReservePhaseEnd
  repeat' (first
    | with_reducible assumption | with_reducible exact Follows.refl _ | with_reducible refine Ends.of ?_ | with_reducible refine Ends.ite ?_ ?_ | with_reducible refine Follows.ite ?_ ?_ 
    | with_reducible refine phaseEnd_follows ?_ ..
    | fail_if_no_progress (with_reducible refine mk_follows ?_ rfl rfl) | fail_if_no_progress intros | split | extract_lets | dsimp only | dsimp +zetaDelta only)

theorem runQuality_follows {s0 s : State} (h : Follows s0 s) (lane : Nat) :
    Follows s0 (runQuality lane s) := by
  unfold runQuality
  repeat' (first
    | with_reducible assumption | with_reducible exact Follows.refl _ | with_reducible refine Follows.ite ?_ ?_ 
    | with_reducible refine publishSets_follows ?_ .. | with_reducible refine w1_follows ?_ .. | with_reducible refine setCal_follows ?_ .. | with_reducible refine setLane_follows ?_ ..
    | fail_if_no_progress (with_reducible refine mk_follows ?_ rfl rfl) | fail_if_no_progress intros | split | extract_lets | dsimp only | dsimp +zetaDelta only)

theorem execEyeScan_ends {s0 s : State} (h : Follows s0 s) (lane : Fin 64) (fig : EyeFigures) :
    Ends s0 (execEyeScan lane fig s) := by
  unfold execEyeScan
  repeat' (first
    | with_reducible assumption | with_reducible exact Follows.refl _ | with_reducible refine Ends.of ?_ | with_reducible refine Ends.ite ?_ ?_ | with_reducible refine Follows.ite ?_ ?_ 
    | with_reducible refine w1_follows ?_ .. | with_reducible refine runQuality_follows ?_ ..
    | fail_if_no_progress (with_reducible refine mk_follows ?_ rfl rfl) | fail_if_no_progress intros | split | extract_lets | dsimp only | dsimp +zetaDelta only)

theorem judgeTest_follows {s0 s : State} (h : Follows s0 s) (lane : Nat) :
    Follows s0 (judgeTest lane s) := by
  unfold judgeTest
  repeat' (first
    | with_reducible assumption | with_reducible exact Follows.refl _ | with_reducible refine Follows.ite ?_ ?_ | with_reducible refine forL_snd ?_ ?_ | with_reducible refine forL_third ?_ ?_ 
    | with_reducible refine forL_follows ?_ ?_ | with_reducible refine setLaneState_follows ?_ ..
    | fail_if_no_progress (with_reducible refine mk_follows ?_ rfl rfl) | fail_if_no_progress intros | split | extract_lets | dsimp only | dsimp +zetaDelta only)

theorem startPattern_follows {s0 s : State} (h : Follows s0 s) (lane : Nat) :
    Follows s0 (startPattern lane s) := by
  unfold startPattern
  repeat' (first
    | with_reducible assumption | with_reducible exact Follows.refl _ | with_reducible refine Follows.ite ?_ ?_ 
    | with_reducible refine draw_follows ?_ .. | with_reducible refine modLane_follows ?_ ..
    | fail_if_no_progress (with_reducible refine mk_follows ?_ rfl rfl) | fail_if_no_progress intros | split | extract_lets | dsimp only | dsimp +zetaDelta only)

theorem dropLoopErrors_follows {s0 s : State} (h : Follows s0 s) (lane : Nat) :
    Follows s0 (dropLoopErrors lane s) := by
  unfold dropLoopErrors
  repeat' (first
    | with_reducible assumption | with_reducible exact Follows.refl _ | with_reducible refine Follows.ite ?_ ?_ 
    | with_reducible refine modLane_follows ?_ ..
    | fail_if_no_progress (with_reducible refine mk_follows ?_ rfl rfl) | fail_if_no_progress intros | split | extract_lets | dsimp only | dsimp +zetaDelta only)

theorem setTestObject_follows {s0 s : State} (h : Follows s0 s) (idx lane v : Nat) :
    Follows s0 (setTestObject idx lane v s) := by
  unfold setTestObject
  repeat' (first
    | with_reducible assumption | with_reducible exact Follows.refl _ | with_reducible refine Follows.ite ?_ ?_ 
    | with_reducible refine onLane_follows ?_ ?_ .. | with_reducible refine w1_follows ?_ .. | with_reducible refine dropChecker_follows ?_ .. | with_reducible refine startPattern_follows ?_ .. | with_reducible refine loopOrder_follows ?_ .. | with_reducible refine judgeTest_follows ?_ .. | with_reducible refine dropLoopErrors_follows ?_ ..
    | fail_if_no_progress (with_reducible refine mk_follows ?_ rfl rfl) | fail_if_no_progress intros | split | extract_lets | dsimp only | dsimp +zetaDelta only)

theorem execTestSelectWrite_ends {s0 s : State} (h : Follows s0 s) (object : Fin 3) (lane : Fin 64) (w : WriteReq) :
    Ends s0 (execTestSelectWrite object lane w s) := by
  unfold execTestSelectWrite
  repeat' (first
    | with_reducible assumption | with_reducible exact Follows.refl _ | with_reducible refine Ends.of ?_ | with_reducible refine Ends.ite ?_ ?_ | with_reducible refine Follows.ite ?_ ?_ 
    | with_reducible refine catWrite_follows ?_ ?_ .. | with_reducible refine setTestObject_follows ?_ ..
    | fail_if_no_progress (with_reducible refine mk_follows ?_ rfl rfl) | fail_if_no_progress intros | split | extract_lets | dsimp only | dsimp +zetaDelta only)

theorem execCheckerLock_ends {s0 s : State} (h : Follows s0 s) (lane : Fin 64) (levels : List (Fin 4)) :
    Ends s0 (execCheckerLock lane levels s) := by
  unfold execCheckerLock
  repeat' (first
    | with_reducible assumption | with_reducible exact Follows.refl _ | with_reducible refine Ends.of ?_ | with_reducible refine Ends.ite ?_ ?_ | with_reducible refine Follows.ite ?_ ?_ 
    | with_reducible refine w1_follows ?_ .. | with_reducible refine dropLoopErrors_follows ?_ .. | with_reducible refine modLane_follows ?_ ..
    | fail_if_no_progress (with_reducible refine mk_follows ?_ rfl rfl) | fail_if_no_progress intros | split | extract_lets | dsimp only | dsimp +zetaDelta only)

theorem execCheckerLockLoss_ends {s0 s : State} (h : Follows s0 s) (lane : Fin 64) (errors : Fin 1025) :
    Ends s0 (execCheckerLockLoss lane errors s) := by
  unfold execCheckerLockLoss
  repeat' (first
    | with_reducible assumption | with_reducible exact Follows.refl _ | with_reducible refine Ends.of ?_ | with_reducible refine Ends.ite ?_ ?_ | with_reducible refine Follows.ite ?_ ?_ 
    | with_reducible refine inc_follows ?_ .. | with_reducible refine w1_follows ?_ ..
    | fail_if_no_progress (with_reducible refine mk_follows ?_ rfl rfl) | fail_if_no_progress intros | split | extract_lets | dsimp only | dsimp +zetaDelta only)

theorem clearChecker_follows {s0 s : State} (h : Follows s0 s) (lane : Nat) :
    Follows s0 (clearChecker lane s) := by
  unfold clearChecker
  repeat' (first
    | with_reducible assumption | with_reducible exact Follows.refl _ | with_reducible refine Follows.ite ?_ ?_ 
    | with_reducible refine dropSub_follows ?_ .. | with_reducible refine dropLoopErrors_follows ?_ ..
    | fail_if_no_progress (with_reducible refine mk_follows ?_ rfl rfl) | fail_if_no_progress intros | split | extract_lets | dsimp only | dsimp +zetaDelta only)

theorem execChkClear_ends {s0 s : State} (h : Follows s0 s) (lane : Fin 64) (w : WriteReq) :
    Ends s0 (execChkClear lane w s) := by
  unfold execChkClear
  repeat' (first
    | with_reducible assumption | with_reducible exact Follows.refl _ | with_reducible refine Ends.of ?_ | with_reducible refine Ends.ite ?_ ?_ | with_reducible refine Follows.ite ?_ ?_ 
    | with_reducible refine catWrite_follows ?_ ?_ .. | with_reducible refine effClear_follows ?_ ?_ .. | with_reducible refine clearChecker_follows ?_ ..
    | fail_if_no_progress (with_reducible refine mk_follows ?_ rfl rfl) | fail_if_no_progress intros | split | extract_lets | dsimp only | dsimp +zetaDelta only)

theorem loopInjection_follows {s0 s : State} (h : Follows s0 s) (lane : Nat) :
    Follows s0 (loopInjection lane s) := by
  unfold loopInjection
  repeat' (first
    | with_reducible assumption | with_reducible exact Follows.refl _ | with_reducible refine Follows.ite ?_ ?_ | with_reducible refine forN_snd ?_ ?_ | with_reducible refine forN_third ?_ ?_ 
    | with_reducible refine draw_follows ?_ .. | with_reducible refine modLane_follows ?_ .. | with_reducible refine forN_follows ?_ ?_
    | fail_if_no_progress (with_reducible refine mk_follows ?_ rfl rfl) | fail_if_no_progress intros | split | extract_lets | dsimp only | dsimp +zetaDelta only)

theorem strikeFrame_follows {s0 s : State} (h : Follows s0 s) (lane : Nat) :
    Follows s0 (strikeFrame lane s) := by
  unfold strikeFrame
  repeat' (first
    | with_reducible assumption | with_reducible exact Follows.refl _ | with_reducible refine Follows.ite ?_ ?_ 
    | with_reducible refine modPort_follows ?_ ..
    | fail_if_no_progress (with_reducible refine mk_follows ?_ rfl rfl) | fail_if_no_progress intros | split | extract_lets | dsimp only | dsimp +zetaDelta only)

theorem arrivesBad_follows {s0 s : State} (h : Follows s0 s) (slot struck : Nat) :
    Follows s0 (arrivesBad slot struck s).2 := by
  unfold arrivesBad
  repeat' (first
    | with_reducible assumption | with_reducible exact Follows.refl _ | with_reducible refine Follows.ite ?_ ?_ 
    | with_reducible refine draw_follows ?_ ..
    | fail_if_no_progress (with_reducible refine mk_follows ?_ rfl rfl) | fail_if_no_progress intros | split | extract_lets | dsimp only | dsimp +zetaDelta only)

theorem injectOne_follows {s0 s : State} (h : Follows s0 s) (lane : Nat) :
    Follows s0 (injectOne lane s) := by
  unfold injectOne
  repeat' (first
    | with_reducible assumption | with_reducible exact Follows.refl _ | with_reducible refine Follows.ite ?_ ?_ 
    | with_reducible refine strikeFrame_follows ?_ .. | with_reducible refine loopInjection_follows ?_ .. | with_reducible refine inc_follows ?_ ..
    | fail_if_no_progress (with_reducible refine mk_follows ?_ rfl rfl) | fail_if_no_progress intros | split | extract_lets | dsimp only | dsimp +zetaDelta only)

theorem effInjectFire_follows {s0 s : State} (h : Follows s0 s) (st v : Nat) :
    Follows s0 (effInjectFire st v s) := by
  unfold effInjectFire
  repeat' (first
    | with_reducible assumption | with_reducible exact Follows.refl _ | with_reducible refine Follows.ite ?_ ?_ 
    | with_reducible refine effBool_follows ?_ ?_ .. | with_reducible refine injectOne_follows ?_ ..
    | fail_if_no_progress (with_reducible refine mk_follows ?_ rfl rfl) | fail_if_no_progress intros | split | extract_lets | dsimp only | dsimp +zetaDelta only)

theorem execInjectFire_ends {s0 s : State} (h : Follows s0 s) (lane : Fin 64) (w : WriteReq) :
    Ends s0 (execInjectFire lane w s) := by
  unfold execInjectFire
  repeat' (first
    | with_reducible assumption | with_reducible exact Follows.refl _ | with_reducible refine Ends.of ?_ | with_reducible refine Ends.ite ?_ ?_ | with_reducible refine Follows.ite ?_ ?_ 
    | with_reducible refine catWrite_follows ?_ ?_ .. | with_reducible refine effInjectFire_follows ?_ ..
    | fail_if_no_progress (with_reducible refine mk_follows ?_ rfl rfl) | fail_if_no_progress intros | split | extract_lets | dsimp only | dsimp +zetaDelta only)

theorem execInjectIntervalExpire_ends {s0 s : State} (h : Follows s0 s) (lane : Fin 64) :
    Ends s0 (execInjectIntervalExpire lane s) := by
  unfold execInjectIntervalExpire
  repeat' (first
    | with_reducible assumption | with_reducible exact Follows.refl _ | with_reducible refine Ends.of ?_ | with_reducible refine Ends.ite ?_ ?_ | with_reducible refine Follows.ite ?_ ?_ 
    | with_reducible refine injectOne_follows ?_ ..
    | fail_if_no_progress (with_reducible refine mk_follows ?_ rfl rfl) | fail_if_no_progress intros | split | extract_lets | dsimp only | dsimp +zetaDelta only)

theorem chkCount_follows {s0 s : State} (h : Follows s0 s) (idx lane n : Nat) :
    Follows s0 (chkCount idx lane n s) := by
  unfold chkCount
  repeat' (first
    | with_reducible assumption | with_reducible exact Follows.refl _ | with_reducible refine Follows.ite ?_ ?_ 
    | with_reducible refine w1_follows ?_ ..
    | fail_if_no_progress (with_reducible refine mk_follows ?_ rfl rfl) | fail_if_no_progress intros | split | extract_lets | dsimp only | dsimp +zetaDelta only)

theorem laneBer_follows {s0 s : State} (h : Follows s0 s) (x : LaneTick) :
    Follows s0 (laneBer x s) := by
  unfold laneBer
  repeat' (first
    | with_reducible assumption | with_reducible exact Follows.refl _ | with_reducible refine Follows.ite ?_ ?_ 
    | with_reducible refine w1_follows ?_ .. | with_reducible refine modLane_follows ?_ ..
    | fail_if_no_progress (with_reducible refine mk_follows ?_ rfl rfl) | fail_if_no_progress intros | split | extract_lets | dsimp only | dsimp +zetaDelta only)

theorem laneFec_follows {s0 s : State} (h : Follows s0 s) (x : LaneTick) :
    Follows s0 (laneFec x s) := by
  unfold laneFec
  repeat' (first
    | with_reducible assumption | with_reducible exact Follows.refl _ | with_reducible refine Follows.ite ?_ ?_ 
    | with_reducible refine perfEvent_follows ?_ .. | with_reducible refine count_follows ?_ ..
    | fail_if_no_progress (with_reducible refine mk_follows ?_ rfl rfl) | fail_if_no_progress intros | split | extract_lets | dsimp only | dsimp +zetaDelta only)

theorem laneChecker_follows {s0 s : State} (h : Follows s0 s) (x : LaneTick) :
    Follows s0 (laneChecker x s) := by
  unfold laneChecker
  repeat' (first
    | with_reducible assumption | with_reducible exact Follows.refl _ | with_reducible refine Follows.ite ?_ ?_ | with_reducible refine forN_snd ?_ ?_ | with_reducible refine forN_third ?_ ?_ 
    | with_reducible refine chkCount_follows ?_ .. | with_reducible refine dropLoopErrors_follows ?_ .. | with_reducible refine forN_follows ?_ ?_
    | fail_if_no_progress (with_reducible refine mk_follows ?_ rfl rfl) | fail_if_no_progress intros | split | extract_lets | dsimp only | dsimp +zetaDelta only)

theorem laneTick_follows {s0 s : State} (h : Follows s0 s) (x : LaneTick) :
    Follows s0 (laneTick x s) := by
  unfold laneTick
  repeat' (first
    | with_reducible assumption | with_reducible exact Follows.refl _ | with_reducible refine Follows.ite ?_ ?_ 
    | with_reducible refine laneChecker_follows ?_ .. | with_reducible refine laneBer_follows ?_ .. | with_reducible refine laneFec_follows ?_ ..
    | fail_if_no_progress (with_reducible refine mk_follows ?_ rfl rfl) | fail_if_no_progress intros | split | extract_lets | dsimp only | dsimp +zetaDelta only)

theorem laneTicks_follows {s0 s : State} (h : Follows s0 s) (l : List LaneTick) :
    Follows s0 (laneTicks l s) := by
  unfold laneTicks
  repeat' (first
    | with_reducible assumption | with_reducible exact Follows.refl _ | with_reducible refine Follows.ite ?_ ?_ | with_reducible refine forL_snd ?_ ?_ | with_reducible refine forL_third ?_ ?_ | with_reducible refine forN_snd ?_ ?_ | with_reducible refine forN_third ?_ ?_ 
    | with_reducible refine forL_follows ?_ ?_ | with_reducible refine laneTick_follows ?_ .. | with_reducible refine forN_follows ?_ ?_ | with_reducible refine modLane_follows ?_ .. | with_reducible refine w1_follows ?_ ..
    | fail_if_no_progress (with_reducible refine mk_follows ?_ rfl rfl) | fail_if_no_progress intros | split | extract_lets | dsimp only | dsimp +zetaDelta only)

end Sys2Proof.Machine
end

