-- ==== Sys2Proof/Laws/CalRunsFollows.lean ====
section
/-! SUPPORT. Every operation of CalRuns follows. -/

set_option linter.unreachableTactic false
set_option linter.unusedTactic false

namespace Sys2Proof.Machine

theorem standInRelease_follows {s0 s : State} (h : Follows s0 s) (x : StandIn) :
    Follows s0 (standInRelease x s) := by
  unfold standInRelease
  repeat' (first
    | with_reducible assumption | with_reducible exact Follows.refl _ | with_reducible refine Follows.ite ?_ ?_ 
    | with_reducible refine freeReserve_follows ?_ ..
    | fail_if_no_progress (with_reducible refine mk_follows ?_ rfl rfl) | fail_if_no_progress intros | split | extract_lets | dsimp only | dsimp +zetaDelta only)

theorem standInEnd_follows {s0 s : State} (h : Follows s0 s) (ch st : Nat) (x : StandIn) :
    Follows s0 (standInEnd ch st x s) := by
  unfold standInEnd
  repeat' (first
    | with_reducible assumption | with_reducible exact Follows.refl _ | with_reducible refine Follows.ite ?_ ?_ 
    | with_reducible refine w1_follows ?_ .. | with_reducible refine delSI_follows ?_ .. | with_reducible refine standInRelease_follows ?_ ..
    | fail_if_no_progress (with_reducible refine mk_follows ?_ rfl rfl) | fail_if_no_progress intros | split | extract_lets | dsimp only | dsimp +zetaDelta only)

theorem beginStepOne_follows {s0 s : State} (h : Follows s0 s) (ch r : Nat) (x : StandIn) :
    Follows s0 (beginStepOne ch r x s) := by
  unfold beginStepOne
  repeat' (first
    | with_reducible assumption | with_reducible exact Follows.refl _ | with_reducible refine Follows.ite ?_ ?_ 
    | with_reducible refine calBegin_follows ?_ .. | with_reducible refine w1_follows ?_ .. | with_reducible refine putSI_follows ?_ ..
    | fail_if_no_progress (with_reducible refine mk_follows ?_ rfl rfl) | fail_if_no_progress intros | split | extract_lets | dsimp only | dsimp +zetaDelta only)

theorem takeReserve_follows {s0 s : State} (h : Follows s0 s) (ch r : Nat) (x : StandIn) :
    Follows s0 (takeReserve ch r x s) := by
  unfold takeReserve
  repeat' (first
    | with_reducible assumption | with_reducible exact Follows.refl _ | with_reducible refine Follows.ite ?_ ?_ 
    | with_reducible refine beginStepOne_follows ?_ .. | with_reducible refine putSI_follows ?_ .. | with_reducible refine w1_follows ?_ .. | with_reducible refine calBegin_follows ?_ ..
    | fail_if_no_progress (with_reducible refine mk_follows ?_ rfl rfl) | fail_if_no_progress intros | split | extract_lets | dsimp only | dsimp +zetaDelta only)

theorem runInPlace_follows {s0 s : State} (h : Follows s0 s) (ch : Nat) (selfTest : Bool) :
    Follows s0 (runInPlace ch selfTest s) := by
  unfold runInPlace
  repeat' (first
    | with_reducible assumption | with_reducible exact Follows.refl _ | with_reducible refine Follows.ite ?_ ?_ 
    | with_reducible refine calBegin_follows ?_ .. | with_reducible refine putSI_follows ?_ .. | with_reducible refine w1_follows ?_ ..
    | fail_if_no_progress (with_reducible refine mk_follows ?_ rfl rfl) | fail_if_no_progress intros | split | extract_lets | dsimp only | dsimp +zetaDelta only)

theorem beginStandIn_follows {s0 s : State} (h : Follows s0 s) (ch : Nat) (selfTest : Bool) :
    Follows s0 (beginStandIn ch selfTest s) := by
  unfold beginStandIn
  repeat' (first
    | with_reducible assumption | with_reducible exact Follows.refl _ | with_reducible refine Follows.ite ?_ ?_ 
    | with_reducible refine takeReserve_follows ?_ .. | with_reducible refine putSI_follows ?_ .. | with_reducible refine runInPlace_follows ?_ ..
    | fail_if_no_progress (with_reducible refine mk_follows ?_ rfl rfl) | fail_if_no_progress intros | split | extract_lets | dsimp only | dsimp +zetaDelta only)

theorem restoreTables_follows {s0 s : State} (h : Follows s0 s) (ch : Nat) (x : StandIn) :
    Follows s0 (restoreTables ch x s) := by
  unfold restoreTables
  repeat' (first
    | with_reducible assumption | with_reducible exact Follows.refl _ | with_reducible refine Follows.ite ?_ ?_ | with_reducible refine forL_snd ?_ ?_ | with_reducible refine forL_third ?_ ?_ 
    | with_reducible refine forL_follows ?_ ?_ | with_reducible refine wr_follows ?_ .. | with_reducible refine w1_follows ?_ ..
    | fail_if_no_progress (with_reducible refine mk_follows ?_ rfl rfl) | fail_if_no_progress intros | split | extract_lets | dsimp only | dsimp +zetaDelta only)

theorem selfTestGivenUp_follows {s0 s : State} (h : Follows s0 s) (ch : Nat) :
    Follows s0 (selfTestGivenUp ch s) := by
  unfold selfTestGivenUp
  repeat' (first
    | with_reducible assumption | with_reducible exact Follows.refl _ | with_reducible refine Follows.ite ?_ ?_ 
    | with_reducible refine w1_follows ?_ ..
    | fail_if_no_progress (with_reducible refine mk_follows ?_ rfl rfl) | fail_if_no_progress intros | split | extract_lets | dsimp only | dsimp +zetaDelta only)

theorem standInFail_follows {s0 s : State} (h : Follows s0 s) (ch : Nat) (x : StandIn) :
    Follows s0 (standInFail ch x s) := by
  unfold standInFail
  repeat' (first
    | with_reducible assumption | with_reducible exact Follows.refl _ | with_reducible refine Follows.ite ?_ ?_ 
    | with_reducible refine standInEnd_follows ?_ .. | with_reducible refine selfTestGivenUp_follows ?_ .. | with_reducible refine restoreTables_follows ?_ .. | with_reducible refine calFail_follows ?_ ..
    | fail_if_no_progress (with_reducible refine mk_follows ?_ rfl rfl) | fail_if_no_progress intros | split | extract_lets | dsimp only | dsimp +zetaDelta only)

theorem shiftLoop_follows {s0 s : State} (h : Follows s0 s) (ch : Nat) (shift : Int) :
    Follows s0 (shiftLoop ch shift s) := by
  unfold shiftLoop
  repeat' (first
    | with_reducible assumption | with_reducible exact Follows.refl _ | with_reducible refine Follows.ite ?_ ?_ 
    | fail_if_no_progress (with_reducible refine mk_follows ?_ rfl rfl) | fail_if_no_progress intros | split | extract_lets | dsimp only | dsimp +zetaDelta only)

theorem standInDone_follows {s0 s : State} (h : Follows s0 s) (ch : Nat) (x : StandIn) :
    Follows s0 (standInDone ch x s) := by
  unfold standInDone
  repeat' (first
    | with_reducible assumption | with_reducible exact Follows.refl _ | with_reducible refine Follows.ite ?_ ?_ 
    | with_reducible refine standInEnd_follows ?_ .. | with_reducible refine calSucceed_follows ?_ ..
    | fail_if_no_progress (with_reducible refine mk_follows ?_ rfl rfl) | fail_if_no_progress intros | split | extract_lets | dsimp only | dsimp +zetaDelta only)

theorem reserveReady_follows {s0 s : State} (h : Follows s0 s) (r : Nat) (ok : Bool) :
    Follows s0 (reserveReady r ok s) := by
  unfold reserveReady
  repeat' (first
    | with_reducible assumption | with_reducible exact Follows.refl _ | with_reducible refine Follows.ite ?_ ?_ 
    | with_reducible refine beginStepOne_follows ?_ .. | with_reducible refine delSI_follows ?_ .. | with_reducible refine selfTestGivenUp_follows ?_ ..
    | fail_if_no_progress (with_reducible refine mk_follows ?_ rfl rfl) | fail_if_no_progress intros | split | extract_lets | dsimp only | dsimp +zetaDelta only)

theorem execTdcStandinStepEnd_ends {s0 s : State} (h : Follows s0 s) (channel : Fin 80) (x1 : Unit) :
    Ends s0 (execTdcStandinStepEnd channel x1 s) := by
  unfold execTdcStandinStepEnd
  repeat' (first
    | with_reducible assumption | with_reducible exact Follows.refl _ | with_reducible refine Ends.of ?_ | with_reducible refine Ends.ite ?_ ?_ | with_reducible refine Follows.ite ?_ ?_ 
    | with_reducible refine standInFail_follows ?_ .. | with_reducible refine inc0_follows ?_ .. | with_reducible refine w1_follows ?_ .. | with_reducible refine putSI_follows ?_ .. | with_reducible refine standInDone_follows ?_ .. | with_reducible refine shiftLoop_follows ?_ ..
    | fail_if_no_progress (with_reducible refine mk_follows ?_ rfl rfl) | fail_if_no_progress intros | split | extract_lets | dsimp only | dsimp +zetaDelta only)

theorem execTdcCalRunEnd_ends {s0 s : State} (h : Follows s0 s) (channel : Fin 80) (result : CodeDensity) :
    Ends s0 (execTdcCalRunEnd channel result s) := by
  unfold execTdcCalRunEnd
  repeat' (first
    | with_reducible assumption | with_reducible exact Follows.refl _ | with_reducible refine Ends.of ?_ | with_reducible refine Ends.ite ?_ ?_ | with_reducible refine Follows.ite ?_ ?_ 
    | with_reducible refine w1_follows ?_ .. | with_reducible refine reserveReady_follows ?_ .. | with_reducible refine standInFail_follows ?_ .. | with_reducible refine standInDone_follows ?_ .. | with_reducible refine setTables_follows ?_ .. | with_reducible refine putSI_follows ?_ ..
    | fail_if_no_progress (with_reducible refine mk_follows ?_ rfl rfl) | fail_if_no_progress intros | split | extract_lets | dsimp only | dsimp +zetaDelta only)

theorem execTdcCalRequest_ends {s0 s : State} (h : Follows s0 s) (channel : Fin 80) (w : WriteReq) :
    Ends s0 (execTdcCalRequest channel w s) := by
  unfold execTdcCalRequest
  repeat' (first
    | with_reducible assumption | with_reducible exact Follows.refl _ | with_reducible refine Ends.of ?_ | with_reducible refine Ends.ite ?_ ?_ | with_reducible refine Follows.ite ?_ ?_ 
    | with_reducible refine catWrite_follows ?_ ?_ .. | with_reducible refine effBool_follows ?_ ?_ .. | with_reducible refine calRequestInst_follows ?_ ..
    | fail_if_no_progress (with_reducible refine mk_follows ?_ rfl rfl) | fail_if_no_progress intros | split | extract_lets | dsimp only | dsimp +zetaDelta only)

theorem startSelfTest_follows {s0 s : State} (h : Follows s0 s) (ch : Nat) :
    Follows s0 (startSelfTest ch s) := by
  unfold startSelfTest
  repeat' (first
    | with_reducible assumption | with_reducible exact Follows.refl _ | with_reducible refine Follows.ite ?_ ?_ 
    | with_reducible refine w1_follows ?_ ..
    | fail_if_no_progress (with_reducible refine mk_follows ?_ rfl rfl) | fail_if_no_progress intros | split | extract_lets | dsimp only | dsimp +zetaDelta only)

theorem testBoundary_follows {s0 s : State} (h : Follows s0 s) :
    Follows s0 (testBoundary s) := by
  unfold testBoundary
  repeat' (first
    | with_reducible assumption | with_reducible exact Follows.refl _ | with_reducible refine Follows.ite ?_ ?_ 
    | with_reducible refine beginStandIn_follows ?_ ..
    | fail_if_no_progress (with_reducible refine mk_follows ?_ rfl rfl) | fail_if_no_progress intros | split | extract_lets | dsimp only | dsimp +zetaDelta only)

theorem execTdcSelfTestStart_ends {s0 s : State} (h : Follows s0 s) (w : WriteReq) :
    Ends s0 (execTdcSelfTestStart w s) := by
  unfold execTdcSelfTestStart
  repeat' (first
    | with_reducible assumption | with_reducible exact Follows.refl _ | with_reducible refine Ends.of ?_ | with_reducible refine Ends.ite ?_ ?_ | with_reducible refine Follows.ite ?_ ?_ 
    | with_reducible refine catWrite_follows ?_ ?_ .. | with_reducible refine effBool_follows ?_ ?_ .. | with_reducible refine startSelfTest_follows ?_ ..
    | fail_if_no_progress (with_reducible refine mk_follows ?_ rfl rfl) | fail_if_no_progress intros | split | extract_lets | dsimp only | dsimp +zetaDelta only)

theorem execTdcSelfTestEnd_ends {s0 s : State} (h : Follows s0 s) (pairs : List SelfTestPair) (x1 x2 : Unit) :
    Ends s0 (execTdcSelfTestEnd pairs x1 x2 s) := by
  unfold execTdcSelfTestEnd
  repeat' (first
    | with_reducible assumption | with_reducible exact Follows.refl _ | with_reducible refine Ends.of ?_ | with_reducible refine Ends.ite ?_ ?_ | with_reducible refine Follows.ite ?_ ?_ 
    | with_reducible refine w1_follows ?_ .. | with_reducible refine inc0_follows ?_ .. | with_reducible refine raise_follows ?_ .. | with_reducible refine standInEnd_follows ?_ .. | with_reducible refine putSI_follows ?_ ..
    | fail_if_no_progress (with_reducible refine mk_follows ?_ rfl rfl) | fail_if_no_progress intros | split | extract_lets | dsimp only | dsimp +zetaDelta only)

theorem startRun_follows {s0 s : State} (h : Follows s0 s) (code i : Nat) :
    Follows s0 (startRun code i s) := by
  unfold startRun
  repeat' (first
    | with_reducible assumption | with_reducible exact Follows.refl _ | with_reducible refine Follows.ite ?_ ?_ 
    | with_reducible refine startLaneRun_follows ?_ .. | with_reducible refine beginStandIn_follows ?_ .. | with_reducible refine calBegin_follows ?_ .. | with_reducible refine w1_follows ?_ ..
    | fail_if_no_progress (with_reducible refine mk_follows ?_ rfl rfl) | fail_if_no_progress intros | split | extract_lets | dsimp only | dsimp +zetaDelta only)

theorem execCalRunStart_ends {s0 s : State} (h : Follows s0 s) (cls : CalClass) (inst : Fin 80) :
    Ends s0 (execCalRunStart cls inst s) := by
  unfold execCalRunStart
  repeat' (first
    | with_reducible assumption | with_reducible exact Follows.refl _ | with_reducible refine Ends.of ?_ | with_reducible refine Ends.ite ?_ ?_ | with_reducible refine Follows.ite ?_ ?_ 
    | with_reducible refine startRun_follows ?_ ..
    | fail_if_no_progress (with_reducible refine mk_follows ?_ rfl rfl) | fail_if_no_progress intros | split | extract_lets | dsimp only | dsimp +zetaDelta only)

theorem endLaneRun_follows {s0 s : State} (h : Follows s0 s) (i : Nat) (codes : List Int) :
    Follows s0 (endLaneRun i codes s) := by
  unfold endLaneRun
  repeat' (first
    | with_reducible assumption | with_reducible exact Follows.refl _ | with_reducible refine Follows.ite ?_ ?_ 
    | with_reducible refine modLane_follows ?_ .. | with_reducible refine w1_follows ?_ .. | with_reducible refine calSucceed_follows ?_ ..
    | fail_if_no_progress (with_reducible refine mk_follows ?_ rfl rfl) | fail_if_no_progress intros | split | extract_lets | dsimp only | dsimp +zetaDelta only)

theorem endPortRun_follows {s0 s : State} (h : Follows s0 s) (i : Nat) (f b : List Int) :
    Follows s0 (endPortRun i f b s) := by
  unfold endPortRun
  repeat' (first
    | with_reducible assumption | with_reducible exact Follows.refl _ | with_reducible refine Follows.ite ?_ ?_ 
    | with_reducible refine calFail_follows ?_ .. | with_reducible refine calSucceed_follows ?_ ..
    | fail_if_no_progress (with_reducible refine mk_follows ?_ rfl rfl) | fail_if_no_progress intros | split | extract_lets | dsimp only | dsimp +zetaDelta only)

theorem endOutputRun_follows {s0 s : State} (h : Follows s0 s) (i : Nat) (sums : List Int) (checks : List (Fin 64 × Int)) :
    Follows s0 (endOutputRun i sums checks s) := by
  unfold endOutputRun
  repeat' (first
    | with_reducible assumption | with_reducible exact Follows.refl _ | with_reducible refine Follows.ite ?_ ?_ 
    | with_reducible refine calFail_follows ?_ .. | with_reducible refine calSucceed_follows ?_ ..
    | fail_if_no_progress (with_reducible refine mk_follows ?_ rfl rfl) | fail_if_no_progress intros | split | extract_lets | dsimp only | dsimp +zetaDelta only)

theorem endCrystalRun_follows {s0 s : State} (h : Follows s0 s) :
    Follows s0 (endCrystalRun s) := by
  unfold endCrystalRun
  repeat' (first
    | with_reducible assumption | with_reducible exact Follows.refl _ | with_reducible refine Follows.ite ?_ ?_ 
    | with_reducible refine calFail_follows ?_ .. | with_reducible refine calSucceed_follows ?_ ..
    | fail_if_no_progress (with_reducible refine mk_follows ?_ rfl rfl) | fail_if_no_progress intros | split | extract_lets | dsimp only | dsimp +zetaDelta only)

theorem execCalRunEnd_ends {s0 s : State} (h : Follows s0 s) (inst : Fin 80) (result : CalResult) (checks : List (Fin 64 × Int)) :
    Ends s0 (execCalRunEnd inst result checks s) := by
  unfold execCalRunEnd
  repeat' (first
    | with_reducible assumption | with_reducible exact Follows.refl _ | with_reducible refine Ends.of ?_ | with_reducible refine Ends.ite ?_ ?_ | with_reducible refine Follows.ite ?_ ?_ 
    | with_reducible refine endLaneRun_follows ?_ .. | with_reducible refine endPortRun_follows ?_ .. | with_reducible refine endOutputRun_follows ?_ .. | with_reducible refine endCrystalRun_follows ?_ ..
    | fail_if_no_progress (with_reducible refine mk_follows ?_ rfl rfl) | fail_if_no_progress intros | split | extract_lets | dsimp only | dsimp +zetaDelta only)

theorem execCalRunAbandon_ends {s0 s : State} (h : Follows s0 s) (cls : CalClass) (inst : Fin 80) :
    Ends s0 (execCalRunAbandon cls inst s) := by
  unfold execCalRunAbandon
  repeat' (first
    | with_reducible assumption | with_reducible exact Follows.refl _ | with_reducible refine Ends.of ?_ | with_reducible refine Ends.ite ?_ ?_ | with_reducible refine Follows.ite ?_ ?_ 
    | with_reducible refine calAbandon_follows ?_ ..
    | fail_if_no_progress (with_reducible refine mk_follows ?_ rfl rfl) | fail_if_no_progress intros | split | extract_lets | dsimp only | dsimp +zetaDelta only)

theorem calModeChanged_follows {s0 s : State} (h : Follows s0 s) (g : Nat) :
    Follows s0 (calModeChanged g s) := by
  unfold calModeChanged
  repeat' (first
    | with_reducible assumption | with_reducible exact Follows.refl _ | with_reducible refine Follows.ite ?_ ?_ | with_reducible refine forL_snd ?_ ?_ | with_reducible refine forL_third ?_ ?_ 
    | with_reducible refine forL_follows ?_ ?_ | with_reducible refine calAbandon_follows ?_ ..
    | fail_if_no_progress (with_reducible refine mk_follows ?_ rfl rfl) | fail_if_no_progress intros | split | extract_lets | dsimp only | dsimp +zetaDelta only)

theorem retryRun_follows {s0 s : State} (h : Follows s0 s) (code i : Nat) :
    Follows s0 (retryRun code i s) := by
  unfold retryRun
  repeat' (first
    | with_reducible assumption | with_reducible exact Follows.refl _ | with_reducible refine Follows.ite ?_ ?_ 
    | with_reducible refine modCal_follows ?_ ..
    | fail_if_no_progress (with_reducible refine mk_follows ?_ rfl rfl) | fail_if_no_progress intros | split | extract_lets | dsimp only | dsimp +zetaDelta only)

theorem execCalRetryExpire_ends {s0 s : State} (h : Follows s0 s) (cls : CalClass) (inst : Fin 80) :
    Ends s0 (execCalRetryExpire cls inst s) := by
  unfold execCalRetryExpire
  repeat' (first
    | with_reducible assumption | with_reducible exact Follows.refl _ | with_reducible refine Ends.of ?_ | with_reducible refine Ends.ite ?_ ?_ | with_reducible refine Follows.ite ?_ ?_ 
    | with_reducible refine retryRun_follows ?_ ..
    | fail_if_no_progress (with_reducible refine mk_follows ?_ rfl rfl) | fail_if_no_progress intros | split | extract_lets | dsimp only | dsimp +zetaDelta only)

theorem effCalRequest_follows {s0 s : State} (h : Follows s0 s) (cls : CalClass) (st v : Nat) :
    Follows s0 (effCalRequest cls st v s) := by
  unfold effCalRequest
  repeat' (first
    | with_reducible assumption | with_reducible exact Follows.refl _ | with_reducible refine Follows.ite ?_ ?_ 
    | with_reducible refine effBool_follows ?_ ?_ .. | with_reducible refine calRequestInst_follows ?_ ..
    | fail_if_no_progress (with_reducible refine mk_follows ?_ rfl rfl) | fail_if_no_progress intros | split | extract_lets | dsimp only | dsimp +zetaDelta only)

theorem execCalRequest_ends {s0 s : State} (h : Follows s0 s) (cls : CalClass) (inst : Fin 80) (w : WriteReq) :
    Ends s0 (execCalRequest cls inst w s) := by
  unfold execCalRequest
  repeat' (first
    | with_reducible assumption | with_reducible exact Follows.refl _ | with_reducible refine Ends.of ?_ | with_reducible refine Ends.ite ?_ ?_ | with_reducible refine Follows.ite ?_ ?_ 
    | with_reducible refine catWrite_follows ?_ ?_ .. | with_reducible refine effCalRequest_follows ?_ ..
    | fail_if_no_progress (with_reducible refine mk_follows ?_ rfl rfl) | fail_if_no_progress intros | split | extract_lets | dsimp only | dsimp +zetaDelta only)

theorem execCalDiscardSets_ends {s0 s : State} (h : Follows s0 s) (w : WriteReq) :
    Ends s0 (execCalDiscardSets w s) := by
  unfold execCalDiscardSets
  repeat' (first
    | with_reducible assumption | with_reducible exact Follows.refl _ | with_reducible refine Ends.of ?_ | with_reducible refine Ends.ite ?_ ?_ | with_reducible refine Follows.ite ?_ ?_ 
    | with_reducible refine catWrite_follows ?_ ?_ .. | with_reducible refine effBool_follows ?_ ?_ .. | with_reducible refine discardSets_follows ?_ ..
    | fail_if_no_progress (with_reducible refine mk_follows ?_ rfl rfl) | fail_if_no_progress intros | split | extract_lets | dsimp only | dsimp +zetaDelta only)

theorem startAll_follows {s0 s : State} (h : Follows s0 s) (code n : Nat) :
    Follows s0 (startAll code n s) := by
  induction n generalizing s with
  | zero => exact h
  | succ n ih =>
    unfold startAll
    split
    · exact ih (startRun_follows h ..)
    · exact h

theorem idleReserves_follows {s0 s : State} (h : Follows s0 s) :
    Follows s0 (idleReserves s) := by
  unfold idleReserves
  repeat' (first
    | with_reducible assumption | with_reducible exact Follows.refl _ | with_reducible refine Follows.ite ?_ ?_ | with_reducible refine forL_snd ?_ ?_ | with_reducible refine forL_third ?_ ?_ 
    | with_reducible refine forL_follows ?_ ?_ | with_reducible refine w1_follows ?_ ..
    | fail_if_no_progress (with_reducible refine mk_follows ?_ rfl rfl) | fail_if_no_progress intros | split | extract_lets | dsimp only | dsimp +zetaDelta only)

theorem idlePulses_follows {s0 s : State} (h : Follows s0 s) :
    Follows s0 (idlePulses s) := by
  unfold idlePulses
  repeat' (first
    | with_reducible assumption | with_reducible exact Follows.refl _ | with_reducible refine Follows.ite ?_ ?_ | with_reducible refine forL_snd ?_ ?_ | with_reducible refine forL_third ?_ ?_ 
    | with_reducible refine forL_follows ?_ ?_ | with_reducible refine noteInput_follows ?_ ..
    | fail_if_no_progress (with_reducible refine mk_follows ?_ rfl rfl) | fail_if_no_progress intros | split | extract_lets | dsimp only | dsimp +zetaDelta only)

theorem waitingStandIns_follows {s0 s : State} (h : Follows s0 s) :
    Follows s0 (waitingStandIns s) := by
  unfold waitingStandIns
  repeat' (first
    | with_reducible assumption | with_reducible exact Follows.refl _ | with_reducible refine Follows.ite ?_ ?_ | with_reducible refine forL_snd ?_ ?_ | with_reducible refine forL_third ?_ ?_ 
    | with_reducible refine forL_follows ?_ ?_ | with_reducible refine takeReserve_follows ?_ ..
    | fail_if_no_progress (with_reducible refine mk_follows ?_ rfl rfl) | fail_if_no_progress intros | split | extract_lets | dsimp only | dsimp +zetaDelta only)

theorem runningTick_follows {s0 s : State} (h : Follows s0 s) :
    Follows s0 (runningTick s) := by
  unfold runningTick
  repeat' (first
    | with_reducible assumption | with_reducible exact Follows.refl _ | with_reducible refine Follows.ite ?_ ?_ | with_reducible refine forL_snd ?_ ?_ | with_reducible refine forL_third ?_ ?_ 
    | with_reducible refine forL_follows ?_ ?_ | with_reducible refine setCal_follows ?_ ..
    | fail_if_no_progress (with_reducible refine mk_follows ?_ rfl rfl) | fail_if_no_progress intros | split | extract_lets | dsimp only | dsimp +zetaDelta only)

theorem calJob_follows {s0 s : State} (h : Follows s0 s) (curator : Bool) :
    Follows s0 (calJob curator s) := by
  unfold calJob
  repeat' (first
    | with_reducible assumption | with_reducible exact Follows.refl _ | with_reducible refine Follows.ite ?_ ?_ | with_reducible refine forL_snd ?_ ?_ | with_reducible refine forL_third ?_ ?_ | with_reducible refine forN_snd ?_ ?_ | with_reducible refine forN_third ?_ ?_ 
    | with_reducible refine runningTick_follows ?_ .. | with_reducible refine forL_follows ?_ ?_ | with_reducible refine forN_follows ?_ ?_ | with_reducible refine calAbandon_follows ?_ .. | with_reducible refine retryRun_follows ?_ .. | with_reducible refine testBoundary_follows ?_ .. | with_reducible refine waitingStandIns_follows ?_ .. | with_reducible refine idlePulses_follows ?_ .. | with_reducible refine idleReserves_follows ?_ .. | with_reducible refine startAll_follows ?_ .. | with_reducible refine calTick_follows ?_ ..
    | fail_if_no_progress (with_reducible refine mk_follows ?_ rfl rfl) | fail_if_no_progress intros | split | extract_lets | dsimp only | dsimp +zetaDelta only)

end Sys2Proof.Machine
end

