-- ==== Sys2Proof/Laws/PdusFollows.lean ====
section
/-! SUPPORT. Every operation of Pdus follows. -/

set_option linter.unreachableTactic false
set_option linter.unusedTactic false

namespace Sys2Proof.Machine

theorem sendInband_follows {s0 s : State} (h : Follows s0 s) (port mac opcode : Nat) (p : Pdu) :
    Follows s0 (sendInband port mac opcode p s) := by
  unfold sendInband
  repeat' (first
    | with_reducible assumption | with_reducible exact Follows.refl _ | with_reducible refine Follows.ite ?_ ?_ 
    | with_reducible refine sendManagement_follows ?_ ..
    | fail_if_no_progress (with_reducible refine mk_follows ?_ rfl rfl) | fail_if_no_progress intros | split | extract_lets | dsimp only | dsimp +zetaDelta only)

theorem tapOut_follows {s0 s : State} (h : Follows s0 s) (to_ : Peer) (opcode : Nat) (p : Pdu) (wire : Bytes) :
    Follows s0 (tapOut to_ opcode p wire s) :=
  h.trans ⟨⟨rfl, Nat.le_refl _, List.prefix_append .., id, rfl, rfl⟩, rfl⟩

theorem sendPdu_follows {s0 s : State} (h : Follows s0 s) (to_ : Peer) (opcode : Nat) (p : Pdu) :
    Follows s0 (sendPdu to_ opcode p s) := by
  unfold sendPdu
  repeat' (first
    | with_reducible assumption | with_reducible exact Follows.refl _ | with_reducible refine Follows.ite ?_ ?_ 
    | with_reducible refine sendInband_follows ?_ .. | with_reducible refine emit_follows ?_ .. | with_reducible refine tapOut_follows ?_ ..
    | fail_if_no_progress (with_reducible refine mk_follows ?_ rfl rfl) | fail_if_no_progress intros | split | extract_lets | dsimp only | dsimp +zetaDelta only)

theorem nextNotify_follows {s0 s : State} (h : Follows s0 s) :
    Follows s0 (nextNotify s).2 := by
  unfold nextNotify
  repeat' (first
    | with_reducible assumption | with_reducible exact Follows.refl _ | with_reducible refine Follows.ite ?_ ?_ 
    | with_reducible refine w0_follows ?_ ..
    | fail_if_no_progress (with_reducible refine mk_follows ?_ rfl rfl) | fail_if_no_progress intros | split | extract_lets | dsimp only | dsimp +zetaDelta only)

theorem notifyOnPort_follows {s0 s : State} (h : Follows s0 s) (port dst kind : Nat) (body : Bytes) :
    Follows s0 (notifyOnPort port dst kind body s) := by
  unfold notifyOnPort
  repeat' (first
    | with_reducible assumption | with_reducible exact Follows.refl _ | with_reducible refine Follows.ite ?_ ?_ 
    | with_reducible refine nextNotify_follows ?_ .. | with_reducible refine sendInband_follows ?_ ..
    | fail_if_no_progress (with_reducible refine mk_follows ?_ rfl rfl) | fail_if_no_progress intros | split | extract_lets | dsimp only | dsimp +zetaDelta only)

theorem notifyRouted_follows {s0 s : State} (h : Follows s0 s) (dst kind : Nat) (body : Bytes) :
    Follows s0 (notifyRouted dst kind body s) := by
  unfold notifyRouted
  repeat' (first
    | with_reducible assumption | with_reducible exact Follows.refl _ | with_reducible refine Follows.ite ?_ ?_ 
    | with_reducible refine notifyOnPort_follows ?_ ..
    | fail_if_no_progress (with_reducible refine mk_follows ?_ rfl rfl) | fail_if_no_progress intros | split | extract_lets | dsimp only | dsimp +zetaDelta only)

end Sys2Proof.Machine
end

