-- ==== Sys2Proof/Laws/TwinsFollows.lean ====
section
/-! SUPPORT. Every operation of Twins follows. -/

set_option linter.unreachableTactic false
set_option linter.unusedTactic false

namespace Sys2Proof.Machine

theorem modTw_follows {s0 s : State} (h : Follows s0 s) (f : TwSt → TwSt) :
    Follows s0 (modTw f s) := by
  unfold modTw
  repeat' (first
    | with_reducible assumption | with_reducible exact Follows.refl _ | with_reducible refine Follows.ite ?_ ?_ 
    | fail_if_no_progress (with_reducible refine mk_follows ?_ rfl rfl) | fail_if_no_progress intros | split | extract_lets | dsimp only | dsimp +zetaDelta only)

theorem setTwinFlag_follows {s0 s : State} (h : Follows s0 s) (bit : Nat) (on : Bool) :
    Follows s0 (setTwinFlag bit on s) := by
  unfold setTwinFlag
  repeat' (first
    | with_reducible assumption | with_reducible exact Follows.refl _ | with_reducible refine Follows.ite ?_ ?_ 
    | with_reducible refine w0_follows ?_ ..
    | fail_if_no_progress (with_reducible refine mk_follows ?_ rfl rfl) | fail_if_no_progress intros | split | extract_lets | dsimp only | dsimp +zetaDelta only)

theorem setDegraded_follows {s0 s : State} (h : Follows s0 s) (paths : Nat) :
    Follows s0 (setDegraded paths s) := by
  unfold setDegraded
  repeat' (first
    | with_reducible assumption | with_reducible exact Follows.refl _ | with_reducible refine Follows.ite ?_ ?_ 
    | with_reducible refine setLive_follows ?_ .. | with_reducible refine setTwinFlag_follows ?_ .. | with_reducible refine modTw_follows ?_ ..
    | fail_if_no_progress (with_reducible refine mk_follows ?_ rfl rfl) | fail_if_no_progress intros | split | extract_lets | dsimp only | dsimp +zetaDelta only)

theorem setStrapConflict_follows {s0 s : State} (h : Follows s0 s) (on : Bool) :
    Follows s0 (setStrapConflict on s) := by
  unfold setStrapConflict
  repeat' (first
    | with_reducible assumption | with_reducible exact Follows.refl _ | with_reducible refine Follows.ite ?_ ?_ 
    | with_reducible refine setLive_follows ?_ .. | with_reducible refine setTwinFlag_follows ?_ ..
    | fail_if_no_progress (with_reducible refine mk_follows ?_ rfl rfl) | fail_if_no_progress intros | split | extract_lets | dsimp only | dsimp +zetaDelta only)

theorem selfTestLanes_follows {s0 s : State} (h : Follows s0 s) (on : Bool) :
    Follows s0 (selfTestLanes on s) := by
  unfold selfTestLanes
  repeat' (first
    | with_reducible assumption | with_reducible exact Follows.refl _ | with_reducible refine Follows.ite ?_ ?_ | with_reducible refine forL_snd ?_ ?_ | with_reducible refine forL_third ?_ ?_ 
    | with_reducible refine forL_follows ?_ ?_ | with_reducible refine setTestObject_follows ?_ ..
    | fail_if_no_progress (with_reducible refine mk_follows ?_ rfl rfl) | fail_if_no_progress intros | split | extract_lets | dsimp only | dsimp +zetaDelta only)

theorem setRole_follows {s0 s : State} (h : Follows s0 s) (role : Nat) :
    Follows s0 (setRole role s) := by
  unfold setRole
  repeat' (first
    | with_reducible assumption | with_reducible exact Follows.refl _ | with_reducible refine Follows.ite ?_ ?_ | with_reducible refine forN_snd ?_ ?_ | with_reducible refine forN_third ?_ ?_ 
    | with_reducible refine w0_follows ?_ .. | with_reducible refine setTwinFlag_follows ?_ .. | with_reducible refine selfTestLanes_follows ?_ .. | with_reducible refine forN_follows ?_ ?_ | with_reducible refine judgeOut_follows ?_ ..
    | fail_if_no_progress (with_reducible refine mk_follows ?_ rfl rfl) | fail_if_no_progress intros | split | extract_lets | dsimp only | dsimp +zetaDelta only)

theorem stepDown_follows {s0 s : State} (h : Follows s0 s) (tick : Nat) :
    Follows s0 (stepDown tick s) := by
  unfold stepDown
  repeat' (first
    | with_reducible assumption | with_reducible exact Follows.refl _ | with_reducible refine Follows.ite ?_ ?_ 
    | with_reducible refine raise_follows ?_ .. | with_reducible refine inc0_follows ?_ .. | with_reducible refine modTw_follows ?_ ..
    | fail_if_no_progress (with_reducible refine mk_follows ?_ rfl rfl) | fail_if_no_progress intros | split | extract_lets | dsimp only | dsimp +zetaDelta only)

theorem applyRole_follows {s0 s : State} (h : Follows s0 s) (tick : Nat) :
    Follows s0 (applyRole tick s) := by
  unfold applyRole
  repeat' (first
    | with_reducible assumption | with_reducible exact Follows.refl _ | with_reducible refine Follows.ite ?_ ?_ 
    | with_reducible refine modTw_follows ?_ .. | with_reducible refine setRole_follows ?_ .. | with_reducible refine stepDown_follows ?_ ..
    | fail_if_no_progress (with_reducible refine mk_follows ?_ rfl rfl) | fail_if_no_progress intros | split | extract_lets | dsimp only | dsimp +zetaDelta only)

theorem noteActive_follows {s0 s : State} (h : Follows s0 s) :
    Follows s0 (noteActive s) := by
  unfold noteActive
  repeat' (first
    | with_reducible assumption | with_reducible exact Follows.refl _ | with_reducible refine Follows.ite ?_ ?_ 
    | with_reducible refine modTw_follows ?_ ..
    | fail_if_no_progress (with_reducible refine mk_follows ?_ rfl rfl) | fail_if_no_progress intros | split | extract_lets | dsimp only | dsimp +zetaDelta only)

theorem execTwinRoleChange_ends {s0 s : State} (h : Follows s0 s) :
    Ends s0 (execTwinRoleChange s) := by
  unfold execTwinRoleChange
  repeat' (first
    | with_reducible assumption | with_reducible exact Follows.refl _ | with_reducible refine Ends.of ?_ | with_reducible refine Ends.ite ?_ ?_ | with_reducible refine Follows.ite ?_ ?_ 
    | with_reducible refine advanceToReading_follows ?_ .. | with_reducible refine noteActive_follows ?_ .. | with_reducible refine applyRole_follows ?_ .. | with_reducible refine modTw_follows ?_ ..
    | fail_if_no_progress (with_reducible refine mk_follows ?_ rfl rfl) | fail_if_no_progress intros | split | extract_lets | dsimp only | dsimp +zetaDelta only)

theorem twinConfigured_follows {s0 s : State} (h : Follows s0 s) (swap : Bool) :
    Follows s0 (twinConfigured swap s) := by
  unfold twinConfigured
  repeat' (first
    | with_reducible assumption | with_reducible exact Follows.refl _ | with_reducible refine Follows.ite ?_ ?_ 
    | with_reducible refine modTw_follows ?_ .. | with_reducible refine w0_follows ?_ .. | with_reducible refine setRole_follows ?_ ..
    | fail_if_no_progress (with_reducible refine mk_follows ?_ rfl rfl) | fail_if_no_progress intros | split | extract_lets | dsimp only | dsimp +zetaDelta only)

theorem twinCuratorReset_follows {s0 s : State} (h : Follows s0 s) :
    Follows s0 (twinCuratorReset s) := by
  unfold twinCuratorReset
  repeat' (first
    | with_reducible assumption | with_reducible exact Follows.refl _ | with_reducible refine Follows.ite ?_ ?_ 
    | with_reducible refine modTw_follows ?_ .. | with_reducible refine setRole_follows ?_ ..
    | fail_if_no_progress (with_reducible refine mk_follows ?_ rfl rfl) | fail_if_no_progress intros | split | extract_lets | dsimp only | dsimp +zetaDelta only)

theorem twinsIdle_follows {s0 s : State} (h : Follows s0 s) :
    Follows s0 (twinsIdle s) := by
  unfold twinsIdle
  repeat' (first
    | with_reducible assumption | with_reducible exact Follows.refl _ | with_reducible refine Follows.ite ?_ ?_ 
    | with_reducible refine modTw_follows ?_ ..
    | fail_if_no_progress (with_reducible refine mk_follows ?_ rfl rfl) | fail_if_no_progress intros | split | extract_lets | dsimp only | dsimp +zetaDelta only)

theorem peerFailed_follows {s0 s : State} (h : Follows s0 s) :
    Follows s0 (peerFailed s) := by
  unfold peerFailed
  repeat' (first
    | with_reducible assumption | with_reducible exact Follows.refl _ | with_reducible refine Follows.ite ?_ ?_ 
    | with_reducible refine inc0_follows ?_ .. | with_reducible refine setTwinFlag_follows ?_ .. | with_reducible refine modTw_follows ?_ .. | with_reducible refine raise_follows ?_ ..
    | fail_if_no_progress (with_reducible refine mk_follows ?_ rfl rfl) | fail_if_no_progress intros | split | extract_lets | dsimp only | dsimp +zetaDelta only)

theorem pathDegraded_follows {s0 s : State} (h : Follows s0 s) :
    Follows s0 (pathDegraded s) := by
  unfold pathDegraded
  repeat' (first
    | with_reducible assumption | with_reducible exact Follows.refl _ | with_reducible refine Follows.ite ?_ ?_ 
    | with_reducible refine inc0_follows ?_ .. | with_reducible refine setDegraded_follows ?_ .. | with_reducible refine modTw_follows ?_ ..
    | fail_if_no_progress (with_reducible refine mk_follows ?_ rfl rfl) | fail_if_no_progress intros | split | extract_lets | dsimp only | dsimp +zetaDelta only)

theorem rankTakeover_follows {s0 s : State} (h : Follows s0 s) :
    Follows s0 (rankTakeover s) := by
  unfold rankTakeover
  repeat' (first
    | with_reducible assumption | with_reducible exact Follows.refl _ | with_reducible refine Follows.ite ?_ ?_ 
    | with_reducible refine modTw_follows ?_ ..
    | fail_if_no_progress (with_reducible refine mk_follows ?_ rfl rfl) | fail_if_no_progress intros | split | extract_lets | dsimp only | dsimp +zetaDelta only)

theorem execTwinPeerFailed_ends {s0 s : State} (h : Follows s0 s) :
    Ends s0 (execTwinPeerFailed s) := by
  unfold execTwinPeerFailed
  repeat' (first
    | with_reducible assumption | with_reducible exact Follows.refl _ | with_reducible refine Ends.of ?_ | with_reducible refine Ends.ite ?_ ?_ | with_reducible refine Follows.ite ?_ ?_ 
    | with_reducible refine peerFailed_follows ?_ ..
    | fail_if_no_progress (with_reducible refine mk_follows ?_ rfl rfl) | fail_if_no_progress intros | split | extract_lets | dsimp only | dsimp +zetaDelta only)

theorem execTwinPathDegraded_ends {s0 s : State} (h : Follows s0 s) :
    Ends s0 (execTwinPathDegraded s) := by
  unfold execTwinPathDegraded
  repeat' (first
    | with_reducible assumption | with_reducible exact Follows.refl _ | with_reducible refine Ends.of ?_ | with_reducible refine Ends.ite ?_ ?_ | with_reducible refine Follows.ite ?_ ?_ 
    | with_reducible refine pathDegraded_follows ?_ ..
    | fail_if_no_progress (with_reducible refine mk_follows ?_ rfl rfl) | fail_if_no_progress intros | split | extract_lets | dsimp only | dsimp +zetaDelta only)

theorem execTwinRankTakeover_ends {s0 s : State} (h : Follows s0 s) :
    Ends s0 (execTwinRankTakeover s) := by
  unfold execTwinRankTakeover
  repeat' (first
    | with_reducible assumption | with_reducible exact Follows.refl _ | with_reducible refine Ends.of ?_ | with_reducible refine Ends.ite ?_ ?_ | with_reducible refine Follows.ite ?_ ?_ 
    | with_reducible refine rankTakeover_follows ?_ ..
    | fail_if_no_progress (with_reducible refine mk_follows ?_ rfl rfl) | fail_if_no_progress intros | split | extract_lets | dsimp only | dsimp +zetaDelta only)

theorem setArb_follows {s0 s : State} (h : Follows s0 s) (row : Nat) (a : TwArb) :
    Follows s0 (setArb row a s) := by
  unfold setArb
  repeat' (first
    | with_reducible assumption | with_reducible exact Follows.refl _ | with_reducible refine Follows.ite ?_ ?_ 
    | with_reducible refine wr_follows ?_ .. | with_reducible refine modTw_follows ?_ ..
    | fail_if_no_progress (with_reducible refine mk_follows ?_ rfl rfl) | fail_if_no_progress intros | split | extract_lets | dsimp only | dsimp +zetaDelta only)

theorem arbRelease_follows {s0 s : State} (h : Follows s0 s) (row : Nat) :
    Follows s0 (arbRelease row s) := by
  unfold arbRelease
  repeat' (first
    | with_reducible assumption | with_reducible exact Follows.refl _ | with_reducible refine Follows.ite ?_ ?_ 
    | with_reducible refine wr_follows ?_ .. | with_reducible refine modTw_follows ?_ ..
    | fail_if_no_progress (with_reducible refine mk_follows ?_ rfl rfl) | fail_if_no_progress intros | split | extract_lets | dsimp only | dsimp +zetaDelta only)

theorem execArbiterRelease_ends {s0 s : State} (h : Follows s0 s) (row : Fin 16) :
    Ends s0 (execArbiterRelease row s) := by
  unfold execArbiterRelease
  repeat' (first
    | with_reducible assumption | with_reducible exact Follows.refl _ | with_reducible refine Ends.of ?_ | with_reducible refine Ends.ite ?_ ?_ | with_reducible refine Follows.ite ?_ ?_ 
    | with_reducible refine arbRelease_follows ?_ .. | with_reducible refine advanceToReading_follows ?_ ..
    | fail_if_no_progress (with_reducible refine mk_follows ?_ rfl rfl) | fail_if_no_progress intros | split | extract_lets | dsimp only | dsimp +zetaDelta only)

theorem arbitratePair_follows {s0 s : State} (h : Follows s0 s) (pair : Nat) :
    Follows s0 (arbitratePair pair s) := by
  unfold arbitratePair
  repeat' (first
    | with_reducible assumption | with_reducible exact Follows.refl _ | with_reducible refine Follows.ite ?_ ?_ | with_reducible refine foldl_follows ?_ ?_ | with_reducible refine foldl_snd ?_ ?_ | with_reducible refine forL_snd ?_ ?_ | with_reducible refine forL_third ?_ ?_ 
    | with_reducible refine setArb_follows ?_ .. | with_reducible refine forL_follows ?_ ?_ | with_reducible refine notifyOnPort_follows ?_ ..
    | fail_if_no_progress (with_reducible refine mk_follows ?_ rfl rfl) | fail_if_no_progress intros | split | extract_lets | dsimp only | dsimp +zetaDelta only)

theorem arbiterJob_follows {s0 s : State} (h : Follows s0 s) :
    Follows s0 (arbiterJob s) := by
  unfold arbiterJob
  repeat' (first
    | with_reducible assumption | with_reducible exact Follows.refl _ | with_reducible refine Follows.ite ?_ ?_ | with_reducible refine foldl_follows ?_ ?_ | with_reducible refine foldl_snd ?_ ?_ | with_reducible refine forL_snd ?_ ?_ | with_reducible refine forL_third ?_ ?_ 
    | with_reducible refine forL_follows ?_ ?_ | with_reducible refine setArb_follows ?_ .. | with_reducible refine arbitratePair_follows ?_ .. | with_reducible refine modTw_follows ?_ ..
    | fail_if_no_progress (with_reducible refine mk_follows ?_ rfl rfl) | fail_if_no_progress intros | split | extract_lets | dsimp only | dsimp +zetaDelta only)

theorem notePeer_follows {s0 s : State} (h : Follows s0 s) (b : Bytes) :
    Follows s0 (notePeer b s) := by
  unfold notePeer
  repeat' (first
    | with_reducible assumption | with_reducible exact Follows.refl _ | with_reducible refine Follows.ite ?_ ?_ 
    | with_reducible refine modTw_follows ?_ .. | with_reducible refine setStrapConflict_follows ?_ ..
    | fail_if_no_progress (with_reducible refine mk_follows ?_ rfl rfl) | fail_if_no_progress intros | split | extract_lets | dsimp only | dsimp +zetaDelta only)

theorem takeHeartbeat_follows {s0 s : State} (h : Follows s0 s) (path : HbPath) (b : Bytes) (arrival : Nat) :
    Follows s0 (takeHeartbeat path b arrival s) := by
  unfold takeHeartbeat
  repeat' (first
    | with_reducible assumption | with_reducible exact Follows.refl _ | with_reducible refine Follows.ite ?_ ?_ 
    | with_reducible refine w0_follows ?_ .. | with_reducible refine modTw_follows ?_ .. | with_reducible refine notePeer_follows ?_ ..
    | fail_if_no_progress (with_reducible refine mk_follows ?_ rfl rfl) | fail_if_no_progress intros | split | extract_lets | dsimp only | dsimp +zetaDelta only)

theorem takeActive_follows {s0 s : State} (h : Follows s0 s) (port : Nat) (b : Bytes) :
    Follows s0 (takeActive port b s) := by
  unfold takeActive
  repeat' (first
    | with_reducible assumption | with_reducible exact Follows.refl _ | with_reducible refine Follows.ite ?_ ?_ 
    | with_reducible refine modTw_follows ?_ .. | with_reducible refine notePeer_follows ?_ ..
    | fail_if_no_progress (with_reducible refine mk_follows ?_ rfl rfl) | fail_if_no_progress intros | split | extract_lets | dsimp only | dsimp +zetaDelta only)

theorem takeDual_follows {s0 s : State} (h : Follows s0 s) (b : Bytes) :
    Follows s0 (takeDual b s) := by
  unfold takeDual
  repeat' (first
    | with_reducible assumption | with_reducible exact Follows.refl _ | with_reducible refine Follows.ite ?_ ?_ 
    | with_reducible refine modTw_follows ?_ ..
    | fail_if_no_progress (with_reducible refine mk_follows ?_ rfl rfl) | fail_if_no_progress intros | split | extract_lets | dsimp only | dsimp +zetaDelta only)

theorem takeTwMsg_follows {s0 s : State} (h : Follows s0 s) (m : TwMsg) :
    Follows s0 (takeTwMsg m s) := by
  unfold takeTwMsg
  repeat' (first
    | with_reducible assumption | with_reducible exact Follows.refl _ | with_reducible refine Follows.ite ?_ ?_ 
    | with_reducible refine takeHeartbeat_follows ?_ .. | with_reducible refine takeActive_follows ?_ .. | with_reducible refine takeDual_follows ?_ ..
    | fail_if_no_progress (with_reducible refine mk_follows ?_ rfl rfl) | fail_if_no_progress intros | split | extract_lets | dsimp only | dsimp +zetaDelta only)

theorem queueTwMsg_follows {s0 s : State} (h : Follows s0 s) (m : TwMsg) :
    Follows s0 (queueTwMsg m s) := by
  unfold queueTwMsg
  repeat' (first
    | with_reducible assumption | with_reducible exact Follows.refl _ | with_reducible refine Follows.ite ?_ ?_ 
    | with_reducible refine modTw_follows ?_ ..
    | fail_if_no_progress (with_reducible refine mk_follows ?_ rfl rfl) | fail_if_no_progress intros | split | extract_lets | dsimp only | dsimp +zetaDelta only)

theorem heartbeatIn_follows {s0 s : State} (h : Follows s0 s) (path : HbPath) (body : Bytes) (whole : Bool) (arrival : Nat) :
    Follows s0 (heartbeatIn path body whole arrival s) := by
  unfold heartbeatIn
  repeat' (first
    | with_reducible assumption | with_reducible exact Follows.refl _ | with_reducible refine Follows.ite ?_ ?_ 
    | with_reducible refine queueTwMsg_follows ?_ .. | with_reducible refine inc_follows ?_ ..
    | fail_if_no_progress (with_reducible refine mk_follows ?_ rfl rfl) | fail_if_no_progress intros | split | extract_lets | dsimp only | dsimp +zetaDelta only)

theorem execTwinHeartbeatReceive_ends {s0 s : State} (h : Follows s0 s) (path : HbPath) (body : Bytes) (framed : HbFraming) (crc : Bytes) (arrival : Nat) :
    Ends s0 (execTwinHeartbeatReceive path body framed crc arrival s) := by
  unfold execTwinHeartbeatReceive
  repeat' (first
    | with_reducible assumption | with_reducible exact Follows.refl _ | with_reducible refine Ends.of ?_ | with_reducible refine Ends.ite ?_ ?_ | with_reducible refine Follows.ite ?_ ?_ 
    | with_reducible refine heartbeatIn_follows ?_ ..
    | fail_if_no_progress (with_reducible refine mk_follows ?_ rfl rfl) | fail_if_no_progress intros | split | extract_lets | dsimp only | dsimp +zetaDelta only)

theorem execTwinActiveReceive_ends {s0 s : State} (h : Follows s0 s) (port : Fin 64) (body : Bytes) :
    Ends s0 (execTwinActiveReceive port body s) := by
  unfold execTwinActiveReceive
  repeat' (first
    | with_reducible assumption | with_reducible exact Follows.refl _ | with_reducible refine Ends.of ?_ | with_reducible refine Ends.ite ?_ ?_ | with_reducible refine Follows.ite ?_ ?_ 
    | with_reducible refine queueTwMsg_follows ?_ ..
    | fail_if_no_progress (with_reducible refine mk_follows ?_ rfl rfl) | fail_if_no_progress intros | split | extract_lets | dsimp only | dsimp +zetaDelta only)

theorem execDualActiveReceive_ends {s0 s : State} (h : Follows s0 s) (x1 : Fin 64) (body : Bytes) :
    Ends s0 (execDualActiveReceive x1 body s) := by
  unfold execDualActiveReceive
  repeat' (first
    | with_reducible assumption | with_reducible exact Follows.refl _ | with_reducible refine Ends.of ?_ | with_reducible refine Ends.ite ?_ ?_ | with_reducible refine Follows.ite ?_ ?_ 
    | with_reducible refine queueTwMsg_follows ?_ ..
    | fail_if_no_progress (with_reducible refine mk_follows ?_ rfl rfl) | fail_if_no_progress intros | split | extract_lets | dsimp only | dsimp +zetaDelta only)

theorem judgePath_follows {s0 s : State} (h : Follows s0 s) (bit ended : Nat) (p : TwPath) :
    Follows s0 (judgePath bit ended p s).2 := by
  unfold judgePath
  repeat' (first
    | with_reducible assumption | with_reducible exact Follows.refl _ | with_reducible refine Follows.ite ?_ ?_ 
    | with_reducible refine w0_follows ?_ .. | with_reducible refine setDegraded_follows ?_ .. | with_reducible refine setTwinFlag_follows ?_ .. | with_reducible refine inc_follows ?_ ..
    | fail_if_no_progress (with_reducible refine mk_follows ?_ rfl rfl) | fail_if_no_progress intros | split | extract_lets | dsimp only | dsimp +zetaDelta only)

theorem shadowJob_follows {s0 s : State} (h : Follows s0 s) :
    Follows s0 (shadowJob s) := by
  unfold shadowJob
  repeat' (first
    | with_reducible assumption | with_reducible exact Follows.refl _ | with_reducible refine Follows.ite ?_ ?_ 
    | with_reducible refine w0_follows ?_ .. | with_reducible refine modTw_follows ?_ ..
    | fail_if_no_progress (with_reducible refine mk_follows ?_ rfl rfl) | fail_if_no_progress intros | split | extract_lets | dsimp only | dsimp +zetaDelta only)

theorem healthJob_follows {s0 s : State} (h : Follows s0 s) :
    Follows s0 (healthJob s) := by
  unfold healthJob
  repeat' (first
    | with_reducible assumption | with_reducible exact Follows.refl _ | with_reducible refine Follows.ite ?_ ?_ 
    | with_reducible refine w0_follows ?_ ..
    | fail_if_no_progress (with_reducible refine mk_follows ?_ rfl rfl) | fail_if_no_progress intros | split | extract_lets | dsimp only | dsimp +zetaDelta only)

theorem sendHeartbeats_follows {s0 s : State} (h : Follows s0 s) :
    Follows s0 (sendHeartbeats s) := by
  unfold sendHeartbeats
  repeat' (first
    | with_reducible assumption | with_reducible exact Follows.refl _ | with_reducible refine Follows.ite ?_ ?_ | with_reducible refine forL_snd ?_ ?_ | with_reducible refine forL_third ?_ ?_ 
    | with_reducible refine draw_follows ?_ .. | with_reducible refine emit_follows ?_ .. | with_reducible refine notifyOnPort_follows ?_ .. | with_reducible refine forL_follows ?_ ?_ | with_reducible refine notifyRouted_follows ?_ ..
    | fail_if_no_progress (with_reducible refine mk_follows ?_ rfl rfl) | fail_if_no_progress intros | split | extract_lets | dsimp only | dsimp +zetaDelta only)

theorem selfTestJob_follows {s0 s : State} (h : Follows s0 s) :
    Follows s0 (selfTestJob s) := by
  unfold selfTestJob
  repeat' (first
    | with_reducible assumption | with_reducible exact Follows.refl _ | with_reducible refine Follows.ite ?_ ?_ 
    | with_reducible refine startSelfTest_follows ?_ .. | with_reducible refine modTw_follows ?_ ..
    | fail_if_no_progress (with_reducible refine mk_follows ?_ rfl rfl) | fail_if_no_progress intros | split | extract_lets | dsimp only | dsimp +zetaDelta only)

theorem judgePaths_follows {s0 s : State} (h : Follows s0 s) (ended : Nat) :
    Follows s0 (judgePaths ended s) := by
  unfold judgePaths
  repeat' (first
    | with_reducible assumption | with_reducible exact Follows.refl _ | with_reducible refine Follows.ite ?_ ?_ 
    | with_reducible refine judgePath_follows ?_ .. | with_reducible refine modTw_follows ?_ ..
    | fail_if_no_progress (with_reducible refine mk_follows ?_ rfl rfl) | fail_if_no_progress intros | split | extract_lets | dsimp only | dsimp +zetaDelta only)

theorem judgeTwin_follows {s0 s : State} (h : Follows s0 s) (ended : Nat) :
    Follows s0 (judgeTwin ended s) := by
  unfold judgeTwin
  repeat' (first
    | with_reducible assumption | with_reducible exact Follows.refl _ | with_reducible refine Follows.ite ?_ ?_ 
    | with_reducible refine judgePaths_follows ?_ .. | with_reducible refine modTw_follows ?_ .. | with_reducible refine inc0_follows ?_ .. | with_reducible refine setTwinFlag_follows ?_ ..
    | fail_if_no_progress (with_reducible refine mk_follows ?_ rfl rfl) | fail_if_no_progress intros | split | extract_lets | dsimp only | dsimp +zetaDelta only)

theorem twinBoundary_follows {s0 s : State} (h : Follows s0 s) :
    Follows s0 (twinBoundary s) := by
  unfold twinBoundary
  repeat' (first
    | with_reducible assumption | with_reducible exact Follows.refl _ | with_reducible refine Follows.ite ?_ ?_ | with_reducible refine forN_snd ?_ ?_ | with_reducible refine forN_third ?_ ?_ 
    | with_reducible refine peerFailed_follows ?_ .. | with_reducible refine pathDegraded_follows ?_ .. | with_reducible refine rankTakeover_follows ?_ .. | with_reducible refine forN_follows ?_ ?_ | with_reducible refine arbRelease_follows ?_ .. | with_reducible refine applyRole_follows ?_ ..
    | fail_if_no_progress (with_reducible refine mk_follows ?_ rfl rfl) | fail_if_no_progress intros | split | extract_lets | dsimp only | dsimp +zetaDelta only)

theorem heartbeatJob_follows {s0 s : State} (h : Follows s0 s) (ended : Nat) :
    Follows s0 (heartbeatJob ended s) := by
  unfold heartbeatJob
  repeat' (first
    | with_reducible assumption | with_reducible exact Follows.refl _ | with_reducible refine Follows.ite ?_ ?_ | with_reducible refine forL_snd ?_ ?_ | with_reducible refine forL_third ?_ ?_ 
    | with_reducible refine forL_follows ?_ ?_ | with_reducible refine takeTwMsg_follows ?_ .. | with_reducible refine modTw_follows ?_ .. | with_reducible refine selfTestJob_follows ?_ .. | with_reducible refine sendHeartbeats_follows ?_ .. | with_reducible refine healthJob_follows ?_ .. | with_reducible refine shadowJob_follows ?_ .. | with_reducible refine judgeTwin_follows ?_ .. | with_reducible refine arbiterJob_follows ?_ ..
    | fail_if_no_progress (with_reducible refine mk_follows ?_ rfl rfl) | fail_if_no_progress intros | split | extract_lets | dsimp only | dsimp +zetaDelta only)

theorem selfTestErrors_follows {s0 s : State} (h : Follows s0 s) (l : List LaneTick) :
    Follows s0 (selfTestErrors l s) := by
  unfold selfTestErrors
  repeat' (first
    | with_reducible assumption | with_reducible exact Follows.refl _ | with_reducible refine Follows.ite ?_ ?_ | with_reducible refine foldl_follows ?_ ?_ | with_reducible refine foldl_snd ?_ ?_ 
    | with_reducible refine count_follows ?_ .. | with_reducible refine modTw_follows ?_ ..
    | fail_if_no_progress (with_reducible refine mk_follows ?_ rfl rfl) | fail_if_no_progress intros | split | extract_lets | dsimp only | dsimp +zetaDelta only)

end Sys2Proof.Machine
end

