-- ==== Sys2Proof/Laws/FrameFlowFollows.lean ====
section
/-! SUPPORT. Every operation of FrameFlow follows. -/

set_option linter.unreachableTactic false
set_option linter.unusedTactic false

namespace Sys2Proof.Machine

theorem countRx_follows {s0 s : State} (h : Follows s0 s) (slot : Nat) (b : Bytes) :
    Follows s0 (countRx slot b s) := by
  unfold countRx
  repeat' (first
    | with_reducible assumption | with_reducible exact Follows.refl _ | with_reducible refine Follows.ite ?_ ?_ 
    | with_reducible refine portEvent_follows ?_ .. | with_reducible refine inc_follows ?_ .. | with_reducible refine count_follows ?_ ..
    | fail_if_no_progress (with_reducible refine mk_follows ?_ rfl rfl) | fail_if_no_progress intros | split | extract_lets | dsimp only | dsimp +zetaDelta only)

theorem countVerdict_follows {s0 s : State} (h : Follows s0 s) (slot : Nat) (b : Bytes) (v : Verdict) :
    Follows s0 (countVerdict slot b v s) := by
  unfold countVerdict
  repeat' (first
    | with_reducible assumption | with_reducible exact Follows.refl _ | with_reducible refine Follows.ite ?_ ?_ 
    | with_reducible refine portEvent_follows ?_ .. | with_reducible refine inc_follows ?_ .. | with_reducible refine countRx_follows ?_ ..
    | fail_if_no_progress (with_reducible refine mk_follows ?_ rfl rfl) | fail_if_no_progress intros | split | extract_lets | dsimp only | dsimp +zetaDelta only)

theorem settleFrame_follows {s0 s : State} (h : Follows s0 s) (id : Nat) :
    Follows s0 (settleFrame id s) := by
  unfold settleFrame
  repeat' (first
    | with_reducible assumption | with_reducible exact Follows.refl _ | with_reducible refine Follows.ite ?_ ?_ 
    | with_reducible refine freeFrame_follows ?_ ..
    | fail_if_no_progress (with_reducible refine mk_follows ?_ rfl rfl) | fail_if_no_progress intros | split | extract_lets | dsimp only | dsimp +zetaDelta only)

theorem headroomDrop_follows {s0 s : State} (h : Follows s0 s) (port slot c : Nat) :
    Follows s0 (headroomDrop port slot c s) := by
  unfold headroomDrop
  repeat' (first
    | with_reducible assumption | with_reducible exact Follows.refl _ | with_reducible refine Follows.ite ?_ ?_ 
    | with_reducible refine raise_follows ?_ .. | with_reducible refine inc_follows ?_ ..
    | fail_if_no_progress (with_reducible refine mk_follows ?_ rfl rfl) | fail_if_no_progress intros | split | extract_lets | dsimp only | dsimp +zetaDelta only)

theorem archiveSelect_follows {s0 s : State} (h : Follows s0 s) (port cls bank : Nat) (egress : List Nat)
    (coarse combiner : Bool) (b : Bytes) (ball : Int) :
    Follows s0 (archiveSelect port cls bank egress coarse combiner b ball s).2 := by
  have k := archiveJudge_follows h port cls egress
  unfold archiveSelect
  split
  · rename_i e
    rw [e] at k
    exact k
  · rename_i e
    rw [e] at k
    exact archiveStore_follows (draw_follows k) _

theorem archiveEgress_follows {s0 s : State} (h : Follows s0 s) (f : Frame) (slot : Nat) (cut : Bool) :
    Follows s0 (archiveEgress f slot cut s) := by
  unfold archiveEgress
  repeat' (first
    | with_reducible assumption | with_reducible exact Follows.refl _ | with_reducible refine Follows.ite ?_ ?_ 
    | with_reducible refine archiveUpdate_follows ?_ ..
    | fail_if_no_progress (with_reducible refine mk_follows ?_ rfl rfl) | fail_if_no_progress intros | split | extract_lets | dsimp only | dsimp +zetaDelta only)

theorem archiveLength_follows {s0 s : State} (h : Follows s0 s) (seq : Option Nat) (n : Nat) :
    Follows s0 (archiveLength seq n s) := by
  unfold archiveLength
  repeat' (first
    | with_reducible assumption | with_reducible exact Follows.refl _ | with_reducible refine Follows.ite ?_ ?_ 
    | with_reducible refine archiveUpdate_follows ?_ ..
    | fail_if_no_progress (with_reducible refine mk_follows ?_ rfl rfl) | fail_if_no_progress intros | split | extract_lets | dsimp only | dsimp +zetaDelta only)

theorem setRx_follows {s0 s : State} (h : Follows s0 s) (slot : Nat) (x : RxSt) :
    Follows s0 (setRx slot x s) := by
  unfold setRx
  repeat' (first
    | with_reducible assumption | with_reducible exact Follows.refl _ | with_reducible refine Follows.ite ?_ ?_ 
    | with_reducible refine modPort_follows ?_ ..
    | fail_if_no_progress (with_reducible refine mk_follows ?_ rfl rfl) | fail_if_no_progress intros | split | extract_lets | dsimp only | dsimp +zetaDelta only)

theorem beginCopy_follows {s0 s : State} (h : Follows s0 s) (slot c : Nat) :
    Follows s0 (beginCopy slot c s) := by
  unfold beginCopy
  repeat' (first
    | with_reducible assumption | with_reducible exact Follows.refl _ | with_reducible refine Follows.ite ?_ ?_ 
    | with_reducible refine dequeue_follows ?_ .. | with_reducible refine archiveEgress_follows ?_ .. | with_reducible refine modPort_follows ?_ .. | with_reducible refine judgePromotion_follows ?_ ..
    | fail_if_no_progress (with_reducible refine mk_follows ?_ rfl rfl) | fail_if_no_progress intros | split | extract_lets | dsimp only | dsimp +zetaDelta only)

theorem storeFirst_follows {s0 s : State} (h : Follows s0 s) (port slot : Nat) (x : RxSt) (d : Decision) (b : Bytes) (load : List Nat) :
    Follows s0 (storeFirst port slot x d b load s) := by
  unfold storeFirst
  repeat' (first
    | with_reducible assumption | with_reducible exact Follows.refl _ | with_reducible refine Follows.ite ?_ ?_ | with_reducible refine forL_snd ?_ ?_ | with_reducible refine forL_third ?_ ?_ 
    | with_reducible refine chargeCell_follows ?_ .. | with_reducible refine draw_follows ?_ .. | with_reducible refine archiveSelect_follows ?_ .. | with_reducible refine perfEvent_follows ?_ .. | with_reducible refine noteMinFree_follows ?_ .. | with_reducible refine setFrame_follows ?_ .. | with_reducible refine placeRefs_follows ?_ .. | with_reducible refine setRx_follows ?_ .. | with_reducible refine forL_follows ?_ ?_ | with_reducible refine enqueue_follows ?_ .. | with_reducible refine beginCopy_follows ?_ .. | with_reducible refine inc_follows ?_ .. | with_reducible refine xonSweep_follows ?_ .. | with_reducible refine headroomDrop_follows ?_ ..
    | fail_if_no_progress (with_reducible refine mk_follows ?_ rfl rfl) | fail_if_no_progress intros | split | extract_lets | dsimp only | dsimp +zetaDelta only)

theorem forwardFirst_follows {s0 s : State} (h : Follows s0 s) (port slot : Nat) (x : RxSt) (d : Decision) (b : Bytes) (load : List Nat) :
    Follows s0 (forwardFirst port slot x d b load s) := by
  unfold forwardFirst
  repeat' (first
    | with_reducible assumption | with_reducible exact Follows.refl _ | with_reducible refine Follows.ite ?_ ?_ 
    | with_reducible refine setRx_follows ?_ .. | with_reducible refine inc_follows ?_ .. | with_reducible refine storeFirst_follows ?_ ..
    | fail_if_no_progress (with_reducible refine mk_follows ?_ rfl rfl) | fail_if_no_progress intros | split | extract_lets | dsimp only | dsimp +zetaDelta only)

theorem routeFirst_follows {s0 s : State} (h : Follows s0 s) (port slot : Nat) (x : RxSt) (t : Tags) (b : Bytes)
    (load : List Nat) : Follows s0 (routeFirst port slot x t b load s) := by
  unfold routeFirst
  dsimp only
  split
  · split
    · exact setRx_follows (combinerRefuses_follows h _ (by assumption)) ..
    · exact storeFirst_follows h ..
  · split
    · split
      · exact setRx_follows (combinerRefuses_follows h _ (by assumption)) ..
      · exact forwardFirst_follows (count_follows h ..) ..
    · exact forwardFirst_follows (Follows.ite (inc_follows h ..) h) ..

theorem firstCell_follows {s0 s : State} (h : Follows s0 s) (port slot : Nat) (bytes : Bytes) (load : List Nat) :
    Follows s0 (firstCell port slot bytes load s) := by
  unfold firstCell
  repeat' (first
    | with_reducible assumption | with_reducible exact Follows.refl _ | with_reducible refine Follows.ite ?_ ?_ 
    | with_reducible refine setRx_follows ?_ .. | with_reducible refine classify_follows ?_ .. | with_reducible refine closeDue_follows ?_ .. | with_reducible refine perfEvent_follows ?_ .. | with_reducible refine inc0_follows ?_ .. | with_reducible refine inc_follows ?_ .. | with_reducible refine routeFirst_follows ?_ ..
    | fail_if_no_progress (with_reducible refine mk_follows ?_ rfl rfl) | fail_if_no_progress intros | split | extract_lets | dsimp only | dsimp +zetaDelta only)

theorem execFirstCellWritten_ends {s0 s : State} (h : Follows s0 s) (port : Fin 64) (dt : Nat) (bytes : FrameBytes) (bankLoad : List Nat) :
    Ends s0 (execFirstCellWritten port dt bytes bankLoad s) := by
  unfold execFirstCellWritten
  repeat' (first
    | with_reducible assumption | with_reducible exact Follows.refl _ | with_reducible refine Ends.of ?_ | with_reducible refine Ends.ite ?_ ?_ | with_reducible refine Follows.ite ?_ ?_ 
    | with_reducible refine passCore_follows ?_ .. | with_reducible refine firstCell_follows ?_ ..
    | fail_if_no_progress (with_reducible refine mk_follows ?_ rfl rfl) | fail_if_no_progress intros | split | extract_lets | dsimp only | dsimp +zetaDelta only)

theorem chargeRest_follows {s0 s : State} (h : Follows s0 s) (slot c : Nat) (load : List Nat) (n : Nat) (f : Frame) : Follows s0 (chargeRest slot c load n f s).2.2 := by
  induction n generalizing f s with
  | zero => exact h
  | succ n ih =>
    unfold chargeRest
    have k := chargeCell_follows h slot c
    dsimp only
    split
    · exact ih (perfEvent_follows (noteMinFree_follows (setFrame_follows k _)) ..) _
    · exact k

theorem dropRest_follows {s0 s : State} (h : Follows s0 s) (id fate : Nat) (rest : List Nat) :
    Follows s0 (dropRest id fate rest s) := by
  unfold dropRest
  repeat' (first
    | with_reducible assumption | with_reducible exact Follows.refl _ | with_reducible refine Follows.ite ?_ ?_ | with_reducible refine forL_snd ?_ ?_ | with_reducible refine forL_third ?_ ?_ 
    | with_reducible refine forL_follows ?_ ?_ | with_reducible refine endRef_follows ?_ ..
    | fail_if_no_progress (with_reducible refine mk_follows ?_ rfl rfl) | fail_if_no_progress intros | split | extract_lets | dsimp only | dsimp +zetaDelta only)

theorem dropForHeadroom_follows {s0 s : State} (h : Follows s0 s) (port slot : Nat) (x : RxSt) (f : Frame) (b : Bytes) :
    Follows s0 (dropForHeadroom port slot x f b s) := by
  unfold dropForHeadroom
  repeat' (first
    | with_reducible assumption | with_reducible exact Follows.refl _ | with_reducible refine Follows.ite ?_ ?_ 
    | with_reducible refine headroomDrop_follows ?_ .. | with_reducible refine xonSweep_follows ?_ .. | with_reducible refine perfEvent_follows ?_ .. | with_reducible refine setAcct_follows ?_ .. | with_reducible refine setFrame_follows ?_ .. | with_reducible refine dropRest_follows ?_ .. | with_reducible refine settleFrame_follows ?_ ..
    | fail_if_no_progress (with_reducible refine mk_follows ?_ rfl rfl) | fail_if_no_progress intros | split | extract_lets | dsimp only | dsimp +zetaDelta only)

theorem endStored_follows {s0 s : State} (h : Follows s0 s) (x : RxSt) (f : Frame) (b : Bytes) (v : Verdict)
    (ending : RxEnd) : Follows s0 (endStored x f b v ending s) := by
  unfold endStored
  split
  · have k := setFrame_follows h { f with bytes := b, whole := true }
    dsimp only
    split
    · split
      · rename_i g hg
        exact endRef_follows (combinerRefuses_follows k g hg) ..
      · exact k.keeps rfl rfl rfl rfl rfl rfl rfl
    · exact settleFrame_follows (forL_follows (fun _ _ m => enqueue_follows m ..) k) ..
  · exact settleFrame_follows (dropRest_follows (setFrame_follows (draw_follows h) _) ..) ..

theorem endInCore_follows {s0 s : State} (h : Follows s0 s) (port slot : Nat) (x : RxSt) (b : Bytes) (v : Verdict) (ending : RxEnd) (load : List Nat) :
    Follows s0 (endInCore port slot x b v ending load s) := by
  unfold endInCore
  repeat' (first
    | with_reducible assumption | with_reducible exact Follows.refl _ | with_reducible refine Follows.ite ?_ ?_ 
    | with_reducible refine archiveLength_follows ?_ .. | with_reducible refine chargeRest_follows ?_ .. | with_reducible refine endStored_follows ?_ .. | with_reducible refine dropForHeadroom_follows ?_ ..
    | fail_if_no_progress (with_reducible refine mk_follows ?_ rfl rfl) | fail_if_no_progress intros | split | extract_lets | dsimp only | dsimp +zetaDelta only)

theorem legalEnd_follows {s0 s : State} (h : Follows s0 s) (port slot : Nat) (x : RxSt) (b : Bytes) :
    Follows s0 (legalEnd port slot x b s) := by
  unfold legalEnd
  repeat' (first
    | with_reducible assumption | with_reducible exact Follows.refl _ | with_reducible refine Follows.ite ?_ ?_ 
    | with_reducible refine inc_follows ?_ .. | with_reducible refine learn_follows ?_ .. | with_reducible refine vitrineReceived_follows ?_ ..
    | fail_if_no_progress (with_reducible refine mk_follows ?_ rfl rfl) | fail_if_no_progress intros | split | extract_lets | dsimp only | dsimp +zetaDelta only)

theorem frameEnd_follows {s0 s : State} (h : Follows s0 s) (port slot : Nat) (x : RxSt) (b : Bytes) (ending : RxEnd) (load : List Nat) :
    Follows s0 (frameEnd port slot x b ending load s) := by
  unfold frameEnd
  repeat' (first
    | with_reducible assumption | with_reducible exact Follows.refl _ | with_reducible refine Follows.ite ?_ ?_ 
    | with_reducible refine countVerdict_follows ?_ .. | with_reducible refine modPort_follows ?_ .. | with_reducible refine endInCore_follows ?_ .. | with_reducible refine legalEnd_follows ?_ ..
    | fail_if_no_progress (with_reducible refine mk_follows ?_ rfl rfl) | fail_if_no_progress intros | split | extract_lets | dsimp only | dsimp +zetaDelta only)

theorem receiveFrame_follows {s0 s : State} (h : Follows s0 s) (port slot : Nat) (bytes : Bytes) (ending : RxEnd) (load : List Nat) :
    Follows s0 (receiveFrame port slot bytes ending load s) := by
  unfold receiveFrame
  repeat' (first
    | with_reducible assumption | with_reducible exact Follows.refl _ | with_reducible refine Follows.ite ?_ ?_ 
    | with_reducible refine setRx_follows ?_ .. | with_reducible refine firstCell_follows ?_ .. | with_reducible refine frameEnd_follows ?_ ..
    | fail_if_no_progress (with_reducible refine mk_follows ?_ rfl rfl) | fail_if_no_progress intros | split | extract_lets | dsimp only | dsimp +zetaDelta only)

theorem execFrameReceived_ends {s0 s : State} (h : Follows s0 s) (port : Fin 64) (dt : Nat) (bytes : FrameBytes) (ending : RxEnd) (bankLoad : List Nat) :
    Ends s0 (execFrameReceived port dt bytes ending bankLoad s) := by
  unfold execFrameReceived
  repeat' (first
    | with_reducible assumption | with_reducible exact Follows.refl _ | with_reducible refine Ends.of ?_ | with_reducible refine Ends.ite ?_ ?_ | with_reducible refine Follows.ite ?_ ?_ 
    | with_reducible refine passCore_follows ?_ .. | with_reducible refine receiveFrame_follows ?_ ..
    | fail_if_no_progress (with_reducible refine mk_follows ?_ rfl rfl) | fail_if_no_progress intros | split | extract_lets | dsimp only | dsimp +zetaDelta only)

theorem cutReception_follows {s0 s : State} (h : Follows s0 s) (slot : Nat) :
    Follows s0 (cutReception slot s) := by
  unfold cutReception
  repeat' (first
    | with_reducible assumption | with_reducible exact Follows.refl _ | with_reducible refine Follows.ite ?_ ?_ 
    | with_reducible refine draw_follows ?_ .. | with_reducible refine freeLoad_follows ?_ .. | with_reducible refine frameEnd_follows ?_ .. | with_reducible refine countVerdict_follows ?_ .. | with_reducible refine modPort_follows ?_ ..
    | fail_if_no_progress (with_reducible refine mk_follows ?_ rfl rfl) | fail_if_no_progress intros | split | extract_lets | dsimp only | dsimp +zetaDelta only)

theorem takePause_follows {s0 s : State} (h : Follows s0 s) (slot quanta : Nat) :
    Follows s0 (takePause slot quanta s) := by
  unfold takePause
  repeat' (first
    | with_reducible assumption | with_reducible exact Follows.refl _ | with_reducible refine Follows.ite ?_ ?_ 
    | with_reducible refine inc_follows ?_ .. | with_reducible refine loadPause_follows ?_ ..
    | fail_if_no_progress (with_reducible refine mk_follows ?_ rfl rfl) | fail_if_no_progress intros | split | extract_lets | dsimp only | dsimp +zetaDelta only)

theorem takePfc_follows {s0 s : State} (h : Follows s0 s) (slot enable : Nat) (times : List Nat) :
    Follows s0 (takePfc slot enable times s) := by
  unfold takePfc
  repeat' (first
    | with_reducible assumption | with_reducible exact Follows.refl _ | with_reducible refine Follows.ite ?_ ?_ | with_reducible refine forN_snd ?_ ?_ | with_reducible refine forN_third ?_ ?_ 
    | with_reducible refine loadPfc_follows ?_ .. | with_reducible refine forN_follows ?_ ?_ | with_reducible refine inc_follows ?_ ..
    | fail_if_no_progress (with_reducible refine mk_follows ?_ rfl rfl) | fail_if_no_progress intros | split | extract_lets | dsimp only | dsimp +zetaDelta only)

theorem execPauseReceive_ends {s0 s : State} (h : Follows s0 s) (port : Fin 64) (dt : Nat) (quanta : BitVec 16) :
    Ends s0 (execPauseReceive port dt quanta s) := by
  unfold execPauseReceive
  repeat' (first
    | with_reducible assumption | with_reducible exact Follows.refl _ | with_reducible refine Ends.of ?_ | with_reducible refine Ends.ite ?_ ?_ | with_reducible refine Follows.ite ?_ ?_ 
    | with_reducible refine passCore_follows ?_ .. | with_reducible refine takePause_follows ?_ ..
    | fail_if_no_progress (with_reducible refine mk_follows ?_ rfl rfl) | fail_if_no_progress intros | split | extract_lets | dsimp only | dsimp +zetaDelta only)

theorem execPfcReceive_ends {s0 s : State} (h : Follows s0 s) (port : Fin 64) (dt : Nat) (enable : BitVec 8) (time : List (BitVec 16)) :
    Ends s0 (execPfcReceive port dt enable time s) := by
  unfold execPfcReceive
  repeat' (first
    | with_reducible assumption | with_reducible exact Follows.refl _ | with_reducible refine Ends.of ?_ | with_reducible refine Ends.ite ?_ ?_ | with_reducible refine Follows.ite ?_ ?_ 
    | with_reducible refine passCore_follows ?_ .. | with_reducible refine takePfc_follows ?_ ..
    | fail_if_no_progress (with_reducible refine mk_follows ?_ rfl rfl) | fail_if_no_progress intros | split | extract_lets | dsimp only | dsimp +zetaDelta only)

theorem execHoldTimerExpire_ends {s0 s : State} (h : Follows s0 s) (port : Fin 64) (timer : HoldTimer) :
    Ends s0 (execHoldTimerExpire port timer s) := by
  unfold execHoldTimerExpire
  repeat' (first
    | with_reducible assumption | with_reducible exact Follows.refl _ | with_reducible refine Ends.of ?_ | with_reducible refine Ends.ite ?_ ?_ | with_reducible refine Follows.ite ?_ ?_ 
    | with_reducible refine settleHolds_follows ?_ .. | with_reducible refine judgeGates_follows ?_ .. | with_reducible refine advanceTo_follows ?_ .. | with_reducible refine modPort_follows ?_ ..
    | fail_if_no_progress (with_reducible refine mk_follows ?_ rfl rfl) | fail_if_no_progress intros | split | extract_lets | dsimp only | dsimp +zetaDelta only)

theorem loopFrame_follows {s0 s : State} (h : Follows s0 s) (slot : Nat) (bytes : Bytes) :
    Follows s0 (loopFrame slot bytes s) := by
  unfold loopFrame
  repeat' (first
    | with_reducible assumption | with_reducible exact Follows.refl _ | with_reducible refine Follows.ite ?_ ?_ 
    | with_reducible refine freeLoad_follows ?_ .. | with_reducible refine cutReception_follows ?_ .. | with_reducible refine receiveFrame_follows ?_ ..
    | fail_if_no_progress (with_reducible refine mk_follows ?_ rfl rfl) | fail_if_no_progress intros | split | extract_lets | dsimp only | dsimp +zetaDelta only)

theorem execControlFrameSend_ends {s0 s : State} (h : Follows s0 s) (port : Fin 64) :
    Ends s0 (execControlFrameSend port s) := by
  unfold execControlFrameSend
  repeat' (first
    | with_reducible assumption | with_reducible exact Follows.refl _ | with_reducible refine Ends.of ?_ | with_reducible refine Ends.ite ?_ ?_ | with_reducible refine Follows.ite ?_ ?_ 
    | with_reducible refine setPort_follows ?_ .. | with_reducible refine inc_follows ?_ .. | with_reducible refine countTx_follows ?_ .. | with_reducible refine occupyLine_follows ?_ .. | with_reducible refine loopFrame_follows ?_ .. | with_reducible refine releasePtp_follows ?_ .. | with_reducible refine takePfc_follows ?_ .. | with_reducible refine takePause_follows ?_ .. | with_reducible refine emit_follows ?_ ..
    | fail_if_no_progress (with_reducible refine mk_follows ?_ rfl rfl) | fail_if_no_progress intros | split | extract_lets | dsimp only | dsimp +zetaDelta only)

theorem execPfcRefresh_ends {s0 s : State} (h : Follows s0 s) (port : Fin 64) :
    Ends s0 (execPfcRefresh port s) := by
  unfold execPfcRefresh
  repeat' (first
    | with_reducible assumption | with_reducible exact Follows.refl _ | with_reducible refine Ends.of ?_ | with_reducible refine Ends.ite ?_ ?_ | with_reducible refine Follows.ite ?_ ?_ 
    | with_reducible refine advanceTo_follows ?_ .. | with_reducible refine modPort_follows ?_ .. | with_reducible refine queueControl_follows ?_ ..
    | fail_if_no_progress (with_reducible refine mk_follows ?_ rfl rfl) | fail_if_no_progress intros | split | extract_lets | dsimp only | dsimp +zetaDelta only)

theorem execEgressFrameStart_ends {s0 s : State} (h : Follows s0 s) (port : Fin 64) (dt : Nat) :
    Ends s0 (execEgressFrameStart port dt s) := by
  unfold execEgressFrameStart
  repeat' (first
    | with_reducible assumption | with_reducible exact Follows.refl _ | with_reducible refine Ends.of ?_ | with_reducible refine Ends.ite ?_ ?_ | with_reducible refine Follows.ite ?_ ?_ 
    | with_reducible refine passCore_follows ?_ .. | with_reducible refine beginCopy_follows ?_ ..
    | fail_if_no_progress (with_reducible refine mk_follows ?_ rfl rfl) | fail_if_no_progress intros | split | extract_lets | dsimp only | dsimp +zetaDelta only)

theorem sendCopy_follows {s0 s : State} (h : Follows s0 s) (slot struck : Nat) (good : Bool) (b : Bytes) :
    Follows s0 (sendCopy slot struck good b s) := by
  unfold sendCopy
  repeat' (first
    | with_reducible assumption | with_reducible exact Follows.refl _ | with_reducible refine Follows.ite ?_ ?_ 
    | with_reducible refine loopFrame_follows ?_ .. | with_reducible refine arrivesBad_follows ?_ .. | with_reducible refine emit_follows ?_ ..
    | fail_if_no_progress (with_reducible refine mk_follows ?_ rfl rfl) | fail_if_no_progress intros | split | extract_lets | dsimp only | dsimp +zetaDelta only)

theorem endCopy_follows {s0 s : State} (h : Follows s0 s) (slot : Nat) (t : TxSt) (f : Frame) :
    Follows s0 (endCopy slot t f s) := by
  unfold endCopy
  repeat' (first
    | with_reducible assumption | with_reducible exact Follows.refl _ | with_reducible refine Follows.ite ?_ ?_ 
    | with_reducible refine modPort_follows ?_ .. | with_reducible refine archiveRefate_follows ?_ .. | with_reducible refine countStomped_follows ?_ .. | with_reducible refine countTx_follows ?_ .. | with_reducible refine vitrineSent_follows ?_ .. | with_reducible refine inc_follows ?_ .. | with_reducible refine releasePtp_follows ?_ .. | with_reducible refine sendCopy_follows ?_ .. | with_reducible refine releaseRef_follows ?_ ..
    | fail_if_no_progress (with_reducible refine mk_follows ?_ rfl rfl) | fail_if_no_progress intros | split | extract_lets | dsimp only | dsimp +zetaDelta only)

theorem execEgressFrameEnd_ends {s0 s : State} (h : Follows s0 s) (port : Fin 64) (dt : Nat) :
    Ends s0 (execEgressFrameEnd port dt s) := by
  unfold execEgressFrameEnd
  repeat' (first
    | with_reducible assumption | with_reducible exact Follows.refl _ | with_reducible refine Ends.of ?_ | with_reducible refine Ends.ite ?_ ?_ | with_reducible refine Follows.ite ?_ ?_ 
    | with_reducible refine passCore_follows ?_ .. | with_reducible refine endCopy_follows ?_ ..
    | fail_if_no_progress (with_reducible refine mk_follows ?_ rfl rfl) | fail_if_no_progress intros | split | extract_lets | dsimp only | dsimp +zetaDelta only)

theorem execHeadFrameAge_ends {s0 s : State} (h : Follows s0 s) (port : Fin 64) (cls : Fin 8) :
    Ends s0 (execHeadFrameAge port cls s) := by
  unfold execHeadFrameAge
  repeat' (first
    | with_reducible assumption | with_reducible exact Follows.refl _ | with_reducible refine Ends.of ?_ | with_reducible refine Ends.ite ?_ ?_ | with_reducible refine Follows.ite ?_ ?_ 
    | with_reducible refine judgeGates_follows ?_ .. | with_reducible refine advanceTo_follows ?_ .. | with_reducible refine endRef_follows ?_ .. | with_reducible refine dequeue_follows ?_ .. | with_reducible refine judgePromotion_follows ?_ .. | with_reducible refine raise_follows ?_ .. | with_reducible refine inc_follows ?_ ..
    | fail_if_no_progress (with_reducible refine mk_follows ?_ rfl rfl) | fail_if_no_progress intros | split | extract_lets | dsimp only | dsimp +zetaDelta only)

theorem execFdbAgeSweep_ends {s0 s : State} (h : Follows s0 s) :
    Ends s0 (execFdbAgeSweep s) := by
  unfold execFdbAgeSweep
  repeat' (first
    | with_reducible assumption | with_reducible exact Follows.refl _ | with_reducible refine Ends.of ?_ | with_reducible refine Ends.ite ?_ ?_ | with_reducible refine Follows.ite ?_ ?_ 
    | with_reducible refine fdbSweep_follows ?_ .. | with_reducible refine advanceTo_follows ?_ ..
    | fail_if_no_progress (with_reducible refine mk_follows ?_ rfl rfl) | fail_if_no_progress intros | split | extract_lets | dsimp only | dsimp +zetaDelta only)

theorem effFdbAgeTime_follows {s0 s : State} (h : Follows s0 s) (x1 v : Nat) :
    Follows s0 (effFdbAgeTime x1 v s) := by
  unfold effFdbAgeTime
  repeat' (first
    | with_reducible assumption | with_reducible exact Follows.refl _ | with_reducible refine Follows.ite ?_ ?_ 
    | with_reducible refine restartSweep_follows ?_ .. | with_reducible refine w0_follows ?_ ..
    | fail_if_no_progress (with_reducible refine mk_follows ?_ rfl rfl) | fail_if_no_progress intros | split | extract_lets | dsimp only | dsimp +zetaDelta only)

theorem execFdbAgeTimeWrite_ends {s0 s : State} (h : Follows s0 s) (w : WriteReq) :
    Ends s0 (execFdbAgeTimeWrite w s) := by
  unfold execFdbAgeTimeWrite
  repeat' (first
    | with_reducible assumption | with_reducible exact Follows.refl _ | with_reducible refine Ends.of ?_ | with_reducible refine Ends.ite ?_ ?_ | with_reducible refine Follows.ite ?_ ?_ 
    | with_reducible refine catWrite_follows ?_ ?_ .. | with_reducible refine effFdbAgeTime_follows ?_ ..
    | fail_if_no_progress (with_reducible refine mk_follows ?_ rfl rfl) | fail_if_no_progress intros | split | extract_lets | dsimp only | dsimp +zetaDelta only)

theorem execFdbFlushLearned_ends {s0 s : State} (h : Follows s0 s) (w : WriteReq) :
    Ends s0 (execFdbFlushLearned w s) := by
  unfold execFdbFlushLearned
  repeat' (first
    | with_reducible assumption | with_reducible exact Follows.refl _ | with_reducible refine Ends.of ?_ | with_reducible refine Ends.ite ?_ ?_ | with_reducible refine Follows.ite ?_ ?_ 
    | with_reducible refine catWrite_follows ?_ ?_ .. | with_reducible refine effBool_follows ?_ ?_ .. | with_reducible refine fdbFlush_follows ?_ ..
    | fail_if_no_progress (with_reducible refine mk_follows ?_ rfl rfl) | fail_if_no_progress intros | split | extract_lets | dsimp only | dsimp +zetaDelta only)

end Sys2Proof.Machine
end

