-- ==== Sys2Proof/Laws/EventsFollows.lean ====
section
/-! SUPPORT. Every operation of Events follows. -/

set_option linter.unreachableTactic false
set_option linter.unusedTactic false

namespace Sys2Proof.Machine

theorem notifySession_follows {s0 s : State} (h : Follows s0 s) (slot kind : Nat) (body : Bytes) :
    Follows s0 (notifySession slot kind body s) := by
  unfold notifySession
  repeat' (first
    | with_reducible assumption | with_reducible exact Follows.refl _ | with_reducible refine Follows.ite ?_ ?_ 
    | with_reducible refine nextNotify_follows ?_ .. | with_reducible refine sendPdu_follows ?_ ..
    | fail_if_no_progress (with_reducible refine mk_follows ?_ rfl rfl) | fail_if_no_progress intros | split | extract_lets | dsimp only | dsimp +zetaDelta only)

theorem effEventClear_follows {s0 s : State} (h : Follows s0 s) (w v : Nat) :
    Follows s0 (effEventClear w v s) := by
  unfold effEventClear
  repeat' (first
    | with_reducible assumption | with_reducible exact Follows.refl _ | with_reducible refine Follows.ite ?_ ?_ 
    | with_reducible refine perfNow_follows ?_ .. | with_reducible refine w1_follows ?_ ..
    | fail_if_no_progress (with_reducible refine mk_follows ?_ rfl rfl) | fail_if_no_progress intros | split | extract_lets | dsimp only | dsimp +zetaDelta only)

theorem execEventClear_ends {s0 s : State} (h : Follows s0 s) (word : Fin 16) (w : WriteReq) :
    Ends s0 (execEventClear word w s) := by
  unfold execEventClear
  repeat' (first
    | with_reducible assumption | with_reducible exact Follows.refl _ | with_reducible refine Ends.of ?_ | with_reducible refine Ends.ite ?_ ?_ | with_reducible refine Follows.ite ?_ ?_ 
    | with_reducible refine catWrite_follows ?_ ?_ .. | with_reducible refine effEventClear_follows ?_ ..
    | fail_if_no_progress (with_reducible refine mk_follows ?_ rfl rfl) | fail_if_no_progress intros | split | extract_lets | dsimp only | dsimp +zetaDelta only)

theorem effEventMask_follows {s0 s : State} (h : Follows s0 s) (idx : Nat) (w v : Nat) :
    Follows s0 (effEventMask idx w v s) := by
  unfold effEventMask
  repeat' (first
    | with_reducible assumption | with_reducible exact Follows.refl _ | with_reducible refine Follows.ite ?_ ?_ 
    | with_reducible refine perfNow_follows ?_ .. | with_reducible refine w1_follows ?_ ..
    | fail_if_no_progress (with_reducible refine mk_follows ?_ rfl rfl) | fail_if_no_progress intros | split | extract_lets | dsimp only | dsimp +zetaDelta only)

theorem execEventMaskWrite_ends {s0 s : State} (h : Follows s0 s) (mask : Fin 3) (word : Fin 16) (w : WriteReq) :
    Ends s0 (execEventMaskWrite mask word w s) := by
  unfold execEventMaskWrite
  repeat' (first
    | with_reducible assumption | with_reducible exact Follows.refl _ | with_reducible refine Ends.of ?_ | with_reducible refine Ends.ite ?_ ?_ | with_reducible refine Follows.ite ?_ ?_ 
    | with_reducible refine catWrite_follows ?_ ?_ .. | with_reducible refine effEventMask_follows ?_ ..
    | fail_if_no_progress (with_reducible refine mk_follows ?_ rfl rfl) | fail_if_no_progress intros | split | extract_lets | dsimp only | dsimp +zetaDelta only)

theorem effEventHold_follows {s0 s : State} (h : Follows s0 s) (x1 v : Nat) :
    Follows s0 (effEventHold x1 v s) := by
  unfold effEventHold
  repeat' (first
    | with_reducible assumption | with_reducible exact Follows.refl _ | with_reducible refine Follows.ite ?_ ?_ 
    | with_reducible refine w0_follows ?_ ..
    | fail_if_no_progress (with_reducible refine mk_follows ?_ rfl rfl) | fail_if_no_progress intros | split | extract_lets | dsimp only | dsimp +zetaDelta only)

theorem execEventHoldWrite_ends {s0 s : State} (h : Follows s0 s) (w : WriteReq) :
    Ends s0 (execEventHoldWrite w s) := by
  unfold execEventHoldWrite
  repeat' (first
    | with_reducible assumption | with_reducible exact Follows.refl _ | with_reducible refine Ends.of ?_ | with_reducible refine Ends.ite ?_ ?_ | with_reducible refine Follows.ite ?_ ?_ 
    | with_reducible refine catWrite_follows ?_ ?_ .. | with_reducible refine effEventHold_follows ?_ ..
    | fail_if_no_progress (with_reducible refine mk_follows ?_ rfl rfl) | fail_if_no_progress intros | split | extract_lets | dsimp only | dsimp +zetaDelta only)

theorem buildEventBody_follows {s0 s : State} (h : Follows s0 s) :
    Follows s0 (buildEventBody s) := by
  unfold buildEventBody
  repeat' (first
    | with_reducible assumption | with_reducible exact Follows.refl _ | with_reducible refine Follows.ite ?_ ?_ 
    | fail_if_no_progress (with_reducible refine mk_follows ?_ rfl rfl) | fail_if_no_progress intros | split | extract_lets | dsimp only | dsimp +zetaDelta only)

theorem eventCopy_follows {s0 s : State} (h : Follows s0 s) (slot : Nat) :
    Follows s0 (eventCopy slot s) := by
  unfold eventCopy
  repeat' (first
    | with_reducible assumption | with_reducible exact Follows.refl _ | with_reducible refine Follows.ite ?_ ?_ 
    | with_reducible refine inc0_follows ?_ .. | with_reducible refine notifySession_follows ?_ ..
    | fail_if_no_progress (with_reducible refine mk_follows ?_ rfl rfl) | fail_if_no_progress intros | split | extract_lets | dsimp only | dsimp +zetaDelta only)

theorem sendEventCopies_follows {s0 s : State} (h : Follows s0 s) (n : Nat) :
    Follows s0 (sendEventCopies n s) := by
  unfold sendEventCopies
  repeat' (first
    | with_reducible assumption | with_reducible exact Follows.refl _ | with_reducible refine Follows.ite ?_ ?_ | with_reducible refine forL_snd ?_ ?_ | with_reducible refine forL_third ?_ ?_ 
    | with_reducible refine forL_follows ?_ ?_ | with_reducible refine eventCopy_follows ?_ ..
    | fail_if_no_progress (with_reducible refine mk_follows ?_ rfl rfl) | fail_if_no_progress intros | split | extract_lets | dsimp only | dsimp +zetaDelta only)

theorem notifyJob_follows {s0 s : State} (h : Follows s0 s) :
    Follows s0 (notifyJob s) := by
  unfold notifyJob
  repeat' (first
    | with_reducible assumption | with_reducible exact Follows.refl _ | with_reducible refine Follows.ite ?_ ?_ 
    | with_reducible refine perfNow_follows ?_ .. | with_reducible refine buildEventBody_follows ?_ .. | with_reducible refine sendEventCopies_follows ?_ ..
    | fail_if_no_progress (with_reducible refine mk_follows ?_ rfl rfl) | fail_if_no_progress intros | split | extract_lets | dsimp only | dsimp +zetaDelta only)

theorem notifyJobEnds_follows {s0 s : State} (h : Follows s0 s) :
    Follows s0 (notifyJobEnds s) := by
  unfold notifyJobEnds
  repeat' (first
    | with_reducible assumption | with_reducible exact Follows.refl _ | with_reducible refine Follows.ite ?_ ?_ 
    | with_reducible refine sendEventCopies_follows ?_ ..
    | fail_if_no_progress (with_reducible refine mk_follows ?_ rfl rfl) | fail_if_no_progress intros | split | extract_lets | dsimp only | dsimp +zetaDelta only)

theorem execEventNotify_ends {s0 s : State} (h : Follows s0 s) :
    Ends s0 (execEventNotify s) := by
  unfold execEventNotify
  repeat' (first
    | with_reducible assumption | with_reducible exact Follows.refl _ | with_reducible refine Ends.of ?_ | with_reducible refine Ends.ite ?_ ?_ | with_reducible refine Follows.ite ?_ ?_ 
    | with_reducible refine notifyJob_follows ?_ ..
    | fail_if_no_progress (with_reducible refine mk_follows ?_ rfl rfl) | fail_if_no_progress intros | split | extract_lets | dsimp only | dsimp +zetaDelta only)

theorem execEventCountClear_ends {s0 s : State} (h : Follows s0 s) (w : WriteReq) :
    Ends s0 (execEventCountClear w s) := by
  unfold execEventCountClear
  repeat' (first
    | with_reducible assumption | with_reducible exact Follows.refl _ | with_reducible refine Ends.of ?_ | with_reducible refine Ends.ite ?_ ?_ | with_reducible refine Follows.ite ?_ ?_ 
    | with_reducible refine catWrite_follows ?_ ?_ .. | with_reducible refine effClear_follows ?_ ?_ .. | with_reducible refine dropIdx_follows ?_ .. | with_reducible refine perfNow_follows ?_ ..
    | fail_if_no_progress (with_reducible refine mk_follows ?_ rfl rfl) | fail_if_no_progress intros | split | extract_lets | dsimp only | dsimp +zetaDelta only)

end Sys2Proof.Machine
end

