-- ==== Sys2Proof/Laws/ArmsFollows.lean ====
section
/-! SUPPORT. Every operation of Arms follows. -/

set_option linter.unreachableTactic false
set_option linter.unusedTactic false

namespace Sys2Proof.Machine

theorem stageEntry_follows {s0 s : State} (h : Follows s0 s) (idx sub row v : Nat) :
    ∀ t, stageEntry idx sub row v s = some t → Follows s0 t := by
  unfold stageEntry
  intro t e
  dsimp only at e
  split at e
  · cases e
    exact modOpn_follows h _
  · cases e

theorem pushRecord_follows {s0 s : State} (h : Follows s0 s) (v : Nat) :
    Follows s0 (pushRecord v s) := by
  unfold pushRecord
  repeat' (first
    | with_reducible assumption | with_reducible exact Follows.refl _ | with_reducible refine Follows.ite ?_ ?_ | with_reducible refine forN_snd ?_ ?_ | with_reducible refine forN_third ?_ ?_ 
    | with_reducible refine forN_follows ?_ ?_ | with_reducible refine wr_follows ?_ ..
    | fail_if_no_progress (with_reducible refine mk_follows ?_ rfl rfl) | fail_if_no_progress intros | split | extract_lets | dsimp only | dsimp +zetaDelta only)

theorem notice_follows {s0 s : State} (h : Follows s0 s) (id tick result : Nat) (armer : Option (Nat × Peer)) (subscribers : Bool) :
    Follows s0 (notice id tick result armer subscribers s) := by
  unfold notice
  repeat' (first
    | with_reducible assumption | with_reducible exact Follows.refl _ | with_reducible refine Follows.ite ?_ ?_ 
    | with_reducible refine modOpn_follows ?_ ..
    | fail_if_no_progress (with_reducible refine mk_follows ?_ rfl rfl) | fail_if_no_progress intros | split | extract_lets | dsimp only | dsimp +zetaDelta only)

theorem refuseArm_follows {s0 s : State} (h : Follows s0 s) (w : WaitingArm) (outcome : Nat) :
    Follows s0 (refuseArm w outcome s) := by
  unfold refuseArm
  repeat' (first
    | with_reducible assumption | with_reducible exact Follows.refl _ | with_reducible refine Follows.ite ?_ ?_ 
    | with_reducible refine pushRecord_follows ?_ .. | with_reducible refine notice_follows ?_ .. | with_reducible refine inc0_follows ?_ ..
    | fail_if_no_progress (with_reducible refine mk_follows ?_ rfl rfl) | fail_if_no_progress intros | split | extract_lets | dsimp only | dsimp +zetaDelta only)

theorem emptyShadow_follows {s0 s : State} (h : Follows s0 s) :
    Follows s0 (emptyShadow s) := by
  unfold emptyShadow
  repeat' (first
    | with_reducible assumption | with_reducible exact Follows.refl _ | with_reducible refine Follows.ite ?_ ?_ 
    | with_reducible refine modOpn_follows ?_ ..
    | fail_if_no_progress (with_reducible refine mk_follows ?_ rfl rfl) | fail_if_no_progress intros | split | extract_lets | dsimp only | dsimp +zetaDelta only)

theorem armNow_follows {s0 s : State} (h : Follows s0 s) (w : WaitingArm) :
    Follows s0 (armNow w s) := by
  unfold armNow
  repeat' (first
    | with_reducible assumption | with_reducible exact Follows.refl _ | with_reducible refine Follows.ite ?_ ?_ 
    | with_reducible refine modOpn_follows ?_ .. | with_reducible refine count_follows ?_ ..
    | fail_if_no_progress (with_reducible refine mk_follows ?_ rfl rfl) | fail_if_no_progress intros | split | extract_lets | dsimp only | dsimp +zetaDelta only)

theorem armMatched_follows {s0 s : State} (h : Follows s0 s) (w : WaitingArm) :
    Follows s0 (armMatched w s).2 := by
  unfold armMatched
  repeat' (first
    | with_reducible assumption | with_reducible exact Follows.refl _ | with_reducible refine Follows.ite ?_ ?_ 
    | with_reducible refine emptyShadow_follows ?_ .. | with_reducible refine armNow_follows ?_ ..
    | fail_if_no_progress (with_reducible refine mk_follows ?_ rfl rfl) | fail_if_no_progress intros | split | extract_lets | dsimp only | dsimp +zetaDelta only)

theorem recheckArms_follows {s0 s : State} (h : Follows s0 s) (n : Nat) : Follows s0 (recheckArms n s) := by
  induction n generalizing s with
  | zero => exact h
  | succ n ih =>
    unfold recheckArms
    split
    · exact h
    · have k := fun w => armMatched_follows (modOpn_follows h (fun o => { o with waiting := o.waiting.erase w })) w
      exact ih (Follows.ite (notice_follows (k _) ..) (refuseArm_follows (k _) ..))

theorem recheck_follows {s0 s : State} (h : Follows s0 s) :
    Follows s0 (recheck s) := by
  unfold recheck
  repeat' (first
    | with_reducible assumption | with_reducible exact Follows.refl _ | with_reducible refine Follows.ite ?_ ?_ 
    | with_reducible refine recheckArms_follows ?_ ..
    | fail_if_no_progress (with_reducible refine mk_follows ?_ rfl rfl) | fail_if_no_progress intros | split | extract_lets | dsimp only | dsimp +zetaDelta only)

theorem incomplete_follows {s0 s : State} (h : Follows s0 s) (w : WaitingArm) :
    Follows s0 (incomplete w s) := by
  unfold incomplete
  repeat' (first
    | with_reducible assumption | with_reducible exact Follows.refl _ | with_reducible refine Follows.ite ?_ ?_ 
    | with_reducible refine refuseArm_follows ?_ .. | with_reducible refine emptyShadow_follows ?_ .. | with_reducible refine modOpn_follows ?_ ..
    | fail_if_no_progress (with_reducible refine mk_follows ?_ rfl rfl) | fail_if_no_progress intros | split | extract_lets | dsimp only | dsimp +zetaDelta only)

theorem expireArms_follows {s0 s : State} (h : Follows s0 s) :
    Follows s0 (expireArms s) := by
  unfold expireArms
  repeat' (first
    | with_reducible assumption | with_reducible exact Follows.refl _ | with_reducible refine Follows.ite ?_ ?_ | with_reducible refine forL_snd ?_ ?_ | with_reducible refine forL_third ?_ ?_ 
    | with_reducible refine recheck_follows ?_ .. | with_reducible refine forL_follows ?_ ?_ | with_reducible refine incomplete_follows ?_ ..
    | fail_if_no_progress (with_reducible refine mk_follows ?_ rfl rfl) | fail_if_no_progress intros | split | extract_lets | dsimp only | dsimp +zetaDelta only)

theorem armRequest_follows {s0 s : State} (h : Follows s0 s) (serial : Nat) (peer : Peer) (received id tick count digest participants : Nat) :
    Follows s0 (armRequest serial peer received id tick count digest participants s).2 := by
  unfold armRequest
  repeat' (first
    | with_reducible assumption | with_reducible exact Follows.refl _ | with_reducible refine Follows.ite ?_ ?_ 
    | with_reducible refine expireArms_follows ?_ .. | with_reducible refine count_follows ?_ .. | with_reducible refine refuseArm_follows ?_ .. | with_reducible refine armMatched_follows ?_ .. | with_reducible refine recheck_follows ?_ .. | with_reducible refine modOpn_follows ?_ ..
    | fail_if_no_progress (with_reducible refine mk_follows ?_ rfl rfl) | fail_if_no_progress intros | split | extract_lets | dsimp only | dsimp +zetaDelta only)

theorem execArmDeadline_ends {s0 s : State} (h : Follows s0 s) (id : BitVec 32) :
    Ends s0 (execArmDeadline id s) := by
  unfold execArmDeadline
  repeat' (first
    | with_reducible assumption | with_reducible exact Follows.refl _ | with_reducible refine Ends.of ?_ | with_reducible refine Ends.ite ?_ ?_ | with_reducible refine Follows.ite ?_ ?_ 
    | with_reducible refine recheck_follows ?_ .. | with_reducible refine incomplete_follows ?_ ..
    | fail_if_no_progress (with_reducible refine mk_follows ?_ rfl rfl) | fail_if_no_progress intros | split | extract_lets | dsimp only | dsimp +zetaDelta only)

theorem cancelWaiting_follows {s0 s : State} (h : Follows s0 s) (id : Nat) :
    Follows s0 (cancelRequest.cancelWaiting id s).2 := by
  unfold cancelRequest.cancelWaiting
  split
  · exact h
  · exact recheck_follows (notice_follows (inc0_follows (pushRecord_follows (emptyShadow_follows (modOpn_follows h _)) _) _) ..)

theorem cancelRequest_follows {s0 s : State} (h : Follows s0 s) (received id : Nat) :
    Follows s0 (cancelRequest received id s).2 := by
  have k := expireArms_follows h
  unfold cancelRequest
  dsimp only
  split
  · split
    · split
      · dsimp only; exact modOpn_follows k _
      · exact notice_follows (inc0_follows (pushRecord_follows (modOpn_follows k _) _) _) ..
    · exact cancelWaiting_follows k _
  · exact cancelWaiting_follows k _

theorem effShadowDiscard_follows {s0 s : State} (h : Follows s0 s) (st v : Nat) :
    Follows s0 (effShadowDiscard st v s) := by
  unfold effShadowDiscard
  repeat' (first
    | with_reducible assumption | with_reducible exact Follows.refl _ | with_reducible refine Follows.ite ?_ ?_ 
    | with_reducible refine effBool_follows ?_ ?_ .. | with_reducible refine emptyShadow_follows ?_ ..
    | fail_if_no_progress (with_reducible refine mk_follows ?_ rfl rfl) | fail_if_no_progress intros | split | extract_lets | dsimp only | dsimp +zetaDelta only)

theorem execShadowDiscard_ends {s0 s : State} (h : Follows s0 s) (w : WriteReq) :
    Ends s0 (execShadowDiscard w s) := by
  unfold execShadowDiscard
  repeat' (first
    | with_reducible assumption | with_reducible exact Follows.refl _ | with_reducible refine Ends.of ?_ | with_reducible refine Ends.ite ?_ ?_ | with_reducible refine Follows.ite ?_ ?_ 
    | with_reducible refine catWrite_follows ?_ ?_ .. | with_reducible refine effShadowDiscard_follows ?_ ..
    | fail_if_no_progress (with_reducible refine mk_follows ?_ rfl rfl) | fail_if_no_progress intros | split | extract_lets | dsimp only | dsimp +zetaDelta only)

theorem effTickMaxClear_follows {s0 s : State} (h : Follows s0 s) (st v : Nat) :
    Follows s0 (effTickMaxClear st v s) := by
  unfold effTickMaxClear
  repeat' (first
    | with_reducible assumption | with_reducible exact Follows.refl _ | with_reducible refine Follows.ite ?_ ?_ 
    | with_reducible refine effClear_follows ?_ ?_ .. | with_reducible refine dropIdx_follows ?_ ..
    | fail_if_no_progress (with_reducible refine mk_follows ?_ rfl rfl) | fail_if_no_progress intros | split | extract_lets | dsimp only | dsimp +zetaDelta only)

theorem execTickMaxClear_ends {s0 s : State} (h : Follows s0 s) (w : WriteReq) :
    Ends s0 (execTickMaxClear w s) := by
  unfold execTickMaxClear
  repeat' (first
    | with_reducible assumption | with_reducible exact Follows.refl _ | with_reducible refine Ends.of ?_ | with_reducible refine Ends.ite ?_ ?_ | with_reducible refine Follows.ite ?_ ?_ 
    | with_reducible refine catWrite_follows ?_ ?_ .. | with_reducible refine effTickMaxClear_follows ?_ ..
    | fail_if_no_progress (with_reducible refine mk_follows ?_ rfl rfl) | fail_if_no_progress intros | split | extract_lets | dsimp only | dsimp +zetaDelta only)

theorem notifyArmer_follows {s0 s : State} (h : Follows s0 s) (n : Notice) (a : Nat × Peer) :
    Follows s0 (notifyArmer n a s) := by
  unfold notifyArmer
  repeat' (first
    | with_reducible assumption | with_reducible exact Follows.refl _ | with_reducible refine Follows.ite ?_ ?_ 
    | with_reducible refine notifySession_follows ?_ .. | with_reducible refine nextNotify_follows ?_ .. | with_reducible refine sendPdu_follows ?_ ..
    | fail_if_no_progress (with_reducible refine mk_follows ?_ rfl rfl) | fail_if_no_progress intros | split | extract_lets | dsimp only | dsimp +zetaDelta only)

theorem sendNotice_follows {s0 s : State} (h : Follows s0 s) (n : Notice) :
    Follows s0 (sendNotice n s) := by
  unfold sendNotice
  repeat' (first
    | with_reducible assumption | with_reducible exact Follows.refl _ | with_reducible refine Follows.ite ?_ ?_ | with_reducible refine forL_snd ?_ ?_ | with_reducible refine forL_third ?_ ?_ 
    | with_reducible refine notifyArmer_follows ?_ .. | with_reducible refine forL_follows ?_ ?_ | with_reducible refine notifySession_follows ?_ ..
    | fail_if_no_progress (with_reducible refine mk_follows ?_ rfl rfl) | fail_if_no_progress intros | split | extract_lets | dsimp only | dsimp +zetaDelta only)

theorem sendNotices_follows {s0 s : State} (h : Follows s0 s) :
    Follows s0 (sendNotices s) := by
  unfold sendNotices
  repeat' (first
    | with_reducible assumption | with_reducible exact Follows.refl _ | with_reducible refine Follows.ite ?_ ?_ | with_reducible refine forL_snd ?_ ?_ | with_reducible refine forL_third ?_ ?_ 
    | with_reducible refine forL_follows ?_ ?_ | with_reducible refine sendNotice_follows ?_ .. | with_reducible refine modOpn_follows ?_ ..
    | fail_if_no_progress (with_reducible refine mk_follows ?_ rfl rfl) | fail_if_no_progress intros | split | extract_lets | dsimp only | dsimp +zetaDelta only)

theorem execOpeningOutcomeNotify_ends {s0 s : State} (h : Follows s0 s) :
    Ends s0 (execOpeningOutcomeNotify s) := by
  unfold execOpeningOutcomeNotify
  repeat' (first
    | with_reducible assumption | with_reducible exact Follows.refl _ | with_reducible refine Ends.of ?_ | with_reducible refine Ends.ite ?_ ?_ | with_reducible refine Follows.ite ?_ ?_ 
    | with_reducible refine sendNotices_follows ?_ ..
    | fail_if_no_progress (with_reducible refine mk_follows ?_ rfl rfl) | fail_if_no_progress intros | split | extract_lets | dsimp only | dsimp +zetaDelta only)

theorem inventoryRequest_follows {s0 s : State} (h : Follows s0 s) (received id tick : Nat) :
    Follows s0 (inventoryRequest received id tick s).2 := by
  unfold inventoryRequest
  repeat' (first
    | with_reducible assumption | with_reducible exact Follows.refl _ | with_reducible refine Follows.ite ?_ ?_ 
    | with_reducible refine w1_follows ?_ .. | with_reducible refine setBank_follows ?_ ..
    | fail_if_no_progress (with_reducible refine mk_follows ?_ rfl rfl) | fail_if_no_progress intros | split | extract_lets | dsimp only | dsimp +zetaDelta only)

theorem freeBank_follows {s0 s : State} (h : Follows s0 s) (b : Nat) :
    Follows s0 (freeBank b s) := by
  unfold freeBank
  repeat' (first
    | with_reducible assumption | with_reducible exact Follows.refl _ | with_reducible refine Follows.ite ?_ ?_ 
    | with_reducible refine setBank_follows ?_ .. | with_reducible refine w1_follows ?_ ..
    | fail_if_no_progress (with_reducible refine mk_follows ?_ rfl rfl) | fail_if_no_progress intros | split | extract_lets | dsimp only | dsimp +zetaDelta only)

end Sys2Proof.Machine
end

