-- ==== Sys2Proof/Laws/PowerFollows.lean ====
section
/-! SUPPORT. Every operation of Power follows. -/

set_option linter.unreachableTactic false
set_option linter.unusedTactic false

namespace Sys2Proof.Machine

theorem modPwr_follows {s0 s : State} (h : Follows s0 s) (f : PwrSt → PwrSt) :
    Follows s0 (modPwr f s) := by
  unfold modPwr
  repeat' (first
    | with_reducible assumption | with_reducible exact Follows.refl _ | with_reducible refine Follows.ite ?_ ?_ 
    | fail_if_no_progress (with_reducible refine mk_follows ?_ rfl rfl) | fail_if_no_progress intros | split | extract_lets | dsimp only | dsimp +zetaDelta only)

theorem judgePowerGood_follows {s0 s : State} (h : Follows s0 s) :
    Follows s0 (judgePowerGood s) := by
  unfold judgePowerGood
  repeat' (first
    | with_reducible assumption | with_reducible exact Follows.refl _ | with_reducible refine Follows.ite ?_ ?_ 
    | with_reducible refine w0_follows ?_ ..
    | fail_if_no_progress (with_reducible refine mk_follows ?_ rfl rfl) | fail_if_no_progress intros | split | extract_lets | dsimp only | dsimp +zetaDelta only)

theorem sentBytes_follows {s0 s : State} (h : Follows s0 s) (f : Frame) (slot n : Nat) :
    Follows s0 (sentBytes f slot n s).2 := by
  unfold sentBytes
  repeat' (first
    | with_reducible assumption | with_reducible exact Follows.refl _ | with_reducible refine Follows.ite ?_ ?_ 
    | with_reducible refine draw_follows ?_ ..
    | fail_if_no_progress (with_reducible refine mk_follows ?_ rfl rfl) | fail_if_no_progress intros | split | extract_lets | dsimp only | dsimp +zetaDelta only)

theorem endStomped_follows {s0 s : State} (h : Follows s0 s) (fate slot : Nat) :
    Follows s0 (endStomped fate slot s) := by
  unfold endStomped
  repeat' (first
    | with_reducible assumption | with_reducible exact Follows.refl _ | with_reducible refine Follows.ite ?_ ?_ 
    | with_reducible refine modPort_follows ?_ .. | with_reducible refine sentBytes_follows ?_ .. | with_reducible refine archiveRefate_follows ?_ .. | with_reducible refine countStomped_follows ?_ .. | with_reducible refine releaseRef_follows ?_ .. | with_reducible refine emit_follows ?_ ..
    | fail_if_no_progress (with_reducible refine mk_follows ?_ rfl rfl) | fail_if_no_progress intros | split | extract_lets | dsimp only | dsimp +zetaDelta only)

theorem clearBuffer_follows {s0 s : State} (h : Follows s0 s) (begun fate : Nat) :
    Follows s0 (clearBuffer begun fate s).2 := by
  unfold clearBuffer
  repeat' (first
    | with_reducible assumption | with_reducible exact Follows.refl _ | with_reducible refine Follows.ite ?_ ?_ | with_reducible refine forL_snd ?_ ?_ | with_reducible refine forL_third ?_ ?_ | with_reducible refine forN_snd ?_ ?_ | with_reducible refine forN_third ?_ ?_ 
    | with_reducible refine forN_follows ?_ ?_ | with_reducible refine endStomped_follows ?_ .. | with_reducible refine perfEvent_follows ?_ .. | with_reducible refine forL_follows ?_ ?_ | with_reducible refine archiveFate_follows ?_ .. | with_reducible refine w1_follows ?_ .. | with_reducible refine modPort_follows ?_ ..
    | fail_if_no_progress (with_reducible refine mk_follows ?_ rfl rfl) | fail_if_no_progress intros | split | extract_lets | dsimp only | dsimp +zetaDelta only)

theorem loseWindows_follows {s0 s : State} (h : Follows s0 s) :
    Follows s0 (loseWindows s) := by
  unfold loseWindows
  repeat' (first
    | with_reducible assumption | with_reducible exact Follows.refl _ | with_reducible refine Follows.ite ?_ ?_ | with_reducible refine forL_snd ?_ ?_ | with_reducible refine forL_third ?_ ?_ 
    | with_reducible refine forL_follows ?_ ?_ | with_reducible refine endRef_follows ?_ ..
    | fail_if_no_progress (with_reducible refine mk_follows ?_ rfl rfl) | fail_if_no_progress intros | split | extract_lets | dsimp only | dsimp +zetaDelta only)

theorem coreSleep_follows {s0 s : State} (h : Follows s0 s) :
    Follows s0 (coreSleep s) := by
  unfold coreSleep
  repeat' (first
    | with_reducible assumption | with_reducible exact Follows.refl _ | with_reducible refine Follows.ite ?_ ?_ | with_reducible refine forL_snd ?_ ?_ | with_reducible refine forL_third ?_ ?_ 
    | with_reducible refine forL_follows ?_ ?_ | with_reducible refine syncGate_follows ?_ .. | with_reducible refine judgeGates_follows ?_ .. | with_reducible refine restartSweep_follows ?_ .. | with_reducible refine fdbSweep_follows ?_ .. | with_reducible refine clearBuffer_follows ?_ .. | with_reducible refine count_follows ?_ ..
    | fail_if_no_progress (with_reducible refine mk_follows ?_ rfl rfl) | fail_if_no_progress intros | split | extract_lets | dsimp only | dsimp +zetaDelta only)

theorem endAsleep_follows {s0 s : State} (h : Follows s0 s) (slot : Nat) :
    Follows s0 (endAsleep slot s) := by
  unfold endAsleep
  repeat' (first
    | with_reducible assumption | with_reducible exact Follows.refl _ | with_reducible refine Follows.ite ?_ ?_ 
    | with_reducible refine inc_follows ?_ .. | with_reducible refine endStomped_follows ?_ ..
    | fail_if_no_progress (with_reducible refine mk_follows ?_ rfl rfl) | fail_if_no_progress intros | split | extract_lets | dsimp only | dsimp +zetaDelta only)

theorem bankSleep_follows {s0 s : State} (h : Follows s0 s) (bank : Nat) :
    Follows s0 (bankSleep bank s) := by
  unfold bankSleep
  repeat' (first
    | with_reducible assumption | with_reducible exact Follows.refl _ | with_reducible refine Follows.ite ?_ ?_ | with_reducible refine forN_snd ?_ ?_ | with_reducible refine forN_third ?_ ?_ 
    | with_reducible refine laneBankSleep_follows ?_ .. | with_reducible refine forN_follows ?_ ?_ | with_reducible refine endAsleep_follows ?_ ..
    | fail_if_no_progress (with_reducible refine mk_follows ?_ rfl rfl) | fail_if_no_progress intros | split | extract_lets | dsimp only | dsimp +zetaDelta only)

theorem domainLeaves_follows {s0 s : State} (h : Follows s0 s) (d : Nat) :
    Follows s0 (domainLeaves d s) := by
  unfold domainLeaves
  repeat' (first
    | with_reducible assumption | with_reducible exact Follows.refl _ | with_reducible refine Follows.ite ?_ ?_ 
    | with_reducible refine clocksSleep_follows ?_ .. | with_reducible refine coreSleep_follows ?_ .. | with_reducible refine bankSleep_follows ?_ .. | with_reducible refine loseWindows_follows ?_ .. | with_reducible refine overdueSwitch_follows ?_ ..
    | fail_if_no_progress (with_reducible refine mk_follows ?_ rfl rfl) | fail_if_no_progress intros | split | extract_lets | dsimp only | dsimp +zetaDelta only)

theorem sweepResume_follows {s0 s : State} (h : Follows s0 s) :
    Follows s0 (sweepResume s) := by
  unfold sweepResume
  repeat' (first
    | with_reducible assumption | with_reducible exact Follows.refl _ | with_reducible refine Follows.ite ?_ ?_ 
    | fail_if_no_progress (with_reducible refine mk_follows ?_ rfl rfl) | fail_if_no_progress intros | split | extract_lets | dsimp only | dsimp +zetaDelta only)

theorem domainReturns_follows {s0 s : State} (h : Follows s0 s) (d : Nat) :
    Follows s0 (domainReturns d s) := by
  unfold domainReturns
  repeat' (first
    | with_reducible assumption | with_reducible exact Follows.refl _ | with_reducible refine Follows.ite ?_ ?_ | with_reducible refine forL_snd ?_ ?_ | with_reducible refine forL_third ?_ ?_ 
    | with_reducible refine clocksWake_follows ?_ .. | with_reducible refine forL_follows ?_ ?_ | with_reducible refine syncGate_follows ?_ .. | with_reducible refine sweepResume_follows ?_ .. | with_reducible refine laneBankStart_follows ?_ .. | with_reducible refine overdueSwitch_follows ?_ ..
    | fail_if_no_progress (with_reducible refine mk_follows ?_ rfl rfl) | fail_if_no_progress intros | split | extract_lets | dsimp only | dsimp +zetaDelta only)

theorem sleepLives_follows {s0 s : State} (h : Follows s0 s) (d : Nat) :
    Follows s0 (sleepLives d s) := by
  unfold sleepLives
  repeat' (first
    | with_reducible assumption | with_reducible exact Follows.refl _ | with_reducible refine Follows.ite ?_ ?_ | with_reducible refine forN_snd ?_ ?_ | with_reducible refine forN_third ?_ ?_ 
    | with_reducible refine forN_follows ?_ ?_ | with_reducible refine setLive_follows ?_ ..
    | fail_if_no_progress (with_reducible refine mk_follows ?_ rfl rfl) | fail_if_no_progress intros | split | extract_lets | dsimp only | dsimp +zetaDelta only)

theorem wakeLives_follows {s0 s : State} (h : Follows s0 s) (d : Nat) :
    Follows s0 (wakeLives d s) := by
  unfold wakeLives
  repeat' (first
    | with_reducible assumption | with_reducible exact Follows.refl _ | with_reducible refine Follows.ite ?_ ?_ 
    | with_reducible refine judgeOvercommit_follows ?_ .. | with_reducible refine setLive_follows ?_ ..
    | fail_if_no_progress (with_reducible refine mk_follows ?_ rfl rfl) | fail_if_no_progress intros | split | extract_lets | dsimp only | dsimp +zetaDelta only)

theorem setDomain_follows {s0 s : State} (h : Follows s0 s) (d st : Nat) :
    Follows s0 (setDomain d st s) := by
  unfold setDomain
  repeat' (first
    | with_reducible assumption | with_reducible exact Follows.refl _ | with_reducible refine Follows.ite ?_ ?_ 
    | with_reducible refine w1_follows ?_ ..
    | fail_if_no_progress (with_reducible refine mk_follows ?_ rfl rfl) | fail_if_no_progress intros | split | extract_lets | dsimp only | dsimp +zetaDelta only)

theorem stepFour_follows {s0 s : State} (h : Follows s0 s) :
    Follows s0 (stepFour s) := by
  unfold stepFour
  repeat' (first
    | with_reducible assumption | with_reducible exact Follows.refl _ | with_reducible refine Follows.ite ?_ ?_ 
    | with_reducible refine judgePowerGood_follows ?_ .. | with_reducible refine laneBankStart_follows ?_ .. | with_reducible refine modPwr_follows ?_ ..
    | fail_if_no_progress (with_reducible refine mk_follows ?_ rfl rfl) | fail_if_no_progress intros | split | extract_lets | dsimp only | dsimp +zetaDelta only)

theorem powerDomains_follows {s0 s : State} (h : Follows s0 s) :
    Follows s0 (powerDomains s) := by
  unfold powerDomains
  repeat' (first
    | with_reducible assumption | with_reducible exact Follows.refl _ | with_reducible refine Follows.ite ?_ ?_ | with_reducible refine forL_snd ?_ ?_ | with_reducible refine forL_third ?_ ?_ 
    | with_reducible refine modPwr_follows ?_ .. | with_reducible refine forL_follows ?_ ?_ | with_reducible refine setDomain_follows ?_ .. | with_reducible refine stepFour_follows ?_ .. | with_reducible refine restartSweep_follows ?_ ..
    | fail_if_no_progress (with_reducible refine mk_follows ?_ rfl rfl) | fail_if_no_progress intros | split | extract_lets | dsimp only | dsimp +zetaDelta only)

/-- The registers that a full module reset leaves are in the one form, whatever form they had. -/
theorem regsAfterReset_wf (r : List (Nat × Nat)) : twf regDefault (regsAfterReset r) = true := by
  unfold regsAfterReset
  generalize r.filter (fun e => keptByFullReset e.1) = l
  have h : twf regDefault (State.resetRegs.filter (fun e => !keptByFullReset e.1)) = true := by decide +kernel
  revert h
  generalize State.resetRegs.filter (fun e => !keptByFullReset e.1) = m
  intro h
  induction l generalizing m with
  | nil => exact h
  | cons e t ih => exact ih _ (twf_tset _ _ _ _ h)

theorem vitrineKept_fused (s : State) : (vitrineKept s).fused = s.vit.fused := rfl

theorem afresh_follows {s0 s : State} (h : Follows s0 s) : Follows s0 (afresh s) := by
  have k := closeDue_follows h
  unfold afresh
  dsimp only
  generalize closeDue s = t at k ⊢
  exact k.trans ⟨⟨rfl, Nat.le_refl _, List.prefix_rfl, fun _ => regsAfterReset_wf _, vitrineKept_fused t, rfl⟩, rfl⟩

theorem sampleStraps_follows {s0 s : State} (h : Follows s0 s) (straps : Straps) (xosc : Nat) :
    Follows s0 (sampleStraps straps xosc s) := by
  unfold sampleStraps
  repeat' (first
    | with_reducible assumption | with_reducible exact Follows.refl _ | with_reducible refine Follows.ite ?_ ?_ 
    | with_reducible refine w0_follows ?_ ..
    | fail_if_no_progress (with_reducible refine mk_follows ?_ rfl rfl) | fail_if_no_progress intros | split | extract_lets | dsimp only | dsimp +zetaDelta only)

theorem fullReset_follows {s0 s : State} (h : Follows s0 s) (straps : Straps) (xosc : Nat) :
    Follows s0 (fullReset straps xosc s) := by
  unfold fullReset
  repeat' (first
    | with_reducible assumption | with_reducible exact Follows.refl _ | with_reducible refine Follows.ite ?_ ?_ 
    | with_reducible refine sampleStraps_follows ?_ .. | with_reducible refine w0_follows ?_ .. | with_reducible refine afresh_follows ?_ .. | with_reducible refine setLive_follows ?_ .. | with_reducible refine powerDomains_follows ?_ ..
    | fail_if_no_progress (with_reducible refine mk_follows ?_ rfl rfl) | fail_if_no_progress intros | split | extract_lets | dsimp only | dsimp +zetaDelta only)

theorem datapathReset_follows {s0 s : State} (h : Follows s0 s) :
    Follows s0 (datapathReset s) := by
  unfold datapathReset
  repeat' (first
    | with_reducible assumption | with_reducible exact Follows.refl _ | with_reducible refine Follows.ite ?_ ?_ 
    | with_reducible refine draw_follows ?_ .. | with_reducible refine judgeGates_follows ?_ .. | with_reducible refine clearBuffer_follows ?_ .. | with_reducible refine count_follows ?_ .. | with_reducible refine loseWindows_follows ?_ .. | with_reducible refine laneBankStart_follows ?_ .. | with_reducible refine inc0_follows ?_ ..
    | fail_if_no_progress (with_reducible refine mk_follows ?_ rfl rfl) | fail_if_no_progress intros | split | extract_lets | dsimp only | dsimp +zetaDelta only)

theorem curatorReset_follows {s0 s : State} (h : Follows s0 s) (cause : Nat) :
    Follows s0 (curatorReset cause s) := by
  unfold curatorReset
  repeat' (first
    | with_reducible assumption | with_reducible exact Follows.refl _ | with_reducible refine Follows.ite ?_ ?_ 
    | with_reducible refine dropRange_follows ?_ .. | with_reducible refine dropIdx_follows ?_ .. | with_reducible refine w0_follows ?_ .. | with_reducible refine inc0_follows ?_ .. | with_reducible refine twinCuratorReset_follows ?_ .. | with_reducible refine recheck_follows ?_ .. | with_reducible refine modPwr_follows ?_ ..
    | fail_if_no_progress (with_reducible refine mk_follows ?_ rfl rfl) | fail_if_no_progress intros | split | extract_lets | dsimp only | dsimp +zetaDelta only)

theorem clearResetNow_follows {s0 s : State} (h : Follows s0 s) :
    Follows s0 (clearResetNow s) := by
  unfold clearResetNow
  repeat' (first
    | with_reducible assumption | with_reducible exact Follows.refl _ | with_reducible refine Follows.ite ?_ ?_ 
    | with_reducible refine modPwr_follows ?_ ..
    | fail_if_no_progress (with_reducible refine mk_follows ?_ rfl rfl) | fail_if_no_progress intros | split | extract_lets | dsimp only | dsimp +zetaDelta only)

theorem resetLeftOver_follows {s0 s : State} (h : Follows s0 s) :
    Follows s0 (resetLeftOver s) := by
  unfold resetLeftOver
  repeat' (first
    | with_reducible assumption | with_reducible exact Follows.refl _ | with_reducible refine Follows.ite ?_ ?_ 
    | with_reducible refine datapathReset_follows ?_ .. | with_reducible refine clearResetNow_follows ?_ .. | with_reducible refine curatorReset_follows ?_ .. | with_reducible refine fullReset_follows ?_ ..
    | fail_if_no_progress (with_reducible refine mk_follows ?_ rfl rfl) | fail_if_no_progress intros | split | extract_lets | dsimp only | dsimp +zetaDelta only)

theorem effResetNow_follows {s0 s : State} (h : Follows s0 s) (x1 v : Nat) :
    Follows s0 (effResetNow x1 v s) := by
  unfold effResetNow
  repeat' (first
    | with_reducible assumption | with_reducible exact Follows.refl _ | with_reducible refine Follows.ite ?_ ?_ 
    | with_reducible refine modPwr_follows ?_ ..
    | fail_if_no_progress (with_reducible refine mk_follows ?_ rfl rfl) | fail_if_no_progress intros | split | extract_lets | dsimp only | dsimp +zetaDelta only)

theorem execResetNowDatapath_ends {s0 s : State} (h : Follows s0 s) (w : WriteReq) :
    Ends s0 (execResetNowDatapath w s) := by
  unfold execResetNowDatapath
  repeat' (first
    | with_reducible assumption | with_reducible exact Follows.refl _ | with_reducible refine Ends.of ?_ | with_reducible refine Ends.ite ?_ ?_ | with_reducible refine Follows.ite ?_ ?_ 
    | with_reducible refine catWrite_follows ?_ ?_ .. | with_reducible refine effResetNow_follows ?_ ..
    | fail_if_no_progress (with_reducible refine mk_follows ?_ rfl rfl) | fail_if_no_progress intros | split | extract_lets | dsimp only | dsimp +zetaDelta only)

theorem execResetNowCurator_ends {s0 s : State} (h : Follows s0 s) (w : WriteReq) :
    Ends s0 (execResetNowCurator w s) := by
  unfold execResetNowCurator
  repeat' (first
    | with_reducible assumption | with_reducible exact Follows.refl _ | with_reducible refine Ends.of ?_ | with_reducible refine Ends.ite ?_ ?_ | with_reducible refine Follows.ite ?_ ?_ 
    | with_reducible refine catWrite_follows ?_ ?_ .. | with_reducible refine effResetNow_follows ?_ ..
    | fail_if_no_progress (with_reducible refine mk_follows ?_ rfl rfl) | fail_if_no_progress intros | split | extract_lets | dsimp only | dsimp +zetaDelta only)

theorem execResetNowFull_ends {s0 s : State} (h : Follows s0 s) (w : WriteReq) :
    Ends s0 (execResetNowFull w s) := by
  unfold execResetNowFull
  repeat' (first
    | with_reducible assumption | with_reducible exact Follows.refl _ | with_reducible refine Ends.of ?_ | with_reducible refine Ends.ite ?_ ?_ | with_reducible refine Follows.ite ?_ ?_ 
    | with_reducible refine catWrite_follows ?_ ?_ .. | with_reducible refine effResetNow_follows ?_ ..
    | fail_if_no_progress (with_reducible refine mk_follows ?_ rfl rfl) | fail_if_no_progress intros | split | extract_lets | dsimp only | dsimp +zetaDelta only)

theorem execDatapathReset_ends {s0 s : State} (h : Follows s0 s) :
    Ends s0 (execDatapathReset s) := by
  unfold execDatapathReset
  repeat' (first
    | with_reducible assumption | with_reducible exact Follows.refl _ | with_reducible refine Ends.of ?_ | with_reducible refine Ends.ite ?_ ?_ | with_reducible refine Follows.ite ?_ ?_ 
    | with_reducible refine datapathReset_follows ?_ .. | with_reducible refine clearResetNow_follows ?_ ..
    | fail_if_no_progress (with_reducible refine mk_follows ?_ rfl rfl) | fail_if_no_progress intros | split | extract_lets | dsimp only | dsimp +zetaDelta only)

theorem execCuratorReset_ends {s0 s : State} (h : Follows s0 s) :
    Ends s0 (execCuratorReset s) := by
  unfold execCuratorReset
  repeat' (first
    | with_reducible assumption | with_reducible exact Follows.refl _ | with_reducible refine Ends.of ?_ | with_reducible refine Ends.ite ?_ ?_ | with_reducible refine Follows.ite ?_ ?_ 
    | with_reducible refine curatorReset_follows ?_ .. | with_reducible refine clearResetNow_follows ?_ ..
    | fail_if_no_progress (with_reducible refine mk_follows ?_ rfl rfl) | fail_if_no_progress intros | split | extract_lets | dsimp only | dsimp +zetaDelta only)

theorem execFullModuleReset_ends {s0 s : State} (h : Follows s0 s) (straps : Straps) (xosc : Fin 6) :
    Ends s0 (execFullModuleReset straps xosc s) := by
  unfold execFullModuleReset
  repeat' (first
    | with_reducible assumption | with_reducible exact Follows.refl _ | with_reducible refine Ends.of ?_ | with_reducible refine Ends.ite ?_ ?_ | with_reducible refine Follows.ite ?_ ?_ 
    | with_reducible refine fullReset_follows ?_ ..
    | fail_if_no_progress (with_reducible refine mk_follows ?_ rfl rfl) | fail_if_no_progress intros | split | extract_lets | dsimp only | dsimp +zetaDelta only)

theorem execCuratorWatchdog_ends {s0 s : State} (h : Follows s0 s) :
    Ends s0 (execCuratorWatchdog s) := by
  unfold execCuratorWatchdog
  repeat' (first
    | with_reducible assumption | with_reducible exact Follows.refl _ | with_reducible refine Ends.of ?_ | with_reducible refine Ends.ite ?_ ?_ | with_reducible refine Follows.ite ?_ ?_ 
    | with_reducible refine curatorReset_follows ?_ ..
    | fail_if_no_progress (with_reducible refine mk_follows ?_ rfl rfl) | fail_if_no_progress intros | split | extract_lets | dsimp only | dsimp +zetaDelta only)

theorem execResetNAssert_ends {s0 s : State} (h : Follows s0 s) :
    Ends s0 (execResetNAssert s) := by
  unfold execResetNAssert
  repeat' (first
    | with_reducible assumption | with_reducible exact Follows.refl _ | with_reducible refine Ends.of ?_ | with_reducible refine Ends.ite ?_ ?_ | with_reducible refine Follows.ite ?_ ?_ 
    | with_reducible refine modPwr_follows ?_ .. | with_reducible refine afresh_follows ?_ ..
    | fail_if_no_progress (with_reducible refine mk_follows ?_ rfl rfl) | fail_if_no_progress intros | split | extract_lets | dsimp only | dsimp +zetaDelta only)

theorem execResetNRelease_ends {s0 s : State} (h : Follows s0 s) (straps : Straps) (xosc : Fin 6) :
    Ends s0 (execResetNRelease straps xosc s) := by
  unfold execResetNRelease
  repeat' (first
    | with_reducible assumption | with_reducible exact Follows.refl _ | with_reducible refine Ends.of ?_ | with_reducible refine Ends.ite ?_ ?_ | with_reducible refine Follows.ite ?_ ?_ 
    | with_reducible refine fullReset_follows ?_ ..
    | fail_if_no_progress (with_reducible refine mk_follows ?_ rfl rfl) | fail_if_no_progress intros | split | extract_lets | dsimp only | dsimp +zetaDelta only)

theorem execPowerUpStart_ends {s0 s : State} (h : Follows s0 s) (supply : Supply) (straps : Straps) (xosc : Fin 6) :
    Ends s0 (execPowerUpStart supply straps xosc s) := by
  unfold execPowerUpStart
  repeat' (first
    | with_reducible assumption | with_reducible exact Follows.refl _ | with_reducible refine Ends.of ?_ | with_reducible refine Ends.ite ?_ ?_ | with_reducible refine Follows.ite ?_ ?_ 
    | with_reducible refine fullReset_follows ?_ .. | with_reducible refine modPwr_follows ?_ .. | with_reducible refine w0_follows ?_ .. | with_reducible refine openInterval_follows ?_ .. | with_reducible refine vitrinePowerUp_follows ?_ ..
    | fail_if_no_progress (with_reducible refine mk_follows ?_ rfl rfl) | fail_if_no_progress intros | split | extract_lets | dsimp only | dsimp +zetaDelta only)

theorem execBrownoutRelease_ends {s0 s : State} (h : Follows s0 s) (vin : Nat) :
    Ends s0 (execBrownoutRelease vin s) := by
  unfold execBrownoutRelease
  repeat' (first
    | with_reducible assumption | with_reducible exact Follows.refl _ | with_reducible refine Ends.of ?_ | with_reducible refine Ends.ite ?_ ?_ | with_reducible refine Follows.ite ?_ ?_ 
    | with_reducible refine w0_follows ?_ .. | with_reducible refine powerDomains_follows ?_ .. | with_reducible refine modPwr_follows ?_ ..
    | fail_if_no_progress (with_reducible refine mk_follows ?_ rfl rfl) | fail_if_no_progress intros | split | extract_lets | dsimp only | dsimp +zetaDelta only)

theorem markImage_follows {s0 s : State} (h : Follows s0 s) (i : Nat) (pass : Bool) (version : Nat) :
    Follows s0 (markImage i pass version s) := by
  unfold markImage
  repeat' (first
    | with_reducible assumption | with_reducible exact Follows.refl _ | with_reducible refine Follows.ite ?_ ?_ 
    | with_reducible refine w1_follows ?_ .. | with_reducible refine modPwr_follows ?_ ..
    | fail_if_no_progress (with_reducible refine mk_follows ?_ rfl rfl) | fail_if_no_progress intros | split | extract_lets | dsimp only | dsimp +zetaDelta only)

theorem bootCheck_follows {s0 s : State} (h : Follows s0 s) (i : Nat) (pass : Bool) :
    Follows s0 (bootCheck i pass s) := by
  unfold bootCheck
  repeat' (first
    | with_reducible assumption | with_reducible exact Follows.refl _ | with_reducible refine Follows.ite ?_ ?_ 
    | with_reducible refine draw_follows ?_ .. | with_reducible refine markImage_follows ?_ ..
    | fail_if_no_progress (with_reducible refine mk_follows ?_ rfl rfl) | fail_if_no_progress intros | split | extract_lets | dsimp only | dsimp +zetaDelta only)

theorem execCuratorImageRunning_ends {s0 s : State} (h : Follows s0 s) (passA passB : Bool) :
    Ends s0 (execCuratorImageRunning passA passB s) := by
  unfold execCuratorImageRunning
  repeat' (first
    | with_reducible assumption | with_reducible exact Follows.refl _ | with_reducible refine Ends.of ?_ | with_reducible refine Ends.ite ?_ ?_ | with_reducible refine Follows.ite ?_ ?_ 
    | with_reducible refine bootCheck_follows ?_ .. | with_reducible refine modPwr_follows ?_ .. | with_reducible refine w0_follows ?_ .. | with_reducible refine w1_follows ?_ .. | with_reducible refine stepFour_follows ?_ ..
    | fail_if_no_progress (with_reducible refine mk_follows ?_ rfl rfl) | fail_if_no_progress intros | split | extract_lets | dsimp only | dsimp +zetaDelta only)

theorem powerLoss_advances {s0 s : State} (h : Advances s0 s) (cause : Nat) : Advances s0 (powerLoss cause s) := by
  unfold powerLoss
  have k : Follows s (afresh (elapse 1600000000 (vitrineFlush (raise Ev.brownout
      (modPwr (fun p => { p with cause := cause }) s))))) :=
    afresh_follows (elapse_follows (vitrineFlush_follows (raise_follows (modPwr_follows (Follows.refl s) _) _)) _)
  have m := h.trans (k.toAdvances.tapOnly TapSt.reset)
  dsimp only
  generalize ({ afresh (elapse 1600000000 (vitrineFlush (raise Ev.brownout (modPwr (fun p => { p with cause := cause }) s))))
    with tap := TapSt.reset } : State) = u at m ⊢
  exact m.trans (modPwr_follows (Follows.refl u) _).toAdvances

theorem execBrownout_moves (vin : Nat) (s : State) : Moves s (execBrownout vin s) := by
  unfold execBrownout
  split
  · exact Moves.of (Advances.refl s)
  · exact Moves.of (powerLoss_advances (w0_follows (Follows.refl s) _ _).toAdvances 3)

theorem execUndervoltageLockout_moves (vin : Nat) (s : State) : Moves s (execUndervoltageLockout vin s) := by
  have h : Advances s (if s.pwr.phase = .off ∨ !lockoutMet vin then s else powerLoss 3 s) := by
    split
    · exact Advances.refl s
    · exact powerLoss_advances (Advances.refl s) 3
  refine Moves.of ?_
  split
  · exact h.trans (w0_follows (modPwr_follows (Follows.refl _) _) _ _).toAdvances
  · exact h

theorem execOvertempShutdown_moves (die : Fin 4) (reading : Int) (s : State) :
    Moves s (execOvertempShutdown die reading s) := by
  unfold execOvertempShutdown
  split
  · exact Moves.of (Advances.refl s)
  · exact Moves.of (powerLoss_advances (w1_follows (Follows.refl s) _ _ _).toAdvances 4)

theorem judgeOvertemp_follows {s0 s : State} (h : Follows s0 s) :
    Follows s0 (judgeOvertemp s) := by
  unfold judgeOvertemp
  repeat' (first
    | with_reducible assumption | with_reducible exact Follows.refl _ | with_reducible refine Follows.ite ?_ ?_ 
    | with_reducible refine setLive_follows ?_ ..
    | fail_if_no_progress (with_reducible refine mk_follows ?_ rfl rfl) | fail_if_no_progress intros | split | extract_lets | dsimp only | dsimp +zetaDelta only)

theorem execOvertempLimitCrossed_ends {s0 s : State} (h : Follows s0 s) (die : Fin 4) (reading : Int) :
    Ends s0 (execOvertempLimitCrossed die reading s) := by
  unfold execOvertempLimitCrossed
  repeat' (first
    | with_reducible assumption | with_reducible exact Follows.refl _ | with_reducible refine Ends.of ?_ | with_reducible refine Ends.ite ?_ ?_ | with_reducible refine Follows.ite ?_ ?_ 
    | with_reducible refine judgeOvertemp_follows ?_ .. | with_reducible refine w1_follows ?_ ..
    | fail_if_no_progress (with_reducible refine mk_follows ?_ rfl rfl) | fail_if_no_progress intros | split | extract_lets | dsimp only | dsimp +zetaDelta only)

theorem effOvertempLimit_follows {s0 s : State} (h : Follows s0 s) (x1 v : Nat) :
    Follows s0 (effOvertempLimit x1 v s) := by
  unfold effOvertempLimit
  repeat' (first
    | with_reducible assumption | with_reducible exact Follows.refl _ | with_reducible refine Follows.ite ?_ ?_ 
    | with_reducible refine judgeOvertemp_follows ?_ .. | with_reducible refine w0_follows ?_ ..
    | fail_if_no_progress (with_reducible refine mk_follows ?_ rfl rfl) | fail_if_no_progress intros | split | extract_lets | dsimp only | dsimp +zetaDelta only)

theorem markIdle_follows {s0 s : State} (h : Follows s0 s) (pass : Bool) (version : Nat) :
    Follows s0 (markIdle pass version s) := by
  unfold markIdle
  repeat' (first
    | with_reducible assumption | with_reducible exact Follows.refl _ | with_reducible refine Follows.ite ?_ ?_ 
    | with_reducible refine markImage_follows ?_ ..
    | fail_if_no_progress (with_reducible refine mk_follows ?_ rfl rfl) | fail_if_no_progress intros | split | extract_lets | dsimp only | dsimp +zetaDelta only)

theorem eraseImage_follows {s0 s : State} (h : Follows s0 s) (image : Nat) :
    Follows s0 (eraseImage image s) := by
  unfold eraseImage
  repeat' (first
    | with_reducible assumption | with_reducible exact Follows.refl _ | with_reducible refine Follows.ite ?_ ?_ 
    | with_reducible refine modPwr_follows ?_ ..
    | fail_if_no_progress (with_reducible refine mk_follows ?_ rfl rfl) | fail_if_no_progress intros | split | extract_lets | dsimp only | dsimp +zetaDelta only)

theorem effImageBlock_follows {s0 s : State} (h : Follows s0 s) (row : Nat) (x1 v : Nat) :
    Follows s0 (effImageBlock row x1 v s) := by
  unfold effImageBlock
  repeat' (first
    | with_reducible assumption | with_reducible exact Follows.refl _ | with_reducible refine Follows.ite ?_ ?_ 
    | with_reducible refine markIdle_follows ?_ .. | with_reducible refine modPwr_follows ?_ ..
    | fail_if_no_progress (with_reducible refine mk_follows ?_ rfl rfl) | fail_if_no_progress intros | split | extract_lets | dsimp only | dsimp +zetaDelta only)

theorem execImageBlockWrite_ends {s0 s : State} (h : Follows s0 s) (row : BitVec 32) (w : WriteReq) :
    Ends s0 (execImageBlockWrite row w s) := by
  unfold execImageBlockWrite
  repeat' (first
    | with_reducible assumption | with_reducible exact Follows.refl _ | with_reducible refine Ends.of ?_ | with_reducible refine Ends.ite ?_ ?_ | with_reducible refine Follows.ite ?_ ?_ 
    | with_reducible refine catWrite_follows ?_ ?_ .. | with_reducible refine effImageBlock_follows ?_ ..
    | fail_if_no_progress (with_reducible refine mk_follows ?_ rfl rfl) | fail_if_no_progress intros | split | extract_lets | dsimp only | dsimp +zetaDelta only)

theorem effImageErase_follows {s0 s : State} (h : Follows s0 s) (st v : Nat) :
    Follows s0 (effImageErase st v s) := by
  unfold effImageErase
  repeat' (first
    | with_reducible assumption | with_reducible exact Follows.refl _ | with_reducible refine Follows.ite ?_ ?_ 
    | with_reducible refine effBool_follows ?_ ?_ .. | with_reducible refine w0_follows ?_ ..
    | fail_if_no_progress (with_reducible refine mk_follows ?_ rfl rfl) | fail_if_no_progress intros | split | extract_lets | dsimp only | dsimp +zetaDelta only)

theorem effImageCommit_follows {s0 s : State} (h : Follows s0 s) (st v : Nat) :
    Follows s0 (effImageCommit st v s) := by
  unfold effImageCommit
  repeat' (first
    | with_reducible assumption | with_reducible exact Follows.refl _ | with_reducible refine Follows.ite ?_ ?_ 
    | with_reducible refine effBool_follows ?_ ?_ .. | with_reducible refine w0_follows ?_ ..
    | fail_if_no_progress (with_reducible refine mk_follows ?_ rfl rfl) | fail_if_no_progress intros | split | extract_lets | dsimp only | dsimp +zetaDelta only)

theorem execImageErase_ends {s0 s : State} (h : Follows s0 s) (w : WriteReq) :
    Ends s0 (execImageErase w s) := by
  unfold execImageErase
  repeat' (first
    | with_reducible assumption | with_reducible exact Follows.refl _ | with_reducible refine Ends.of ?_ | with_reducible refine Ends.ite ?_ ?_ | with_reducible refine Follows.ite ?_ ?_ 
    | with_reducible refine catWrite_follows ?_ ?_ .. | with_reducible refine effImageErase_follows ?_ ..
    | fail_if_no_progress (with_reducible refine mk_follows ?_ rfl rfl) | fail_if_no_progress intros | split | extract_lets | dsimp only | dsimp +zetaDelta only)

theorem execImageEraseComplete_ends {s0 s : State} (h : Follows s0 s) :
    Ends s0 (execImageEraseComplete s) := by
  unfold execImageEraseComplete
  repeat' (first
    | with_reducible assumption | with_reducible exact Follows.refl _ | with_reducible refine Ends.of ?_ | with_reducible refine Ends.ite ?_ ?_ | with_reducible refine Follows.ite ?_ ?_ 
    | with_reducible refine w0_follows ?_ .. | with_reducible refine markIdle_follows ?_ .. | with_reducible refine eraseImage_follows ?_ ..
    | fail_if_no_progress (with_reducible refine mk_follows ?_ rfl rfl) | fail_if_no_progress intros | split | extract_lets | dsimp only | dsimp +zetaDelta only)

theorem execImageCommit_ends {s0 s : State} (h : Follows s0 s) (w : WriteReq) :
    Ends s0 (execImageCommit w s) := by
  unfold execImageCommit
  repeat' (first
    | with_reducible assumption | with_reducible exact Follows.refl _ | with_reducible refine Ends.of ?_ | with_reducible refine Ends.ite ?_ ?_ | with_reducible refine Follows.ite ?_ ?_ 
    | with_reducible refine catWrite_follows ?_ ?_ .. | with_reducible refine effImageCommit_follows ?_ ..
    | fail_if_no_progress (with_reducible refine mk_follows ?_ rfl rfl) | fail_if_no_progress intros | split | extract_lets | dsimp only | dsimp +zetaDelta only)

theorem execImageCheckComplete_ends {s0 s : State} (h : Follows s0 s) (pass : Bool) (version : BitVec 32) :
    Ends s0 (execImageCheckComplete pass version s) := by
  unfold execImageCheckComplete
  repeat' (first
    | with_reducible assumption | with_reducible exact Follows.refl _ | with_reducible refine Ends.of ?_ | with_reducible refine Ends.ite ?_ ?_ | with_reducible refine Follows.ite ?_ ?_ 
    | with_reducible refine w0_follows ?_ .. | with_reducible refine markIdle_follows ?_ ..
    | fail_if_no_progress (with_reducible refine mk_follows ?_ rfl rfl) | fail_if_no_progress intros | split | extract_lets | dsimp only | dsimp +zetaDelta only)

theorem effBootPrefer_follows {s0 s : State} (h : Follows s0 s) (x1 v : Nat) :
    Follows s0 (effBootPrefer x1 v s) := by
  unfold effBootPrefer
  repeat' (first
    | with_reducible assumption | with_reducible exact Follows.refl _ | with_reducible refine Follows.ite ?_ ?_ 
    | with_reducible refine w0_follows ?_ ..
    | fail_if_no_progress (with_reducible refine mk_follows ?_ rfl rfl) | fail_if_no_progress intros | split | extract_lets | dsimp only | dsimp +zetaDelta only)

theorem execBootPreferSet_ends {s0 s : State} (h : Follows s0 s) (w : WriteReq) :
    Ends s0 (execBootPreferSet w s) := by
  unfold execBootPreferSet
  repeat' (first
    | with_reducible assumption | with_reducible exact Follows.refl _ | with_reducible refine Ends.of ?_ | with_reducible refine Ends.ite ?_ ?_ | with_reducible refine Follows.ite ?_ ?_ 
    | with_reducible refine catWrite_follows ?_ ?_ .. | with_reducible refine effBootPrefer_follows ?_ ..
    | fail_if_no_progress (with_reducible refine mk_follows ?_ rfl rfl) | fail_if_no_progress intros | split | extract_lets | dsimp only | dsimp +zetaDelta only)

end Sys2Proof.Machine
end

