-- ==== Sys2Proof/Laws/OpeningsFollows.lean ====
section
/-! SUPPORT. Every operation of Openings follows. -/

set_option linter.unreachableTactic false
set_option linter.unusedTactic false

namespace Sys2Proof.Machine

theorem dropExpected_follows {s0 s : State} (h : Follows s0 s) (slot : Nat) :
    Follows s0 (dropExpected slot s).2 := by
  unfold dropExpected
  repeat' (first
    | with_reducible assumption | with_reducible exact Follows.refl _ | with_reducible refine Follows.ite ?_ ?_ | with_reducible refine forL_snd ?_ ?_ | with_reducible refine forL_third ?_ ?_ 
    | with_reducible refine forL_follows ?_ ?_ | with_reducible refine modPort_follows ?_ .. | with_reducible refine endRef_follows ?_ ..
    | fail_if_no_progress (with_reducible refine mk_follows ?_ rfl rfl) | fail_if_no_progress intros | split | extract_lets | dsimp only | dsimp +zetaDelta only)

theorem flushSlot_follows {s0 s : State} (h : Follows s0 s) (g slot : Nat) :
    Follows s0 (flushSlot g slot s) := by
  unfold flushSlot
  repeat' (first
    | with_reducible assumption | with_reducible exact Follows.refl _ | with_reducible refine Follows.ite ?_ ?_ | with_reducible refine forN_snd ?_ ?_ | with_reducible refine forN_third ?_ ?_ 
    | with_reducible refine flushQueue_follows ?_ .. | with_reducible refine cutReception_follows ?_ .. | with_reducible refine judgeGates_follows ?_ .. | with_reducible refine dropExpected_follows ?_ .. | with_reducible refine forN_follows ?_ ?_ | with_reducible refine judgePromotion_follows ?_ .. | with_reducible refine count_follows ?_ ..
    | fail_if_no_progress (with_reducible refine mk_follows ?_ rfl rfl) | fail_if_no_progress intros | split | extract_lets | dsimp only | dsimp +zetaDelta only)

theorem changeMode_follows {s0 s : State} (h : Follows s0 s) (g m : Nat) :
    Follows s0 (changeMode g m s) := by
  unfold changeMode
  repeat' (first
    | with_reducible assumption | with_reducible exact Follows.refl _ | with_reducible refine Follows.ite ?_ ?_ 
    | with_reducible refine flushSlot_follows ?_ .. | with_reducible refine laneModeChanged_follows ?_ .. | with_reducible refine w1_follows ?_ .. | with_reducible refine calModeChanged_follows ?_ .. | with_reducible refine linkMoved_follows ?_ ..
    | fail_if_no_progress (with_reducible refine mk_follows ?_ rfl rfl) | fail_if_no_progress intros | split | extract_lets | dsimp only | dsimp +zetaDelta only)

theorem renumberEvents_follows {s0 s : State} (h : Follows s0 s) (old : State) : Follows s0 (renumberEvents old s) := by
  unfold renumberEvents
  exact forN_follows (fun _ _ k => Follows.ite k (raise_follows k _)) h

theorem applyEntry_follows {s0 s : State} (h : Follows s0 s) (e : Nat × Nat) : Follows s0 (applyEntry e s) :=
  h.trans ⟨⟨rfl, Nat.le_refl _, List.prefix_rfl, fun r => twf_tset _ _ _ _ r, rfl, rfl⟩, rfl⟩

theorem profileChanged_follows {s0 s : State} (h : Follows s0 s) (slot : Nat) :
    Follows s0 (profileChanged slot s) := by
  unfold profileChanged
  repeat' (first
    | with_reducible assumption | with_reducible exact Follows.refl _ | with_reducible refine Follows.ite ?_ ?_ 
    | with_reducible refine setPtp_follows ?_ .. | with_reducible refine setPortState_follows ?_ .. | with_reducible refine updateSource_follows ?_ .. | with_reducible refine sourceLost_follows ?_ .. | with_reducible refine dropParent_follows ?_ ..
    | fail_if_no_progress (with_reducible refine mk_follows ?_ rfl rfl) | fail_if_no_progress intros | split | extract_lets | dsimp only | dsimp +zetaDelta only)

theorem sectionsFollow_follows {s0 s : State} (h : Follows s0 s) (old : State) (l : List (Nat × Nat)) :
    Follows s0 (sectionsFollow old l s) := by
  unfold sectionsFollow
  repeat' (first
    | with_reducible assumption | with_reducible exact Follows.refl _ | with_reducible refine Follows.ite ?_ ?_ | with_reducible refine forL_snd ?_ ?_ | with_reducible refine forL_third ?_ ?_ | with_reducible refine forN_snd ?_ ?_ | with_reducible refine forN_third ?_ ?_ 
    | with_reducible refine forL_follows ?_ ?_ | with_reducible refine laneObjectChanged_follows ?_ .. | with_reducible refine judgeOvercommit_follows ?_ .. | with_reducible refine xonSweep_follows ?_ .. | with_reducible refine modPort_follows ?_ .. | with_reducible refine judgePromotion_follows ?_ .. | with_reducible refine forN_follows ?_ ?_ | with_reducible refine pendSwitch_follows ?_ .. | with_reducible refine pendTables_follows ?_ .. | with_reducible refine synConfigured_follows ?_ .. | with_reducible refine outConfigured_follows ?_ .. | with_reducible refine outDelayed_follows ?_ .. | with_reducible refine plsConfigured_follows ?_ .. | with_reducible refine realignAtOpening_follows ?_ .. | with_reducible refine profileChanged_follows ?_ .. | with_reducible refine w0_follows ?_ .. | with_reducible refine selfTestLanes_follows ?_ .. | with_reducible refine twinConfigured_follows ?_ .. | with_reducible refine judgeOut_follows ?_ ..
    | fail_if_no_progress (with_reducible refine mk_follows ?_ rfl rfl) | fail_if_no_progress intros | split | extract_lets | dsimp only | dsimp +zetaDelta only)

theorem applyEntries_follows {s0 s : State} (h : Follows s0 s) (l : List (Nat × Nat)) :
    Follows s0 (applyEntries l s) := by
  unfold applyEntries
  repeat' (first
    | with_reducible assumption | with_reducible exact Follows.refl _ | with_reducible refine Follows.ite ?_ ?_ | with_reducible refine forL_snd ?_ ?_ | with_reducible refine forL_third ?_ ?_ 
    | with_reducible refine judgeGates_follows ?_ .. | with_reducible refine renumberEvents_follows ?_ .. | with_reducible refine forL_follows ?_ ?_ | with_reducible refine changeMode_follows ?_ .. | with_reducible refine sectionsFollow_follows ?_ .. | with_reducible refine applyEntry_follows ?_ ..
    | fail_if_no_progress (with_reducible refine mk_follows ?_ rfl rfl) | fail_if_no_progress intros | split | extract_lets | dsimp only | dsimp +zetaDelta only)

theorem resetAtOpening_follows {s0 s : State} (h : Follows s0 s) :
    Follows s0 (resetAtOpening s) := by
  unfold resetAtOpening
  repeat' (first
    | with_reducible assumption | with_reducible exact Follows.refl _ | with_reducible refine Follows.ite ?_ ?_ 
    | with_reducible refine w0_follows ?_ .. | with_reducible refine datapathReset_follows ?_ .. | with_reducible refine curatorReset_follows ?_ .. | with_reducible refine modPwr_follows ?_ ..
    | fail_if_no_progress (with_reducible refine mk_follows ?_ rfl rfl) | fail_if_no_progress intros | split | extract_lets | dsimp only | dsimp +zetaDelta only)

theorem openArmed_follows {s0 s : State} (h : Follows s0 s) (a : ArmedOpening) :
    Follows s0 (openArmed a s) := by
  unfold openArmed
  repeat' (first
    | with_reducible assumption | with_reducible exact Follows.refl _ | with_reducible refine Follows.ite ?_ ?_ 
    | with_reducible refine applyEntries_follows ?_ .. | with_reducible refine modOpn_follows ?_ .. | with_reducible refine pushRecord_follows ?_ .. | with_reducible refine count_follows ?_ .. | with_reducible refine resetAtOpening_follows ?_ .. | with_reducible refine notice_follows ?_ ..
    | fail_if_no_progress (with_reducible refine mk_follows ?_ rfl rfl) | fail_if_no_progress intros | split | extract_lets | dsimp only | dsimp +zetaDelta only)

theorem openDue_follows {s0 s : State} (h : Follows s0 s) :
    Follows s0 (openDue s) := by
  unfold openDue
  repeat' (first
    | with_reducible assumption | with_reducible exact Follows.refl _ | with_reducible refine Follows.ite ?_ ?_ 
    | with_reducible refine openArmed_follows ?_ .. | with_reducible refine captureDue_follows ?_ ..
    | fail_if_no_progress (with_reducible refine mk_follows ?_ rfl rfl) | fail_if_no_progress intros | split | extract_lets | dsimp only | dsimp +zetaDelta only)

end Sys2Proof.Machine
end

