-- ==== Sys2Proof/Laws/DomainsFollows.lean ====
section
/-! SUPPORT. Every operation of Domains follows. -/

set_option linter.unreachableTactic false
set_option linter.unusedTactic false

namespace Sys2Proof.Machine

theorem setPlan_follows {s0 s : State} (h : Follows s0 s) (d : Nat) (p : SleepPlan) :
    Follows s0 (setPlan d p s) := by
  unfold setPlan
  repeat' (first
    | with_reducible assumption | with_reducible exact Follows.refl _ | with_reducible refine Follows.ite ?_ ?_ 
    | with_reducible refine modPwr_follows ?_ ..
    | fail_if_no_progress (with_reducible refine mk_follows ?_ rfl rfl) | fail_if_no_progress intros | split | extract_lets | dsimp only | dsimp +zetaDelta only)

theorem dropPlan_follows {s0 s : State} (h : Follows s0 s) (d : Nat) :
    Follows s0 (dropPlan d s) := by
  unfold dropPlan
  repeat' (first
    | with_reducible assumption | with_reducible exact Follows.refl _ | with_reducible refine Follows.ite ?_ ?_ 
    | with_reducible refine modPwr_follows ?_ ..
    | fail_if_no_progress (with_reducible refine mk_follows ?_ rfl rfl) | fail_if_no_progress intros | split | extract_lets | dsimp only | dsimp +zetaDelta only)

theorem abandonOne_follows {s0 s : State} (h : Follows s0 s) (d : Nat) :
    Follows s0 (abandonOne d s) := by
  unfold abandonOne
  repeat' (first
    | with_reducible assumption | with_reducible exact Follows.refl _ | with_reducible refine Follows.ite ?_ ?_ 
    | with_reducible refine setDomain_follows ?_ .. | with_reducible refine w1_follows ?_ .. | with_reducible refine dropPlan_follows ?_ .. | with_reducible refine raise_follows ?_ .. | with_reducible refine inc_follows ?_ ..
    | fail_if_no_progress (with_reducible refine mk_follows ?_ rfl rfl) | fail_if_no_progress intros | split | extract_lets | dsimp only | dsimp +zetaDelta only)

theorem abandon_follows {s0 s : State} (h : Follows s0 s) (d : Nat) :
    Follows s0 (abandon d s) := by
  unfold abandon
  repeat' (first
    | with_reducible assumption | with_reducible exact Follows.refl _ | with_reducible refine Follows.ite ?_ ?_ | with_reducible refine forL_snd ?_ ?_ | with_reducible refine forL_third ?_ ?_ 
    | with_reducible refine forL_follows ?_ ?_ | with_reducible refine abandonOne_follows ?_ ..
    | fail_if_no_progress (with_reducible refine mk_follows ?_ rfl rfl) | fail_if_no_progress intros | split | extract_lets | dsimp only | dsimp +zetaDelta only)

theorem beginWake_follows {s0 s : State} (h : Follows s0 s) (d code t : Nat) :
    Follows s0 (beginWake d code t s) := by
  unfold beginWake
  repeat' (first
    | with_reducible assumption | with_reducible exact Follows.refl _ | with_reducible refine Follows.ite ?_ ?_ 
    | with_reducible refine setDomain_follows ?_ .. | with_reducible refine modPwr_follows ?_ ..
    | fail_if_no_progress (with_reducible refine mk_follows ?_ rfl rfl) | fail_if_no_progress intros | split | extract_lets | dsimp only | dsimp +zetaDelta only)

theorem startWake_follows {s0 s : State} (h : Follows s0 s) (d code t : Nat) :
    Follows s0 (startWake d code t s) := by
  unfold startWake
  repeat' (first
    | with_reducible assumption | with_reducible exact Follows.refl _ | with_reducible refine Follows.ite ?_ ?_ 
    | with_reducible refine modPwr_follows ?_ .. | with_reducible refine beginWake_follows ?_ ..
    | fail_if_no_progress (with_reducible refine mk_follows ?_ rfl rfl) | fail_if_no_progress intros | split | extract_lets | dsimp only | dsimp +zetaDelta only)

theorem fireWake_follows {s0 s : State} (h : Follows s0 s) (d code : Nat) :
    Follows s0 (fireWake d code s) := by
  unfold fireWake
  repeat' (first
    | with_reducible assumption | with_reducible exact Follows.refl _ | with_reducible refine Follows.ite ?_ ?_ 
    | with_reducible refine abandon_follows ?_ .. | with_reducible refine startWake_follows ?_ ..
    | fail_if_no_progress (with_reducible refine mk_follows ?_ rfl rfl) | fail_if_no_progress intros | split | extract_lets | dsimp only | dsimp +zetaDelta only)

theorem completeWake_follows {s0 s : State} (h : Follows s0 s) (d t code : Nat) :
    Follows s0 (completeWake d t code s) := by
  unfold completeWake
  repeat' (first
    | with_reducible assumption | with_reducible exact Follows.refl _ | with_reducible refine Follows.ite ?_ ?_ | with_reducible refine forL_snd ?_ ?_ | with_reducible refine forL_third ?_ ?_ 
    | with_reducible refine modPwr_follows ?_ .. | with_reducible refine setDomain_follows ?_ .. | with_reducible refine w1_follows ?_ .. | with_reducible refine raise_follows ?_ .. | with_reducible refine inc_follows ?_ .. | with_reducible refine wakeLives_follows ?_ .. | with_reducible refine domainReturns_follows ?_ .. | with_reducible refine forL_follows ?_ ?_ | with_reducible refine startWake_follows ?_ ..
    | fail_if_no_progress (with_reducible refine mk_follows ?_ rfl rfl) | fail_if_no_progress intros | split | extract_lets | dsimp only | dsimp +zetaDelta only)

theorem execDomainWakeComplete_ends {s0 s : State} (h : Follows s0 s) (domain : SwDomain) :
    Ends s0 (execDomainWakeComplete domain s) := by
  unfold execDomainWakeComplete
  repeat' (first
    | with_reducible assumption | with_reducible exact Follows.refl _ | with_reducible refine Ends.of ?_ | with_reducible refine Ends.ite ?_ ?_ | with_reducible refine Follows.ite ?_ ?_ 
    | with_reducible refine completeWake_follows ?_ .. | with_reducible refine advanceTo_follows ?_ ..
    | fail_if_no_progress (with_reducible refine mk_follows ?_ rfl rfl) | fail_if_no_progress intros | split | extract_lets | dsimp only | dsimp +zetaDelta only)

theorem wakesLeftOver_follows {s0 s : State} (h : Follows s0 s) :
    Follows s0 (wakesLeftOver s) := by
  unfold wakesLeftOver
  repeat' (first
    | with_reducible assumption | with_reducible exact Follows.refl _ | with_reducible refine Follows.ite ?_ ?_ | with_reducible refine forL_snd ?_ ?_ | with_reducible refine forL_third ?_ ?_ 
    | with_reducible refine forL_follows ?_ ?_ | with_reducible refine completeWake_follows ?_ ..
    | fail_if_no_progress (with_reducible refine mk_follows ?_ rfl rfl) | fail_if_no_progress intros | split | extract_lets | dsimp only | dsimp +zetaDelta only)

theorem wakeTaken_follows {s0 s : State} (h : Follows s0 s) (d : Nat) :
    Follows s0 (wakeTaken d s) := by
  unfold wakeTaken
  repeat' (first
    | with_reducible assumption | with_reducible exact Follows.refl _ | with_reducible refine Follows.ite ?_ ?_ 
    | with_reducible refine w1_follows ?_ .. | with_reducible refine modPwr_follows ?_ ..
    | fail_if_no_progress (with_reducible refine mk_follows ?_ rfl rfl) | fail_if_no_progress intros | split | extract_lets | dsimp only | dsimp +zetaDelta only)

theorem wakeBy_follows {s0 s : State} (h : Follows s0 s) (d : Nat) (source : WakeSource) (lane : Nat) :
    Follows s0 (wakeBy d source lane s) := by
  unfold wakeBy
  repeat' (first
    | with_reducible assumption | with_reducible exact Follows.refl _ | with_reducible refine Follows.ite ?_ ?_ 
    | with_reducible refine wakeTaken_follows ?_ .. | with_reducible refine fireWake_follows ?_ ..
    | fail_if_no_progress (with_reducible refine mk_follows ?_ rfl rfl) | fail_if_no_progress intros | split | extract_lets | dsimp only | dsimp +zetaDelta only)

theorem execWakeSourceFire_ends {s0 s : State} (h : Follows s0 s) (domain : SwDomain) (source : WakeSource) (lane : Fin 64) :
    Ends s0 (execWakeSourceFire domain source lane s) := by
  unfold execWakeSourceFire
  repeat' (first
    | with_reducible assumption | with_reducible exact Follows.refl _ | with_reducible refine Ends.of ?_ | with_reducible refine Ends.ite ?_ ?_ | with_reducible refine Follows.ite ?_ ?_ 
    | with_reducible refine wakeBy_follows ?_ ..
    | fail_if_no_progress (with_reducible refine mk_follows ?_ rfl rfl) | fail_if_no_progress intros | split | extract_lets | dsimp only | dsimp +zetaDelta only)

theorem wakeByMgt_follows {s0 s : State} (h : Follows s0 s) :
    Follows s0 (wakeByMgt s) := by
  unfold wakeByMgt
  repeat' (first
    | with_reducible assumption | with_reducible exact Follows.refl _ | with_reducible refine Follows.ite ?_ ?_ | with_reducible refine forL_snd ?_ ?_ | with_reducible refine forL_third ?_ ?_ 
    | with_reducible refine forL_follows ?_ ?_ | with_reducible refine wakeBy_follows ?_ ..
    | fail_if_no_progress (with_reducible refine mk_follows ?_ rfl rfl) | fail_if_no_progress intros | split | extract_lets | dsimp only | dsimp +zetaDelta only)

theorem scheduledWakes_follows {s0 s : State} (h : Follows s0 s) :
    Follows s0 (scheduledWakes s) := by
  unfold scheduledWakes
  repeat' (first
    | with_reducible assumption | with_reducible exact Follows.refl _ | with_reducible refine Follows.ite ?_ ?_ | with_reducible refine forL_snd ?_ ?_ | with_reducible refine forL_third ?_ ?_ 
    | with_reducible refine forL_follows ?_ ?_ | with_reducible refine wakeBy_follows ?_ ..
    | fail_if_no_progress (with_reducible refine mk_follows ?_ rfl rfl) | fail_if_no_progress intros | split | extract_lets | dsimp only | dsimp +zetaDelta only)

theorem markWakes_follows {s0 s : State} (h : Follows s0 s) :
    Follows s0 (markWakes s) := by
  unfold markWakes
  repeat' (first
    | with_reducible assumption | with_reducible exact Follows.refl _ | with_reducible refine Follows.ite ?_ ?_ 
    | with_reducible refine modPwr_follows ?_ ..
    | fail_if_no_progress (with_reducible refine mk_follows ?_ rfl rfl) | fail_if_no_progress intros | split | extract_lets | dsimp only | dsimp +zetaDelta only)

theorem requestSleep_follows {s0 s : State} (h : Follows s0 s) (d tick : Nat) :
    Follows s0 (requestSleep d tick s) := by
  unfold requestSleep
  repeat' (first
    | with_reducible assumption | with_reducible exact Follows.refl _ | with_reducible refine Follows.ite ?_ ?_ 
    | with_reducible refine w1_follows ?_ .. | with_reducible refine setPlan_follows ?_ .. | with_reducible refine setDomain_follows ?_ ..
    | fail_if_no_progress (with_reducible refine mk_follows ?_ rfl rfl) | fail_if_no_progress intros | split | extract_lets | dsimp only | dsimp +zetaDelta only)

theorem withdrawSleep_follows {s0 s : State} (h : Follows s0 s) (d : Nat) :
    Follows s0 (withdrawSleep d s) := by
  unfold withdrawSleep
  repeat' (first
    | with_reducible assumption | with_reducible exact Follows.refl _ | with_reducible refine Follows.ite ?_ ?_ 
    | with_reducible refine dropPlan_follows ?_ .. | with_reducible refine setDomain_follows ?_ ..
    | fail_if_no_progress (with_reducible refine mk_follows ?_ rfl rfl) | fail_if_no_progress intros | split | extract_lets | dsimp only | dsimp +zetaDelta only)

theorem effSleepRequest_follows {s0 s : State} (h : Follows s0 s) (d v : Nat) :
    Follows s0 (effSleepRequest d v s) := by
  unfold effSleepRequest
  repeat' (first
    | with_reducible assumption | with_reducible exact Follows.refl _ | with_reducible refine Follows.ite ?_ ?_ 
    | with_reducible refine requestSleep_follows ?_ .. | with_reducible refine fireWake_follows ?_ ..
    | fail_if_no_progress (with_reducible refine mk_follows ?_ rfl rfl) | fail_if_no_progress intros | split | extract_lets | dsimp only | dsimp +zetaDelta only)

theorem effSleepAtTick_follows {s0 s : State} (h : Follows s0 s) (d v : Nat) :
    Follows s0 (effSleepAtTick d v s) := by
  unfold effSleepAtTick
  repeat' (first
    | with_reducible assumption | with_reducible exact Follows.refl _ | with_reducible refine Follows.ite ?_ ?_ 
    | with_reducible refine w1_follows ?_ .. | with_reducible refine withdrawSleep_follows ?_ .. | with_reducible refine requestSleep_follows ?_ ..
    | fail_if_no_progress (with_reducible refine mk_follows ?_ rfl rfl) | fail_if_no_progress intros | split | extract_lets | dsimp only | dsimp +zetaDelta only)

theorem effWakeAtTick_follows {s0 s : State} (h : Follows s0 s) (d v : Nat) :
    Follows s0 (effWakeAtTick d v s) := by
  unfold effWakeAtTick
  repeat' (first
    | with_reducible assumption | with_reducible exact Follows.refl _ | with_reducible refine Follows.ite ?_ ?_ 
    | with_reducible refine w1_follows ?_ .. | with_reducible refine modPwr_follows ?_ ..
    | fail_if_no_progress (with_reducible refine mk_follows ?_ rfl rfl) | fail_if_no_progress intros | split | extract_lets | dsimp only | dsimp +zetaDelta only)

theorem execDomainSleepRequest_ends {s0 s : State} (h : Follows s0 s) (domain : SwDomain) (w : WriteReq) :
    Ends s0 (execDomainSleepRequest domain w s) := by
  unfold execDomainSleepRequest
  repeat' (first
    | with_reducible assumption | with_reducible exact Follows.refl _ | with_reducible refine Ends.of ?_ | with_reducible refine Ends.ite ?_ ?_ | with_reducible refine Follows.ite ?_ ?_ 
    | with_reducible refine catWrite_follows ?_ ?_ .. | with_reducible refine effSleepRequest_follows ?_ ..
    | fail_if_no_progress (with_reducible refine mk_follows ?_ rfl rfl) | fail_if_no_progress intros | split | extract_lets | dsimp only | dsimp +zetaDelta only)

theorem execDomainWakeCommand_ends {s0 s : State} (h : Follows s0 s) (domain : SwDomain) (w : WriteReq) :
    Ends s0 (execDomainWakeCommand domain w s) := by
  unfold execDomainWakeCommand
  repeat' (first
    | with_reducible assumption | with_reducible exact Follows.refl _ | with_reducible refine Ends.of ?_ | with_reducible refine Ends.ite ?_ ?_ | with_reducible refine Follows.ite ?_ ?_ 
    | with_reducible refine catWrite_follows ?_ ?_ .. | with_reducible refine effSleepRequest_follows ?_ ..
    | fail_if_no_progress (with_reducible refine mk_follows ?_ rfl rfl) | fail_if_no_progress intros | split | extract_lets | dsimp only | dsimp +zetaDelta only)

theorem execDomainSleepAtTickWrite_ends {s0 s : State} (h : Follows s0 s) (domain : SwDomain) (w : WriteReq) :
    Ends s0 (execDomainSleepAtTickWrite domain w s) := by
  unfold execDomainSleepAtTickWrite
  repeat' (first
    | with_reducible assumption | with_reducible exact Follows.refl _ | with_reducible refine Ends.of ?_ | with_reducible refine Ends.ite ?_ ?_ | with_reducible refine Follows.ite ?_ ?_ 
    | with_reducible refine catWrite_follows ?_ ?_ .. | with_reducible refine effSleepAtTick_follows ?_ ..
    | fail_if_no_progress (with_reducible refine mk_follows ?_ rfl rfl) | fail_if_no_progress intros | split | extract_lets | dsimp only | dsimp +zetaDelta only)

theorem execDomainWakeAtTickWrite_ends {s0 s : State} (h : Follows s0 s) (domain : SwDomain) (w : WriteReq) :
    Ends s0 (execDomainWakeAtTickWrite domain w s) := by
  unfold execDomainWakeAtTickWrite
  repeat' (first
    | with_reducible assumption | with_reducible exact Follows.refl _ | with_reducible refine Ends.of ?_ | with_reducible refine Ends.ite ?_ ?_ | with_reducible refine Follows.ite ?_ ?_ 
    | with_reducible refine catWrite_follows ?_ ?_ .. | with_reducible refine effWakeAtTick_follows ?_ ..
    | fail_if_no_progress (with_reducible refine mk_follows ?_ rfl rfl) | fail_if_no_progress intros | split | extract_lets | dsimp only | dsimp +zetaDelta only)

theorem markSleep_follows {s0 s : State} (h : Follows s0 s) (d : Nat) :
    Follows s0 (markSleep d s) := by
  unfold markSleep
  repeat' (first
    | with_reducible assumption | with_reducible exact Follows.refl _ | with_reducible refine Follows.ite ?_ ?_ | with_reducible refine forL_snd ?_ ?_ | with_reducible refine forL_third ?_ ?_ 
    | with_reducible refine forL_follows ?_ ?_ | with_reducible refine w1_follows ?_ .. | with_reducible refine setPlan_follows ?_ ..
    | fail_if_no_progress (with_reducible refine mk_follows ?_ rfl rfl) | fail_if_no_progress intros | split | extract_lets | dsimp only | dsimp +zetaDelta only)

theorem markSleeps_follows {s0 s : State} (h : Follows s0 s) :
    Follows s0 (markSleeps s) := by
  unfold markSleeps
  repeat' (first
    | with_reducible assumption | with_reducible exact Follows.refl _ | with_reducible refine Follows.ite ?_ ?_ | with_reducible refine forL_snd ?_ ?_ | with_reducible refine forL_third ?_ ?_ 
    | with_reducible refine forL_follows ?_ ?_ | with_reducible refine markSleep_follows ?_ ..
    | fail_if_no_progress (with_reducible refine mk_follows ?_ rfl rfl) | fail_if_no_progress intros | split | extract_lets | dsimp only | dsimp +zetaDelta only)

theorem enterOne_follows {s0 s : State} (h : Follows s0 s) (d : Nat) :
    Follows s0 (enterOne d s) := by
  unfold enterOne
  repeat' (first
    | with_reducible assumption | with_reducible exact Follows.refl _ | with_reducible refine Follows.ite ?_ ?_ 
    | with_reducible refine sleepLives_follows ?_ .. | with_reducible refine domainLeaves_follows ?_ .. | with_reducible refine modPwr_follows ?_ .. | with_reducible refine inc_follows ?_ .. | with_reducible refine w1_follows ?_ .. | with_reducible refine setDomain_follows ?_ ..
    | fail_if_no_progress (with_reducible refine mk_follows ?_ rfl rfl) | fail_if_no_progress intros | split | extract_lets | dsimp only | dsimp +zetaDelta only)

theorem enterSleep_follows {s0 s : State} (h : Follows s0 s) (d : Nat) :
    Follows s0 (enterSleep d s) := by
  unfold enterSleep
  repeat' (first
    | with_reducible assumption | with_reducible exact Follows.refl _ | with_reducible refine Follows.ite ?_ ?_ | with_reducible refine forL_snd ?_ ?_ | with_reducible refine forL_third ?_ ?_ 
    | with_reducible refine forL_follows ?_ ?_ | with_reducible refine enterOne_follows ?_ ..
    | fail_if_no_progress (with_reducible refine mk_follows ?_ rfl rfl) | fail_if_no_progress intros | split | extract_lets | dsimp only | dsimp +zetaDelta only)

theorem sleepDue_follows {s0 s : State} (h : Follows s0 s) (d : Nat) :
    Follows s0 (sleepDue d s) := by
  unfold sleepDue
  repeat' (first
    | with_reducible assumption | with_reducible exact Follows.refl _ | with_reducible refine Follows.ite ?_ ?_ 
    | with_reducible refine scheduledWakes_follows ?_ .. | with_reducible refine openDue_follows ?_ .. | with_reducible refine enterSleep_follows ?_ ..
    | fail_if_no_progress (with_reducible refine mk_follows ?_ rfl rfl) | fail_if_no_progress intros | split | extract_lets | dsimp only | dsimp +zetaDelta only)

theorem sleepsLeftOver_follows {s0 s : State} (h : Follows s0 s) :
    Follows s0 (sleepsLeftOver s) := by
  unfold sleepsLeftOver
  repeat' (first
    | with_reducible assumption | with_reducible exact Follows.refl _ | with_reducible refine Follows.ite ?_ ?_ | with_reducible refine forL_snd ?_ ?_ | with_reducible refine forL_third ?_ ?_ 
    | with_reducible refine forL_follows ?_ ?_ | with_reducible refine sleepDue_follows ?_ ..
    | fail_if_no_progress (with_reducible refine mk_follows ?_ rfl rfl) | fail_if_no_progress intros | split | extract_lets | dsimp only | dsimp +zetaDelta only)

end Sys2Proof.Machine
end

