-- ==== Sys2Proof/Laws/JtagFollows.lean ====
section
/-! SUPPORT. Every operation of Jtag follows. -/

set_option linter.unreachableTactic false
set_option linter.unusedTactic false

namespace Sys2Proof.Machine

theorem lanesToSignal_follows {s0 s : State} (h : Follows s0 s) (states : List Nat) (counted : Bool) :
    Follows s0 (lanesToSignal states counted s) := by
  unfold lanesToSignal
  repeat' (first
    | with_reducible assumption | with_reducible exact Follows.refl _ | with_reducible refine Follows.ite ?_ ?_ | with_reducible refine forN_snd ?_ ?_ | with_reducible refine forN_third ?_ ?_ 
    | with_reducible refine forN_follows ?_ ?_ | with_reducible refine inc_follows ?_ .. | with_reducible refine onLane_follows ?_ ?_ .. | with_reducible refine setLaneState_follows ?_ ..
    | fail_if_no_progress (with_reducible refine mk_follows ?_ rfl rfl) | fail_if_no_progress intros | split | extract_lets | dsimp only | dsimp +zetaDelta only)

theorem ballsHeld_advances {s0 s : State} (h : Advances s0 s) : Advances s0 (ballsHeld s) :=
  (h.trans (lanesToSignal_follows (Follows.refl s) [2, 3, 4, 5, 6, 7] true).toAdvances).tapOnly _

theorem ballsFreed_advances {s0 s : State} (h : Advances s0 s) : Advances s0 (ballsFreed s) :=
  (h.tapOnly { s.tap with held := false }).trans
    (lanesToSignal_follows (Follows.refl _) [2, 3, 4, 5, 6, 7] false).toAdvances

theorem takeCells_advances {s0 s : State} (h : Advances s0 s) (code : Nat) : Advances s0 (takeCells code s) := by
  unfold takeCells
  split
  · exact Advances.tapOnly (h.trans (draw_follows (Follows.refl s)).toAdvances) _
  · exact h

theorem loadTap_advances {s0 s : State} (h : Advances s0 s) (code : Nat) : Advances s0 (loadTap code s) := by
  unfold loadTap
  dsimp only
  refine Advances.tapOnly (takeCells_advances ?_ code) _
  split <;> split
  · exact h
  · exact ballsHeld_advances h
  · exact ballsFreed_advances h
  · exact h

theorem tapInstruction_moves (s : State) (code : Nat) : Moves s (tapInstruction code s) := by
  unfold tapInstruction
  split
  · exact Moves.of (Advances.refl s)
  · exact Moves.of (loadTap_advances (Advances.refl s) code)

theorem execExtest_moves (s : State) : Moves s (execExtest s) := tapInstruction_moves s _

theorem execSamplePreload_moves (s : State) : Moves s (execSamplePreload s) := tapInstruction_moves s _

theorem execIdcode_moves (s : State) : Moves s (execIdcode s) := tapInstruction_moves s _

theorem execHighz_moves (s : State) : Moves s (execHighz s) := tapInstruction_moves s _

theorem execClamp_moves (s : State) : Moves s (execClamp s) := tapInstruction_moves s _

theorem execExtestPulse_moves (s : State) : Moves s (execExtestPulse s) := tapInstruction_moves s _

theorem execExtestTrain_moves (s : State) : Moves s (execExtestTrain s) := tapInstruction_moves s _

theorem execVitrineId_moves (s : State) : Moves s (execVitrineId s) := tapInstruction_moves s _

theorem execSvcPort_moves (s : State) : Moves s (execSvcPort s) := tapInstruction_moves s _

theorem execBypass_moves (code : BitVec 8) (s : State) : Moves s (execBypass code s) := tapInstruction_moves s _

theorem execTapReset_moves (s : State) : Moves s (execTapReset s) := tapInstruction_moves s _

end Sys2Proof.Machine
end

