-- ==== Sys2Proof/Laws/ViewsFollows.lean ====
section
/-! SUPPORT. Every operation of Views follows. -/

set_option linter.unreachableTactic false
set_option linter.unusedTactic false

namespace Sys2Proof.Machine

theorem seen_follows {s0 s : State} (h : Follows s0 s) :
    Follows s0 (seen s) := by
  unfold seen
  repeat' (first
    | with_reducible assumption | with_reducible exact Follows.refl _ | with_reducible refine Follows.ite ?_ ?_ 
    | with_reducible refine perfNow_follows ?_ .. | with_reducible refine judgeGates_follows ?_ ..
    | fail_if_no_progress (with_reducible refine mk_follows ?_ rfl rfl) | fail_if_no_progress intros | split | extract_lets | dsimp only | dsimp +zetaDelta only)

theorem latchHigh_follows {s0 s : State} (h : Follows s0 s) (idx v : Nat) :
    Follows s0 (latchHigh idx v s) := by
  unfold latchHigh
  repeat' (first
    | with_reducible assumption | with_reducible exact Follows.refl _ | with_reducible refine Follows.ite ?_ ?_ 
    | fail_if_no_progress (with_reducible refine mk_follows ?_ rfl rfl) | fail_if_no_progress intros | split | extract_lets | dsimp only | dsimp +zetaDelta only)

theorem readTaken_follows {s0 s : State} (h : Follows s0 s) (session idx sub row : Nat) :
    Follows s0 (readTaken session idx sub row s).2 := by
  unfold readTaken
  repeat' (first
    | with_reducible assumption | with_reducible exact Follows.refl _ | with_reducible refine Follows.ite ?_ ?_ 
    | with_reducible refine latchHigh_follows ?_ ..
    | fail_if_no_progress (with_reducible refine mk_follows ?_ rfl rfl) | fail_if_no_progress intros | split | extract_lets | dsimp only | dsimp +zetaDelta only)

theorem readItem_follows {s0 s : State} (h : Follows s0 s) (opcode session idx sub row seq item : Nat) :
    Follows s0 (readItem opcode session idx sub row seq item s).2 := by
  unfold readItem
  repeat' (first
    | with_reducible assumption | with_reducible exact Follows.refl _ | with_reducible refine Follows.ite ?_ ?_ 
    | with_reducible refine violate_follows ?_ .. | with_reducible refine readTaken_follows ?_ ..
    | fail_if_no_progress (with_reducible refine mk_follows ?_ rfl rfl) | fail_if_no_progress intros | split | extract_lets | dsimp only | dsimp +zetaDelta only)

end Sys2Proof.Machine
end

