-- ==== Sys2Proof/Laws/SessionsFollows.lean ====
section
/-! SUPPORT. Every operation of Sessions follows. -/

set_option linter.unreachableTactic false
set_option linter.unusedTactic false

namespace Sys2Proof.Machine

theorem modLrk_follows {s0 s : State} (h : Follows s0 s) (f : Lrk → Lrk) :
    Follows s0 (modLrk f s) := by
  unfold modLrk
  repeat' (first
    | with_reducible assumption | with_reducible exact Follows.refl _ | with_reducible refine Follows.ite ?_ ?_ 
    | fail_if_no_progress (with_reducible refine mk_follows ?_ rfl rfl) | fail_if_no_progress intros | split | extract_lets | dsimp only | dsimp +zetaDelta only)

theorem setSession_follows {s0 s : State} (h : Follows s0 s) (slot : Nat) (x : Session) :
    Follows s0 (setSession slot x s) := by
  unfold setSession
  repeat' (first
    | with_reducible assumption | with_reducible exact Follows.refl _ | with_reducible refine Follows.ite ?_ ?_ 
    | with_reducible refine modLrk_follows ?_ ..
    | fail_if_no_progress (with_reducible refine mk_follows ?_ rfl rfl) | fail_if_no_progress intros | split | extract_lets | dsimp only | dsimp +zetaDelta only)

theorem modSession_follows {s0 s : State} (h : Follows s0 s) (slot : Nat) (f : Session → Session) :
    Follows s0 (modSession slot f s) := by
  unfold modSession
  repeat' (first
    | with_reducible assumption | with_reducible exact Follows.refl _ | with_reducible refine Follows.ite ?_ ?_ 
    | with_reducible refine setSession_follows ?_ ..
    | fail_if_no_progress (with_reducible refine mk_follows ?_ rfl rfl) | fail_if_no_progress intros | split | extract_lets | dsimp only | dsimp +zetaDelta only)

theorem answer_follows {s0 s : State} (h : Follows s0 s) (r : Req) (session status : Nat) (payload : Bytes) (sk : Option Bytes) :
    Follows s0 (answer r session status payload sk s) := by
  unfold answer
  repeat' (first
    | with_reducible assumption | with_reducible exact Follows.refl _ | with_reducible refine Follows.ite ?_ ?_ 
    | with_reducible refine sendPdu_follows ?_ ..
    | fail_if_no_progress (with_reducible refine mk_follows ?_ rfl rfl) | fail_if_no_progress intros | split | extract_lets | dsimp only | dsimp +zetaDelta only)

theorem finishRequest_follows {s0 s : State} (h : Follows s0 s) (slot : Nat) (r : Req) (status : Nat) (payload : Bytes) :
    Follows s0 (finishRequest slot r status payload s) := by
  unfold finishRequest
  repeat' (first
    | with_reducible assumption | with_reducible exact Follows.refl _ | with_reducible refine Follows.ite ?_ ?_ 
    | with_reducible refine sendPdu_follows ?_ .. | with_reducible refine modSession_follows ?_ ..
    | fail_if_no_progress (with_reducible refine mk_follows ?_ rfl rfl) | fail_if_no_progress intros | split | extract_lets | dsimp only | dsimp +zetaDelta only)

theorem closeSession_follows {s0 s : State} (h : Follows s0 s) (slot : Nat) :
    Follows s0 (closeSession slot s) := by
  unfold closeSession
  repeat' (first
    | with_reducible assumption | with_reducible exact Follows.refl _ | with_reducible refine Follows.ite ?_ ?_ 
    | with_reducible refine w1_follows ?_ .. | with_reducible refine modLrk_follows ?_ .. | with_reducible refine modSession_follows ?_ .. | with_reducible refine modOpn_follows ?_ ..
    | fail_if_no_progress (with_reducible refine mk_follows ?_ rfl rfl) | fail_if_no_progress intros | split | extract_lets | dsimp only | dsimp +zetaDelta only)

theorem closeWhere_follows {s0 s : State} (h : Follows s0 s) (p : Session → Bool) :
    Follows s0 (closeWhere p s) := by
  unfold closeWhere
  repeat' (first
    | with_reducible assumption | with_reducible exact Follows.refl _ | with_reducible refine Follows.ite ?_ ?_ | with_reducible refine forN_snd ?_ ?_ | with_reducible refine forN_third ?_ ?_ 
    | with_reducible refine forN_follows ?_ ?_ | with_reducible refine closeSession_follows ?_ ..
    | fail_if_no_progress (with_reducible refine mk_follows ?_ rfl rfl) | fail_if_no_progress intros | split | extract_lets | dsimp only | dsimp +zetaDelta only)

theorem execSessionIdleTimeout_ends {s0 s : State} (h : Follows s0 s) (slot : Fin 16) :
    Ends s0 (execSessionIdleTimeout slot s) := by
  unfold execSessionIdleTimeout
  repeat' (first
    | with_reducible assumption | with_reducible exact Follows.refl _ | with_reducible refine Ends.of ?_ | with_reducible refine Ends.ite ?_ ?_ | with_reducible refine Follows.ite ?_ ?_ 
    | with_reducible refine closeSession_follows ?_ .. | with_reducible refine advanceTo_follows ?_ ..
    | fail_if_no_progress (with_reducible refine mk_follows ?_ rfl rfl) | fail_if_no_progress intros | split | extract_lets | dsimp only | dsimp +zetaDelta only)

theorem clearViolations_follows {s0 s : State} (h : Follows s0 s) (slot : Nat) :
    Follows s0 (clearViolations slot s) := by
  unfold clearViolations
  repeat' (first
    | with_reducible assumption | with_reducible exact Follows.refl _ | with_reducible refine Follows.ite ?_ ?_ | with_reducible refine forN_snd ?_ ?_ | with_reducible refine forN_third ?_ ?_ 
    | with_reducible refine w1_follows ?_ .. | with_reducible refine forN_follows ?_ ?_
    | fail_if_no_progress (with_reducible refine mk_follows ?_ rfl rfl) | fail_if_no_progress intros | split | extract_lets | dsimp only | dsimp +zetaDelta only)

theorem execSessionViolationClear_ends {s0 s : State} (h : Follows s0 s) (target : Fin 16) (w : WriteReq) :
    Ends s0 (execSessionViolationClear target w s) := by
  unfold execSessionViolationClear
  repeat' (first
    | with_reducible assumption | with_reducible exact Follows.refl _ | with_reducible refine Ends.of ?_ | with_reducible refine Ends.ite ?_ ?_ | with_reducible refine Follows.ite ?_ ?_ 
    | with_reducible refine catWrite_follows ?_ ?_ .. | with_reducible refine effClear_follows ?_ ?_ .. | with_reducible refine clearViolations_follows ?_ ..
    | fail_if_no_progress (with_reducible refine mk_follows ?_ rfl rfl) | fail_if_no_progress intros | split | extract_lets | dsimp only | dsimp +zetaDelta only)

theorem effLorakKey_follows {s0 s : State} (h : Follows s0 s) (k v : Nat) :
    Follows s0 (effLorakKey k v s) := by
  unfold effLorakKey
  repeat' (first
    | with_reducible assumption | with_reducible exact Follows.refl _ | with_reducible refine Follows.ite ?_ ?_ 
    | with_reducible refine modLrk_follows ?_ .. | with_reducible refine closeWhere_follows ?_ .. | with_reducible refine w1_follows ?_ ..
    | fail_if_no_progress (with_reducible refine mk_follows ?_ rfl rfl) | fail_if_no_progress intros | split | extract_lets | dsimp only | dsimp +zetaDelta only)

theorem execLorakKeyWrite_ends {s0 s : State} (h : Follows s0 s) (key : Fin 4) (w : WriteReq) :
    Ends s0 (execLorakKeyWrite key w s) := by
  unfold execLorakKeyWrite
  repeat' (first
    | with_reducible assumption | with_reducible exact Follows.refl _ | with_reducible refine Ends.of ?_ | with_reducible refine Ends.ite ?_ ?_ | with_reducible refine Follows.ite ?_ ?_ 
    | with_reducible refine catWrite_follows ?_ ?_ .. | with_reducible refine effLorakKey_follows ?_ ..
    | fail_if_no_progress (with_reducible refine mk_follows ?_ rfl rfl) | fail_if_no_progress intros | split | extract_lets | dsimp only | dsimp +zetaDelta only)

theorem effLorakKeyErase_follows {s0 s : State} (h : Follows s0 s) (st v : Nat) :
    Follows s0 (effLorakKeyErase st v s) := by
  unfold effLorakKeyErase
  repeat' (first
    | with_reducible assumption | with_reducible exact Follows.refl _ | with_reducible refine Follows.ite ?_ ?_ 
    | with_reducible refine effBool_follows ?_ ?_ .. | with_reducible refine closeWhere_follows ?_ .. | with_reducible refine dropIdx_follows ?_ .. | with_reducible refine modLrk_follows ?_ ..
    | fail_if_no_progress (with_reducible refine mk_follows ?_ rfl rfl) | fail_if_no_progress intros | split | extract_lets | dsimp only | dsimp +zetaDelta only)

theorem execLorakKeyErase_ends {s0 s : State} (h : Follows s0 s) (w : WriteReq) :
    Ends s0 (execLorakKeyErase w s) := by
  unfold execLorakKeyErase
  repeat' (first
    | with_reducible assumption | with_reducible exact Follows.refl _ | with_reducible refine Ends.of ?_ | with_reducible refine Ends.ite ?_ ?_ | with_reducible refine Follows.ite ?_ ?_ 
    | with_reducible refine catWrite_follows ?_ ?_ .. | with_reducible refine effLorakKeyErase_follows ?_ ..
    | fail_if_no_progress (with_reducible refine mk_follows ?_ rfl rfl) | fail_if_no_progress intros | split | extract_lets | dsimp only | dsimp +zetaDelta only)

theorem effAuthRequired_follows {s0 s : State} (h : Follows s0 s) (t v : Nat) :
    Follows s0 (effAuthRequired t v s) := by
  unfold effAuthRequired
  repeat' (first
    | with_reducible assumption | with_reducible exact Follows.refl _ | with_reducible refine Follows.ite ?_ ?_ 
    | with_reducible refine w1_follows ?_ .. | with_reducible refine closeWhere_follows ?_ ..
    | fail_if_no_progress (with_reducible refine mk_follows ?_ rfl rfl) | fail_if_no_progress intros | split | extract_lets | dsimp only | dsimp +zetaDelta only)

theorem execLorakAuthRequiredWrite_ends {s0 s : State} (h : Follows s0 s) (transport : Fin 3) (w : WriteReq) :
    Ends s0 (execLorakAuthRequiredWrite transport w s) := by
  unfold execLorakAuthRequiredWrite
  repeat' (first
    | with_reducible assumption | with_reducible exact Follows.refl _ | with_reducible refine Ends.of ?_ | with_reducible refine Ends.ite ?_ ?_ | with_reducible refine Follows.ite ?_ ?_ 
    | with_reducible refine catWrite_follows ?_ ?_ .. | with_reducible refine effAuthRequired_follows ?_ ..
    | fail_if_no_progress (with_reducible refine mk_follows ?_ rfl rfl) | fail_if_no_progress intros | split | extract_lets | dsimp only | dsimp +zetaDelta only)

theorem effMgtMode_follows {s0 s : State} (h : Follows s0 s) (x1 v : Nat) :
    Follows s0 (effMgtMode x1 v s) := by
  unfold effMgtMode
  repeat' (first
    | with_reducible assumption | with_reducible exact Follows.refl _ | with_reducible refine Follows.ite ?_ ?_ 
    | with_reducible refine w0_follows ?_ ..
    | fail_if_no_progress (with_reducible refine mk_follows ?_ rfl rfl) | fail_if_no_progress intros | split | extract_lets | dsimp only | dsimp +zetaDelta only)

theorem execMgtModeWrite_ends {s0 s : State} (h : Follows s0 s) (w : WriteReq) :
    Ends s0 (execMgtModeWrite w s) := by
  unfold execMgtModeWrite
  repeat' (first
    | with_reducible assumption | with_reducible exact Follows.refl _ | with_reducible refine Ends.of ?_ | with_reducible refine Ends.ite ?_ ?_ | with_reducible refine Follows.ite ?_ ?_ 
    | with_reducible refine catWrite_follows ?_ ?_ .. | with_reducible refine effMgtMode_follows ?_ ..
    | fail_if_no_progress (with_reducible refine mk_follows ?_ rfl rfl) | fail_if_no_progress intros | split | extract_lets | dsimp only | dsimp +zetaDelta only)

theorem execMgtLinkUp_ends {s0 s : State} (h : Follows s0 s) (signalled : Fin 3) :
    Ends s0 (execMgtLinkUp signalled s) := by
  unfold execMgtLinkUp
  repeat' (first
    | with_reducible assumption | with_reducible exact Follows.refl _ | with_reducible refine Ends.of ?_ | with_reducible refine Ends.ite ?_ ?_ | with_reducible refine Follows.ite ?_ ?_ 
    | with_reducible refine w0_follows ?_ ..
    | fail_if_no_progress (with_reducible refine mk_follows ?_ rfl rfl) | fail_if_no_progress intros | split | extract_lets | dsimp only | dsimp +zetaDelta only)

theorem execMgtLinkDown_ends {s0 s : State} (h : Follows s0 s) :
    Ends s0 (execMgtLinkDown s) := by
  unfold execMgtLinkDown
  repeat' (first
    | with_reducible assumption | with_reducible exact Follows.refl _ | with_reducible refine Ends.of ?_ | with_reducible refine Ends.ite ?_ ?_ | with_reducible refine Follows.ite ?_ ?_ 
    | with_reducible refine w0_follows ?_ ..
    | fail_if_no_progress (with_reducible refine mk_follows ?_ rfl rfl) | fail_if_no_progress intros | split | extract_lets | dsimp only | dsimp +zetaDelta only)

theorem execSvcLineBreak_ends {s0 s : State} (h : Follows s0 s) (inFrame : Bool) :
    Ends s0 (execSvcLineBreak inFrame s) := by
  unfold execSvcLineBreak
  repeat' (first
    | with_reducible assumption | with_reducible exact Follows.refl _ | with_reducible refine Ends.of ?_ | with_reducible refine Ends.ite ?_ ?_ | with_reducible refine Follows.ite ?_ ?_ 
    | with_reducible refine inc_follows ?_ ..
    | fail_if_no_progress (with_reducible refine mk_follows ?_ rfl rfl) | fail_if_no_progress intros | split | extract_lets | dsimp only | dsimp +zetaDelta only)

theorem answerCollect_follows {s0 s : State} (h : Follows s0 s) (slot : Nat) (r : Req) :
    Follows s0 (answerCollect slot r s) := by
  unfold answerCollect
  repeat' (first
    | with_reducible assumption | with_reducible exact Follows.refl _ | with_reducible refine Follows.ite ?_ ?_ 
    | with_reducible refine finishRequest_follows ?_ .. | with_reducible refine freeBank_follows ?_ ..
    | fail_if_no_progress (with_reducible refine mk_follows ?_ rfl rfl) | fail_if_no_progress intros | split | extract_lets | dsimp only | dsimp +zetaDelta only)

theorem answerHeld_follows {s0 s : State} (h : Follows s0 s) (b : Nat) (l : List HeldCollect) :
    Follows s0 (answerHeld b l s) := by
  unfold answerHeld
  repeat' (first
    | with_reducible assumption | with_reducible exact Follows.refl _ | with_reducible refine Follows.ite ?_ ?_ | with_reducible refine forL_snd ?_ ?_ | with_reducible refine forL_third ?_ ?_ 
    | with_reducible refine forL_follows ?_ ?_ | with_reducible refine answerCollect_follows ?_ .. | with_reducible refine setBank_follows ?_ ..
    | fail_if_no_progress (with_reducible refine mk_follows ?_ rfl rfl) | fail_if_no_progress intros | split | extract_lets | dsimp only | dsimp +zetaDelta only)

theorem bankFull_follows {s0 s : State} (h : Follows s0 s) (b : Nat) :
    Follows s0 (bankFull b s) := by
  unfold bankFull
  repeat' (first
    | with_reducible assumption | with_reducible exact Follows.refl _ | with_reducible refine Follows.ite ?_ ?_ 
    | with_reducible refine answerHeld_follows ?_ .. | with_reducible refine w1_follows ?_ ..
    | fail_if_no_progress (with_reducible refine mk_follows ?_ rfl rfl) | fail_if_no_progress intros | split | extract_lets | dsimp only | dsimp +zetaDelta only)

theorem effInventoryRelease_follows {s0 s : State} (h : Follows s0 s) (st v : Nat) :
    Follows s0 (effInventoryRelease st v s) := by
  unfold effInventoryRelease
  repeat' (first
    | with_reducible assumption | with_reducible exact Follows.refl _ | with_reducible refine Follows.ite ?_ ?_ 
    | with_reducible refine effBool_follows ?_ ?_ .. | with_reducible refine answerHeld_follows ?_ .. | with_reducible refine freeBank_follows ?_ ..
    | fail_if_no_progress (with_reducible refine mk_follows ?_ rfl rfl) | fail_if_no_progress intros | split | extract_lets | dsimp only | dsimp +zetaDelta only)

end Sys2Proof.Machine
end

