-- ==== Sys2Proof/Laws/WritesFollows.lean ====
section
/-! SUPPORT. Every operation of Writes follows. -/

set_option linter.unreachableTactic false
set_option linter.unusedTactic false

namespace Sys2Proof.Machine

theorem effForwardingDirect_follows {s0 s : State} (h : Follows s0 s) (row : Nat) (x1 v : Nat) :
    Follows s0 (effForwardingDirect row x1 v s) := by
  unfold effForwardingDirect
  repeat' (first
    | with_reducible assumption | with_reducible exact Follows.refl _ | with_reducible refine Follows.ite ?_ ?_ 
    | with_reducible refine wr_follows ?_ ..
    | fail_if_no_progress (with_reducible refine mk_follows ?_ rfl rfl) | fail_if_no_progress intros | split | extract_lets | dsimp only | dsimp +zetaDelta only)

theorem effOf_follows {s0 b : State} (h : Follows s0 b) (opcode : Nat) (w : WriteReq) (idx row : Nat) (st v : Nat) : Follows s0 (effOf opcode w idx row st v b) := by
  unfold effOf
  split
  · exact effClear_follows h (fun _ _ k => clearViolations_follows k ..) ..
  · exact effLorakKey_follows h ..
  · exact effAuthRequired_follows h ..
  · exact effLorakKeyErase_follows h ..
  · exact effMgtMode_follows h ..
  · exact effTickMaxClear_follows h ..
  · exact effShadowDiscard_follows h ..
  · exact effInventoryRelease_follows h ..
  · exact effLaneEnable_follows h ..
  · exact effReserveRequest_follows h ..
  · exact effClear_follows h (fun _ _ k => dropIdx_follows k ..) ..
  · exact effClear_follows h (fun _ _ k => clearPortCounters_follows k ..) ..
  · exact effFdbAgeTime_follows h ..
  · exact effForwardingDirect_follows h ..
  · exact effBool_follows h (fun _ _ k => fdbFlush_follows k ..) ..
  · exact effClear_follows h (fun _ _ k => clearCoreCounters_follows k ..) ..
  · exact effClear_follows h (fun _ _ k => clearGateCounters_follows k ..) ..
  · exact effClear_follows h (fun _ _ k => clearCombiner_follows k ..) ..
  · exact effTdcMeasureConfig_follows h ..
  · exact effBool_follows h (fun _ _ k => measStart_follows k ..) ..
  · exact effFreqMeasureConfig_follows h ..
  · exact effBool_follows h (fun _ _ k => freqStart_follows k ..) ..
  · exact effCalRequest_follows h ..
  · exact effSynOffset_follows h ..
  · exact effOutEnable_follows h ..
  · exact effServoMode_follows h ..
  · exact effTimeIncrementSet_follows h ..
  · exact effTimeStep_follows h ..
  · exact effTimeSet_follows h ..
  · exact effServoStateSet_follows h ..
  · exact effServoCommand_follows h ..
  · exact effBool_follows h (fun _ _ k => acceptStepNow_follows k ..) ..
  · exact effRootTimeSource_follows h ..
  · exact effClear_follows h (fun _ _ k => clearPtp_follows k ..) ..
  · exact effZutumEnable_follows h ..
  · exact effBool_follows h (fun _ _ k => discardSets_follows k ..) ..
  · exact effCalRequest_follows h ..
  · exact effCalRequest_follows h ..
  · exact effCalRequest_follows h ..
  · exact effClear_follows h (fun _ _ k => clearAllCounters_follows k ..) ..
  · exact effPerfConfig_follows h ..
  · exact effPerfConfig_follows h ..
  · exact effPerfPreset_follows h ..
  · exact effPerfThreshold_follows h ..
  · exact effPerfOverflowClear_follows h ..
  · exact effArchiveConfig_follows h ..
  · exact effArchiveConfig_follows h ..
  · exact effArchiveConfig_follows h ..
  · exact effBool_follows h (fun _ _ k => archTrigger_follows k ..) ..
  · exact effClear_follows h (fun _ _ k => clearArchive_follows k ..) ..
  · exact effEventClear_follows h ..
  · exact effEventMask_follows h ..
  · exact effEventMask_follows h ..
  · exact effEventMask_follows h ..
  · exact effEventHold_follows h ..
  · exact effClear_follows h (fun _ _ k => dropIdx_follows (perfNow_follows k) ..) ..
  · exact effSeal_follows h ..
  · exact effSeal_follows h ..
  · exact effSleepRequest_follows h ..
  · exact effSleepAtTick_follows h ..
  · exact effWakeAtTick_follows h ..
  · exact effResetNow_follows h ..
  · exact effBootPrefer_follows h ..
  · exact effImageBlock_follows h ..
  · exact effImageErase_follows h ..
  · exact effImageCommit_follows h ..
  · exact effOvertempLimit_follows h ..
  · exact setTestObject_follows h ..
  · exact setTestObject_follows h ..
  · exact effClear_follows h (fun _ _ k => clearChecker_follows k ..) ..
  · exact effInjectFire_follows h ..
  · exact setTestObject_follows h ..
  · exact effBool_follows h (fun _ _ k => startSelfTest_follows k ..) ..
  · exact effStore_follows h ..

theorem applyWrite_follows {s0 s : State} (h : Follows s0 s) (opcode : Nat) (w : WriteReq) (idx sub row : Nat) :
    Follows s0 (applyWrite opcode w idx sub row s) := by
  unfold applyWrite
  repeat' (first
    | with_reducible assumption | with_reducible exact Follows.refl _ | with_reducible refine Follows.ite ?_ ?_ 
    | with_reducible refine catWriteAs_follows ?_ ?_ .. | with_reducible refine effOf_follows ?_ ..
    | fail_if_no_progress (with_reducible refine mk_follows ?_ rfl rfl) | fail_if_no_progress intros | split | extract_lets | dsimp only | dsimp +zetaDelta only)

end Sys2Proof.Machine
end

