-- ==== Sys2Proof/Laws/LorakFollows.lean ====
section
/-! SUPPORT. Every operation of Lorak follows. -/

set_option linter.unreachableTactic false
set_option linter.unusedTactic false

namespace Sys2Proof.Machine

theorem runWrites_follows {s0 s : State} (h : Follows s0 s) (slot : Nat) (r : Req) (place : Nat) (l : List Item) :
    Follows s0 (runWrites slot r place l s).2 := by
  induction l generalizing place s with
  | nil => exact h
  | cons i t ih =>
    unfold runWrites
    split
    · exact h
    · exact ih (applyWrite_follows h ..) _

theorem stageOne_follows {s0 s : State} (h : Follows s0 s) (opcode slot seq item : Nat) (i : Item) :
    ∀ t, stageOne opcode slot seq item i s = some t → Follows s0 t := by
  intro t e
  have k := expireArms_follows h
  unfold stageOne at e
  dsimp only at e
  split at e
  · cases e; exact violate_follows k ..
  · split at e
    · obtain ⟨u, hu, rfl⟩ := Option.map_eq_some_iff.mp e
      exact recheck_follows (stageEntry_follows k _ _ _ _ _ hu)
    · cases e; exact k

theorem stageList_follows {s0 s : State} (h : Follows s0 s) (opcode slot seq : Nat) (numbered : Bool) (n : Nat)
    (l : List Item) : Follows s0 (stageList opcode slot seq numbered n l s).2.2 := by
  induction l generalizing n s with
  | nil => exact h
  | cons i t ih =>
    unfold stageList
    split
    · exact h
    · exact ih (stageOne_follows h _ _ _ _ _ _ (by assumption)) _

theorem bulkReadRow_follows {s0 s : State} (h : Follows s0 s) (slot : Nat) (r : Req) (idx sub row len : Nat) :
    Follows s0 (bulkReadRow slot r idx sub row len s).2 := by
  unfold bulkReadRow
  repeat' (first
    | with_reducible assumption | with_reducible exact Follows.refl _ | with_reducible refine Follows.ite ?_ ?_ 
    | with_reducible refine violate_follows ?_ .. | with_reducible refine readTaken_follows ?_ ..
    | fail_if_no_progress (with_reducible refine mk_follows ?_ rfl rfl) | fail_if_no_progress intros | split | extract_lets | dsimp only | dsimp +zetaDelta only)

theorem collect_follows {s0 s : State} (h : Follows s0 s) (slot : Nat) (r : Req) :
    Follows s0 (collect slot r s) := by
  unfold collect
  repeat' (first
    | with_reducible assumption | with_reducible exact Follows.refl _ | with_reducible refine Follows.ite ?_ ?_ 
    | with_reducible refine finishRequest_follows ?_ .. | with_reducible refine setBank_follows ?_ .. | with_reducible refine answerCollect_follows ?_ ..
    | fail_if_no_progress (with_reducible refine mk_follows ?_ rfl rfl) | fail_if_no_progress intros | split | extract_lets | dsimp only | dsimp +zetaDelta only)

theorem opRead_follows {s0 s : State} (h : Follows s0 s) (slot : Nat) (r : Req) : Follows s0 (opRead slot r s).after := by
  unfold opRead
  dsimp only
  split
  · exact h
  · split
    · exact h
    · exact foldl_snd (fun _ _ k => readItem_follows k ..) h

theorem opWrites_follows {s0 s : State} (h : Follows s0 s) (slot : Nat) (r : Req) :
    Follows s0 (opWrites slot r s).after := by
  have k := runWrites_follows h slot r 0 (writesOf r)
  unfold opWrites
  split
  · rename_i e; rw [e] at k; exact k
  · rename_i e; rw [e] at k; exact waitForFuse_follows k ..

theorem opWrite_follows {s0 s : State} (h : Follows s0 s) (slot : Nat) (r : Req) :
    Follows s0 (opWrite slot r s).after := by
  unfold opWrite
  split
  · exact h
  · exact opWrites_follows h ..

theorem opStage_follows {s0 s : State} (h : Follows s0 s) (slot : Nat) (r : Req) :
    Follows s0 (opStage slot r s).after := by
  unfold opStage
  split
  · exact h
  · exact stageList_follows h ..

theorem opBulk_follows {s0 s : State} (h : Follows s0 s) (slot : Nat) (r : Req) :
    Follows s0 (opBulk slot r s).after := by
  unfold opBulk
  dsimp only
  split
  · exact h
  · split
    · split
      · exact h
      · exact foldl_snd (fun _ _ k => bulkReadRow_follows k ..) h
    · split
      · exact h
      · split
        · exact opWrites_follows h ..
        · exact stageList_follows h ..

theorem opArm_follows {s0 s : State} (h : Follows s0 s) (slot : Nat) (r : Req) : Follows s0 (opArm slot r s).after := by
  unfold opArm
  dsimp only
  split
  · exact h
  · exact armRequest_follows h ..

theorem opCancel_follows {s0 s : State} (h : Follows s0 s) (r : Req) : Follows s0 (opCancel r s).after := by
  unfold opCancel
  dsimp only
  split
  · exact h
  · exact cancelRequest_follows h ..

theorem opInventory_follows {s0 s : State} (h : Follows s0 s) (r : Req) : Follows s0 (opInventory r s).after := by
  unfold opInventory
  dsimp only
  split
  · exact h
  · exact inventoryRequest_follows h ..

theorem opSubscribe_follows {s0 s : State} (h : Follows s0 s) (slot : Nat) (r : Req) :
    Follows s0 (opSubscribe slot r s).after := by
  unfold opSubscribe
  dsimp only
  split
  · exact h
  · exact w1_follows h ..

theorem opOf_follows {s0 s : State} (h : Follows s0 s) (slot : Nat) (r : Req) : Follows s0 (opOf slot r s).after := by
  unfold opOf
  split
  · split <;> exact h
  · exact opRead_follows h ..
  · exact opWrite_follows h ..
  · exact opStage_follows h ..
  · exact opBulk_follows h ..
  · exact opArm_follows h ..
  · exact opCancel_follows h ..
  · exact opInventory_follows h ..
  · exact opSubscribe_follows h ..
  · exact h

theorem execute_follows {s0 s : State} (h : Follows s0 s) (slot : Nat) (r : Req) : Follows s0 (execute slot r s) := by
  unfold execute
  split
  · exact collect_follows h ..
  · have d := opOf_follows h slot r
    have k := finishRequest_follows d slot r (opOf slot r s).status (opOf slot r s).payload
    dsimp only
    split
    · exact d
    · split
      · exact closeSession_follows k _
      · exact k

theorem takeTurn_follows {s0 s : State} (h : Follows s0 s) (slot : Nat) (r : Req) :
    Follows s0 (takeTurn slot r s) := by
  unfold takeTurn
  repeat' (first
    | with_reducible assumption | with_reducible exact Follows.refl _ | with_reducible refine Follows.ite ?_ ?_ 
    | with_reducible refine execute_follows ?_ .. | with_reducible refine waitBehind_follows ?_ ..
    | fail_if_no_progress (with_reducible refine mk_follows ?_ rfl rfl) | fail_if_no_progress intros | split | extract_lets | dsimp only | dsimp +zetaDelta only)

theorem drainHeld_follows {s0 s : State} (h : Follows s0 s) (n : Nat) : Follows s0 (drainHeld n s) := by
  induction n generalizing s with
  | zero => exact h
  | succ n ih =>
    unfold drainHeld
    split
    · exact h
    · exact ih (takeTurn_follows (modSession_follows h ..) ..)

theorem drain_follows {s0 s : State} (h : Follows s0 s) :
    Follows s0 (drain s) := by
  unfold drain
  repeat' (first
    | with_reducible assumption | with_reducible exact Follows.refl _ | with_reducible refine Follows.ite ?_ ?_ 
    | with_reducible refine drainHeld_follows ?_ ..
    | fail_if_no_progress (with_reducible refine mk_follows ?_ rfl rfl) | fail_if_no_progress intros | split | extract_lets | dsimp only | dsimp +zetaDelta only)

theorem inSequence_follows {s0 s : State} (h : Follows s0 s) (slot : Nat) (x : Session) (r : Req) :
    Follows s0 (inSequence slot x r s) := by
  unfold inSequence
  repeat' (first
    | with_reducible assumption | with_reducible exact Follows.refl _ | with_reducible refine Follows.ite ?_ ?_ 
    | with_reducible refine answer_follows ?_ .. | with_reducible refine drain_follows ?_ .. | with_reducible refine takeTurn_follows ?_ .. | with_reducible refine modSession_follows ?_ .. | with_reducible refine sendPdu_follows ?_ ..
    | fail_if_no_progress (with_reducible refine mk_follows ?_ rfl rfl) | fail_if_no_progress intros | split | extract_lets | dsimp only | dsimp +zetaDelta only)

theorem openIn_follows {s0 s : State} (h : Follows s0 s) (slot : Nat) (key : Option Nat) (r : Req) :
    Follows s0 (openIn slot key r s) := by
  unfold openIn
  repeat' (first
    | with_reducible assumption | with_reducible exact Follows.refl _ | with_reducible refine Follows.ite ?_ ?_ 
    | with_reducible refine draw_follows ?_ .. | with_reducible refine modLrk_follows ?_ .. | with_reducible refine setSession_follows ?_ .. | with_reducible refine w1_follows ?_ .. | with_reducible refine clearViolations_follows ?_ .. | with_reducible refine answer_follows ?_ ..
    | fail_if_no_progress (with_reducible refine mk_follows ?_ rfl rfl) | fail_if_no_progress intros | split | extract_lets | dsimp only | dsimp +zetaDelta only)

theorem openRequest_follows {s0 s : State} (h : Follows s0 s) (r : Req) :
    Follows s0 (openRequest r s) := by
  unfold openRequest
  repeat' (first
    | with_reducible assumption | with_reducible exact Follows.refl _ | with_reducible refine Follows.ite ?_ ?_ | with_reducible refine forL_snd ?_ ?_ | with_reducible refine forL_third ?_ ?_ 
    | with_reducible refine answer_follows ?_ .. | with_reducible refine forL_follows ?_ ?_ | with_reducible refine closeSession_follows ?_ .. | with_reducible refine openIn_follows ?_ ..
    | fail_if_no_progress (with_reducible refine mk_follows ?_ rfl rfl) | fail_if_no_progress intros | split | extract_lets | dsimp only | dsimp +zetaDelta only)

theorem takeRequest_follows {s0 s : State} (h : Follows s0 s) (r : Req) :
    Follows s0 (takeRequest r s) := by
  unfold takeRequest
  repeat' (first
    | with_reducible assumption | with_reducible exact Follows.refl _ | with_reducible refine Follows.ite ?_ ?_ 
    | with_reducible refine drain_follows ?_ .. | with_reducible refine openRequest_follows ?_ .. | with_reducible refine answer_follows ?_ .. | with_reducible refine inc_follows ?_ .. | with_reducible refine inSequence_follows ?_ .. | with_reducible refine setSession_follows ?_ ..
    | fail_if_no_progress (with_reducible refine mk_follows ?_ rfl rfl) | fail_if_no_progress intros | split | extract_lets | dsimp only | dsimp +zetaDelta only)

theorem formatDrop_follows {s0 s : State} (h : Follows s0 s) (t : Transport) :
    Follows s0 (formatDrop t s) := by
  unfold formatDrop
  repeat' (first
    | with_reducible assumption | with_reducible exact Follows.refl _ | with_reducible refine Follows.ite ?_ ?_ 
    | with_reducible refine inc_follows ?_ ..
    | fail_if_no_progress (with_reducible refine mk_follows ?_ rfl rfl) | fail_if_no_progress intros | split | extract_lets | dsimp only | dsimp +zetaDelta only)

theorem takeNotify_follows {s0 s : State} (h : Follows s0 s) (r : Req) :
    Follows s0 (takeNotify r s) := by
  unfold takeNotify
  repeat' (first
    | with_reducible assumption | with_reducible exact Follows.refl _ | with_reducible refine Follows.ite ?_ ?_ 
    | with_reducible refine heartbeatIn_follows ?_ .. | with_reducible refine queueTwMsg_follows ?_ ..
    | fail_if_no_progress (with_reducible refine mk_follows ?_ rfl rfl) | fail_if_no_progress intros | split | extract_lets | dsimp only | dsimp +zetaDelta only)

theorem toHost_follows {s0 s : State} (h : Follows s0 s) (r : Req) :
    Follows s0 (toHost r s) := by
  unfold toHost
  repeat' (first
    | with_reducible assumption | with_reducible exact Follows.refl _ | with_reducible refine Follows.ite ?_ ?_ 
    | with_reducible refine formatDrop_follows ?_ .. | with_reducible refine sendPdu_follows ?_ ..
    | fail_if_no_progress (with_reducible refine mk_follows ?_ rfl rfl) | fail_if_no_progress intros | split | extract_lets | dsimp only | dsimp +zetaDelta only)

theorem lorakAnswer_follows {s0 s : State} (h : Follows s0 s) (r : Req) :
    Follows s0 (lorakAnswer r s) := by
  unfold lorakAnswer
  repeat' (first
    | with_reducible assumption | with_reducible exact Follows.refl _ | with_reducible refine Follows.ite ?_ ?_ 
    | with_reducible refine takeNotify_follows ?_ .. | with_reducible refine formatDrop_follows ?_ .. | with_reducible refine toHost_follows ?_ .. | with_reducible refine modLrk_follows ?_ ..
    | fail_if_no_progress (with_reducible refine mk_follows ?_ rfl rfl) | fail_if_no_progress intros | split | extract_lets | dsimp only | dsimp +zetaDelta only)

theorem answerUnreachable_follows {s0 s : State} (h : Follows s0 s) (r : Req) :
    Follows s0 (answerUnreachable r s) := by
  unfold answerUnreachable
  repeat' (first
    | with_reducible assumption | with_reducible exact Follows.refl _ | with_reducible refine Follows.ite ?_ ?_ 
    | with_reducible refine sendPdu_follows ?_ ..
    | fail_if_no_progress (with_reducible refine mk_follows ?_ rfl rfl) | fail_if_no_progress intros | split | extract_lets | dsimp only | dsimp +zetaDelta only)

theorem relayPdu_follows {s0 s : State} (h : Follows s0 s) (r : Req) :
    Follows s0 (relayPdu r s) := by
  unfold relayPdu
  repeat' (first
    | with_reducible assumption | with_reducible exact Follows.refl _ | with_reducible refine Follows.ite ?_ ?_ 
    | with_reducible refine inc0_follows ?_ .. | with_reducible refine answerUnreachable_follows ?_ .. | with_reducible refine modLrk_follows ?_ .. | with_reducible refine sendInband_follows ?_ ..
    | fail_if_no_progress (with_reducible refine mk_follows ?_ rfl rfl) | fail_if_no_progress intros | split | extract_lets | dsimp only | dsimp +zetaDelta only)

theorem dispatch_follows {s0 s : State} (h : Follows s0 s) (r : Req) :
    Follows s0 (dispatch r s) := by
  unfold dispatch
  repeat' (first
    | with_reducible assumption | with_reducible exact Follows.refl _ | with_reducible refine Follows.ite ?_ ?_ 
    | with_reducible refine relayPdu_follows ?_ .. | with_reducible refine formatDrop_follows ?_ .. | with_reducible refine lorakAnswer_follows ?_ .. | with_reducible refine takeRequest_follows ?_ ..
    | fail_if_no_progress (with_reducible refine mk_follows ?_ rfl rfl) | fail_if_no_progress intros | split | extract_lets | dsimp only | dsimp +zetaDelta only)

theorem arriveMgt_follows {s0 s : State} (h : Follows s0 s) (r : Req) :
    Follows s0 (arriveMgt r s) := by
  unfold arriveMgt
  repeat' (first
    | with_reducible assumption | with_reducible exact Follows.refl _ | with_reducible refine Follows.ite ?_ ?_ 
    | with_reducible refine inc0_follows ?_ .. | with_reducible refine wakeByMgt_follows ?_ .. | with_reducible refine dispatch_follows ?_ .. | with_reducible refine formatDrop_follows ?_ ..
    | fail_if_no_progress (with_reducible refine mk_follows ?_ rfl rfl) | fail_if_no_progress intros | split | extract_lets | dsimp only | dsimp +zetaDelta only)

theorem arriveSvc_follows {s0 s : State} (h : Follows s0 s) (r : Req) :
    Follows s0 (arriveSvc r s) := by
  unfold arriveSvc
  repeat' (first
    | with_reducible assumption | with_reducible exact Follows.refl _ | with_reducible refine Follows.ite ?_ ?_ 
    | with_reducible refine formatDrop_follows ?_ .. | with_reducible refine dispatch_follows ?_ ..
    | fail_if_no_progress (with_reducible refine mk_follows ?_ rfl rfl) | fail_if_no_progress intros | split | extract_lets | dsimp only | dsimp +zetaDelta only)

theorem arriveInband_follows {s0 s : State} (h : Follows s0 s) (r : Req) :
    Follows s0 (arriveInband r s) := by
  unfold arriveInband
  repeat' (first
    | with_reducible assumption | with_reducible exact Follows.refl _ | with_reducible refine Follows.ite ?_ ?_ 
    | with_reducible refine inc_follows ?_ .. | with_reducible refine dispatch_follows ?_ .. | with_reducible refine formatDrop_follows ?_ ..
    | fail_if_no_progress (with_reducible refine mk_follows ?_ rfl rfl) | fail_if_no_progress intros | split | extract_lets | dsimp only | dsimp +zetaDelta only)

theorem arrive_follows {s0 s : State} (h : Follows s0 s) (opcode : Nat) (e : Envelope) (p : Pdu) :
    Follows s0 (arrive opcode e p s) := by
  unfold arrive
  repeat' (first
    | with_reducible assumption | with_reducible exact Follows.refl _ | with_reducible refine Follows.ite ?_ ?_ 
    | with_reducible refine arriveMgt_follows ?_ .. | with_reducible refine arriveSvc_follows ?_ .. | with_reducible refine arriveInband_follows ?_ ..
    | fail_if_no_progress (with_reducible refine mk_follows ?_ rfl rfl) | fail_if_no_progress intros | split | extract_lets | dsimp only | dsimp +zetaDelta only)

theorem execStage_ends {s0 s : State} (h : Follows s0 s) (e : Envelope) (p : Pdu) :
    Ends s0 (execStage e p s) := by
  unfold execStage
  repeat' (first
    | with_reducible assumption | with_reducible exact Follows.refl _ | with_reducible refine Ends.of ?_ | with_reducible refine Ends.ite ?_ ?_ | with_reducible refine Follows.ite ?_ ?_ 
    | with_reducible refine arrive_follows ?_ ..
    | fail_if_no_progress (with_reducible refine mk_follows ?_ rfl rfl) | fail_if_no_progress intros | split | extract_lets | dsimp only | dsimp +zetaDelta only)

theorem execArm_ends {s0 s : State} (h : Follows s0 s) (e : Envelope) (p : Pdu) :
    Ends s0 (execArm e p s) := by
  unfold execArm
  repeat' (first
    | with_reducible assumption | with_reducible exact Follows.refl _ | with_reducible refine Ends.of ?_ | with_reducible refine Ends.ite ?_ ?_ | with_reducible refine Follows.ite ?_ ?_ 
    | with_reducible refine arrive_follows ?_ ..
    | fail_if_no_progress (with_reducible refine mk_follows ?_ rfl rfl) | fail_if_no_progress intros | split | extract_lets | dsimp only | dsimp +zetaDelta only)

theorem execCancel_ends {s0 s : State} (h : Follows s0 s) (e : Envelope) (p : Pdu) :
    Ends s0 (execCancel e p s) := by
  unfold execCancel
  repeat' (first
    | with_reducible assumption | with_reducible exact Follows.refl _ | with_reducible refine Ends.of ?_ | with_reducible refine Ends.ite ?_ ?_ | with_reducible refine Follows.ite ?_ ?_ 
    | with_reducible refine arrive_follows ?_ ..
    | fail_if_no_progress (with_reducible refine mk_follows ?_ rfl rfl) | fail_if_no_progress intros | split | extract_lets | dsimp only | dsimp +zetaDelta only)

theorem execInventory_ends {s0 s : State} (h : Follows s0 s) (e : Envelope) (p : Pdu) :
    Ends s0 (execInventory e p s) := by
  unfold execInventory
  repeat' (first
    | with_reducible assumption | with_reducible exact Follows.refl _ | with_reducible refine Ends.of ?_ | with_reducible refine Ends.ite ?_ ?_ | with_reducible refine Follows.ite ?_ ?_ 
    | with_reducible refine arrive_follows ?_ ..
    | fail_if_no_progress (with_reducible refine mk_follows ?_ rfl rfl) | fail_if_no_progress intros | split | extract_lets | dsimp only | dsimp +zetaDelta only)

theorem execCollect_ends {s0 s : State} (h : Follows s0 s) (e : Envelope) (p : Pdu) :
    Ends s0 (execCollect e p s) := by
  unfold execCollect
  repeat' (first
    | with_reducible assumption | with_reducible exact Follows.refl _ | with_reducible refine Ends.of ?_ | with_reducible refine Ends.ite ?_ ?_ | with_reducible refine Follows.ite ?_ ?_ 
    | with_reducible refine arrive_follows ?_ ..
    | fail_if_no_progress (with_reducible refine mk_follows ?_ rfl rfl) | fail_if_no_progress intros | split | extract_lets | dsimp only | dsimp +zetaDelta only)

theorem execRead_ends {s0 s : State} (h : Follows s0 s) (e : Envelope) (p : Pdu) :
    Ends s0 (execRead e p s) := by
  unfold execRead
  repeat' (first
    | with_reducible assumption | with_reducible exact Follows.refl _ | with_reducible refine Ends.of ?_ | with_reducible refine Ends.ite ?_ ?_ | with_reducible refine Follows.ite ?_ ?_ 
    | with_reducible refine arrive_follows ?_ ..
    | fail_if_no_progress (with_reducible refine mk_follows ?_ rfl rfl) | fail_if_no_progress intros | split | extract_lets | dsimp only | dsimp +zetaDelta only)

theorem execWrite_ends {s0 s : State} (h : Follows s0 s) (e : Envelope) (p : Pdu) :
    Ends s0 (execWrite e p s) := by
  unfold execWrite
  repeat' (first
    | with_reducible assumption | with_reducible exact Follows.refl _ | with_reducible refine Ends.of ?_ | with_reducible refine Ends.ite ?_ ?_ | with_reducible refine Follows.ite ?_ ?_ 
    | with_reducible refine arrive_follows ?_ ..
    | fail_if_no_progress (with_reducible refine mk_follows ?_ rfl rfl) | fail_if_no_progress intros | split | extract_lets | dsimp only | dsimp +zetaDelta only)

theorem execBulkRead_ends {s0 s : State} (h : Follows s0 s) (e : Envelope) (p : Pdu) :
    Ends s0 (execBulkRead e p s) := by
  unfold execBulkRead
  repeat' (first
    | with_reducible assumption | with_reducible exact Follows.refl _ | with_reducible refine Ends.of ?_ | with_reducible refine Ends.ite ?_ ?_ | with_reducible refine Follows.ite ?_ ?_ 
    | with_reducible refine arrive_follows ?_ ..
    | fail_if_no_progress (with_reducible refine mk_follows ?_ rfl rfl) | fail_if_no_progress intros | split | extract_lets | dsimp only | dsimp +zetaDelta only)

theorem execBulkWrite_ends {s0 s : State} (h : Follows s0 s) (e : Envelope) (p : Pdu) :
    Ends s0 (execBulkWrite e p s) := by
  unfold execBulkWrite
  repeat' (first
    | with_reducible assumption | with_reducible exact Follows.refl _ | with_reducible refine Ends.of ?_ | with_reducible refine Ends.ite ?_ ?_ | with_reducible refine Follows.ite ?_ ?_ 
    | with_reducible refine arrive_follows ?_ ..
    | fail_if_no_progress (with_reducible refine mk_follows ?_ rfl rfl) | fail_if_no_progress intros | split | extract_lets | dsimp only | dsimp +zetaDelta only)

theorem execBulkStage_ends {s0 s : State} (h : Follows s0 s) (e : Envelope) (p : Pdu) :
    Ends s0 (execBulkStage e p s) := by
  unfold execBulkStage
  repeat' (first
    | with_reducible assumption | with_reducible exact Follows.refl _ | with_reducible refine Ends.of ?_ | with_reducible refine Ends.ite ?_ ?_ | with_reducible refine Follows.ite ?_ ?_ 
    | with_reducible refine arrive_follows ?_ ..
    | fail_if_no_progress (with_reducible refine mk_follows ?_ rfl rfl) | fail_if_no_progress intros | split | extract_lets | dsimp only | dsimp +zetaDelta only)

theorem execOpenSession_ends {s0 s : State} (h : Follows s0 s) (e : Envelope) (p : Pdu) :
    Ends s0 (execOpenSession e p s) := by
  unfold execOpenSession
  repeat' (first
    | with_reducible assumption | with_reducible exact Follows.refl _ | with_reducible refine Ends.of ?_ | with_reducible refine Ends.ite ?_ ?_ | with_reducible refine Follows.ite ?_ ?_ 
    | with_reducible refine arrive_follows ?_ ..
    | fail_if_no_progress (with_reducible refine mk_follows ?_ rfl rfl) | fail_if_no_progress intros | split | extract_lets | dsimp only | dsimp +zetaDelta only)

theorem execCloseSession_ends {s0 s : State} (h : Follows s0 s) (e : Envelope) (p : Pdu) :
    Ends s0 (execCloseSession e p s) := by
  unfold execCloseSession
  repeat' (first
    | with_reducible assumption | with_reducible exact Follows.refl _ | with_reducible refine Ends.of ?_ | with_reducible refine Ends.ite ?_ ?_ | with_reducible refine Follows.ite ?_ ?_ 
    | with_reducible refine arrive_follows ?_ ..
    | fail_if_no_progress (with_reducible refine mk_follows ?_ rfl rfl) | fail_if_no_progress intros | split | extract_lets | dsimp only | dsimp +zetaDelta only)

theorem execSubscribe_ends {s0 s : State} (h : Follows s0 s) (e : Envelope) (p : Pdu) :
    Ends s0 (execSubscribe e p s) := by
  unfold execSubscribe
  repeat' (first
    | with_reducible assumption | with_reducible exact Follows.refl _ | with_reducible refine Ends.of ?_ | with_reducible refine Ends.ite ?_ ?_ | with_reducible refine Follows.ite ?_ ?_ 
    | with_reducible refine arrive_follows ?_ ..
    | fail_if_no_progress (with_reducible refine mk_follows ?_ rfl rfl) | fail_if_no_progress intros | split | extract_lets | dsimp only | dsimp +zetaDelta only)

theorem execUnknownOpcode_ends {s0 s : State} (h : Follows s0 s) (opcode : BitVec 8) (e : Envelope) (p : Pdu) :
    Ends s0 (execUnknownOpcode opcode e p s) := by
  unfold execUnknownOpcode
  repeat' (first
    | with_reducible assumption | with_reducible exact Follows.refl _ | with_reducible refine Ends.of ?_ | with_reducible refine Ends.ite ?_ ?_ | with_reducible refine Follows.ite ?_ ?_ 
    | with_reducible refine arrive_follows ?_ ..
    | fail_if_no_progress (with_reducible refine mk_follows ?_ rfl rfl) | fail_if_no_progress intros | split | extract_lets | dsimp only | dsimp +zetaDelta only)

theorem execLorakRelay_ends {s0 s : State} (h : Follows s0 s) (opcode : BitVec 8) (e : Envelope) (p : Pdu) :
    Ends s0 (execLorakRelay opcode e p s) := by
  unfold execLorakRelay
  repeat' (first
    | with_reducible assumption | with_reducible exact Follows.refl _ | with_reducible refine Ends.of ?_ | with_reducible refine Ends.ite ?_ ?_ | with_reducible refine Follows.ite ?_ ?_ 
    | with_reducible refine arrive_follows ?_ ..
    | fail_if_no_progress (with_reducible refine mk_follows ?_ rfl rfl) | fail_if_no_progress intros | split | extract_lets | dsimp only | dsimp +zetaDelta only)

theorem execLorakAnswerReceive_ends {s0 s : State} (h : Follows s0 s) (opcode : BitVec 8) (e : Envelope) (p : Pdu) :
    Ends s0 (execLorakAnswerReceive opcode e p s) := by
  unfold execLorakAnswerReceive
  repeat' (first
    | with_reducible assumption | with_reducible exact Follows.refl _ | with_reducible refine Ends.of ?_ | with_reducible refine Ends.ite ?_ ?_ | with_reducible refine Follows.ite ?_ ?_ 
    | with_reducible refine arrive_follows ?_ ..
    | fail_if_no_progress (with_reducible refine mk_follows ?_ rfl rfl) | fail_if_no_progress intros | split | extract_lets | dsimp only | dsimp +zetaDelta only)

theorem resumeRequest_follows {s0 s : State} (h : Follows s0 s) (slot serial : Nat) (r : Req) (place : Nat) :
    Follows s0 (resumeRequest slot serial r place s) := by
  have k := runWrites_follows h slot r place ((writesOf r).drop place)
  unfold resumeRequest
  split
  · rename_i e
    rw [e] at k
    split
    · exact finishRequest_follows k ..
    · exact answer_follows k ..
  · rename_i e
    rw [e] at k
    exact waitForFuse_follows k ..

theorem arrivedTurn_follows {s0 s : State} (h : Follows s0 s) (slot : Nat) (r : Req) :
    Follows s0 (arrivedTurn slot r s) := by
  unfold arrivedTurn
  repeat' (first
    | with_reducible assumption | with_reducible exact Follows.refl _ | with_reducible refine Follows.ite ?_ ?_ 
    | with_reducible refine modSession_follows ?_ .. | with_reducible refine execute_follows ?_ ..
    | fail_if_no_progress (with_reducible refine mk_follows ?_ rfl rfl) | fail_if_no_progress intros | split | extract_lets | dsimp only | dsimp +zetaDelta only)

theorem fuseTurns_follows {s0 s : State} (h : Follows s0 s) (n : Nat) : Follows s0 (fuseTurns n s) := by
  induction n generalizing s with
  | zero => exact h
  | succ n ih =>
    unfold fuseTurns
    split
    · rename_i x t _ _
      have k : Follows s0 { s with vit := { s.vit with waiting := t } } := h.keeps rfl rfl rfl rfl rfl rfl rfl
      split
      · split
        · exact waitForFuse_follows h ..
        · exact ih (applyWrite_follows k ..)
      · exact ih (resumeRequest_follows k ..)
      · exact ih (arrivedTurn_follows k ..)
    · exact h

theorem execFuseBurnComplete_ends {s0 s : State} (h : Follows s0 s) :
    Ends s0 (execFuseBurnComplete s) := by
  unfold execFuseBurnComplete
  repeat' (first
    | with_reducible assumption | with_reducible exact Follows.refl _ | with_reducible refine Ends.of ?_ | with_reducible refine Ends.ite ?_ ?_ | with_reducible refine Follows.ite ?_ ?_ 
    | with_reducible refine fuseBurned_follows ?_ .. | with_reducible refine drain_follows ?_ .. | with_reducible refine fuseTurns_follows ?_ ..
    | fail_if_no_progress (with_reducible refine mk_follows ?_ rfl rfl) | fail_if_no_progress intros | split | extract_lets | dsimp only | dsimp +zetaDelta only)

theorem execInventoryBankFull_ends {s0 s : State} (h : Follows s0 s) (bank : Fin 2) :
    Ends s0 (execInventoryBankFull bank s) := by
  unfold execInventoryBankFull
  repeat' (first
    | with_reducible assumption | with_reducible exact Follows.refl _ | with_reducible refine Ends.of ?_ | with_reducible refine Ends.ite ?_ ?_ | with_reducible refine Follows.ite ?_ ?_ 
    | with_reducible refine drain_follows ?_ .. | with_reducible refine bankFull_follows ?_ ..
    | fail_if_no_progress (with_reducible refine mk_follows ?_ rfl rfl) | fail_if_no_progress intros | split | extract_lets | dsimp only | dsimp +zetaDelta only)

theorem execInventoryRelease_ends {s0 s : State} (h : Follows s0 s) (bank : Fin 2) (w : WriteReq) :
    Ends s0 (execInventoryRelease bank w s) := by
  unfold execInventoryRelease
  repeat' (first
    | with_reducible assumption | with_reducible exact Follows.refl _ | with_reducible refine Ends.of ?_ | with_reducible refine Ends.ite ?_ ?_ | with_reducible refine Follows.ite ?_ ?_ 
    | with_reducible refine drain_follows ?_ .. | with_reducible refine catWrite_follows ?_ ?_ .. | with_reducible refine effInventoryRelease_follows ?_ ..
    | fail_if_no_progress (with_reducible refine mk_follows ?_ rfl rfl) | fail_if_no_progress intros | split | extract_lets | dsimp only | dsimp +zetaDelta only)

end Sys2Proof.Machine
end

