-- ==== Sys2Proof/Laws/State.lean ====
section
/-! SUPPORT. One law per field and update: what an update leaves, and what is read after it. -/

namespace Sys2Proof.Machine

/-! The register file: read after write, and the keys. -/

theorem rd_wr (i j k v i' j' k' : Nat) (s : State) :
    rd (wr i j k v s) i' j' k' = if objKey i' j' k' = objKey i j k then v else rd s i' j' k' := tget_tset ..

@[simp] theorem rd_wr_same (i j k v : Nat) (s : State) : rd (wr i j k v s) i j k = v := by simp [rd_wr]
@[simp] theorem r1_w1_same (i j v : Nat) (s : State) : r1 (w1 i j v s) i j = v := rd_wr_same ..
@[simp] theorem r0_w0_same (i v : Nat) (s : State) : r0 (w0 i v s) i = v := rd_wr_same ..

/-- A write of another object is not seen. -/
theorem rd_wr_ne (i j k v i' j' k' : Nat) (s : State) (h : objKey i' j' k' ≠ objKey i j k) :
    rd (wr i j k v s) i' j' k' = rd s i' j' k' := by simp [rd_wr, h]

theorem keyIdx_objKey (i j k : Nat) (hj : j < 256) (hk : k < 2 ^ 24) : keyIdx (objKey i j k) = i := by
  unfold keyIdx objKey; omega

/-- Keys of different objects differ, whatever the sub-indices and rows in their ranges. -/
theorem objKey_ne (i j k i' j' k' : Nat) (h : i' ≠ i) (hj : j < 256) (hk : k < 2 ^ 24) (hj' : j' < 256)
    (hk' : k' < 2 ^ 24) : objKey i' j' k' ≠ objKey i j k := by
  unfold objKey; omega

theorem tget_filter (d : Nat → Nat) (m : List (Nat × Nat)) (p : Nat → Bool) (k : Nat) :
    tget d (m.filter (fun e => p e.1)) k = if p k then tget d m k else d k := by
  induction m with
  | nil => simp [tget]
  | cons e t ih =>
    obtain ⟨a, b⟩ := e
    by_cases hp : p a
    · simp only [List.filter_cons, hp, ite_true, tget, ih]
      split
      · subst_vars; simp [hp]
      · rfl
    · simp only [List.filter_cons, hp, Bool.false_eq_true, ite_false, ih, tget]
      split
      · split
        · subst_vars; contradiction
        · rfl
      · rfl

/-- What `dropIdx` leaves: the default for the index, all else as it was. -/
theorem tget_dropIdx (i k : Nat) (s : State) :
    tget regDefault (dropIdx i s).regs k = if keyIdx k = i then regDefault k else tget regDefault s.regs k := by
  have h := tget_filter regDefault s.regs (fun a => decide (keyIdx a ≠ i)) k
  unfold dropIdx
  simp only at h ⊢
  rw [h]
  by_cases e : keyIdx k = i <;> simp [e]

/-! Registers that keep their values. -/

theorem Keeps.refl (l : List Nat) (s : State) : Keeps l s s := fun _ _ => rfl

theorem Keeps.trans {l : List Nat} {s t u : State} (h : Keeps l s t) (k : Keeps l t u) : Keeps l s u :=
  fun x hx => (k x hx).trans (h x hx)

theorem wr_keeps {l : List Nat} {a s : State} (h : Keeps l a s) (i j k v : Nat) (hi : i ∈ l) (hj : j < 256)
    (hk : k < 2 ^ 24) : Keeps l a (wr i j k v s) := by
  intro x hx
  have e : x ≠ objKey i j k := fun e => hx (by rw [e, keyIdx_objKey i j k hj hk]; exact hi)
  have := tget_tset regDefault s.regs (objKey i j k) x v
  simp only [e, ite_false] at this
  exact this.trans (h x hx)

theorem w1_keeps {l : List Nat} {a s : State} (h : Keeps l a s) (i j v : Nat) (hi : i ∈ l) (hj : j < 256) :
    Keeps l a (w1 i j v s) := wr_keeps h i j 0 v hi hj (by decide)
theorem w0_keeps {l : List Nat} {a s : State} (h : Keeps l a s) (i v : Nat) (hi : i ∈ l) : Keeps l a (w0 i v s) :=
  wr_keeps h i 0 0 v hi (by decide) (by decide)
theorem inc_keeps {l : List Nat} {a s : State} (h : Keeps l a s) (i j : Nat) (hi : i ∈ l) (hj : j < 256) :
    Keeps l a (inc i j s) := wr_keeps h i j 0 _ hi hj (by decide)
theorem inc0_keeps {l : List Nat} {a s : State} (h : Keeps l a s) (i : Nat) (hi : i ∈ l) : Keeps l a (inc0 i s) :=
  wr_keeps h i 0 0 _ hi (by decide) (by decide)
theorem dropIdx_keeps {l : List Nat} {a s : State} (h : Keeps l a s) (i : Nat) (hi : i ∈ l) : Keeps l a (dropIdx i s) := by
  intro x hx
  have e : keyIdx x ≠ i := fun e => hx (e ▸ hi)
  rw [tget_dropIdx]
  simp only [e, ite_false]
  exact h x hx

/-! Fields. -/

@[simp] theorem wr_now (i j k v : Nat) (s : State) : (wr i j k v s).now = s.now := rfl
@[simp] theorem wr_counter (i j k v : Nat) (s : State) : (wr i j k v s).counter = s.counter := rfl
@[simp] theorem wr_increment (i j k v : Nat) (s : State) : (wr i j k v s).increment = s.increment := rfl
@[simp] theorem wr_tickPos (i j k v : Nat) (s : State) : (wr i j k v s).tickPos = s.tickPos := rfl
@[simp] theorem wr_boundaryAt (i j k v : Nat) (s : State) : (wr i j k v s).boundaryAt = s.boundaryAt := rfl
@[simp] theorem wr_boundaryReading (i j k v : Nat) (s : State) : (wr i j k v s).boundaryReading = s.boundaryReading := rfl
@[simp] theorem wr_applied (i j k v : Nat) (s : State) : (wr i j k v s).applied = s.applied := rfl
@[simp] theorem wr_workDue (i j k v : Nat) (s : State) : (wr i j k v s).workDue = s.workDue := rfl
@[simp] theorem wr_jobs (i j k v : Nat) (s : State) : (wr i j k v s).jobs = s.jobs := rfl
@[simp] theorem wr_free (i j k v : Nat) (s : State) : (wr i j k v s).free = s.free := rfl
@[simp] theorem wr_sent (i j k v : Nat) (s : State) : (wr i j k v s).sent = s.sent := rfl
@[simp] theorem wr_opn (i j k v : Nat) (s : State) : (wr i j k v s).opn = s.opn := rfl
@[simp] theorem wr_lrk (i j k v : Nat) (s : State) : (wr i j k v s).lrk = s.lrk := rfl
@[simp] theorem wr_ev (i j k v : Nat) (s : State) : (wr i j k v s).ev = s.ev := rfl
@[simp] theorem wr_ports (i j k v : Nat) (s : State) : (wr i j k v s).ports = s.ports := rfl
@[simp] theorem wr_core (i j k v : Nat) (s : State) : (wr i j k v s).core = s.core := rfl
@[simp] theorem wr_pwr (i j k v : Nat) (s : State) : (wr i j k v s).pwr = s.pwr := rfl
@[simp] theorem wr_gates (i j k v : Nat) (s : State) : (wr i j k v s).gates = s.gates := rfl
@[simp] theorem wr_comb (i j k v : Nat) (s : State) : (wr i j k v s).comb = s.comb := rfl
@[simp] theorem wr_perf (i j k v : Nat) (s : State) : (wr i j k v s).perf = s.perf := rfl
@[simp] theorem wr_arch (i j k v : Nat) (s : State) : (wr i j k v s).arch = s.arch := rfl
@[simp] theorem wr_vit (i j k v : Nat) (s : State) : (wr i j k v s).vit = s.vit := rfl
@[simp] theorem wr_lanes (i j k v : Nat) (s : State) : (wr i j k v s).lanes = s.lanes := rfl
@[simp] theorem wr_cal (i j k v : Nat) (s : State) : (wr i j k v s).cal = s.cal := rfl
@[simp] theorem wr_tdc (i j k v : Nat) (s : State) : (wr i j k v s).tdc = s.tdc := rfl
@[simp] theorem wr_refs (i j k v : Nat) (s : State) : (wr i j k v s).refs = s.refs := rfl
@[simp] theorem wr_syns (i j k v : Nat) (s : State) : (wr i j k v s).syns = s.syns := rfl
@[simp] theorem wr_outs (i j k v : Nat) (s : State) : (wr i j k v s).outs = s.outs := rfl
@[simp] theorem wr_plss (i j k v : Nat) (s : State) : (wr i j k v s).plss = s.plss := rfl
@[simp] theorem wr_ptp (i j k v : Nat) (s : State) : (wr i j k v s).ptp = s.ptp := rfl
@[simp] theorem wr_servo (i j k v : Nat) (s : State) : (wr i j k v s).servo = s.servo := rfl
@[simp] theorem wr_zut (i j k v : Nat) (s : State) : (wr i j k v s).zut = s.zut := rfl
@[simp] theorem wr_tw (i j k v : Nat) (s : State) : (wr i j k v s).tw = s.tw := rfl
@[simp] theorem wr_tap (i j k v : Nat) (s : State) : (wr i j k v s).tap = s.tap := rfl
@[simp] theorem wr_pending (i j k v : Nat) (s : State) : (wr i j k v s).pending = s.pending := rfl

@[simp] theorem w1_now (i j v : Nat) (s : State) : (w1 i j v s).now = s.now := rfl
@[simp] theorem w1_counter (i j v : Nat) (s : State) : (w1 i j v s).counter = s.counter := rfl
@[simp] theorem w1_increment (i j v : Nat) (s : State) : (w1 i j v s).increment = s.increment := rfl
@[simp] theorem w1_tickPos (i j v : Nat) (s : State) : (w1 i j v s).tickPos = s.tickPos := rfl
@[simp] theorem w1_boundaryAt (i j v : Nat) (s : State) : (w1 i j v s).boundaryAt = s.boundaryAt := rfl
@[simp] theorem w1_boundaryReading (i j v : Nat) (s : State) : (w1 i j v s).boundaryReading = s.boundaryReading := rfl
@[simp] theorem w1_applied (i j v : Nat) (s : State) : (w1 i j v s).applied = s.applied := rfl
@[simp] theorem w1_workDue (i j v : Nat) (s : State) : (w1 i j v s).workDue = s.workDue := rfl
@[simp] theorem w1_jobs (i j v : Nat) (s : State) : (w1 i j v s).jobs = s.jobs := rfl
@[simp] theorem w1_free (i j v : Nat) (s : State) : (w1 i j v s).free = s.free := rfl
@[simp] theorem w1_sent (i j v : Nat) (s : State) : (w1 i j v s).sent = s.sent := rfl
@[simp] theorem w1_opn (i j v : Nat) (s : State) : (w1 i j v s).opn = s.opn := rfl
@[simp] theorem w1_lrk (i j v : Nat) (s : State) : (w1 i j v s).lrk = s.lrk := rfl
@[simp] theorem w1_ev (i j v : Nat) (s : State) : (w1 i j v s).ev = s.ev := rfl
@[simp] theorem w1_ports (i j v : Nat) (s : State) : (w1 i j v s).ports = s.ports := rfl
@[simp] theorem w1_core (i j v : Nat) (s : State) : (w1 i j v s).core = s.core := rfl
@[simp] theorem w1_pwr (i j v : Nat) (s : State) : (w1 i j v s).pwr = s.pwr := rfl
@[simp] theorem w1_gates (i j v : Nat) (s : State) : (w1 i j v s).gates = s.gates := rfl
@[simp] theorem w1_comb (i j v : Nat) (s : State) : (w1 i j v s).comb = s.comb := rfl
@[simp] theorem w1_perf (i j v : Nat) (s : State) : (w1 i j v s).perf = s.perf := rfl
@[simp] theorem w1_arch (i j v : Nat) (s : State) : (w1 i j v s).arch = s.arch := rfl
@[simp] theorem w1_vit (i j v : Nat) (s : State) : (w1 i j v s).vit = s.vit := rfl
@[simp] theorem w1_lanes (i j v : Nat) (s : State) : (w1 i j v s).lanes = s.lanes := rfl
@[simp] theorem w1_cal (i j v : Nat) (s : State) : (w1 i j v s).cal = s.cal := rfl
@[simp] theorem w1_tdc (i j v : Nat) (s : State) : (w1 i j v s).tdc = s.tdc := rfl
@[simp] theorem w1_refs (i j v : Nat) (s : State) : (w1 i j v s).refs = s.refs := rfl
@[simp] theorem w1_syns (i j v : Nat) (s : State) : (w1 i j v s).syns = s.syns := rfl
@[simp] theorem w1_outs (i j v : Nat) (s : State) : (w1 i j v s).outs = s.outs := rfl
@[simp] theorem w1_plss (i j v : Nat) (s : State) : (w1 i j v s).plss = s.plss := rfl
@[simp] theorem w1_ptp (i j v : Nat) (s : State) : (w1 i j v s).ptp = s.ptp := rfl
@[simp] theorem w1_servo (i j v : Nat) (s : State) : (w1 i j v s).servo = s.servo := rfl
@[simp] theorem w1_zut (i j v : Nat) (s : State) : (w1 i j v s).zut = s.zut := rfl
@[simp] theorem w1_tw (i j v : Nat) (s : State) : (w1 i j v s).tw = s.tw := rfl
@[simp] theorem w1_tap (i j v : Nat) (s : State) : (w1 i j v s).tap = s.tap := rfl
@[simp] theorem w1_pending (i j v : Nat) (s : State) : (w1 i j v s).pending = s.pending := rfl

@[simp] theorem w0_now (i v : Nat) (s : State) : (w0 i v s).now = s.now := rfl
@[simp] theorem w0_counter (i v : Nat) (s : State) : (w0 i v s).counter = s.counter := rfl
@[simp] theorem w0_increment (i v : Nat) (s : State) : (w0 i v s).increment = s.increment := rfl
@[simp] theorem w0_tickPos (i v : Nat) (s : State) : (w0 i v s).tickPos = s.tickPos := rfl
@[simp] theorem w0_boundaryAt (i v : Nat) (s : State) : (w0 i v s).boundaryAt = s.boundaryAt := rfl
@[simp] theorem w0_boundaryReading (i v : Nat) (s : State) : (w0 i v s).boundaryReading = s.boundaryReading := rfl
@[simp] theorem w0_applied (i v : Nat) (s : State) : (w0 i v s).applied = s.applied := rfl
@[simp] theorem w0_workDue (i v : Nat) (s : State) : (w0 i v s).workDue = s.workDue := rfl
@[simp] theorem w0_jobs (i v : Nat) (s : State) : (w0 i v s).jobs = s.jobs := rfl
@[simp] theorem w0_free (i v : Nat) (s : State) : (w0 i v s).free = s.free := rfl
@[simp] theorem w0_sent (i v : Nat) (s : State) : (w0 i v s).sent = s.sent := rfl
@[simp] theorem w0_opn (i v : Nat) (s : State) : (w0 i v s).opn = s.opn := rfl
@[simp] theorem w0_lrk (i v : Nat) (s : State) : (w0 i v s).lrk = s.lrk := rfl
@[simp] theorem w0_ev (i v : Nat) (s : State) : (w0 i v s).ev = s.ev := rfl
@[simp] theorem w0_ports (i v : Nat) (s : State) : (w0 i v s).ports = s.ports := rfl
@[simp] theorem w0_core (i v : Nat) (s : State) : (w0 i v s).core = s.core := rfl
@[simp] theorem w0_pwr (i v : Nat) (s : State) : (w0 i v s).pwr = s.pwr := rfl
@[simp] theorem w0_gates (i v : Nat) (s : State) : (w0 i v s).gates = s.gates := rfl
@[simp] theorem w0_comb (i v : Nat) (s : State) : (w0 i v s).comb = s.comb := rfl
@[simp] theorem w0_perf (i v : Nat) (s : State) : (w0 i v s).perf = s.perf := rfl
@[simp] theorem w0_arch (i v : Nat) (s : State) : (w0 i v s).arch = s.arch := rfl
@[simp] theorem w0_vit (i v : Nat) (s : State) : (w0 i v s).vit = s.vit := rfl
@[simp] theorem w0_lanes (i v : Nat) (s : State) : (w0 i v s).lanes = s.lanes := rfl
@[simp] theorem w0_cal (i v : Nat) (s : State) : (w0 i v s).cal = s.cal := rfl
@[simp] theorem w0_tdc (i v : Nat) (s : State) : (w0 i v s).tdc = s.tdc := rfl
@[simp] theorem w0_refs (i v : Nat) (s : State) : (w0 i v s).refs = s.refs := rfl
@[simp] theorem w0_syns (i v : Nat) (s : State) : (w0 i v s).syns = s.syns := rfl
@[simp] theorem w0_outs (i v : Nat) (s : State) : (w0 i v s).outs = s.outs := rfl
@[simp] theorem w0_plss (i v : Nat) (s : State) : (w0 i v s).plss = s.plss := rfl
@[simp] theorem w0_ptp (i v : Nat) (s : State) : (w0 i v s).ptp = s.ptp := rfl
@[simp] theorem w0_servo (i v : Nat) (s : State) : (w0 i v s).servo = s.servo := rfl
@[simp] theorem w0_zut (i v : Nat) (s : State) : (w0 i v s).zut = s.zut := rfl
@[simp] theorem w0_tw (i v : Nat) (s : State) : (w0 i v s).tw = s.tw := rfl
@[simp] theorem w0_tap (i v : Nat) (s : State) : (w0 i v s).tap = s.tap := rfl
@[simp] theorem w0_pending (i v : Nat) (s : State) : (w0 i v s).pending = s.pending := rfl

@[simp] theorem count_now (i j k n : Nat) (s : State) : (count i j k n s).now = s.now := rfl
@[simp] theorem count_counter (i j k n : Nat) (s : State) : (count i j k n s).counter = s.counter := rfl
@[simp] theorem count_increment (i j k n : Nat) (s : State) : (count i j k n s).increment = s.increment := rfl
@[simp] theorem count_tickPos (i j k n : Nat) (s : State) : (count i j k n s).tickPos = s.tickPos := rfl
@[simp] theorem count_boundaryAt (i j k n : Nat) (s : State) : (count i j k n s).boundaryAt = s.boundaryAt := rfl
@[simp] theorem count_boundaryReading (i j k n : Nat) (s : State) : (count i j k n s).boundaryReading = s.boundaryReading := rfl
@[simp] theorem count_applied (i j k n : Nat) (s : State) : (count i j k n s).applied = s.applied := rfl
@[simp] theorem count_workDue (i j k n : Nat) (s : State) : (count i j k n s).workDue = s.workDue := rfl
@[simp] theorem count_jobs (i j k n : Nat) (s : State) : (count i j k n s).jobs = s.jobs := rfl
@[simp] theorem count_free (i j k n : Nat) (s : State) : (count i j k n s).free = s.free := rfl
@[simp] theorem count_sent (i j k n : Nat) (s : State) : (count i j k n s).sent = s.sent := rfl
@[simp] theorem count_opn (i j k n : Nat) (s : State) : (count i j k n s).opn = s.opn := rfl
@[simp] theorem count_lrk (i j k n : Nat) (s : State) : (count i j k n s).lrk = s.lrk := rfl
@[simp] theorem count_ev (i j k n : Nat) (s : State) : (count i j k n s).ev = s.ev := rfl
@[simp] theorem count_ports (i j k n : Nat) (s : State) : (count i j k n s).ports = s.ports := rfl
@[simp] theorem count_core (i j k n : Nat) (s : State) : (count i j k n s).core = s.core := rfl
@[simp] theorem count_pwr (i j k n : Nat) (s : State) : (count i j k n s).pwr = s.pwr := rfl
@[simp] theorem count_gates (i j k n : Nat) (s : State) : (count i j k n s).gates = s.gates := rfl
@[simp] theorem count_comb (i j k n : Nat) (s : State) : (count i j k n s).comb = s.comb := rfl
@[simp] theorem count_perf (i j k n : Nat) (s : State) : (count i j k n s).perf = s.perf := rfl
@[simp] theorem count_arch (i j k n : Nat) (s : State) : (count i j k n s).arch = s.arch := rfl
@[simp] theorem count_vit (i j k n : Nat) (s : State) : (count i j k n s).vit = s.vit := rfl
@[simp] theorem count_lanes (i j k n : Nat) (s : State) : (count i j k n s).lanes = s.lanes := rfl
@[simp] theorem count_cal (i j k n : Nat) (s : State) : (count i j k n s).cal = s.cal := rfl
@[simp] theorem count_tdc (i j k n : Nat) (s : State) : (count i j k n s).tdc = s.tdc := rfl
@[simp] theorem count_refs (i j k n : Nat) (s : State) : (count i j k n s).refs = s.refs := rfl
@[simp] theorem count_syns (i j k n : Nat) (s : State) : (count i j k n s).syns = s.syns := rfl
@[simp] theorem count_outs (i j k n : Nat) (s : State) : (count i j k n s).outs = s.outs := rfl
@[simp] theorem count_plss (i j k n : Nat) (s : State) : (count i j k n s).plss = s.plss := rfl
@[simp] theorem count_ptp (i j k n : Nat) (s : State) : (count i j k n s).ptp = s.ptp := rfl
@[simp] theorem count_servo (i j k n : Nat) (s : State) : (count i j k n s).servo = s.servo := rfl
@[simp] theorem count_zut (i j k n : Nat) (s : State) : (count i j k n s).zut = s.zut := rfl
@[simp] theorem count_tw (i j k n : Nat) (s : State) : (count i j k n s).tw = s.tw := rfl
@[simp] theorem count_tap (i j k n : Nat) (s : State) : (count i j k n s).tap = s.tap := rfl
@[simp] theorem count_pending (i j k n : Nat) (s : State) : (count i j k n s).pending = s.pending := rfl

@[simp] theorem inc_now (i j : Nat) (s : State) : (inc i j s).now = s.now := rfl
@[simp] theorem inc_counter (i j : Nat) (s : State) : (inc i j s).counter = s.counter := rfl
@[simp] theorem inc_increment (i j : Nat) (s : State) : (inc i j s).increment = s.increment := rfl
@[simp] theorem inc_tickPos (i j : Nat) (s : State) : (inc i j s).tickPos = s.tickPos := rfl
@[simp] theorem inc_boundaryAt (i j : Nat) (s : State) : (inc i j s).boundaryAt = s.boundaryAt := rfl
@[simp] theorem inc_boundaryReading (i j : Nat) (s : State) : (inc i j s).boundaryReading = s.boundaryReading := rfl
@[simp] theorem inc_applied (i j : Nat) (s : State) : (inc i j s).applied = s.applied := rfl
@[simp] theorem inc_workDue (i j : Nat) (s : State) : (inc i j s).workDue = s.workDue := rfl
@[simp] theorem inc_jobs (i j : Nat) (s : State) : (inc i j s).jobs = s.jobs := rfl
@[simp] theorem inc_free (i j : Nat) (s : State) : (inc i j s).free = s.free := rfl
@[simp] theorem inc_sent (i j : Nat) (s : State) : (inc i j s).sent = s.sent := rfl
@[simp] theorem inc_opn (i j : Nat) (s : State) : (inc i j s).opn = s.opn := rfl
@[simp] theorem inc_lrk (i j : Nat) (s : State) : (inc i j s).lrk = s.lrk := rfl
@[simp] theorem inc_ev (i j : Nat) (s : State) : (inc i j s).ev = s.ev := rfl
@[simp] theorem inc_ports (i j : Nat) (s : State) : (inc i j s).ports = s.ports := rfl
@[simp] theorem inc_core (i j : Nat) (s : State) : (inc i j s).core = s.core := rfl
@[simp] theorem inc_pwr (i j : Nat) (s : State) : (inc i j s).pwr = s.pwr := rfl
@[simp] theorem inc_gates (i j : Nat) (s : State) : (inc i j s).gates = s.gates := rfl
@[simp] theorem inc_comb (i j : Nat) (s : State) : (inc i j s).comb = s.comb := rfl
@[simp] theorem inc_perf (i j : Nat) (s : State) : (inc i j s).perf = s.perf := rfl
@[simp] theorem inc_arch (i j : Nat) (s : State) : (inc i j s).arch = s.arch := rfl
@[simp] theorem inc_vit (i j : Nat) (s : State) : (inc i j s).vit = s.vit := rfl
@[simp] theorem inc_lanes (i j : Nat) (s : State) : (inc i j s).lanes = s.lanes := rfl
@[simp] theorem inc_cal (i j : Nat) (s : State) : (inc i j s).cal = s.cal := rfl
@[simp] theorem inc_tdc (i j : Nat) (s : State) : (inc i j s).tdc = s.tdc := rfl
@[simp] theorem inc_refs (i j : Nat) (s : State) : (inc i j s).refs = s.refs := rfl
@[simp] theorem inc_syns (i j : Nat) (s : State) : (inc i j s).syns = s.syns := rfl
@[simp] theorem inc_outs (i j : Nat) (s : State) : (inc i j s).outs = s.outs := rfl
@[simp] theorem inc_plss (i j : Nat) (s : State) : (inc i j s).plss = s.plss := rfl
@[simp] theorem inc_ptp (i j : Nat) (s : State) : (inc i j s).ptp = s.ptp := rfl
@[simp] theorem inc_servo (i j : Nat) (s : State) : (inc i j s).servo = s.servo := rfl
@[simp] theorem inc_zut (i j : Nat) (s : State) : (inc i j s).zut = s.zut := rfl
@[simp] theorem inc_tw (i j : Nat) (s : State) : (inc i j s).tw = s.tw := rfl
@[simp] theorem inc_tap (i j : Nat) (s : State) : (inc i j s).tap = s.tap := rfl
@[simp] theorem inc_pending (i j : Nat) (s : State) : (inc i j s).pending = s.pending := rfl

@[simp] theorem inc0_now (i : Nat) (s : State) : (inc0 i s).now = s.now := rfl
@[simp] theorem inc0_counter (i : Nat) (s : State) : (inc0 i s).counter = s.counter := rfl
@[simp] theorem inc0_increment (i : Nat) (s : State) : (inc0 i s).increment = s.increment := rfl
@[simp] theorem inc0_tickPos (i : Nat) (s : State) : (inc0 i s).tickPos = s.tickPos := rfl
@[simp] theorem inc0_boundaryAt (i : Nat) (s : State) : (inc0 i s).boundaryAt = s.boundaryAt := rfl
@[simp] theorem inc0_boundaryReading (i : Nat) (s : State) : (inc0 i s).boundaryReading = s.boundaryReading := rfl
@[simp] theorem inc0_applied (i : Nat) (s : State) : (inc0 i s).applied = s.applied := rfl
@[simp] theorem inc0_workDue (i : Nat) (s : State) : (inc0 i s).workDue = s.workDue := rfl
@[simp] theorem inc0_jobs (i : Nat) (s : State) : (inc0 i s).jobs = s.jobs := rfl
@[simp] theorem inc0_free (i : Nat) (s : State) : (inc0 i s).free = s.free := rfl
@[simp] theorem inc0_sent (i : Nat) (s : State) : (inc0 i s).sent = s.sent := rfl
@[simp] theorem inc0_opn (i : Nat) (s : State) : (inc0 i s).opn = s.opn := rfl
@[simp] theorem inc0_lrk (i : Nat) (s : State) : (inc0 i s).lrk = s.lrk := rfl
@[simp] theorem inc0_ev (i : Nat) (s : State) : (inc0 i s).ev = s.ev := rfl
@[simp] theorem inc0_ports (i : Nat) (s : State) : (inc0 i s).ports = s.ports := rfl
@[simp] theorem inc0_core (i : Nat) (s : State) : (inc0 i s).core = s.core := rfl
@[simp] theorem inc0_pwr (i : Nat) (s : State) : (inc0 i s).pwr = s.pwr := rfl
@[simp] theorem inc0_gates (i : Nat) (s : State) : (inc0 i s).gates = s.gates := rfl
@[simp] theorem inc0_comb (i : Nat) (s : State) : (inc0 i s).comb = s.comb := rfl
@[simp] theorem inc0_perf (i : Nat) (s : State) : (inc0 i s).perf = s.perf := rfl
@[simp] theorem inc0_arch (i : Nat) (s : State) : (inc0 i s).arch = s.arch := rfl
@[simp] theorem inc0_vit (i : Nat) (s : State) : (inc0 i s).vit = s.vit := rfl
@[simp] theorem inc0_lanes (i : Nat) (s : State) : (inc0 i s).lanes = s.lanes := rfl
@[simp] theorem inc0_cal (i : Nat) (s : State) : (inc0 i s).cal = s.cal := rfl
@[simp] theorem inc0_tdc (i : Nat) (s : State) : (inc0 i s).tdc = s.tdc := rfl
@[simp] theorem inc0_refs (i : Nat) (s : State) : (inc0 i s).refs = s.refs := rfl
@[simp] theorem inc0_syns (i : Nat) (s : State) : (inc0 i s).syns = s.syns := rfl
@[simp] theorem inc0_outs (i : Nat) (s : State) : (inc0 i s).outs = s.outs := rfl
@[simp] theorem inc0_plss (i : Nat) (s : State) : (inc0 i s).plss = s.plss := rfl
@[simp] theorem inc0_ptp (i : Nat) (s : State) : (inc0 i s).ptp = s.ptp := rfl
@[simp] theorem inc0_servo (i : Nat) (s : State) : (inc0 i s).servo = s.servo := rfl
@[simp] theorem inc0_zut (i : Nat) (s : State) : (inc0 i s).zut = s.zut := rfl
@[simp] theorem inc0_tw (i : Nat) (s : State) : (inc0 i s).tw = s.tw := rfl
@[simp] theorem inc0_tap (i : Nat) (s : State) : (inc0 i s).tap = s.tap := rfl
@[simp] theorem inc0_pending (i : Nat) (s : State) : (inc0 i s).pending = s.pending := rfl

@[simp] theorem dropIdx_now (i : Nat) (s : State) : (dropIdx i s).now = s.now := rfl
@[simp] theorem dropIdx_counter (i : Nat) (s : State) : (dropIdx i s).counter = s.counter := rfl
@[simp] theorem dropIdx_increment (i : Nat) (s : State) : (dropIdx i s).increment = s.increment := rfl
@[simp] theorem dropIdx_tickPos (i : Nat) (s : State) : (dropIdx i s).tickPos = s.tickPos := rfl
@[simp] theorem dropIdx_boundaryAt (i : Nat) (s : State) : (dropIdx i s).boundaryAt = s.boundaryAt := rfl
@[simp] theorem dropIdx_boundaryReading (i : Nat) (s : State) : (dropIdx i s).boundaryReading = s.boundaryReading := rfl
@[simp] theorem dropIdx_applied (i : Nat) (s : State) : (dropIdx i s).applied = s.applied := rfl
@[simp] theorem dropIdx_workDue (i : Nat) (s : State) : (dropIdx i s).workDue = s.workDue := rfl
@[simp] theorem dropIdx_jobs (i : Nat) (s : State) : (dropIdx i s).jobs = s.jobs := rfl
@[simp] theorem dropIdx_free (i : Nat) (s : State) : (dropIdx i s).free = s.free := rfl
@[simp] theorem dropIdx_sent (i : Nat) (s : State) : (dropIdx i s).sent = s.sent := rfl
@[simp] theorem dropIdx_opn (i : Nat) (s : State) : (dropIdx i s).opn = s.opn := rfl
@[simp] theorem dropIdx_lrk (i : Nat) (s : State) : (dropIdx i s).lrk = s.lrk := rfl
@[simp] theorem dropIdx_ev (i : Nat) (s : State) : (dropIdx i s).ev = s.ev := rfl
@[simp] theorem dropIdx_ports (i : Nat) (s : State) : (dropIdx i s).ports = s.ports := rfl
@[simp] theorem dropIdx_core (i : Nat) (s : State) : (dropIdx i s).core = s.core := rfl
@[simp] theorem dropIdx_pwr (i : Nat) (s : State) : (dropIdx i s).pwr = s.pwr := rfl
@[simp] theorem dropIdx_gates (i : Nat) (s : State) : (dropIdx i s).gates = s.gates := rfl
@[simp] theorem dropIdx_comb (i : Nat) (s : State) : (dropIdx i s).comb = s.comb := rfl
@[simp] theorem dropIdx_perf (i : Nat) (s : State) : (dropIdx i s).perf = s.perf := rfl
@[simp] theorem dropIdx_arch (i : Nat) (s : State) : (dropIdx i s).arch = s.arch := rfl
@[simp] theorem dropIdx_vit (i : Nat) (s : State) : (dropIdx i s).vit = s.vit := rfl
@[simp] theorem dropIdx_lanes (i : Nat) (s : State) : (dropIdx i s).lanes = s.lanes := rfl
@[simp] theorem dropIdx_cal (i : Nat) (s : State) : (dropIdx i s).cal = s.cal := rfl
@[simp] theorem dropIdx_tdc (i : Nat) (s : State) : (dropIdx i s).tdc = s.tdc := rfl
@[simp] theorem dropIdx_refs (i : Nat) (s : State) : (dropIdx i s).refs = s.refs := rfl
@[simp] theorem dropIdx_syns (i : Nat) (s : State) : (dropIdx i s).syns = s.syns := rfl
@[simp] theorem dropIdx_outs (i : Nat) (s : State) : (dropIdx i s).outs = s.outs := rfl
@[simp] theorem dropIdx_plss (i : Nat) (s : State) : (dropIdx i s).plss = s.plss := rfl
@[simp] theorem dropIdx_ptp (i : Nat) (s : State) : (dropIdx i s).ptp = s.ptp := rfl
@[simp] theorem dropIdx_servo (i : Nat) (s : State) : (dropIdx i s).servo = s.servo := rfl
@[simp] theorem dropIdx_zut (i : Nat) (s : State) : (dropIdx i s).zut = s.zut := rfl
@[simp] theorem dropIdx_tw (i : Nat) (s : State) : (dropIdx i s).tw = s.tw := rfl
@[simp] theorem dropIdx_tap (i : Nat) (s : State) : (dropIdx i s).tap = s.tap := rfl
@[simp] theorem dropIdx_pending (i : Nat) (s : State) : (dropIdx i s).pending = s.pending := rfl

@[simp] theorem dropRange_now (lo hi : Nat) (s : State) : (dropRange lo hi s).now = s.now := rfl
@[simp] theorem dropRange_counter (lo hi : Nat) (s : State) : (dropRange lo hi s).counter = s.counter := rfl
@[simp] theorem dropRange_increment (lo hi : Nat) (s : State) : (dropRange lo hi s).increment = s.increment := rfl
@[simp] theorem dropRange_tickPos (lo hi : Nat) (s : State) : (dropRange lo hi s).tickPos = s.tickPos := rfl
@[simp] theorem dropRange_boundaryAt (lo hi : Nat) (s : State) : (dropRange lo hi s).boundaryAt = s.boundaryAt := rfl
@[simp] theorem dropRange_boundaryReading (lo hi : Nat) (s : State) : (dropRange lo hi s).boundaryReading = s.boundaryReading := rfl
@[simp] theorem dropRange_applied (lo hi : Nat) (s : State) : (dropRange lo hi s).applied = s.applied := rfl
@[simp] theorem dropRange_workDue (lo hi : Nat) (s : State) : (dropRange lo hi s).workDue = s.workDue := rfl
@[simp] theorem dropRange_jobs (lo hi : Nat) (s : State) : (dropRange lo hi s).jobs = s.jobs := rfl
@[simp] theorem dropRange_free (lo hi : Nat) (s : State) : (dropRange lo hi s).free = s.free := rfl
@[simp] theorem dropRange_sent (lo hi : Nat) (s : State) : (dropRange lo hi s).sent = s.sent := rfl
@[simp] theorem dropRange_opn (lo hi : Nat) (s : State) : (dropRange lo hi s).opn = s.opn := rfl
@[simp] theorem dropRange_lrk (lo hi : Nat) (s : State) : (dropRange lo hi s).lrk = s.lrk := rfl
@[simp] theorem dropRange_ev (lo hi : Nat) (s : State) : (dropRange lo hi s).ev = s.ev := rfl
@[simp] theorem dropRange_ports (lo hi : Nat) (s : State) : (dropRange lo hi s).ports = s.ports := rfl
@[simp] theorem dropRange_core (lo hi : Nat) (s : State) : (dropRange lo hi s).core = s.core := rfl
@[simp] theorem dropRange_pwr (lo hi : Nat) (s : State) : (dropRange lo hi s).pwr = s.pwr := rfl
@[simp] theorem dropRange_gates (lo hi : Nat) (s : State) : (dropRange lo hi s).gates = s.gates := rfl
@[simp] theorem dropRange_comb (lo hi : Nat) (s : State) : (dropRange lo hi s).comb = s.comb := rfl
@[simp] theorem dropRange_perf (lo hi : Nat) (s : State) : (dropRange lo hi s).perf = s.perf := rfl
@[simp] theorem dropRange_arch (lo hi : Nat) (s : State) : (dropRange lo hi s).arch = s.arch := rfl
@[simp] theorem dropRange_vit (lo hi : Nat) (s : State) : (dropRange lo hi s).vit = s.vit := rfl
@[simp] theorem dropRange_lanes (lo hi : Nat) (s : State) : (dropRange lo hi s).lanes = s.lanes := rfl
@[simp] theorem dropRange_cal (lo hi : Nat) (s : State) : (dropRange lo hi s).cal = s.cal := rfl
@[simp] theorem dropRange_tdc (lo hi : Nat) (s : State) : (dropRange lo hi s).tdc = s.tdc := rfl
@[simp] theorem dropRange_refs (lo hi : Nat) (s : State) : (dropRange lo hi s).refs = s.refs := rfl
@[simp] theorem dropRange_syns (lo hi : Nat) (s : State) : (dropRange lo hi s).syns = s.syns := rfl
@[simp] theorem dropRange_outs (lo hi : Nat) (s : State) : (dropRange lo hi s).outs = s.outs := rfl
@[simp] theorem dropRange_plss (lo hi : Nat) (s : State) : (dropRange lo hi s).plss = s.plss := rfl
@[simp] theorem dropRange_ptp (lo hi : Nat) (s : State) : (dropRange lo hi s).ptp = s.ptp := rfl
@[simp] theorem dropRange_servo (lo hi : Nat) (s : State) : (dropRange lo hi s).servo = s.servo := rfl
@[simp] theorem dropRange_zut (lo hi : Nat) (s : State) : (dropRange lo hi s).zut = s.zut := rfl
@[simp] theorem dropRange_tw (lo hi : Nat) (s : State) : (dropRange lo hi s).tw = s.tw := rfl
@[simp] theorem dropRange_tap (lo hi : Nat) (s : State) : (dropRange lo hi s).tap = s.tap := rfl
@[simp] theorem dropRange_pending (lo hi : Nat) (s : State) : (dropRange lo hi s).pending = s.pending := rfl

@[simp] theorem dropSub_now (lo hi j : Nat) (s : State) : (dropSub lo hi j s).now = s.now := rfl
@[simp] theorem dropSub_counter (lo hi j : Nat) (s : State) : (dropSub lo hi j s).counter = s.counter := rfl
@[simp] theorem dropSub_increment (lo hi j : Nat) (s : State) : (dropSub lo hi j s).increment = s.increment := rfl
@[simp] theorem dropSub_tickPos (lo hi j : Nat) (s : State) : (dropSub lo hi j s).tickPos = s.tickPos := rfl
@[simp] theorem dropSub_boundaryAt (lo hi j : Nat) (s : State) : (dropSub lo hi j s).boundaryAt = s.boundaryAt := rfl
@[simp] theorem dropSub_boundaryReading (lo hi j : Nat) (s : State) : (dropSub lo hi j s).boundaryReading = s.boundaryReading := rfl
@[simp] theorem dropSub_applied (lo hi j : Nat) (s : State) : (dropSub lo hi j s).applied = s.applied := rfl
@[simp] theorem dropSub_workDue (lo hi j : Nat) (s : State) : (dropSub lo hi j s).workDue = s.workDue := rfl
@[simp] theorem dropSub_jobs (lo hi j : Nat) (s : State) : (dropSub lo hi j s).jobs = s.jobs := rfl
@[simp] theorem dropSub_free (lo hi j : Nat) (s : State) : (dropSub lo hi j s).free = s.free := rfl
@[simp] theorem dropSub_sent (lo hi j : Nat) (s : State) : (dropSub lo hi j s).sent = s.sent := rfl
@[simp] theorem dropSub_opn (lo hi j : Nat) (s : State) : (dropSub lo hi j s).opn = s.opn := rfl
@[simp] theorem dropSub_lrk (lo hi j : Nat) (s : State) : (dropSub lo hi j s).lrk = s.lrk := rfl
@[simp] theorem dropSub_ev (lo hi j : Nat) (s : State) : (dropSub lo hi j s).ev = s.ev := rfl
@[simp] theorem dropSub_ports (lo hi j : Nat) (s : State) : (dropSub lo hi j s).ports = s.ports := rfl
@[simp] theorem dropSub_core (lo hi j : Nat) (s : State) : (dropSub lo hi j s).core = s.core := rfl
@[simp] theorem dropSub_pwr (lo hi j : Nat) (s : State) : (dropSub lo hi j s).pwr = s.pwr := rfl
@[simp] theorem dropSub_gates (lo hi j : Nat) (s : State) : (dropSub lo hi j s).gates = s.gates := rfl
@[simp] theorem dropSub_comb (lo hi j : Nat) (s : State) : (dropSub lo hi j s).comb = s.comb := rfl
@[simp] theorem dropSub_perf (lo hi j : Nat) (s : State) : (dropSub lo hi j s).perf = s.perf := rfl
@[simp] theorem dropSub_arch (lo hi j : Nat) (s : State) : (dropSub lo hi j s).arch = s.arch := rfl
@[simp] theorem dropSub_vit (lo hi j : Nat) (s : State) : (dropSub lo hi j s).vit = s.vit := rfl
@[simp] theorem dropSub_lanes (lo hi j : Nat) (s : State) : (dropSub lo hi j s).lanes = s.lanes := rfl
@[simp] theorem dropSub_cal (lo hi j : Nat) (s : State) : (dropSub lo hi j s).cal = s.cal := rfl
@[simp] theorem dropSub_tdc (lo hi j : Nat) (s : State) : (dropSub lo hi j s).tdc = s.tdc := rfl
@[simp] theorem dropSub_refs (lo hi j : Nat) (s : State) : (dropSub lo hi j s).refs = s.refs := rfl
@[simp] theorem dropSub_syns (lo hi j : Nat) (s : State) : (dropSub lo hi j s).syns = s.syns := rfl
@[simp] theorem dropSub_outs (lo hi j : Nat) (s : State) : (dropSub lo hi j s).outs = s.outs := rfl
@[simp] theorem dropSub_plss (lo hi j : Nat) (s : State) : (dropSub lo hi j s).plss = s.plss := rfl
@[simp] theorem dropSub_ptp (lo hi j : Nat) (s : State) : (dropSub lo hi j s).ptp = s.ptp := rfl
@[simp] theorem dropSub_servo (lo hi j : Nat) (s : State) : (dropSub lo hi j s).servo = s.servo := rfl
@[simp] theorem dropSub_zut (lo hi j : Nat) (s : State) : (dropSub lo hi j s).zut = s.zut := rfl
@[simp] theorem dropSub_tw (lo hi j : Nat) (s : State) : (dropSub lo hi j s).tw = s.tw := rfl
@[simp] theorem dropSub_tap (lo hi j : Nat) (s : State) : (dropSub lo hi j s).tap = s.tap := rfl
@[simp] theorem dropSub_pending (lo hi j : Nat) (s : State) : (dropSub lo hi j s).pending = s.pending := rfl

@[simp] theorem setDomain_now (d st : Nat) (s : State) : (setDomain d st s).now = s.now := rfl
@[simp] theorem setDomain_counter (d st : Nat) (s : State) : (setDomain d st s).counter = s.counter := rfl
@[simp] theorem setDomain_increment (d st : Nat) (s : State) : (setDomain d st s).increment = s.increment := rfl
@[simp] theorem setDomain_tickPos (d st : Nat) (s : State) : (setDomain d st s).tickPos = s.tickPos := rfl
@[simp] theorem setDomain_boundaryAt (d st : Nat) (s : State) : (setDomain d st s).boundaryAt = s.boundaryAt := rfl
@[simp] theorem setDomain_boundaryReading (d st : Nat) (s : State) : (setDomain d st s).boundaryReading = s.boundaryReading := rfl
@[simp] theorem setDomain_applied (d st : Nat) (s : State) : (setDomain d st s).applied = s.applied := rfl
@[simp] theorem setDomain_workDue (d st : Nat) (s : State) : (setDomain d st s).workDue = s.workDue := rfl
@[simp] theorem setDomain_jobs (d st : Nat) (s : State) : (setDomain d st s).jobs = s.jobs := rfl
@[simp] theorem setDomain_free (d st : Nat) (s : State) : (setDomain d st s).free = s.free := rfl
@[simp] theorem setDomain_sent (d st : Nat) (s : State) : (setDomain d st s).sent = s.sent := rfl
@[simp] theorem setDomain_opn (d st : Nat) (s : State) : (setDomain d st s).opn = s.opn := rfl
@[simp] theorem setDomain_lrk (d st : Nat) (s : State) : (setDomain d st s).lrk = s.lrk := rfl
@[simp] theorem setDomain_ev (d st : Nat) (s : State) : (setDomain d st s).ev = s.ev := rfl
@[simp] theorem setDomain_ports (d st : Nat) (s : State) : (setDomain d st s).ports = s.ports := rfl
@[simp] theorem setDomain_core (d st : Nat) (s : State) : (setDomain d st s).core = s.core := rfl
@[simp] theorem setDomain_pwr (d st : Nat) (s : State) : (setDomain d st s).pwr = s.pwr := rfl
@[simp] theorem setDomain_gates (d st : Nat) (s : State) : (setDomain d st s).gates = s.gates := rfl
@[simp] theorem setDomain_comb (d st : Nat) (s : State) : (setDomain d st s).comb = s.comb := rfl
@[simp] theorem setDomain_perf (d st : Nat) (s : State) : (setDomain d st s).perf = s.perf := rfl
@[simp] theorem setDomain_arch (d st : Nat) (s : State) : (setDomain d st s).arch = s.arch := rfl
@[simp] theorem setDomain_vit (d st : Nat) (s : State) : (setDomain d st s).vit = s.vit := rfl
@[simp] theorem setDomain_lanes (d st : Nat) (s : State) : (setDomain d st s).lanes = s.lanes := rfl
@[simp] theorem setDomain_cal (d st : Nat) (s : State) : (setDomain d st s).cal = s.cal := rfl
@[simp] theorem setDomain_tdc (d st : Nat) (s : State) : (setDomain d st s).tdc = s.tdc := rfl
@[simp] theorem setDomain_refs (d st : Nat) (s : State) : (setDomain d st s).refs = s.refs := rfl
@[simp] theorem setDomain_syns (d st : Nat) (s : State) : (setDomain d st s).syns = s.syns := rfl
@[simp] theorem setDomain_outs (d st : Nat) (s : State) : (setDomain d st s).outs = s.outs := rfl
@[simp] theorem setDomain_plss (d st : Nat) (s : State) : (setDomain d st s).plss = s.plss := rfl
@[simp] theorem setDomain_ptp (d st : Nat) (s : State) : (setDomain d st s).ptp = s.ptp := rfl
@[simp] theorem setDomain_servo (d st : Nat) (s : State) : (setDomain d st s).servo = s.servo := rfl
@[simp] theorem setDomain_zut (d st : Nat) (s : State) : (setDomain d st s).zut = s.zut := rfl
@[simp] theorem setDomain_tw (d st : Nat) (s : State) : (setDomain d st s).tw = s.tw := rfl
@[simp] theorem setDomain_tap (d st : Nat) (s : State) : (setDomain d st s).tap = s.tap := rfl
@[simp] theorem setDomain_pending (d st : Nat) (s : State) : (setDomain d st s).pending = s.pending := rfl

@[simp] theorem setPort_now (k : Nat) (x : PortSt) (s : State) : (setPort k x s).now = s.now := rfl
@[simp] theorem setPort_counter (k : Nat) (x : PortSt) (s : State) : (setPort k x s).counter = s.counter := rfl
@[simp] theorem setPort_increment (k : Nat) (x : PortSt) (s : State) : (setPort k x s).increment = s.increment := rfl
@[simp] theorem setPort_tickPos (k : Nat) (x : PortSt) (s : State) : (setPort k x s).tickPos = s.tickPos := rfl
@[simp] theorem setPort_boundaryAt (k : Nat) (x : PortSt) (s : State) : (setPort k x s).boundaryAt = s.boundaryAt := rfl
@[simp] theorem setPort_boundaryReading (k : Nat) (x : PortSt) (s : State) : (setPort k x s).boundaryReading = s.boundaryReading := rfl
@[simp] theorem setPort_applied (k : Nat) (x : PortSt) (s : State) : (setPort k x s).applied = s.applied := rfl
@[simp] theorem setPort_workDue (k : Nat) (x : PortSt) (s : State) : (setPort k x s).workDue = s.workDue := rfl
@[simp] theorem setPort_jobs (k : Nat) (x : PortSt) (s : State) : (setPort k x s).jobs = s.jobs := rfl
@[simp] theorem setPort_regs (k : Nat) (x : PortSt) (s : State) : (setPort k x s).regs = s.regs := rfl
@[simp] theorem setPort_free (k : Nat) (x : PortSt) (s : State) : (setPort k x s).free = s.free := rfl
@[simp] theorem setPort_sent (k : Nat) (x : PortSt) (s : State) : (setPort k x s).sent = s.sent := rfl
@[simp] theorem setPort_opn (k : Nat) (x : PortSt) (s : State) : (setPort k x s).opn = s.opn := rfl
@[simp] theorem setPort_lrk (k : Nat) (x : PortSt) (s : State) : (setPort k x s).lrk = s.lrk := rfl
@[simp] theorem setPort_ev (k : Nat) (x : PortSt) (s : State) : (setPort k x s).ev = s.ev := rfl
@[simp] theorem setPort_core (k : Nat) (x : PortSt) (s : State) : (setPort k x s).core = s.core := rfl
@[simp] theorem setPort_pwr (k : Nat) (x : PortSt) (s : State) : (setPort k x s).pwr = s.pwr := rfl
@[simp] theorem setPort_gates (k : Nat) (x : PortSt) (s : State) : (setPort k x s).gates = s.gates := rfl
@[simp] theorem setPort_comb (k : Nat) (x : PortSt) (s : State) : (setPort k x s).comb = s.comb := rfl
@[simp] theorem setPort_perf (k : Nat) (x : PortSt) (s : State) : (setPort k x s).perf = s.perf := rfl
@[simp] theorem setPort_arch (k : Nat) (x : PortSt) (s : State) : (setPort k x s).arch = s.arch := rfl
@[simp] theorem setPort_vit (k : Nat) (x : PortSt) (s : State) : (setPort k x s).vit = s.vit := rfl
@[simp] theorem setPort_lanes (k : Nat) (x : PortSt) (s : State) : (setPort k x s).lanes = s.lanes := rfl
@[simp] theorem setPort_cal (k : Nat) (x : PortSt) (s : State) : (setPort k x s).cal = s.cal := rfl
@[simp] theorem setPort_tdc (k : Nat) (x : PortSt) (s : State) : (setPort k x s).tdc = s.tdc := rfl
@[simp] theorem setPort_refs (k : Nat) (x : PortSt) (s : State) : (setPort k x s).refs = s.refs := rfl
@[simp] theorem setPort_syns (k : Nat) (x : PortSt) (s : State) : (setPort k x s).syns = s.syns := rfl
@[simp] theorem setPort_outs (k : Nat) (x : PortSt) (s : State) : (setPort k x s).outs = s.outs := rfl
@[simp] theorem setPort_plss (k : Nat) (x : PortSt) (s : State) : (setPort k x s).plss = s.plss := rfl
@[simp] theorem setPort_ptp (k : Nat) (x : PortSt) (s : State) : (setPort k x s).ptp = s.ptp := rfl
@[simp] theorem setPort_servo (k : Nat) (x : PortSt) (s : State) : (setPort k x s).servo = s.servo := rfl
@[simp] theorem setPort_zut (k : Nat) (x : PortSt) (s : State) : (setPort k x s).zut = s.zut := rfl
@[simp] theorem setPort_tw (k : Nat) (x : PortSt) (s : State) : (setPort k x s).tw = s.tw := rfl
@[simp] theorem setPort_tap (k : Nat) (x : PortSt) (s : State) : (setPort k x s).tap = s.tap := rfl
@[simp] theorem setPort_pending (k : Nat) (x : PortSt) (s : State) : (setPort k x s).pending = s.pending := rfl
@[simp] theorem rd_setPort (k : Nat) (x : PortSt) (s : State) (a b c : Nat) : rd (setPort k x s) a b c = rd s a b c := rfl
@[simp] theorem r1_setPort (k : Nat) (x : PortSt) (s : State) (a b : Nat) : r1 (setPort k x s) a b = r1 s a b := rfl
@[simp] theorem r0_setPort (k : Nat) (x : PortSt) (s : State) (a : Nat) : r0 (setPort k x s) a = r0 s a := rfl

@[simp] theorem modPort_now (k : Nat) (f : PortSt → PortSt) (s : State) : (modPort k f s).now = s.now := rfl
@[simp] theorem modPort_counter (k : Nat) (f : PortSt → PortSt) (s : State) : (modPort k f s).counter = s.counter := rfl
@[simp] theorem modPort_increment (k : Nat) (f : PortSt → PortSt) (s : State) : (modPort k f s).increment = s.increment := rfl
@[simp] theorem modPort_tickPos (k : Nat) (f : PortSt → PortSt) (s : State) : (modPort k f s).tickPos = s.tickPos := rfl
@[simp] theorem modPort_boundaryAt (k : Nat) (f : PortSt → PortSt) (s : State) : (modPort k f s).boundaryAt = s.boundaryAt := rfl
@[simp] theorem modPort_boundaryReading (k : Nat) (f : PortSt → PortSt) (s : State) : (modPort k f s).boundaryReading = s.boundaryReading := rfl
@[simp] theorem modPort_applied (k : Nat) (f : PortSt → PortSt) (s : State) : (modPort k f s).applied = s.applied := rfl
@[simp] theorem modPort_workDue (k : Nat) (f : PortSt → PortSt) (s : State) : (modPort k f s).workDue = s.workDue := rfl
@[simp] theorem modPort_jobs (k : Nat) (f : PortSt → PortSt) (s : State) : (modPort k f s).jobs = s.jobs := rfl
@[simp] theorem modPort_regs (k : Nat) (f : PortSt → PortSt) (s : State) : (modPort k f s).regs = s.regs := rfl
@[simp] theorem modPort_free (k : Nat) (f : PortSt → PortSt) (s : State) : (modPort k f s).free = s.free := rfl
@[simp] theorem modPort_sent (k : Nat) (f : PortSt → PortSt) (s : State) : (modPort k f s).sent = s.sent := rfl
@[simp] theorem modPort_opn (k : Nat) (f : PortSt → PortSt) (s : State) : (modPort k f s).opn = s.opn := rfl
@[simp] theorem modPort_lrk (k : Nat) (f : PortSt → PortSt) (s : State) : (modPort k f s).lrk = s.lrk := rfl
@[simp] theorem modPort_ev (k : Nat) (f : PortSt → PortSt) (s : State) : (modPort k f s).ev = s.ev := rfl
@[simp] theorem modPort_core (k : Nat) (f : PortSt → PortSt) (s : State) : (modPort k f s).core = s.core := rfl
@[simp] theorem modPort_pwr (k : Nat) (f : PortSt → PortSt) (s : State) : (modPort k f s).pwr = s.pwr := rfl
@[simp] theorem modPort_gates (k : Nat) (f : PortSt → PortSt) (s : State) : (modPort k f s).gates = s.gates := rfl
@[simp] theorem modPort_comb (k : Nat) (f : PortSt → PortSt) (s : State) : (modPort k f s).comb = s.comb := rfl
@[simp] theorem modPort_perf (k : Nat) (f : PortSt → PortSt) (s : State) : (modPort k f s).perf = s.perf := rfl
@[simp] theorem modPort_arch (k : Nat) (f : PortSt → PortSt) (s : State) : (modPort k f s).arch = s.arch := rfl
@[simp] theorem modPort_vit (k : Nat) (f : PortSt → PortSt) (s : State) : (modPort k f s).vit = s.vit := rfl
@[simp] theorem modPort_lanes (k : Nat) (f : PortSt → PortSt) (s : State) : (modPort k f s).lanes = s.lanes := rfl
@[simp] theorem modPort_cal (k : Nat) (f : PortSt → PortSt) (s : State) : (modPort k f s).cal = s.cal := rfl
@[simp] theorem modPort_tdc (k : Nat) (f : PortSt → PortSt) (s : State) : (modPort k f s).tdc = s.tdc := rfl
@[simp] theorem modPort_refs (k : Nat) (f : PortSt → PortSt) (s : State) : (modPort k f s).refs = s.refs := rfl
@[simp] theorem modPort_syns (k : Nat) (f : PortSt → PortSt) (s : State) : (modPort k f s).syns = s.syns := rfl
@[simp] theorem modPort_outs (k : Nat) (f : PortSt → PortSt) (s : State) : (modPort k f s).outs = s.outs := rfl
@[simp] theorem modPort_plss (k : Nat) (f : PortSt → PortSt) (s : State) : (modPort k f s).plss = s.plss := rfl
@[simp] theorem modPort_ptp (k : Nat) (f : PortSt → PortSt) (s : State) : (modPort k f s).ptp = s.ptp := rfl
@[simp] theorem modPort_servo (k : Nat) (f : PortSt → PortSt) (s : State) : (modPort k f s).servo = s.servo := rfl
@[simp] theorem modPort_zut (k : Nat) (f : PortSt → PortSt) (s : State) : (modPort k f s).zut = s.zut := rfl
@[simp] theorem modPort_tw (k : Nat) (f : PortSt → PortSt) (s : State) : (modPort k f s).tw = s.tw := rfl
@[simp] theorem modPort_tap (k : Nat) (f : PortSt → PortSt) (s : State) : (modPort k f s).tap = s.tap := rfl
@[simp] theorem modPort_pending (k : Nat) (f : PortSt → PortSt) (s : State) : (modPort k f s).pending = s.pending := rfl
@[simp] theorem rd_modPort (k : Nat) (f : PortSt → PortSt) (s : State) (a b c : Nat) : rd (modPort k f s) a b c = rd s a b c := rfl
@[simp] theorem r1_modPort (k : Nat) (f : PortSt → PortSt) (s : State) (a b : Nat) : r1 (modPort k f s) a b = r1 s a b := rfl
@[simp] theorem r0_modPort (k : Nat) (f : PortSt → PortSt) (s : State) (a : Nat) : r0 (modPort k f s) a = r0 s a := rfl

@[simp] theorem setAcct_now (k j : Nat) (x : Acct) (s : State) : (setAcct k j x s).now = s.now := rfl
@[simp] theorem setAcct_counter (k j : Nat) (x : Acct) (s : State) : (setAcct k j x s).counter = s.counter := rfl
@[simp] theorem setAcct_increment (k j : Nat) (x : Acct) (s : State) : (setAcct k j x s).increment = s.increment := rfl
@[simp] theorem setAcct_tickPos (k j : Nat) (x : Acct) (s : State) : (setAcct k j x s).tickPos = s.tickPos := rfl
@[simp] theorem setAcct_boundaryAt (k j : Nat) (x : Acct) (s : State) : (setAcct k j x s).boundaryAt = s.boundaryAt := rfl
@[simp] theorem setAcct_boundaryReading (k j : Nat) (x : Acct) (s : State) : (setAcct k j x s).boundaryReading = s.boundaryReading := rfl
@[simp] theorem setAcct_applied (k j : Nat) (x : Acct) (s : State) : (setAcct k j x s).applied = s.applied := rfl
@[simp] theorem setAcct_workDue (k j : Nat) (x : Acct) (s : State) : (setAcct k j x s).workDue = s.workDue := rfl
@[simp] theorem setAcct_jobs (k j : Nat) (x : Acct) (s : State) : (setAcct k j x s).jobs = s.jobs := rfl
@[simp] theorem setAcct_regs (k j : Nat) (x : Acct) (s : State) : (setAcct k j x s).regs = s.regs := rfl
@[simp] theorem setAcct_free (k j : Nat) (x : Acct) (s : State) : (setAcct k j x s).free = s.free := rfl
@[simp] theorem setAcct_sent (k j : Nat) (x : Acct) (s : State) : (setAcct k j x s).sent = s.sent := rfl
@[simp] theorem setAcct_opn (k j : Nat) (x : Acct) (s : State) : (setAcct k j x s).opn = s.opn := rfl
@[simp] theorem setAcct_lrk (k j : Nat) (x : Acct) (s : State) : (setAcct k j x s).lrk = s.lrk := rfl
@[simp] theorem setAcct_ev (k j : Nat) (x : Acct) (s : State) : (setAcct k j x s).ev = s.ev := rfl
@[simp] theorem setAcct_ports (k j : Nat) (x : Acct) (s : State) : (setAcct k j x s).ports = s.ports := rfl
@[simp] theorem setAcct_pwr (k j : Nat) (x : Acct) (s : State) : (setAcct k j x s).pwr = s.pwr := rfl
@[simp] theorem setAcct_gates (k j : Nat) (x : Acct) (s : State) : (setAcct k j x s).gates = s.gates := rfl
@[simp] theorem setAcct_comb (k j : Nat) (x : Acct) (s : State) : (setAcct k j x s).comb = s.comb := rfl
@[simp] theorem setAcct_perf (k j : Nat) (x : Acct) (s : State) : (setAcct k j x s).perf = s.perf := rfl
@[simp] theorem setAcct_arch (k j : Nat) (x : Acct) (s : State) : (setAcct k j x s).arch = s.arch := rfl
@[simp] theorem setAcct_vit (k j : Nat) (x : Acct) (s : State) : (setAcct k j x s).vit = s.vit := rfl
@[simp] theorem setAcct_lanes (k j : Nat) (x : Acct) (s : State) : (setAcct k j x s).lanes = s.lanes := rfl
@[simp] theorem setAcct_cal (k j : Nat) (x : Acct) (s : State) : (setAcct k j x s).cal = s.cal := rfl
@[simp] theorem setAcct_tdc (k j : Nat) (x : Acct) (s : State) : (setAcct k j x s).tdc = s.tdc := rfl
@[simp] theorem setAcct_refs (k j : Nat) (x : Acct) (s : State) : (setAcct k j x s).refs = s.refs := rfl
@[simp] theorem setAcct_syns (k j : Nat) (x : Acct) (s : State) : (setAcct k j x s).syns = s.syns := rfl
@[simp] theorem setAcct_outs (k j : Nat) (x : Acct) (s : State) : (setAcct k j x s).outs = s.outs := rfl
@[simp] theorem setAcct_plss (k j : Nat) (x : Acct) (s : State) : (setAcct k j x s).plss = s.plss := rfl
@[simp] theorem setAcct_ptp (k j : Nat) (x : Acct) (s : State) : (setAcct k j x s).ptp = s.ptp := rfl
@[simp] theorem setAcct_servo (k j : Nat) (x : Acct) (s : State) : (setAcct k j x s).servo = s.servo := rfl
@[simp] theorem setAcct_zut (k j : Nat) (x : Acct) (s : State) : (setAcct k j x s).zut = s.zut := rfl
@[simp] theorem setAcct_tw (k j : Nat) (x : Acct) (s : State) : (setAcct k j x s).tw = s.tw := rfl
@[simp] theorem setAcct_tap (k j : Nat) (x : Acct) (s : State) : (setAcct k j x s).tap = s.tap := rfl
@[simp] theorem setAcct_pending (k j : Nat) (x : Acct) (s : State) : (setAcct k j x s).pending = s.pending := rfl
@[simp] theorem rd_setAcct (k j : Nat) (x : Acct) (s : State) (a b c : Nat) : rd (setAcct k j x s) a b c = rd s a b c := rfl
@[simp] theorem r1_setAcct (k j : Nat) (x : Acct) (s : State) (a b : Nat) : r1 (setAcct k j x s) a b = r1 s a b := rfl
@[simp] theorem r0_setAcct (k j : Nat) (x : Acct) (s : State) (a : Nat) : r0 (setAcct k j x s) a = r0 s a := rfl

@[simp] theorem setFrame_now (f : Frame) (s : State) : (setFrame f s).now = s.now := rfl
@[simp] theorem setFrame_counter (f : Frame) (s : State) : (setFrame f s).counter = s.counter := rfl
@[simp] theorem setFrame_increment (f : Frame) (s : State) : (setFrame f s).increment = s.increment := rfl
@[simp] theorem setFrame_tickPos (f : Frame) (s : State) : (setFrame f s).tickPos = s.tickPos := rfl
@[simp] theorem setFrame_boundaryAt (f : Frame) (s : State) : (setFrame f s).boundaryAt = s.boundaryAt := rfl
@[simp] theorem setFrame_boundaryReading (f : Frame) (s : State) : (setFrame f s).boundaryReading = s.boundaryReading := rfl
@[simp] theorem setFrame_applied (f : Frame) (s : State) : (setFrame f s).applied = s.applied := rfl
@[simp] theorem setFrame_workDue (f : Frame) (s : State) : (setFrame f s).workDue = s.workDue := rfl
@[simp] theorem setFrame_jobs (f : Frame) (s : State) : (setFrame f s).jobs = s.jobs := rfl
@[simp] theorem setFrame_regs (f : Frame) (s : State) : (setFrame f s).regs = s.regs := rfl
@[simp] theorem setFrame_free (f : Frame) (s : State) : (setFrame f s).free = s.free := rfl
@[simp] theorem setFrame_sent (f : Frame) (s : State) : (setFrame f s).sent = s.sent := rfl
@[simp] theorem setFrame_opn (f : Frame) (s : State) : (setFrame f s).opn = s.opn := rfl
@[simp] theorem setFrame_lrk (f : Frame) (s : State) : (setFrame f s).lrk = s.lrk := rfl
@[simp] theorem setFrame_ev (f : Frame) (s : State) : (setFrame f s).ev = s.ev := rfl
@[simp] theorem setFrame_ports (f : Frame) (s : State) : (setFrame f s).ports = s.ports := rfl
@[simp] theorem setFrame_pwr (f : Frame) (s : State) : (setFrame f s).pwr = s.pwr := rfl
@[simp] theorem setFrame_gates (f : Frame) (s : State) : (setFrame f s).gates = s.gates := rfl
@[simp] theorem setFrame_comb (f : Frame) (s : State) : (setFrame f s).comb = s.comb := rfl
@[simp] theorem setFrame_perf (f : Frame) (s : State) : (setFrame f s).perf = s.perf := rfl
@[simp] theorem setFrame_arch (f : Frame) (s : State) : (setFrame f s).arch = s.arch := rfl
@[simp] theorem setFrame_vit (f : Frame) (s : State) : (setFrame f s).vit = s.vit := rfl
@[simp] theorem setFrame_lanes (f : Frame) (s : State) : (setFrame f s).lanes = s.lanes := rfl
@[simp] theorem setFrame_cal (f : Frame) (s : State) : (setFrame f s).cal = s.cal := rfl
@[simp] theorem setFrame_tdc (f : Frame) (s : State) : (setFrame f s).tdc = s.tdc := rfl
@[simp] theorem setFrame_refs (f : Frame) (s : State) : (setFrame f s).refs = s.refs := rfl
@[simp] theorem setFrame_syns (f : Frame) (s : State) : (setFrame f s).syns = s.syns := rfl
@[simp] theorem setFrame_outs (f : Frame) (s : State) : (setFrame f s).outs = s.outs := rfl
@[simp] theorem setFrame_plss (f : Frame) (s : State) : (setFrame f s).plss = s.plss := rfl
@[simp] theorem setFrame_ptp (f : Frame) (s : State) : (setFrame f s).ptp = s.ptp := rfl
@[simp] theorem setFrame_servo (f : Frame) (s : State) : (setFrame f s).servo = s.servo := rfl
@[simp] theorem setFrame_zut (f : Frame) (s : State) : (setFrame f s).zut = s.zut := rfl
@[simp] theorem setFrame_tw (f : Frame) (s : State) : (setFrame f s).tw = s.tw := rfl
@[simp] theorem setFrame_tap (f : Frame) (s : State) : (setFrame f s).tap = s.tap := rfl
@[simp] theorem setFrame_pending (f : Frame) (s : State) : (setFrame f s).pending = s.pending := rfl
@[simp] theorem rd_setFrame (f : Frame) (s : State) (a b c : Nat) : rd (setFrame f s) a b c = rd s a b c := rfl
@[simp] theorem r1_setFrame (f : Frame) (s : State) (a b : Nat) : r1 (setFrame f s) a b = r1 s a b := rfl
@[simp] theorem r0_setFrame (f : Frame) (s : State) (a : Nat) : r0 (setFrame f s) a = r0 s a := rfl

@[simp] theorem dropFrame_now (k : Nat) (s : State) : (dropFrame k s).now = s.now := rfl
@[simp] theorem dropFrame_counter (k : Nat) (s : State) : (dropFrame k s).counter = s.counter := rfl
@[simp] theorem dropFrame_increment (k : Nat) (s : State) : (dropFrame k s).increment = s.increment := rfl
@[simp] theorem dropFrame_tickPos (k : Nat) (s : State) : (dropFrame k s).tickPos = s.tickPos := rfl
@[simp] theorem dropFrame_boundaryAt (k : Nat) (s : State) : (dropFrame k s).boundaryAt = s.boundaryAt := rfl
@[simp] theorem dropFrame_boundaryReading (k : Nat) (s : State) : (dropFrame k s).boundaryReading = s.boundaryReading := rfl
@[simp] theorem dropFrame_applied (k : Nat) (s : State) : (dropFrame k s).applied = s.applied := rfl
@[simp] theorem dropFrame_workDue (k : Nat) (s : State) : (dropFrame k s).workDue = s.workDue := rfl
@[simp] theorem dropFrame_jobs (k : Nat) (s : State) : (dropFrame k s).jobs = s.jobs := rfl
@[simp] theorem dropFrame_regs (k : Nat) (s : State) : (dropFrame k s).regs = s.regs := rfl
@[simp] theorem dropFrame_free (k : Nat) (s : State) : (dropFrame k s).free = s.free := rfl
@[simp] theorem dropFrame_sent (k : Nat) (s : State) : (dropFrame k s).sent = s.sent := rfl
@[simp] theorem dropFrame_opn (k : Nat) (s : State) : (dropFrame k s).opn = s.opn := rfl
@[simp] theorem dropFrame_lrk (k : Nat) (s : State) : (dropFrame k s).lrk = s.lrk := rfl
@[simp] theorem dropFrame_ev (k : Nat) (s : State) : (dropFrame k s).ev = s.ev := rfl
@[simp] theorem dropFrame_ports (k : Nat) (s : State) : (dropFrame k s).ports = s.ports := rfl
@[simp] theorem dropFrame_pwr (k : Nat) (s : State) : (dropFrame k s).pwr = s.pwr := rfl
@[simp] theorem dropFrame_gates (k : Nat) (s : State) : (dropFrame k s).gates = s.gates := rfl
@[simp] theorem dropFrame_comb (k : Nat) (s : State) : (dropFrame k s).comb = s.comb := rfl
@[simp] theorem dropFrame_perf (k : Nat) (s : State) : (dropFrame k s).perf = s.perf := rfl
@[simp] theorem dropFrame_arch (k : Nat) (s : State) : (dropFrame k s).arch = s.arch := rfl
@[simp] theorem dropFrame_vit (k : Nat) (s : State) : (dropFrame k s).vit = s.vit := rfl
@[simp] theorem dropFrame_lanes (k : Nat) (s : State) : (dropFrame k s).lanes = s.lanes := rfl
@[simp] theorem dropFrame_cal (k : Nat) (s : State) : (dropFrame k s).cal = s.cal := rfl
@[simp] theorem dropFrame_tdc (k : Nat) (s : State) : (dropFrame k s).tdc = s.tdc := rfl
@[simp] theorem dropFrame_refs (k : Nat) (s : State) : (dropFrame k s).refs = s.refs := rfl
@[simp] theorem dropFrame_syns (k : Nat) (s : State) : (dropFrame k s).syns = s.syns := rfl
@[simp] theorem dropFrame_outs (k : Nat) (s : State) : (dropFrame k s).outs = s.outs := rfl
@[simp] theorem dropFrame_plss (k : Nat) (s : State) : (dropFrame k s).plss = s.plss := rfl
@[simp] theorem dropFrame_ptp (k : Nat) (s : State) : (dropFrame k s).ptp = s.ptp := rfl
@[simp] theorem dropFrame_servo (k : Nat) (s : State) : (dropFrame k s).servo = s.servo := rfl
@[simp] theorem dropFrame_zut (k : Nat) (s : State) : (dropFrame k s).zut = s.zut := rfl
@[simp] theorem dropFrame_tw (k : Nat) (s : State) : (dropFrame k s).tw = s.tw := rfl
@[simp] theorem dropFrame_tap (k : Nat) (s : State) : (dropFrame k s).tap = s.tap := rfl
@[simp] theorem dropFrame_pending (k : Nat) (s : State) : (dropFrame k s).pending = s.pending := rfl
@[simp] theorem rd_dropFrame (k : Nat) (s : State) (a b c : Nat) : rd (dropFrame k s) a b c = rd s a b c := rfl
@[simp] theorem r1_dropFrame (k : Nat) (s : State) (a b : Nat) : r1 (dropFrame k s) a b = r1 s a b := rfl
@[simp] theorem r0_dropFrame (k : Nat) (s : State) (a : Nat) : r0 (dropFrame k s) a = r0 s a := rfl

@[simp] theorem modOpn_now (f : Opn → Opn) (s : State) : (modOpn f s).now = s.now := rfl
@[simp] theorem modOpn_counter (f : Opn → Opn) (s : State) : (modOpn f s).counter = s.counter := rfl
@[simp] theorem modOpn_increment (f : Opn → Opn) (s : State) : (modOpn f s).increment = s.increment := rfl
@[simp] theorem modOpn_tickPos (f : Opn → Opn) (s : State) : (modOpn f s).tickPos = s.tickPos := rfl
@[simp] theorem modOpn_boundaryAt (f : Opn → Opn) (s : State) : (modOpn f s).boundaryAt = s.boundaryAt := rfl
@[simp] theorem modOpn_boundaryReading (f : Opn → Opn) (s : State) : (modOpn f s).boundaryReading = s.boundaryReading := rfl
@[simp] theorem modOpn_applied (f : Opn → Opn) (s : State) : (modOpn f s).applied = s.applied := rfl
@[simp] theorem modOpn_workDue (f : Opn → Opn) (s : State) : (modOpn f s).workDue = s.workDue := rfl
@[simp] theorem modOpn_jobs (f : Opn → Opn) (s : State) : (modOpn f s).jobs = s.jobs := rfl
@[simp] theorem modOpn_regs (f : Opn → Opn) (s : State) : (modOpn f s).regs = s.regs := rfl
@[simp] theorem modOpn_free (f : Opn → Opn) (s : State) : (modOpn f s).free = s.free := rfl
@[simp] theorem modOpn_sent (f : Opn → Opn) (s : State) : (modOpn f s).sent = s.sent := rfl
@[simp] theorem modOpn_lrk (f : Opn → Opn) (s : State) : (modOpn f s).lrk = s.lrk := rfl
@[simp] theorem modOpn_ev (f : Opn → Opn) (s : State) : (modOpn f s).ev = s.ev := rfl
@[simp] theorem modOpn_ports (f : Opn → Opn) (s : State) : (modOpn f s).ports = s.ports := rfl
@[simp] theorem modOpn_core (f : Opn → Opn) (s : State) : (modOpn f s).core = s.core := rfl
@[simp] theorem modOpn_pwr (f : Opn → Opn) (s : State) : (modOpn f s).pwr = s.pwr := rfl
@[simp] theorem modOpn_gates (f : Opn → Opn) (s : State) : (modOpn f s).gates = s.gates := rfl
@[simp] theorem modOpn_comb (f : Opn → Opn) (s : State) : (modOpn f s).comb = s.comb := rfl
@[simp] theorem modOpn_perf (f : Opn → Opn) (s : State) : (modOpn f s).perf = s.perf := rfl
@[simp] theorem modOpn_arch (f : Opn → Opn) (s : State) : (modOpn f s).arch = s.arch := rfl
@[simp] theorem modOpn_vit (f : Opn → Opn) (s : State) : (modOpn f s).vit = s.vit := rfl
@[simp] theorem modOpn_lanes (f : Opn → Opn) (s : State) : (modOpn f s).lanes = s.lanes := rfl
@[simp] theorem modOpn_cal (f : Opn → Opn) (s : State) : (modOpn f s).cal = s.cal := rfl
@[simp] theorem modOpn_tdc (f : Opn → Opn) (s : State) : (modOpn f s).tdc = s.tdc := rfl
@[simp] theorem modOpn_refs (f : Opn → Opn) (s : State) : (modOpn f s).refs = s.refs := rfl
@[simp] theorem modOpn_syns (f : Opn → Opn) (s : State) : (modOpn f s).syns = s.syns := rfl
@[simp] theorem modOpn_outs (f : Opn → Opn) (s : State) : (modOpn f s).outs = s.outs := rfl
@[simp] theorem modOpn_plss (f : Opn → Opn) (s : State) : (modOpn f s).plss = s.plss := rfl
@[simp] theorem modOpn_ptp (f : Opn → Opn) (s : State) : (modOpn f s).ptp = s.ptp := rfl
@[simp] theorem modOpn_servo (f : Opn → Opn) (s : State) : (modOpn f s).servo = s.servo := rfl
@[simp] theorem modOpn_zut (f : Opn → Opn) (s : State) : (modOpn f s).zut = s.zut := rfl
@[simp] theorem modOpn_tw (f : Opn → Opn) (s : State) : (modOpn f s).tw = s.tw := rfl
@[simp] theorem modOpn_tap (f : Opn → Opn) (s : State) : (modOpn f s).tap = s.tap := rfl
@[simp] theorem modOpn_pending (f : Opn → Opn) (s : State) : (modOpn f s).pending = s.pending := rfl
@[simp] theorem rd_modOpn (f : Opn → Opn) (s : State) (a b c : Nat) : rd (modOpn f s) a b c = rd s a b c := rfl
@[simp] theorem r1_modOpn (f : Opn → Opn) (s : State) (a b : Nat) : r1 (modOpn f s) a b = r1 s a b := rfl
@[simp] theorem r0_modOpn (f : Opn → Opn) (s : State) (a : Nat) : r0 (modOpn f s) a = r0 s a := rfl
@[simp] theorem modOpn_opn (f : Opn → Opn) (s : State) : (modOpn f s).opn = f s.opn := rfl

@[simp] theorem modPwr_now (f : PwrSt → PwrSt) (s : State) : (modPwr f s).now = s.now := rfl
@[simp] theorem modPwr_counter (f : PwrSt → PwrSt) (s : State) : (modPwr f s).counter = s.counter := rfl
@[simp] theorem modPwr_increment (f : PwrSt → PwrSt) (s : State) : (modPwr f s).increment = s.increment := rfl
@[simp] theorem modPwr_tickPos (f : PwrSt → PwrSt) (s : State) : (modPwr f s).tickPos = s.tickPos := rfl
@[simp] theorem modPwr_boundaryAt (f : PwrSt → PwrSt) (s : State) : (modPwr f s).boundaryAt = s.boundaryAt := rfl
@[simp] theorem modPwr_boundaryReading (f : PwrSt → PwrSt) (s : State) : (modPwr f s).boundaryReading = s.boundaryReading := rfl
@[simp] theorem modPwr_applied (f : PwrSt → PwrSt) (s : State) : (modPwr f s).applied = s.applied := rfl
@[simp] theorem modPwr_workDue (f : PwrSt → PwrSt) (s : State) : (modPwr f s).workDue = s.workDue := rfl
@[simp] theorem modPwr_jobs (f : PwrSt → PwrSt) (s : State) : (modPwr f s).jobs = s.jobs := rfl
@[simp] theorem modPwr_regs (f : PwrSt → PwrSt) (s : State) : (modPwr f s).regs = s.regs := rfl
@[simp] theorem modPwr_free (f : PwrSt → PwrSt) (s : State) : (modPwr f s).free = s.free := rfl
@[simp] theorem modPwr_sent (f : PwrSt → PwrSt) (s : State) : (modPwr f s).sent = s.sent := rfl
@[simp] theorem modPwr_opn (f : PwrSt → PwrSt) (s : State) : (modPwr f s).opn = s.opn := rfl
@[simp] theorem modPwr_lrk (f : PwrSt → PwrSt) (s : State) : (modPwr f s).lrk = s.lrk := rfl
@[simp] theorem modPwr_ev (f : PwrSt → PwrSt) (s : State) : (modPwr f s).ev = s.ev := rfl
@[simp] theorem modPwr_ports (f : PwrSt → PwrSt) (s : State) : (modPwr f s).ports = s.ports := rfl
@[simp] theorem modPwr_core (f : PwrSt → PwrSt) (s : State) : (modPwr f s).core = s.core := rfl
@[simp] theorem modPwr_gates (f : PwrSt → PwrSt) (s : State) : (modPwr f s).gates = s.gates := rfl
@[simp] theorem modPwr_comb (f : PwrSt → PwrSt) (s : State) : (modPwr f s).comb = s.comb := rfl
@[simp] theorem modPwr_perf (f : PwrSt → PwrSt) (s : State) : (modPwr f s).perf = s.perf := rfl
@[simp] theorem modPwr_arch (f : PwrSt → PwrSt) (s : State) : (modPwr f s).arch = s.arch := rfl
@[simp] theorem modPwr_vit (f : PwrSt → PwrSt) (s : State) : (modPwr f s).vit = s.vit := rfl
@[simp] theorem modPwr_lanes (f : PwrSt → PwrSt) (s : State) : (modPwr f s).lanes = s.lanes := rfl
@[simp] theorem modPwr_cal (f : PwrSt → PwrSt) (s : State) : (modPwr f s).cal = s.cal := rfl
@[simp] theorem modPwr_tdc (f : PwrSt → PwrSt) (s : State) : (modPwr f s).tdc = s.tdc := rfl
@[simp] theorem modPwr_refs (f : PwrSt → PwrSt) (s : State) : (modPwr f s).refs = s.refs := rfl
@[simp] theorem modPwr_syns (f : PwrSt → PwrSt) (s : State) : (modPwr f s).syns = s.syns := rfl
@[simp] theorem modPwr_outs (f : PwrSt → PwrSt) (s : State) : (modPwr f s).outs = s.outs := rfl
@[simp] theorem modPwr_plss (f : PwrSt → PwrSt) (s : State) : (modPwr f s).plss = s.plss := rfl
@[simp] theorem modPwr_ptp (f : PwrSt → PwrSt) (s : State) : (modPwr f s).ptp = s.ptp := rfl
@[simp] theorem modPwr_servo (f : PwrSt → PwrSt) (s : State) : (modPwr f s).servo = s.servo := rfl
@[simp] theorem modPwr_zut (f : PwrSt → PwrSt) (s : State) : (modPwr f s).zut = s.zut := rfl
@[simp] theorem modPwr_tw (f : PwrSt → PwrSt) (s : State) : (modPwr f s).tw = s.tw := rfl
@[simp] theorem modPwr_tap (f : PwrSt → PwrSt) (s : State) : (modPwr f s).tap = s.tap := rfl
@[simp] theorem modPwr_pending (f : PwrSt → PwrSt) (s : State) : (modPwr f s).pending = s.pending := rfl
@[simp] theorem rd_modPwr (f : PwrSt → PwrSt) (s : State) (a b c : Nat) : rd (modPwr f s) a b c = rd s a b c := rfl
@[simp] theorem r1_modPwr (f : PwrSt → PwrSt) (s : State) (a b : Nat) : r1 (modPwr f s) a b = r1 s a b := rfl
@[simp] theorem r0_modPwr (f : PwrSt → PwrSt) (s : State) (a : Nat) : r0 (modPwr f s) a = r0 s a := rfl
@[simp] theorem modPwr_pwr (f : PwrSt → PwrSt) (s : State) : (modPwr f s).pwr = f s.pwr := rfl

@[simp] theorem modLrk_now (f : Lrk → Lrk) (s : State) : (modLrk f s).now = s.now := rfl
@[simp] theorem modLrk_counter (f : Lrk → Lrk) (s : State) : (modLrk f s).counter = s.counter := rfl
@[simp] theorem modLrk_increment (f : Lrk → Lrk) (s : State) : (modLrk f s).increment = s.increment := rfl
@[simp] theorem modLrk_tickPos (f : Lrk → Lrk) (s : State) : (modLrk f s).tickPos = s.tickPos := rfl
@[simp] theorem modLrk_boundaryAt (f : Lrk → Lrk) (s : State) : (modLrk f s).boundaryAt = s.boundaryAt := rfl
@[simp] theorem modLrk_boundaryReading (f : Lrk → Lrk) (s : State) : (modLrk f s).boundaryReading = s.boundaryReading := rfl
@[simp] theorem modLrk_applied (f : Lrk → Lrk) (s : State) : (modLrk f s).applied = s.applied := rfl
@[simp] theorem modLrk_workDue (f : Lrk → Lrk) (s : State) : (modLrk f s).workDue = s.workDue := rfl
@[simp] theorem modLrk_jobs (f : Lrk → Lrk) (s : State) : (modLrk f s).jobs = s.jobs := rfl
@[simp] theorem modLrk_regs (f : Lrk → Lrk) (s : State) : (modLrk f s).regs = s.regs := rfl
@[simp] theorem modLrk_free (f : Lrk → Lrk) (s : State) : (modLrk f s).free = s.free := rfl
@[simp] theorem modLrk_sent (f : Lrk → Lrk) (s : State) : (modLrk f s).sent = s.sent := rfl
@[simp] theorem modLrk_opn (f : Lrk → Lrk) (s : State) : (modLrk f s).opn = s.opn := rfl
@[simp] theorem modLrk_ev (f : Lrk → Lrk) (s : State) : (modLrk f s).ev = s.ev := rfl
@[simp] theorem modLrk_ports (f : Lrk → Lrk) (s : State) : (modLrk f s).ports = s.ports := rfl
@[simp] theorem modLrk_core (f : Lrk → Lrk) (s : State) : (modLrk f s).core = s.core := rfl
@[simp] theorem modLrk_pwr (f : Lrk → Lrk) (s : State) : (modLrk f s).pwr = s.pwr := rfl
@[simp] theorem modLrk_gates (f : Lrk → Lrk) (s : State) : (modLrk f s).gates = s.gates := rfl
@[simp] theorem modLrk_comb (f : Lrk → Lrk) (s : State) : (modLrk f s).comb = s.comb := rfl
@[simp] theorem modLrk_perf (f : Lrk → Lrk) (s : State) : (modLrk f s).perf = s.perf := rfl
@[simp] theorem modLrk_arch (f : Lrk → Lrk) (s : State) : (modLrk f s).arch = s.arch := rfl
@[simp] theorem modLrk_vit (f : Lrk → Lrk) (s : State) : (modLrk f s).vit = s.vit := rfl
@[simp] theorem modLrk_lanes (f : Lrk → Lrk) (s : State) : (modLrk f s).lanes = s.lanes := rfl
@[simp] theorem modLrk_cal (f : Lrk → Lrk) (s : State) : (modLrk f s).cal = s.cal := rfl
@[simp] theorem modLrk_tdc (f : Lrk → Lrk) (s : State) : (modLrk f s).tdc = s.tdc := rfl
@[simp] theorem modLrk_refs (f : Lrk → Lrk) (s : State) : (modLrk f s).refs = s.refs := rfl
@[simp] theorem modLrk_syns (f : Lrk → Lrk) (s : State) : (modLrk f s).syns = s.syns := rfl
@[simp] theorem modLrk_outs (f : Lrk → Lrk) (s : State) : (modLrk f s).outs = s.outs := rfl
@[simp] theorem modLrk_plss (f : Lrk → Lrk) (s : State) : (modLrk f s).plss = s.plss := rfl
@[simp] theorem modLrk_ptp (f : Lrk → Lrk) (s : State) : (modLrk f s).ptp = s.ptp := rfl
@[simp] theorem modLrk_servo (f : Lrk → Lrk) (s : State) : (modLrk f s).servo = s.servo := rfl
@[simp] theorem modLrk_zut (f : Lrk → Lrk) (s : State) : (modLrk f s).zut = s.zut := rfl
@[simp] theorem modLrk_tw (f : Lrk → Lrk) (s : State) : (modLrk f s).tw = s.tw := rfl
@[simp] theorem modLrk_tap (f : Lrk → Lrk) (s : State) : (modLrk f s).tap = s.tap := rfl
@[simp] theorem modLrk_pending (f : Lrk → Lrk) (s : State) : (modLrk f s).pending = s.pending := rfl
@[simp] theorem rd_modLrk (f : Lrk → Lrk) (s : State) (a b c : Nat) : rd (modLrk f s) a b c = rd s a b c := rfl
@[simp] theorem r1_modLrk (f : Lrk → Lrk) (s : State) (a b : Nat) : r1 (modLrk f s) a b = r1 s a b := rfl
@[simp] theorem r0_modLrk (f : Lrk → Lrk) (s : State) (a : Nat) : r0 (modLrk f s) a = r0 s a := rfl
@[simp] theorem modLrk_lrk (f : Lrk → Lrk) (s : State) : (modLrk f s).lrk = f s.lrk := rfl

@[simp] theorem modZut_now (f : ZutSt → ZutSt) (s : State) : (modZut f s).now = s.now := rfl
@[simp] theorem modZut_counter (f : ZutSt → ZutSt) (s : State) : (modZut f s).counter = s.counter := rfl
@[simp] theorem modZut_increment (f : ZutSt → ZutSt) (s : State) : (modZut f s).increment = s.increment := rfl
@[simp] theorem modZut_tickPos (f : ZutSt → ZutSt) (s : State) : (modZut f s).tickPos = s.tickPos := rfl
@[simp] theorem modZut_boundaryAt (f : ZutSt → ZutSt) (s : State) : (modZut f s).boundaryAt = s.boundaryAt := rfl
@[simp] theorem modZut_boundaryReading (f : ZutSt → ZutSt) (s : State) : (modZut f s).boundaryReading = s.boundaryReading := rfl
@[simp] theorem modZut_applied (f : ZutSt → ZutSt) (s : State) : (modZut f s).applied = s.applied := rfl
@[simp] theorem modZut_workDue (f : ZutSt → ZutSt) (s : State) : (modZut f s).workDue = s.workDue := rfl
@[simp] theorem modZut_jobs (f : ZutSt → ZutSt) (s : State) : (modZut f s).jobs = s.jobs := rfl
@[simp] theorem modZut_regs (f : ZutSt → ZutSt) (s : State) : (modZut f s).regs = s.regs := rfl
@[simp] theorem modZut_free (f : ZutSt → ZutSt) (s : State) : (modZut f s).free = s.free := rfl
@[simp] theorem modZut_sent (f : ZutSt → ZutSt) (s : State) : (modZut f s).sent = s.sent := rfl
@[simp] theorem modZut_opn (f : ZutSt → ZutSt) (s : State) : (modZut f s).opn = s.opn := rfl
@[simp] theorem modZut_lrk (f : ZutSt → ZutSt) (s : State) : (modZut f s).lrk = s.lrk := rfl
@[simp] theorem modZut_ev (f : ZutSt → ZutSt) (s : State) : (modZut f s).ev = s.ev := rfl
@[simp] theorem modZut_ports (f : ZutSt → ZutSt) (s : State) : (modZut f s).ports = s.ports := rfl
@[simp] theorem modZut_core (f : ZutSt → ZutSt) (s : State) : (modZut f s).core = s.core := rfl
@[simp] theorem modZut_pwr (f : ZutSt → ZutSt) (s : State) : (modZut f s).pwr = s.pwr := rfl
@[simp] theorem modZut_gates (f : ZutSt → ZutSt) (s : State) : (modZut f s).gates = s.gates := rfl
@[simp] theorem modZut_comb (f : ZutSt → ZutSt) (s : State) : (modZut f s).comb = s.comb := rfl
@[simp] theorem modZut_perf (f : ZutSt → ZutSt) (s : State) : (modZut f s).perf = s.perf := rfl
@[simp] theorem modZut_arch (f : ZutSt → ZutSt) (s : State) : (modZut f s).arch = s.arch := rfl
@[simp] theorem modZut_vit (f : ZutSt → ZutSt) (s : State) : (modZut f s).vit = s.vit := rfl
@[simp] theorem modZut_lanes (f : ZutSt → ZutSt) (s : State) : (modZut f s).lanes = s.lanes := rfl
@[simp] theorem modZut_cal (f : ZutSt → ZutSt) (s : State) : (modZut f s).cal = s.cal := rfl
@[simp] theorem modZut_tdc (f : ZutSt → ZutSt) (s : State) : (modZut f s).tdc = s.tdc := rfl
@[simp] theorem modZut_refs (f : ZutSt → ZutSt) (s : State) : (modZut f s).refs = s.refs := rfl
@[simp] theorem modZut_syns (f : ZutSt → ZutSt) (s : State) : (modZut f s).syns = s.syns := rfl
@[simp] theorem modZut_outs (f : ZutSt → ZutSt) (s : State) : (modZut f s).outs = s.outs := rfl
@[simp] theorem modZut_plss (f : ZutSt → ZutSt) (s : State) : (modZut f s).plss = s.plss := rfl
@[simp] theorem modZut_ptp (f : ZutSt → ZutSt) (s : State) : (modZut f s).ptp = s.ptp := rfl
@[simp] theorem modZut_servo (f : ZutSt → ZutSt) (s : State) : (modZut f s).servo = s.servo := rfl
@[simp] theorem modZut_tw (f : ZutSt → ZutSt) (s : State) : (modZut f s).tw = s.tw := rfl
@[simp] theorem modZut_tap (f : ZutSt → ZutSt) (s : State) : (modZut f s).tap = s.tap := rfl
@[simp] theorem modZut_pending (f : ZutSt → ZutSt) (s : State) : (modZut f s).pending = s.pending := rfl
@[simp] theorem rd_modZut (f : ZutSt → ZutSt) (s : State) (a b c : Nat) : rd (modZut f s) a b c = rd s a b c := rfl
@[simp] theorem r1_modZut (f : ZutSt → ZutSt) (s : State) (a b : Nat) : r1 (modZut f s) a b = r1 s a b := rfl
@[simp] theorem r0_modZut (f : ZutSt → ZutSt) (s : State) (a : Nat) : r0 (modZut f s) a = r0 s a := rfl
@[simp] theorem modZut_zut (f : ZutSt → ZutSt) (s : State) : (modZut f s).zut = f s.zut := rfl

@[simp] theorem modTw_now (f : TwSt → TwSt) (s : State) : (modTw f s).now = s.now := rfl
@[simp] theorem modTw_counter (f : TwSt → TwSt) (s : State) : (modTw f s).counter = s.counter := rfl
@[simp] theorem modTw_increment (f : TwSt → TwSt) (s : State) : (modTw f s).increment = s.increment := rfl
@[simp] theorem modTw_tickPos (f : TwSt → TwSt) (s : State) : (modTw f s).tickPos = s.tickPos := rfl
@[simp] theorem modTw_boundaryAt (f : TwSt → TwSt) (s : State) : (modTw f s).boundaryAt = s.boundaryAt := rfl
@[simp] theorem modTw_boundaryReading (f : TwSt → TwSt) (s : State) : (modTw f s).boundaryReading = s.boundaryReading := rfl
@[simp] theorem modTw_applied (f : TwSt → TwSt) (s : State) : (modTw f s).applied = s.applied := rfl
@[simp] theorem modTw_workDue (f : TwSt → TwSt) (s : State) : (modTw f s).workDue = s.workDue := rfl
@[simp] theorem modTw_jobs (f : TwSt → TwSt) (s : State) : (modTw f s).jobs = s.jobs := rfl
@[simp] theorem modTw_regs (f : TwSt → TwSt) (s : State) : (modTw f s).regs = s.regs := rfl
@[simp] theorem modTw_free (f : TwSt → TwSt) (s : State) : (modTw f s).free = s.free := rfl
@[simp] theorem modTw_sent (f : TwSt → TwSt) (s : State) : (modTw f s).sent = s.sent := rfl
@[simp] theorem modTw_opn (f : TwSt → TwSt) (s : State) : (modTw f s).opn = s.opn := rfl
@[simp] theorem modTw_lrk (f : TwSt → TwSt) (s : State) : (modTw f s).lrk = s.lrk := rfl
@[simp] theorem modTw_ev (f : TwSt → TwSt) (s : State) : (modTw f s).ev = s.ev := rfl
@[simp] theorem modTw_ports (f : TwSt → TwSt) (s : State) : (modTw f s).ports = s.ports := rfl
@[simp] theorem modTw_core (f : TwSt → TwSt) (s : State) : (modTw f s).core = s.core := rfl
@[simp] theorem modTw_pwr (f : TwSt → TwSt) (s : State) : (modTw f s).pwr = s.pwr := rfl
@[simp] theorem modTw_gates (f : TwSt → TwSt) (s : State) : (modTw f s).gates = s.gates := rfl
@[simp] theorem modTw_comb (f : TwSt → TwSt) (s : State) : (modTw f s).comb = s.comb := rfl
@[simp] theorem modTw_perf (f : TwSt → TwSt) (s : State) : (modTw f s).perf = s.perf := rfl
@[simp] theorem modTw_arch (f : TwSt → TwSt) (s : State) : (modTw f s).arch = s.arch := rfl
@[simp] theorem modTw_vit (f : TwSt → TwSt) (s : State) : (modTw f s).vit = s.vit := rfl
@[simp] theorem modTw_lanes (f : TwSt → TwSt) (s : State) : (modTw f s).lanes = s.lanes := rfl
@[simp] theorem modTw_cal (f : TwSt → TwSt) (s : State) : (modTw f s).cal = s.cal := rfl
@[simp] theorem modTw_tdc (f : TwSt → TwSt) (s : State) : (modTw f s).tdc = s.tdc := rfl
@[simp] theorem modTw_refs (f : TwSt → TwSt) (s : State) : (modTw f s).refs = s.refs := rfl
@[simp] theorem modTw_syns (f : TwSt → TwSt) (s : State) : (modTw f s).syns = s.syns := rfl
@[simp] theorem modTw_outs (f : TwSt → TwSt) (s : State) : (modTw f s).outs = s.outs := rfl
@[simp] theorem modTw_plss (f : TwSt → TwSt) (s : State) : (modTw f s).plss = s.plss := rfl
@[simp] theorem modTw_ptp (f : TwSt → TwSt) (s : State) : (modTw f s).ptp = s.ptp := rfl
@[simp] theorem modTw_servo (f : TwSt → TwSt) (s : State) : (modTw f s).servo = s.servo := rfl
@[simp] theorem modTw_zut (f : TwSt → TwSt) (s : State) : (modTw f s).zut = s.zut := rfl
@[simp] theorem modTw_tap (f : TwSt → TwSt) (s : State) : (modTw f s).tap = s.tap := rfl
@[simp] theorem modTw_pending (f : TwSt → TwSt) (s : State) : (modTw f s).pending = s.pending := rfl
@[simp] theorem rd_modTw (f : TwSt → TwSt) (s : State) (a b c : Nat) : rd (modTw f s) a b c = rd s a b c := rfl
@[simp] theorem r1_modTw (f : TwSt → TwSt) (s : State) (a b : Nat) : r1 (modTw f s) a b = r1 s a b := rfl
@[simp] theorem r0_modTw (f : TwSt → TwSt) (s : State) (a : Nat) : r0 (modTw f s) a = r0 s a := rfl
@[simp] theorem modTw_tw (f : TwSt → TwSt) (s : State) : (modTw f s).tw = f s.tw := rfl

@[simp] theorem modServo_now (f : ServoSt → ServoSt) (s : State) : (modServo f s).now = s.now := rfl
@[simp] theorem modServo_counter (f : ServoSt → ServoSt) (s : State) : (modServo f s).counter = s.counter := rfl
@[simp] theorem modServo_increment (f : ServoSt → ServoSt) (s : State) : (modServo f s).increment = s.increment := rfl
@[simp] theorem modServo_tickPos (f : ServoSt → ServoSt) (s : State) : (modServo f s).tickPos = s.tickPos := rfl
@[simp] theorem modServo_boundaryAt (f : ServoSt → ServoSt) (s : State) : (modServo f s).boundaryAt = s.boundaryAt := rfl
@[simp] theorem modServo_boundaryReading (f : ServoSt → ServoSt) (s : State) : (modServo f s).boundaryReading = s.boundaryReading := rfl
@[simp] theorem modServo_applied (f : ServoSt → ServoSt) (s : State) : (modServo f s).applied = s.applied := rfl
@[simp] theorem modServo_workDue (f : ServoSt → ServoSt) (s : State) : (modServo f s).workDue = s.workDue := rfl
@[simp] theorem modServo_jobs (f : ServoSt → ServoSt) (s : State) : (modServo f s).jobs = s.jobs := rfl
@[simp] theorem modServo_regs (f : ServoSt → ServoSt) (s : State) : (modServo f s).regs = s.regs := rfl
@[simp] theorem modServo_free (f : ServoSt → ServoSt) (s : State) : (modServo f s).free = s.free := rfl
@[simp] theorem modServo_sent (f : ServoSt → ServoSt) (s : State) : (modServo f s).sent = s.sent := rfl
@[simp] theorem modServo_opn (f : ServoSt → ServoSt) (s : State) : (modServo f s).opn = s.opn := rfl
@[simp] theorem modServo_lrk (f : ServoSt → ServoSt) (s : State) : (modServo f s).lrk = s.lrk := rfl
@[simp] theorem modServo_ev (f : ServoSt → ServoSt) (s : State) : (modServo f s).ev = s.ev := rfl
@[simp] theorem modServo_ports (f : ServoSt → ServoSt) (s : State) : (modServo f s).ports = s.ports := rfl
@[simp] theorem modServo_core (f : ServoSt → ServoSt) (s : State) : (modServo f s).core = s.core := rfl
@[simp] theorem modServo_pwr (f : ServoSt → ServoSt) (s : State) : (modServo f s).pwr = s.pwr := rfl
@[simp] theorem modServo_gates (f : ServoSt → ServoSt) (s : State) : (modServo f s).gates = s.gates := rfl
@[simp] theorem modServo_comb (f : ServoSt → ServoSt) (s : State) : (modServo f s).comb = s.comb := rfl
@[simp] theorem modServo_perf (f : ServoSt → ServoSt) (s : State) : (modServo f s).perf = s.perf := rfl
@[simp] theorem modServo_arch (f : ServoSt → ServoSt) (s : State) : (modServo f s).arch = s.arch := rfl
@[simp] theorem modServo_vit (f : ServoSt → ServoSt) (s : State) : (modServo f s).vit = s.vit := rfl
@[simp] theorem modServo_lanes (f : ServoSt → ServoSt) (s : State) : (modServo f s).lanes = s.lanes := rfl
@[simp] theorem modServo_cal (f : ServoSt → ServoSt) (s : State) : (modServo f s).cal = s.cal := rfl
@[simp] theorem modServo_tdc (f : ServoSt → ServoSt) (s : State) : (modServo f s).tdc = s.tdc := rfl
@[simp] theorem modServo_refs (f : ServoSt → ServoSt) (s : State) : (modServo f s).refs = s.refs := rfl
@[simp] theorem modServo_syns (f : ServoSt → ServoSt) (s : State) : (modServo f s).syns = s.syns := rfl
@[simp] theorem modServo_outs (f : ServoSt → ServoSt) (s : State) : (modServo f s).outs = s.outs := rfl
@[simp] theorem modServo_plss (f : ServoSt → ServoSt) (s : State) : (modServo f s).plss = s.plss := rfl
@[simp] theorem modServo_ptp (f : ServoSt → ServoSt) (s : State) : (modServo f s).ptp = s.ptp := rfl
@[simp] theorem modServo_zut (f : ServoSt → ServoSt) (s : State) : (modServo f s).zut = s.zut := rfl
@[simp] theorem modServo_tw (f : ServoSt → ServoSt) (s : State) : (modServo f s).tw = s.tw := rfl
@[simp] theorem modServo_tap (f : ServoSt → ServoSt) (s : State) : (modServo f s).tap = s.tap := rfl
@[simp] theorem modServo_pending (f : ServoSt → ServoSt) (s : State) : (modServo f s).pending = s.pending := rfl
@[simp] theorem rd_modServo (f : ServoSt → ServoSt) (s : State) (a b c : Nat) : rd (modServo f s) a b c = rd s a b c := rfl
@[simp] theorem r1_modServo (f : ServoSt → ServoSt) (s : State) (a b : Nat) : r1 (modServo f s) a b = r1 s a b := rfl
@[simp] theorem r0_modServo (f : ServoSt → ServoSt) (s : State) (a : Nat) : r0 (modServo f s) a = r0 s a := rfl
@[simp] theorem modServo_servo (f : ServoSt → ServoSt) (s : State) : (modServo f s).servo = f s.servo := rfl

@[simp] theorem setLane_now (k : Nat) (x : LaneSt) (s : State) : (setLane k x s).now = s.now := rfl
@[simp] theorem setLane_counter (k : Nat) (x : LaneSt) (s : State) : (setLane k x s).counter = s.counter := rfl
@[simp] theorem setLane_increment (k : Nat) (x : LaneSt) (s : State) : (setLane k x s).increment = s.increment := rfl
@[simp] theorem setLane_tickPos (k : Nat) (x : LaneSt) (s : State) : (setLane k x s).tickPos = s.tickPos := rfl
@[simp] theorem setLane_boundaryAt (k : Nat) (x : LaneSt) (s : State) : (setLane k x s).boundaryAt = s.boundaryAt := rfl
@[simp] theorem setLane_boundaryReading (k : Nat) (x : LaneSt) (s : State) : (setLane k x s).boundaryReading = s.boundaryReading := rfl
@[simp] theorem setLane_applied (k : Nat) (x : LaneSt) (s : State) : (setLane k x s).applied = s.applied := rfl
@[simp] theorem setLane_workDue (k : Nat) (x : LaneSt) (s : State) : (setLane k x s).workDue = s.workDue := rfl
@[simp] theorem setLane_jobs (k : Nat) (x : LaneSt) (s : State) : (setLane k x s).jobs = s.jobs := rfl
@[simp] theorem setLane_regs (k : Nat) (x : LaneSt) (s : State) : (setLane k x s).regs = s.regs := rfl
@[simp] theorem setLane_free (k : Nat) (x : LaneSt) (s : State) : (setLane k x s).free = s.free := rfl
@[simp] theorem setLane_sent (k : Nat) (x : LaneSt) (s : State) : (setLane k x s).sent = s.sent := rfl
@[simp] theorem setLane_opn (k : Nat) (x : LaneSt) (s : State) : (setLane k x s).opn = s.opn := rfl
@[simp] theorem setLane_lrk (k : Nat) (x : LaneSt) (s : State) : (setLane k x s).lrk = s.lrk := rfl
@[simp] theorem setLane_ev (k : Nat) (x : LaneSt) (s : State) : (setLane k x s).ev = s.ev := rfl
@[simp] theorem setLane_ports (k : Nat) (x : LaneSt) (s : State) : (setLane k x s).ports = s.ports := rfl
@[simp] theorem setLane_core (k : Nat) (x : LaneSt) (s : State) : (setLane k x s).core = s.core := rfl
@[simp] theorem setLane_pwr (k : Nat) (x : LaneSt) (s : State) : (setLane k x s).pwr = s.pwr := rfl
@[simp] theorem setLane_gates (k : Nat) (x : LaneSt) (s : State) : (setLane k x s).gates = s.gates := rfl
@[simp] theorem setLane_comb (k : Nat) (x : LaneSt) (s : State) : (setLane k x s).comb = s.comb := rfl
@[simp] theorem setLane_perf (k : Nat) (x : LaneSt) (s : State) : (setLane k x s).perf = s.perf := rfl
@[simp] theorem setLane_arch (k : Nat) (x : LaneSt) (s : State) : (setLane k x s).arch = s.arch := rfl
@[simp] theorem setLane_vit (k : Nat) (x : LaneSt) (s : State) : (setLane k x s).vit = s.vit := rfl
@[simp] theorem setLane_cal (k : Nat) (x : LaneSt) (s : State) : (setLane k x s).cal = s.cal := rfl
@[simp] theorem setLane_tdc (k : Nat) (x : LaneSt) (s : State) : (setLane k x s).tdc = s.tdc := rfl
@[simp] theorem setLane_refs (k : Nat) (x : LaneSt) (s : State) : (setLane k x s).refs = s.refs := rfl
@[simp] theorem setLane_syns (k : Nat) (x : LaneSt) (s : State) : (setLane k x s).syns = s.syns := rfl
@[simp] theorem setLane_outs (k : Nat) (x : LaneSt) (s : State) : (setLane k x s).outs = s.outs := rfl
@[simp] theorem setLane_plss (k : Nat) (x : LaneSt) (s : State) : (setLane k x s).plss = s.plss := rfl
@[simp] theorem setLane_ptp (k : Nat) (x : LaneSt) (s : State) : (setLane k x s).ptp = s.ptp := rfl
@[simp] theorem setLane_servo (k : Nat) (x : LaneSt) (s : State) : (setLane k x s).servo = s.servo := rfl
@[simp] theorem setLane_zut (k : Nat) (x : LaneSt) (s : State) : (setLane k x s).zut = s.zut := rfl
@[simp] theorem setLane_tw (k : Nat) (x : LaneSt) (s : State) : (setLane k x s).tw = s.tw := rfl
@[simp] theorem setLane_tap (k : Nat) (x : LaneSt) (s : State) : (setLane k x s).tap = s.tap := rfl
@[simp] theorem setLane_pending (k : Nat) (x : LaneSt) (s : State) : (setLane k x s).pending = s.pending := rfl
@[simp] theorem rd_setLane (k : Nat) (x : LaneSt) (s : State) (a b c : Nat) : rd (setLane k x s) a b c = rd s a b c := rfl
@[simp] theorem r1_setLane (k : Nat) (x : LaneSt) (s : State) (a b : Nat) : r1 (setLane k x s) a b = r1 s a b := rfl
@[simp] theorem r0_setLane (k : Nat) (x : LaneSt) (s : State) (a : Nat) : r0 (setLane k x s) a = r0 s a := rfl

@[simp] theorem modLane_now (k : Nat) (f : LaneSt → LaneSt) (s : State) : (modLane k f s).now = s.now := rfl
@[simp] theorem modLane_counter (k : Nat) (f : LaneSt → LaneSt) (s : State) : (modLane k f s).counter = s.counter := rfl
@[simp] theorem modLane_increment (k : Nat) (f : LaneSt → LaneSt) (s : State) : (modLane k f s).increment = s.increment := rfl
@[simp] theorem modLane_tickPos (k : Nat) (f : LaneSt → LaneSt) (s : State) : (modLane k f s).tickPos = s.tickPos := rfl
@[simp] theorem modLane_boundaryAt (k : Nat) (f : LaneSt → LaneSt) (s : State) : (modLane k f s).boundaryAt = s.boundaryAt := rfl
@[simp] theorem modLane_boundaryReading (k : Nat) (f : LaneSt → LaneSt) (s : State) : (modLane k f s).boundaryReading = s.boundaryReading := rfl
@[simp] theorem modLane_applied (k : Nat) (f : LaneSt → LaneSt) (s : State) : (modLane k f s).applied = s.applied := rfl
@[simp] theorem modLane_workDue (k : Nat) (f : LaneSt → LaneSt) (s : State) : (modLane k f s).workDue = s.workDue := rfl
@[simp] theorem modLane_jobs (k : Nat) (f : LaneSt → LaneSt) (s : State) : (modLane k f s).jobs = s.jobs := rfl
@[simp] theorem modLane_regs (k : Nat) (f : LaneSt → LaneSt) (s : State) : (modLane k f s).regs = s.regs := rfl
@[simp] theorem modLane_free (k : Nat) (f : LaneSt → LaneSt) (s : State) : (modLane k f s).free = s.free := rfl
@[simp] theorem modLane_sent (k : Nat) (f : LaneSt → LaneSt) (s : State) : (modLane k f s).sent = s.sent := rfl
@[simp] theorem modLane_opn (k : Nat) (f : LaneSt → LaneSt) (s : State) : (modLane k f s).opn = s.opn := rfl
@[simp] theorem modLane_lrk (k : Nat) (f : LaneSt → LaneSt) (s : State) : (modLane k f s).lrk = s.lrk := rfl
@[simp] theorem modLane_ev (k : Nat) (f : LaneSt → LaneSt) (s : State) : (modLane k f s).ev = s.ev := rfl
@[simp] theorem modLane_ports (k : Nat) (f : LaneSt → LaneSt) (s : State) : (modLane k f s).ports = s.ports := rfl
@[simp] theorem modLane_core (k : Nat) (f : LaneSt → LaneSt) (s : State) : (modLane k f s).core = s.core := rfl
@[simp] theorem modLane_pwr (k : Nat) (f : LaneSt → LaneSt) (s : State) : (modLane k f s).pwr = s.pwr := rfl
@[simp] theorem modLane_gates (k : Nat) (f : LaneSt → LaneSt) (s : State) : (modLane k f s).gates = s.gates := rfl
@[simp] theorem modLane_comb (k : Nat) (f : LaneSt → LaneSt) (s : State) : (modLane k f s).comb = s.comb := rfl
@[simp] theorem modLane_perf (k : Nat) (f : LaneSt → LaneSt) (s : State) : (modLane k f s).perf = s.perf := rfl
@[simp] theorem modLane_arch (k : Nat) (f : LaneSt → LaneSt) (s : State) : (modLane k f s).arch = s.arch := rfl
@[simp] theorem modLane_vit (k : Nat) (f : LaneSt → LaneSt) (s : State) : (modLane k f s).vit = s.vit := rfl
@[simp] theorem modLane_cal (k : Nat) (f : LaneSt → LaneSt) (s : State) : (modLane k f s).cal = s.cal := rfl
@[simp] theorem modLane_tdc (k : Nat) (f : LaneSt → LaneSt) (s : State) : (modLane k f s).tdc = s.tdc := rfl
@[simp] theorem modLane_refs (k : Nat) (f : LaneSt → LaneSt) (s : State) : (modLane k f s).refs = s.refs := rfl
@[simp] theorem modLane_syns (k : Nat) (f : LaneSt → LaneSt) (s : State) : (modLane k f s).syns = s.syns := rfl
@[simp] theorem modLane_outs (k : Nat) (f : LaneSt → LaneSt) (s : State) : (modLane k f s).outs = s.outs := rfl
@[simp] theorem modLane_plss (k : Nat) (f : LaneSt → LaneSt) (s : State) : (modLane k f s).plss = s.plss := rfl
@[simp] theorem modLane_ptp (k : Nat) (f : LaneSt → LaneSt) (s : State) : (modLane k f s).ptp = s.ptp := rfl
@[simp] theorem modLane_servo (k : Nat) (f : LaneSt → LaneSt) (s : State) : (modLane k f s).servo = s.servo := rfl
@[simp] theorem modLane_zut (k : Nat) (f : LaneSt → LaneSt) (s : State) : (modLane k f s).zut = s.zut := rfl
@[simp] theorem modLane_tw (k : Nat) (f : LaneSt → LaneSt) (s : State) : (modLane k f s).tw = s.tw := rfl
@[simp] theorem modLane_tap (k : Nat) (f : LaneSt → LaneSt) (s : State) : (modLane k f s).tap = s.tap := rfl
@[simp] theorem modLane_pending (k : Nat) (f : LaneSt → LaneSt) (s : State) : (modLane k f s).pending = s.pending := rfl
@[simp] theorem rd_modLane (k : Nat) (f : LaneSt → LaneSt) (s : State) (a b c : Nat) : rd (modLane k f s) a b c = rd s a b c := rfl
@[simp] theorem r1_modLane (k : Nat) (f : LaneSt → LaneSt) (s : State) (a b : Nat) : r1 (modLane k f s) a b = r1 s a b := rfl
@[simp] theorem r0_modLane (k : Nat) (f : LaneSt → LaneSt) (s : State) (a : Nat) : r0 (modLane k f s) a = r0 s a := rfl

@[simp] theorem setCal_now (k i : Nat) (x : CalSt) (s : State) : (setCal k i x s).now = s.now := rfl
@[simp] theorem setCal_counter (k i : Nat) (x : CalSt) (s : State) : (setCal k i x s).counter = s.counter := rfl
@[simp] theorem setCal_increment (k i : Nat) (x : CalSt) (s : State) : (setCal k i x s).increment = s.increment := rfl
@[simp] theorem setCal_tickPos (k i : Nat) (x : CalSt) (s : State) : (setCal k i x s).tickPos = s.tickPos := rfl
@[simp] theorem setCal_boundaryAt (k i : Nat) (x : CalSt) (s : State) : (setCal k i x s).boundaryAt = s.boundaryAt := rfl
@[simp] theorem setCal_boundaryReading (k i : Nat) (x : CalSt) (s : State) : (setCal k i x s).boundaryReading = s.boundaryReading := rfl
@[simp] theorem setCal_applied (k i : Nat) (x : CalSt) (s : State) : (setCal k i x s).applied = s.applied := rfl
@[simp] theorem setCal_workDue (k i : Nat) (x : CalSt) (s : State) : (setCal k i x s).workDue = s.workDue := rfl
@[simp] theorem setCal_jobs (k i : Nat) (x : CalSt) (s : State) : (setCal k i x s).jobs = s.jobs := rfl
@[simp] theorem setCal_regs (k i : Nat) (x : CalSt) (s : State) : (setCal k i x s).regs = s.regs := rfl
@[simp] theorem setCal_free (k i : Nat) (x : CalSt) (s : State) : (setCal k i x s).free = s.free := rfl
@[simp] theorem setCal_sent (k i : Nat) (x : CalSt) (s : State) : (setCal k i x s).sent = s.sent := rfl
@[simp] theorem setCal_opn (k i : Nat) (x : CalSt) (s : State) : (setCal k i x s).opn = s.opn := rfl
@[simp] theorem setCal_lrk (k i : Nat) (x : CalSt) (s : State) : (setCal k i x s).lrk = s.lrk := rfl
@[simp] theorem setCal_ev (k i : Nat) (x : CalSt) (s : State) : (setCal k i x s).ev = s.ev := rfl
@[simp] theorem setCal_ports (k i : Nat) (x : CalSt) (s : State) : (setCal k i x s).ports = s.ports := rfl
@[simp] theorem setCal_core (k i : Nat) (x : CalSt) (s : State) : (setCal k i x s).core = s.core := rfl
@[simp] theorem setCal_pwr (k i : Nat) (x : CalSt) (s : State) : (setCal k i x s).pwr = s.pwr := rfl
@[simp] theorem setCal_gates (k i : Nat) (x : CalSt) (s : State) : (setCal k i x s).gates = s.gates := rfl
@[simp] theorem setCal_comb (k i : Nat) (x : CalSt) (s : State) : (setCal k i x s).comb = s.comb := rfl
@[simp] theorem setCal_perf (k i : Nat) (x : CalSt) (s : State) : (setCal k i x s).perf = s.perf := rfl
@[simp] theorem setCal_arch (k i : Nat) (x : CalSt) (s : State) : (setCal k i x s).arch = s.arch := rfl
@[simp] theorem setCal_vit (k i : Nat) (x : CalSt) (s : State) : (setCal k i x s).vit = s.vit := rfl
@[simp] theorem setCal_lanes (k i : Nat) (x : CalSt) (s : State) : (setCal k i x s).lanes = s.lanes := rfl
@[simp] theorem setCal_tdc (k i : Nat) (x : CalSt) (s : State) : (setCal k i x s).tdc = s.tdc := rfl
@[simp] theorem setCal_refs (k i : Nat) (x : CalSt) (s : State) : (setCal k i x s).refs = s.refs := rfl
@[simp] theorem setCal_syns (k i : Nat) (x : CalSt) (s : State) : (setCal k i x s).syns = s.syns := rfl
@[simp] theorem setCal_outs (k i : Nat) (x : CalSt) (s : State) : (setCal k i x s).outs = s.outs := rfl
@[simp] theorem setCal_plss (k i : Nat) (x : CalSt) (s : State) : (setCal k i x s).plss = s.plss := rfl
@[simp] theorem setCal_ptp (k i : Nat) (x : CalSt) (s : State) : (setCal k i x s).ptp = s.ptp := rfl
@[simp] theorem setCal_servo (k i : Nat) (x : CalSt) (s : State) : (setCal k i x s).servo = s.servo := rfl
@[simp] theorem setCal_zut (k i : Nat) (x : CalSt) (s : State) : (setCal k i x s).zut = s.zut := rfl
@[simp] theorem setCal_tw (k i : Nat) (x : CalSt) (s : State) : (setCal k i x s).tw = s.tw := rfl
@[simp] theorem setCal_tap (k i : Nat) (x : CalSt) (s : State) : (setCal k i x s).tap = s.tap := rfl
@[simp] theorem setCal_pending (k i : Nat) (x : CalSt) (s : State) : (setCal k i x s).pending = s.pending := rfl
@[simp] theorem rd_setCal (k i : Nat) (x : CalSt) (s : State) (a b c : Nat) : rd (setCal k i x s) a b c = rd s a b c := rfl
@[simp] theorem r1_setCal (k i : Nat) (x : CalSt) (s : State) (a b : Nat) : r1 (setCal k i x s) a b = r1 s a b := rfl
@[simp] theorem r0_setCal (k i : Nat) (x : CalSt) (s : State) (a : Nat) : r0 (setCal k i x s) a = r0 s a := rfl

@[simp] theorem setSyn_now (k : Nat) (x : SynSt) (s : State) : (setSyn k x s).now = s.now := rfl
@[simp] theorem setSyn_counter (k : Nat) (x : SynSt) (s : State) : (setSyn k x s).counter = s.counter := rfl
@[simp] theorem setSyn_increment (k : Nat) (x : SynSt) (s : State) : (setSyn k x s).increment = s.increment := rfl
@[simp] theorem setSyn_tickPos (k : Nat) (x : SynSt) (s : State) : (setSyn k x s).tickPos = s.tickPos := rfl
@[simp] theorem setSyn_boundaryAt (k : Nat) (x : SynSt) (s : State) : (setSyn k x s).boundaryAt = s.boundaryAt := rfl
@[simp] theorem setSyn_boundaryReading (k : Nat) (x : SynSt) (s : State) : (setSyn k x s).boundaryReading = s.boundaryReading := rfl
@[simp] theorem setSyn_applied (k : Nat) (x : SynSt) (s : State) : (setSyn k x s).applied = s.applied := rfl
@[simp] theorem setSyn_workDue (k : Nat) (x : SynSt) (s : State) : (setSyn k x s).workDue = s.workDue := rfl
@[simp] theorem setSyn_jobs (k : Nat) (x : SynSt) (s : State) : (setSyn k x s).jobs = s.jobs := rfl
@[simp] theorem setSyn_regs (k : Nat) (x : SynSt) (s : State) : (setSyn k x s).regs = s.regs := rfl
@[simp] theorem setSyn_free (k : Nat) (x : SynSt) (s : State) : (setSyn k x s).free = s.free := rfl
@[simp] theorem setSyn_sent (k : Nat) (x : SynSt) (s : State) : (setSyn k x s).sent = s.sent := rfl
@[simp] theorem setSyn_opn (k : Nat) (x : SynSt) (s : State) : (setSyn k x s).opn = s.opn := rfl
@[simp] theorem setSyn_lrk (k : Nat) (x : SynSt) (s : State) : (setSyn k x s).lrk = s.lrk := rfl
@[simp] theorem setSyn_ev (k : Nat) (x : SynSt) (s : State) : (setSyn k x s).ev = s.ev := rfl
@[simp] theorem setSyn_ports (k : Nat) (x : SynSt) (s : State) : (setSyn k x s).ports = s.ports := rfl
@[simp] theorem setSyn_core (k : Nat) (x : SynSt) (s : State) : (setSyn k x s).core = s.core := rfl
@[simp] theorem setSyn_pwr (k : Nat) (x : SynSt) (s : State) : (setSyn k x s).pwr = s.pwr := rfl
@[simp] theorem setSyn_gates (k : Nat) (x : SynSt) (s : State) : (setSyn k x s).gates = s.gates := rfl
@[simp] theorem setSyn_comb (k : Nat) (x : SynSt) (s : State) : (setSyn k x s).comb = s.comb := rfl
@[simp] theorem setSyn_perf (k : Nat) (x : SynSt) (s : State) : (setSyn k x s).perf = s.perf := rfl
@[simp] theorem setSyn_arch (k : Nat) (x : SynSt) (s : State) : (setSyn k x s).arch = s.arch := rfl
@[simp] theorem setSyn_vit (k : Nat) (x : SynSt) (s : State) : (setSyn k x s).vit = s.vit := rfl
@[simp] theorem setSyn_lanes (k : Nat) (x : SynSt) (s : State) : (setSyn k x s).lanes = s.lanes := rfl
@[simp] theorem setSyn_cal (k : Nat) (x : SynSt) (s : State) : (setSyn k x s).cal = s.cal := rfl
@[simp] theorem setSyn_tdc (k : Nat) (x : SynSt) (s : State) : (setSyn k x s).tdc = s.tdc := rfl
@[simp] theorem setSyn_refs (k : Nat) (x : SynSt) (s : State) : (setSyn k x s).refs = s.refs := rfl
@[simp] theorem setSyn_outs (k : Nat) (x : SynSt) (s : State) : (setSyn k x s).outs = s.outs := rfl
@[simp] theorem setSyn_plss (k : Nat) (x : SynSt) (s : State) : (setSyn k x s).plss = s.plss := rfl
@[simp] theorem setSyn_ptp (k : Nat) (x : SynSt) (s : State) : (setSyn k x s).ptp = s.ptp := rfl
@[simp] theorem setSyn_servo (k : Nat) (x : SynSt) (s : State) : (setSyn k x s).servo = s.servo := rfl
@[simp] theorem setSyn_zut (k : Nat) (x : SynSt) (s : State) : (setSyn k x s).zut = s.zut := rfl
@[simp] theorem setSyn_tw (k : Nat) (x : SynSt) (s : State) : (setSyn k x s).tw = s.tw := rfl
@[simp] theorem setSyn_tap (k : Nat) (x : SynSt) (s : State) : (setSyn k x s).tap = s.tap := rfl
@[simp] theorem setSyn_pending (k : Nat) (x : SynSt) (s : State) : (setSyn k x s).pending = s.pending := rfl
@[simp] theorem rd_setSyn (k : Nat) (x : SynSt) (s : State) (a b c : Nat) : rd (setSyn k x s) a b c = rd s a b c := rfl
@[simp] theorem r1_setSyn (k : Nat) (x : SynSt) (s : State) (a b : Nat) : r1 (setSyn k x s) a b = r1 s a b := rfl
@[simp] theorem r0_setSyn (k : Nat) (x : SynSt) (s : State) (a : Nat) : r0 (setSyn k x s) a = r0 s a := rfl

@[simp] theorem setPls_now (k : Nat) (x : PlsSt) (s : State) : (setPls k x s).now = s.now := rfl
@[simp] theorem setPls_counter (k : Nat) (x : PlsSt) (s : State) : (setPls k x s).counter = s.counter := rfl
@[simp] theorem setPls_increment (k : Nat) (x : PlsSt) (s : State) : (setPls k x s).increment = s.increment := rfl
@[simp] theorem setPls_tickPos (k : Nat) (x : PlsSt) (s : State) : (setPls k x s).tickPos = s.tickPos := rfl
@[simp] theorem setPls_boundaryAt (k : Nat) (x : PlsSt) (s : State) : (setPls k x s).boundaryAt = s.boundaryAt := rfl
@[simp] theorem setPls_boundaryReading (k : Nat) (x : PlsSt) (s : State) : (setPls k x s).boundaryReading = s.boundaryReading := rfl
@[simp] theorem setPls_applied (k : Nat) (x : PlsSt) (s : State) : (setPls k x s).applied = s.applied := rfl
@[simp] theorem setPls_workDue (k : Nat) (x : PlsSt) (s : State) : (setPls k x s).workDue = s.workDue := rfl
@[simp] theorem setPls_jobs (k : Nat) (x : PlsSt) (s : State) : (setPls k x s).jobs = s.jobs := rfl
@[simp] theorem setPls_regs (k : Nat) (x : PlsSt) (s : State) : (setPls k x s).regs = s.regs := rfl
@[simp] theorem setPls_free (k : Nat) (x : PlsSt) (s : State) : (setPls k x s).free = s.free := rfl
@[simp] theorem setPls_sent (k : Nat) (x : PlsSt) (s : State) : (setPls k x s).sent = s.sent := rfl
@[simp] theorem setPls_opn (k : Nat) (x : PlsSt) (s : State) : (setPls k x s).opn = s.opn := rfl
@[simp] theorem setPls_lrk (k : Nat) (x : PlsSt) (s : State) : (setPls k x s).lrk = s.lrk := rfl
@[simp] theorem setPls_ev (k : Nat) (x : PlsSt) (s : State) : (setPls k x s).ev = s.ev := rfl
@[simp] theorem setPls_ports (k : Nat) (x : PlsSt) (s : State) : (setPls k x s).ports = s.ports := rfl
@[simp] theorem setPls_core (k : Nat) (x : PlsSt) (s : State) : (setPls k x s).core = s.core := rfl
@[simp] theorem setPls_pwr (k : Nat) (x : PlsSt) (s : State) : (setPls k x s).pwr = s.pwr := rfl
@[simp] theorem setPls_gates (k : Nat) (x : PlsSt) (s : State) : (setPls k x s).gates = s.gates := rfl
@[simp] theorem setPls_comb (k : Nat) (x : PlsSt) (s : State) : (setPls k x s).comb = s.comb := rfl
@[simp] theorem setPls_perf (k : Nat) (x : PlsSt) (s : State) : (setPls k x s).perf = s.perf := rfl
@[simp] theorem setPls_arch (k : Nat) (x : PlsSt) (s : State) : (setPls k x s).arch = s.arch := rfl
@[simp] theorem setPls_vit (k : Nat) (x : PlsSt) (s : State) : (setPls k x s).vit = s.vit := rfl
@[simp] theorem setPls_lanes (k : Nat) (x : PlsSt) (s : State) : (setPls k x s).lanes = s.lanes := rfl
@[simp] theorem setPls_cal (k : Nat) (x : PlsSt) (s : State) : (setPls k x s).cal = s.cal := rfl
@[simp] theorem setPls_tdc (k : Nat) (x : PlsSt) (s : State) : (setPls k x s).tdc = s.tdc := rfl
@[simp] theorem setPls_refs (k : Nat) (x : PlsSt) (s : State) : (setPls k x s).refs = s.refs := rfl
@[simp] theorem setPls_syns (k : Nat) (x : PlsSt) (s : State) : (setPls k x s).syns = s.syns := rfl
@[simp] theorem setPls_outs (k : Nat) (x : PlsSt) (s : State) : (setPls k x s).outs = s.outs := rfl
@[simp] theorem setPls_ptp (k : Nat) (x : PlsSt) (s : State) : (setPls k x s).ptp = s.ptp := rfl
@[simp] theorem setPls_servo (k : Nat) (x : PlsSt) (s : State) : (setPls k x s).servo = s.servo := rfl
@[simp] theorem setPls_zut (k : Nat) (x : PlsSt) (s : State) : (setPls k x s).zut = s.zut := rfl
@[simp] theorem setPls_tw (k : Nat) (x : PlsSt) (s : State) : (setPls k x s).tw = s.tw := rfl
@[simp] theorem setPls_tap (k : Nat) (x : PlsSt) (s : State) : (setPls k x s).tap = s.tap := rfl
@[simp] theorem setPls_pending (k : Nat) (x : PlsSt) (s : State) : (setPls k x s).pending = s.pending := rfl
@[simp] theorem rd_setPls (k : Nat) (x : PlsSt) (s : State) (a b c : Nat) : rd (setPls k x s) a b c = rd s a b c := rfl
@[simp] theorem r1_setPls (k : Nat) (x : PlsSt) (s : State) (a b : Nat) : r1 (setPls k x s) a b = r1 s a b := rfl
@[simp] theorem r0_setPls (k : Nat) (x : PlsSt) (s : State) (a : Nat) : r0 (setPls k x s) a = r0 s a := rfl

@[simp] theorem setOut_now (k : Nat) (x : OutSt) (s : State) : (setOut k x s).now = s.now := rfl
@[simp] theorem setOut_counter (k : Nat) (x : OutSt) (s : State) : (setOut k x s).counter = s.counter := rfl
@[simp] theorem setOut_increment (k : Nat) (x : OutSt) (s : State) : (setOut k x s).increment = s.increment := rfl
@[simp] theorem setOut_tickPos (k : Nat) (x : OutSt) (s : State) : (setOut k x s).tickPos = s.tickPos := rfl
@[simp] theorem setOut_boundaryAt (k : Nat) (x : OutSt) (s : State) : (setOut k x s).boundaryAt = s.boundaryAt := rfl
@[simp] theorem setOut_boundaryReading (k : Nat) (x : OutSt) (s : State) : (setOut k x s).boundaryReading = s.boundaryReading := rfl
@[simp] theorem setOut_applied (k : Nat) (x : OutSt) (s : State) : (setOut k x s).applied = s.applied := rfl
@[simp] theorem setOut_workDue (k : Nat) (x : OutSt) (s : State) : (setOut k x s).workDue = s.workDue := rfl
@[simp] theorem setOut_jobs (k : Nat) (x : OutSt) (s : State) : (setOut k x s).jobs = s.jobs := rfl
@[simp] theorem setOut_regs (k : Nat) (x : OutSt) (s : State) : (setOut k x s).regs = s.regs := rfl
@[simp] theorem setOut_free (k : Nat) (x : OutSt) (s : State) : (setOut k x s).free = s.free := rfl
@[simp] theorem setOut_sent (k : Nat) (x : OutSt) (s : State) : (setOut k x s).sent = s.sent := rfl
@[simp] theorem setOut_opn (k : Nat) (x : OutSt) (s : State) : (setOut k x s).opn = s.opn := rfl
@[simp] theorem setOut_lrk (k : Nat) (x : OutSt) (s : State) : (setOut k x s).lrk = s.lrk := rfl
@[simp] theorem setOut_ev (k : Nat) (x : OutSt) (s : State) : (setOut k x s).ev = s.ev := rfl
@[simp] theorem setOut_ports (k : Nat) (x : OutSt) (s : State) : (setOut k x s).ports = s.ports := rfl
@[simp] theorem setOut_core (k : Nat) (x : OutSt) (s : State) : (setOut k x s).core = s.core := rfl
@[simp] theorem setOut_pwr (k : Nat) (x : OutSt) (s : State) : (setOut k x s).pwr = s.pwr := rfl
@[simp] theorem setOut_gates (k : Nat) (x : OutSt) (s : State) : (setOut k x s).gates = s.gates := rfl
@[simp] theorem setOut_comb (k : Nat) (x : OutSt) (s : State) : (setOut k x s).comb = s.comb := rfl
@[simp] theorem setOut_perf (k : Nat) (x : OutSt) (s : State) : (setOut k x s).perf = s.perf := rfl
@[simp] theorem setOut_arch (k : Nat) (x : OutSt) (s : State) : (setOut k x s).arch = s.arch := rfl
@[simp] theorem setOut_vit (k : Nat) (x : OutSt) (s : State) : (setOut k x s).vit = s.vit := rfl
@[simp] theorem setOut_lanes (k : Nat) (x : OutSt) (s : State) : (setOut k x s).lanes = s.lanes := rfl
@[simp] theorem setOut_cal (k : Nat) (x : OutSt) (s : State) : (setOut k x s).cal = s.cal := rfl
@[simp] theorem setOut_tdc (k : Nat) (x : OutSt) (s : State) : (setOut k x s).tdc = s.tdc := rfl
@[simp] theorem setOut_refs (k : Nat) (x : OutSt) (s : State) : (setOut k x s).refs = s.refs := rfl
@[simp] theorem setOut_syns (k : Nat) (x : OutSt) (s : State) : (setOut k x s).syns = s.syns := rfl
@[simp] theorem setOut_plss (k : Nat) (x : OutSt) (s : State) : (setOut k x s).plss = s.plss := rfl
@[simp] theorem setOut_ptp (k : Nat) (x : OutSt) (s : State) : (setOut k x s).ptp = s.ptp := rfl
@[simp] theorem setOut_servo (k : Nat) (x : OutSt) (s : State) : (setOut k x s).servo = s.servo := rfl
@[simp] theorem setOut_zut (k : Nat) (x : OutSt) (s : State) : (setOut k x s).zut = s.zut := rfl
@[simp] theorem setOut_tw (k : Nat) (x : OutSt) (s : State) : (setOut k x s).tw = s.tw := rfl
@[simp] theorem setOut_tap (k : Nat) (x : OutSt) (s : State) : (setOut k x s).tap = s.tap := rfl
@[simp] theorem setOut_pending (k : Nat) (x : OutSt) (s : State) : (setOut k x s).pending = s.pending := rfl
@[simp] theorem rd_setOut (k : Nat) (x : OutSt) (s : State) (a b c : Nat) : rd (setOut k x s) a b c = rd s a b c := rfl
@[simp] theorem r1_setOut (k : Nat) (x : OutSt) (s : State) (a b : Nat) : r1 (setOut k x s) a b = r1 s a b := rfl
@[simp] theorem r0_setOut (k : Nat) (x : OutSt) (s : State) (a : Nat) : r0 (setOut k x s) a = r0 s a := rfl

@[simp] theorem setPtp_now (k : Nat) (x : PtpPort) (s : State) : (setPtp k x s).now = s.now := rfl
@[simp] theorem setPtp_counter (k : Nat) (x : PtpPort) (s : State) : (setPtp k x s).counter = s.counter := rfl
@[simp] theorem setPtp_increment (k : Nat) (x : PtpPort) (s : State) : (setPtp k x s).increment = s.increment := rfl
@[simp] theorem setPtp_tickPos (k : Nat) (x : PtpPort) (s : State) : (setPtp k x s).tickPos = s.tickPos := rfl
@[simp] theorem setPtp_boundaryAt (k : Nat) (x : PtpPort) (s : State) : (setPtp k x s).boundaryAt = s.boundaryAt := rfl
@[simp] theorem setPtp_boundaryReading (k : Nat) (x : PtpPort) (s : State) : (setPtp k x s).boundaryReading = s.boundaryReading := rfl
@[simp] theorem setPtp_applied (k : Nat) (x : PtpPort) (s : State) : (setPtp k x s).applied = s.applied := rfl
@[simp] theorem setPtp_workDue (k : Nat) (x : PtpPort) (s : State) : (setPtp k x s).workDue = s.workDue := rfl
@[simp] theorem setPtp_jobs (k : Nat) (x : PtpPort) (s : State) : (setPtp k x s).jobs = s.jobs := rfl
@[simp] theorem setPtp_regs (k : Nat) (x : PtpPort) (s : State) : (setPtp k x s).regs = s.regs := rfl
@[simp] theorem setPtp_free (k : Nat) (x : PtpPort) (s : State) : (setPtp k x s).free = s.free := rfl
@[simp] theorem setPtp_sent (k : Nat) (x : PtpPort) (s : State) : (setPtp k x s).sent = s.sent := rfl
@[simp] theorem setPtp_opn (k : Nat) (x : PtpPort) (s : State) : (setPtp k x s).opn = s.opn := rfl
@[simp] theorem setPtp_lrk (k : Nat) (x : PtpPort) (s : State) : (setPtp k x s).lrk = s.lrk := rfl
@[simp] theorem setPtp_ev (k : Nat) (x : PtpPort) (s : State) : (setPtp k x s).ev = s.ev := rfl
@[simp] theorem setPtp_ports (k : Nat) (x : PtpPort) (s : State) : (setPtp k x s).ports = s.ports := rfl
@[simp] theorem setPtp_core (k : Nat) (x : PtpPort) (s : State) : (setPtp k x s).core = s.core := rfl
@[simp] theorem setPtp_pwr (k : Nat) (x : PtpPort) (s : State) : (setPtp k x s).pwr = s.pwr := rfl
@[simp] theorem setPtp_gates (k : Nat) (x : PtpPort) (s : State) : (setPtp k x s).gates = s.gates := rfl
@[simp] theorem setPtp_comb (k : Nat) (x : PtpPort) (s : State) : (setPtp k x s).comb = s.comb := rfl
@[simp] theorem setPtp_perf (k : Nat) (x : PtpPort) (s : State) : (setPtp k x s).perf = s.perf := rfl
@[simp] theorem setPtp_arch (k : Nat) (x : PtpPort) (s : State) : (setPtp k x s).arch = s.arch := rfl
@[simp] theorem setPtp_vit (k : Nat) (x : PtpPort) (s : State) : (setPtp k x s).vit = s.vit := rfl
@[simp] theorem setPtp_lanes (k : Nat) (x : PtpPort) (s : State) : (setPtp k x s).lanes = s.lanes := rfl
@[simp] theorem setPtp_cal (k : Nat) (x : PtpPort) (s : State) : (setPtp k x s).cal = s.cal := rfl
@[simp] theorem setPtp_tdc (k : Nat) (x : PtpPort) (s : State) : (setPtp k x s).tdc = s.tdc := rfl
@[simp] theorem setPtp_refs (k : Nat) (x : PtpPort) (s : State) : (setPtp k x s).refs = s.refs := rfl
@[simp] theorem setPtp_syns (k : Nat) (x : PtpPort) (s : State) : (setPtp k x s).syns = s.syns := rfl
@[simp] theorem setPtp_outs (k : Nat) (x : PtpPort) (s : State) : (setPtp k x s).outs = s.outs := rfl
@[simp] theorem setPtp_plss (k : Nat) (x : PtpPort) (s : State) : (setPtp k x s).plss = s.plss := rfl
@[simp] theorem setPtp_servo (k : Nat) (x : PtpPort) (s : State) : (setPtp k x s).servo = s.servo := rfl
@[simp] theorem setPtp_zut (k : Nat) (x : PtpPort) (s : State) : (setPtp k x s).zut = s.zut := rfl
@[simp] theorem setPtp_tw (k : Nat) (x : PtpPort) (s : State) : (setPtp k x s).tw = s.tw := rfl
@[simp] theorem setPtp_tap (k : Nat) (x : PtpPort) (s : State) : (setPtp k x s).tap = s.tap := rfl
@[simp] theorem setPtp_pending (k : Nat) (x : PtpPort) (s : State) : (setPtp k x s).pending = s.pending := rfl
@[simp] theorem rd_setPtp (k : Nat) (x : PtpPort) (s : State) (a b c : Nat) : rd (setPtp k x s) a b c = rd s a b c := rfl
@[simp] theorem r1_setPtp (k : Nat) (x : PtpPort) (s : State) (a b : Nat) : r1 (setPtp k x s) a b = r1 s a b := rfl
@[simp] theorem r0_setPtp (k : Nat) (x : PtpPort) (s : State) (a : Nat) : r0 (setPtp k x s) a = r0 s a := rfl

@[simp] theorem setGate_now (k : Nat) (x : GateSt) (s : State) : (setGate k x s).now = s.now := rfl
@[simp] theorem setGate_counter (k : Nat) (x : GateSt) (s : State) : (setGate k x s).counter = s.counter := rfl
@[simp] theorem setGate_increment (k : Nat) (x : GateSt) (s : State) : (setGate k x s).increment = s.increment := rfl
@[simp] theorem setGate_tickPos (k : Nat) (x : GateSt) (s : State) : (setGate k x s).tickPos = s.tickPos := rfl
@[simp] theorem setGate_boundaryAt (k : Nat) (x : GateSt) (s : State) : (setGate k x s).boundaryAt = s.boundaryAt := rfl
@[simp] theorem setGate_boundaryReading (k : Nat) (x : GateSt) (s : State) : (setGate k x s).boundaryReading = s.boundaryReading := rfl
@[simp] theorem setGate_applied (k : Nat) (x : GateSt) (s : State) : (setGate k x s).applied = s.applied := rfl
@[simp] theorem setGate_workDue (k : Nat) (x : GateSt) (s : State) : (setGate k x s).workDue = s.workDue := rfl
@[simp] theorem setGate_jobs (k : Nat) (x : GateSt) (s : State) : (setGate k x s).jobs = s.jobs := rfl
@[simp] theorem setGate_regs (k : Nat) (x : GateSt) (s : State) : (setGate k x s).regs = s.regs := rfl
@[simp] theorem setGate_free (k : Nat) (x : GateSt) (s : State) : (setGate k x s).free = s.free := rfl
@[simp] theorem setGate_sent (k : Nat) (x : GateSt) (s : State) : (setGate k x s).sent = s.sent := rfl
@[simp] theorem setGate_opn (k : Nat) (x : GateSt) (s : State) : (setGate k x s).opn = s.opn := rfl
@[simp] theorem setGate_lrk (k : Nat) (x : GateSt) (s : State) : (setGate k x s).lrk = s.lrk := rfl
@[simp] theorem setGate_ev (k : Nat) (x : GateSt) (s : State) : (setGate k x s).ev = s.ev := rfl
@[simp] theorem setGate_ports (k : Nat) (x : GateSt) (s : State) : (setGate k x s).ports = s.ports := rfl
@[simp] theorem setGate_core (k : Nat) (x : GateSt) (s : State) : (setGate k x s).core = s.core := rfl
@[simp] theorem setGate_pwr (k : Nat) (x : GateSt) (s : State) : (setGate k x s).pwr = s.pwr := rfl
@[simp] theorem setGate_comb (k : Nat) (x : GateSt) (s : State) : (setGate k x s).comb = s.comb := rfl
@[simp] theorem setGate_perf (k : Nat) (x : GateSt) (s : State) : (setGate k x s).perf = s.perf := rfl
@[simp] theorem setGate_arch (k : Nat) (x : GateSt) (s : State) : (setGate k x s).arch = s.arch := rfl
@[simp] theorem setGate_vit (k : Nat) (x : GateSt) (s : State) : (setGate k x s).vit = s.vit := rfl
@[simp] theorem setGate_lanes (k : Nat) (x : GateSt) (s : State) : (setGate k x s).lanes = s.lanes := rfl
@[simp] theorem setGate_cal (k : Nat) (x : GateSt) (s : State) : (setGate k x s).cal = s.cal := rfl
@[simp] theorem setGate_tdc (k : Nat) (x : GateSt) (s : State) : (setGate k x s).tdc = s.tdc := rfl
@[simp] theorem setGate_refs (k : Nat) (x : GateSt) (s : State) : (setGate k x s).refs = s.refs := rfl
@[simp] theorem setGate_syns (k : Nat) (x : GateSt) (s : State) : (setGate k x s).syns = s.syns := rfl
@[simp] theorem setGate_outs (k : Nat) (x : GateSt) (s : State) : (setGate k x s).outs = s.outs := rfl
@[simp] theorem setGate_plss (k : Nat) (x : GateSt) (s : State) : (setGate k x s).plss = s.plss := rfl
@[simp] theorem setGate_ptp (k : Nat) (x : GateSt) (s : State) : (setGate k x s).ptp = s.ptp := rfl
@[simp] theorem setGate_servo (k : Nat) (x : GateSt) (s : State) : (setGate k x s).servo = s.servo := rfl
@[simp] theorem setGate_zut (k : Nat) (x : GateSt) (s : State) : (setGate k x s).zut = s.zut := rfl
@[simp] theorem setGate_tw (k : Nat) (x : GateSt) (s : State) : (setGate k x s).tw = s.tw := rfl
@[simp] theorem setGate_tap (k : Nat) (x : GateSt) (s : State) : (setGate k x s).tap = s.tap := rfl
@[simp] theorem setGate_pending (k : Nat) (x : GateSt) (s : State) : (setGate k x s).pending = s.pending := rfl
@[simp] theorem rd_setGate (k : Nat) (x : GateSt) (s : State) (a b c : Nat) : rd (setGate k x s) a b c = rd s a b c := rfl
@[simp] theorem r1_setGate (k : Nat) (x : GateSt) (s : State) (a b : Nat) : r1 (setGate k x s) a b = r1 s a b := rfl
@[simp] theorem r0_setGate (k : Nat) (x : GateSt) (s : State) (a : Nat) : r0 (setGate k x s) a = r0 s a := rfl

@[simp] theorem setPerf_now (k : Nat) (x : PerfSt) (s : State) : (setPerf k x s).now = s.now := rfl
@[simp] theorem setPerf_counter (k : Nat) (x : PerfSt) (s : State) : (setPerf k x s).counter = s.counter := rfl
@[simp] theorem setPerf_increment (k : Nat) (x : PerfSt) (s : State) : (setPerf k x s).increment = s.increment := rfl
@[simp] theorem setPerf_tickPos (k : Nat) (x : PerfSt) (s : State) : (setPerf k x s).tickPos = s.tickPos := rfl
@[simp] theorem setPerf_boundaryAt (k : Nat) (x : PerfSt) (s : State) : (setPerf k x s).boundaryAt = s.boundaryAt := rfl
@[simp] theorem setPerf_boundaryReading (k : Nat) (x : PerfSt) (s : State) : (setPerf k x s).boundaryReading = s.boundaryReading := rfl
@[simp] theorem setPerf_applied (k : Nat) (x : PerfSt) (s : State) : (setPerf k x s).applied = s.applied := rfl
@[simp] theorem setPerf_workDue (k : Nat) (x : PerfSt) (s : State) : (setPerf k x s).workDue = s.workDue := rfl
@[simp] theorem setPerf_jobs (k : Nat) (x : PerfSt) (s : State) : (setPerf k x s).jobs = s.jobs := rfl
@[simp] theorem setPerf_regs (k : Nat) (x : PerfSt) (s : State) : (setPerf k x s).regs = s.regs := rfl
@[simp] theorem setPerf_free (k : Nat) (x : PerfSt) (s : State) : (setPerf k x s).free = s.free := rfl
@[simp] theorem setPerf_sent (k : Nat) (x : PerfSt) (s : State) : (setPerf k x s).sent = s.sent := rfl
@[simp] theorem setPerf_opn (k : Nat) (x : PerfSt) (s : State) : (setPerf k x s).opn = s.opn := rfl
@[simp] theorem setPerf_lrk (k : Nat) (x : PerfSt) (s : State) : (setPerf k x s).lrk = s.lrk := rfl
@[simp] theorem setPerf_ev (k : Nat) (x : PerfSt) (s : State) : (setPerf k x s).ev = s.ev := rfl
@[simp] theorem setPerf_ports (k : Nat) (x : PerfSt) (s : State) : (setPerf k x s).ports = s.ports := rfl
@[simp] theorem setPerf_core (k : Nat) (x : PerfSt) (s : State) : (setPerf k x s).core = s.core := rfl
@[simp] theorem setPerf_pwr (k : Nat) (x : PerfSt) (s : State) : (setPerf k x s).pwr = s.pwr := rfl
@[simp] theorem setPerf_gates (k : Nat) (x : PerfSt) (s : State) : (setPerf k x s).gates = s.gates := rfl
@[simp] theorem setPerf_comb (k : Nat) (x : PerfSt) (s : State) : (setPerf k x s).comb = s.comb := rfl
@[simp] theorem setPerf_arch (k : Nat) (x : PerfSt) (s : State) : (setPerf k x s).arch = s.arch := rfl
@[simp] theorem setPerf_vit (k : Nat) (x : PerfSt) (s : State) : (setPerf k x s).vit = s.vit := rfl
@[simp] theorem setPerf_lanes (k : Nat) (x : PerfSt) (s : State) : (setPerf k x s).lanes = s.lanes := rfl
@[simp] theorem setPerf_cal (k : Nat) (x : PerfSt) (s : State) : (setPerf k x s).cal = s.cal := rfl
@[simp] theorem setPerf_tdc (k : Nat) (x : PerfSt) (s : State) : (setPerf k x s).tdc = s.tdc := rfl
@[simp] theorem setPerf_refs (k : Nat) (x : PerfSt) (s : State) : (setPerf k x s).refs = s.refs := rfl
@[simp] theorem setPerf_syns (k : Nat) (x : PerfSt) (s : State) : (setPerf k x s).syns = s.syns := rfl
@[simp] theorem setPerf_outs (k : Nat) (x : PerfSt) (s : State) : (setPerf k x s).outs = s.outs := rfl
@[simp] theorem setPerf_plss (k : Nat) (x : PerfSt) (s : State) : (setPerf k x s).plss = s.plss := rfl
@[simp] theorem setPerf_ptp (k : Nat) (x : PerfSt) (s : State) : (setPerf k x s).ptp = s.ptp := rfl
@[simp] theorem setPerf_servo (k : Nat) (x : PerfSt) (s : State) : (setPerf k x s).servo = s.servo := rfl
@[simp] theorem setPerf_zut (k : Nat) (x : PerfSt) (s : State) : (setPerf k x s).zut = s.zut := rfl
@[simp] theorem setPerf_tw (k : Nat) (x : PerfSt) (s : State) : (setPerf k x s).tw = s.tw := rfl
@[simp] theorem setPerf_tap (k : Nat) (x : PerfSt) (s : State) : (setPerf k x s).tap = s.tap := rfl
@[simp] theorem setPerf_pending (k : Nat) (x : PerfSt) (s : State) : (setPerf k x s).pending = s.pending := rfl
@[simp] theorem rd_setPerf (k : Nat) (x : PerfSt) (s : State) (a b c : Nat) : rd (setPerf k x s) a b c = rd s a b c := rfl
@[simp] theorem r1_setPerf (k : Nat) (x : PerfSt) (s : State) (a b : Nat) : r1 (setPerf k x s) a b = r1 s a b := rfl
@[simp] theorem r0_setPerf (k : Nat) (x : PerfSt) (s : State) (a : Nat) : r0 (setPerf k x s) a = r0 s a := rfl

@[simp] theorem setRef_now (k : Nat) (x : RefIn) (s : State) : (setRef k x s).now = s.now := rfl
@[simp] theorem setRef_counter (k : Nat) (x : RefIn) (s : State) : (setRef k x s).counter = s.counter := rfl
@[simp] theorem setRef_increment (k : Nat) (x : RefIn) (s : State) : (setRef k x s).increment = s.increment := rfl
@[simp] theorem setRef_tickPos (k : Nat) (x : RefIn) (s : State) : (setRef k x s).tickPos = s.tickPos := rfl
@[simp] theorem setRef_boundaryAt (k : Nat) (x : RefIn) (s : State) : (setRef k x s).boundaryAt = s.boundaryAt := rfl
@[simp] theorem setRef_boundaryReading (k : Nat) (x : RefIn) (s : State) : (setRef k x s).boundaryReading = s.boundaryReading := rfl
@[simp] theorem setRef_applied (k : Nat) (x : RefIn) (s : State) : (setRef k x s).applied = s.applied := rfl
@[simp] theorem setRef_workDue (k : Nat) (x : RefIn) (s : State) : (setRef k x s).workDue = s.workDue := rfl
@[simp] theorem setRef_jobs (k : Nat) (x : RefIn) (s : State) : (setRef k x s).jobs = s.jobs := rfl
@[simp] theorem setRef_regs (k : Nat) (x : RefIn) (s : State) : (setRef k x s).regs = s.regs := rfl
@[simp] theorem setRef_free (k : Nat) (x : RefIn) (s : State) : (setRef k x s).free = s.free := rfl
@[simp] theorem setRef_sent (k : Nat) (x : RefIn) (s : State) : (setRef k x s).sent = s.sent := rfl
@[simp] theorem setRef_opn (k : Nat) (x : RefIn) (s : State) : (setRef k x s).opn = s.opn := rfl
@[simp] theorem setRef_lrk (k : Nat) (x : RefIn) (s : State) : (setRef k x s).lrk = s.lrk := rfl
@[simp] theorem setRef_ev (k : Nat) (x : RefIn) (s : State) : (setRef k x s).ev = s.ev := rfl
@[simp] theorem setRef_ports (k : Nat) (x : RefIn) (s : State) : (setRef k x s).ports = s.ports := rfl
@[simp] theorem setRef_core (k : Nat) (x : RefIn) (s : State) : (setRef k x s).core = s.core := rfl
@[simp] theorem setRef_pwr (k : Nat) (x : RefIn) (s : State) : (setRef k x s).pwr = s.pwr := rfl
@[simp] theorem setRef_gates (k : Nat) (x : RefIn) (s : State) : (setRef k x s).gates = s.gates := rfl
@[simp] theorem setRef_comb (k : Nat) (x : RefIn) (s : State) : (setRef k x s).comb = s.comb := rfl
@[simp] theorem setRef_perf (k : Nat) (x : RefIn) (s : State) : (setRef k x s).perf = s.perf := rfl
@[simp] theorem setRef_arch (k : Nat) (x : RefIn) (s : State) : (setRef k x s).arch = s.arch := rfl
@[simp] theorem setRef_vit (k : Nat) (x : RefIn) (s : State) : (setRef k x s).vit = s.vit := rfl
@[simp] theorem setRef_lanes (k : Nat) (x : RefIn) (s : State) : (setRef k x s).lanes = s.lanes := rfl
@[simp] theorem setRef_cal (k : Nat) (x : RefIn) (s : State) : (setRef k x s).cal = s.cal := rfl
@[simp] theorem setRef_tdc (k : Nat) (x : RefIn) (s : State) : (setRef k x s).tdc = s.tdc := rfl
@[simp] theorem setRef_syns (k : Nat) (x : RefIn) (s : State) : (setRef k x s).syns = s.syns := rfl
@[simp] theorem setRef_outs (k : Nat) (x : RefIn) (s : State) : (setRef k x s).outs = s.outs := rfl
@[simp] theorem setRef_plss (k : Nat) (x : RefIn) (s : State) : (setRef k x s).plss = s.plss := rfl
@[simp] theorem setRef_ptp (k : Nat) (x : RefIn) (s : State) : (setRef k x s).ptp = s.ptp := rfl
@[simp] theorem setRef_servo (k : Nat) (x : RefIn) (s : State) : (setRef k x s).servo = s.servo := rfl
@[simp] theorem setRef_zut (k : Nat) (x : RefIn) (s : State) : (setRef k x s).zut = s.zut := rfl
@[simp] theorem setRef_tw (k : Nat) (x : RefIn) (s : State) : (setRef k x s).tw = s.tw := rfl
@[simp] theorem setRef_tap (k : Nat) (x : RefIn) (s : State) : (setRef k x s).tap = s.tap := rfl
@[simp] theorem setRef_pending (k : Nat) (x : RefIn) (s : State) : (setRef k x s).pending = s.pending := rfl
@[simp] theorem rd_setRef (k : Nat) (x : RefIn) (s : State) (a b c : Nat) : rd (setRef k x s) a b c = rd s a b c := rfl
@[simp] theorem r1_setRef (k : Nat) (x : RefIn) (s : State) (a b : Nat) : r1 (setRef k x s) a b = r1 s a b := rfl
@[simp] theorem r0_setRef (k : Nat) (x : RefIn) (s : State) (a : Nat) : r0 (setRef k x s) a = r0 s a := rfl

@[simp] theorem modRef_now (k : Nat) (f : RefIn → RefIn) (s : State) : (modRef k f s).now = s.now := rfl
@[simp] theorem modRef_counter (k : Nat) (f : RefIn → RefIn) (s : State) : (modRef k f s).counter = s.counter := rfl
@[simp] theorem modRef_increment (k : Nat) (f : RefIn → RefIn) (s : State) : (modRef k f s).increment = s.increment := rfl
@[simp] theorem modRef_tickPos (k : Nat) (f : RefIn → RefIn) (s : State) : (modRef k f s).tickPos = s.tickPos := rfl
@[simp] theorem modRef_boundaryAt (k : Nat) (f : RefIn → RefIn) (s : State) : (modRef k f s).boundaryAt = s.boundaryAt := rfl
@[simp] theorem modRef_boundaryReading (k : Nat) (f : RefIn → RefIn) (s : State) : (modRef k f s).boundaryReading = s.boundaryReading := rfl
@[simp] theorem modRef_applied (k : Nat) (f : RefIn → RefIn) (s : State) : (modRef k f s).applied = s.applied := rfl
@[simp] theorem modRef_workDue (k : Nat) (f : RefIn → RefIn) (s : State) : (modRef k f s).workDue = s.workDue := rfl
@[simp] theorem modRef_jobs (k : Nat) (f : RefIn → RefIn) (s : State) : (modRef k f s).jobs = s.jobs := rfl
@[simp] theorem modRef_regs (k : Nat) (f : RefIn → RefIn) (s : State) : (modRef k f s).regs = s.regs := rfl
@[simp] theorem modRef_free (k : Nat) (f : RefIn → RefIn) (s : State) : (modRef k f s).free = s.free := rfl
@[simp] theorem modRef_sent (k : Nat) (f : RefIn → RefIn) (s : State) : (modRef k f s).sent = s.sent := rfl
@[simp] theorem modRef_opn (k : Nat) (f : RefIn → RefIn) (s : State) : (modRef k f s).opn = s.opn := rfl
@[simp] theorem modRef_lrk (k : Nat) (f : RefIn → RefIn) (s : State) : (modRef k f s).lrk = s.lrk := rfl
@[simp] theorem modRef_ev (k : Nat) (f : RefIn → RefIn) (s : State) : (modRef k f s).ev = s.ev := rfl
@[simp] theorem modRef_ports (k : Nat) (f : RefIn → RefIn) (s : State) : (modRef k f s).ports = s.ports := rfl
@[simp] theorem modRef_core (k : Nat) (f : RefIn → RefIn) (s : State) : (modRef k f s).core = s.core := rfl
@[simp] theorem modRef_pwr (k : Nat) (f : RefIn → RefIn) (s : State) : (modRef k f s).pwr = s.pwr := rfl
@[simp] theorem modRef_gates (k : Nat) (f : RefIn → RefIn) (s : State) : (modRef k f s).gates = s.gates := rfl
@[simp] theorem modRef_comb (k : Nat) (f : RefIn → RefIn) (s : State) : (modRef k f s).comb = s.comb := rfl
@[simp] theorem modRef_perf (k : Nat) (f : RefIn → RefIn) (s : State) : (modRef k f s).perf = s.perf := rfl
@[simp] theorem modRef_arch (k : Nat) (f : RefIn → RefIn) (s : State) : (modRef k f s).arch = s.arch := rfl
@[simp] theorem modRef_vit (k : Nat) (f : RefIn → RefIn) (s : State) : (modRef k f s).vit = s.vit := rfl
@[simp] theorem modRef_lanes (k : Nat) (f : RefIn → RefIn) (s : State) : (modRef k f s).lanes = s.lanes := rfl
@[simp] theorem modRef_cal (k : Nat) (f : RefIn → RefIn) (s : State) : (modRef k f s).cal = s.cal := rfl
@[simp] theorem modRef_tdc (k : Nat) (f : RefIn → RefIn) (s : State) : (modRef k f s).tdc = s.tdc := rfl
@[simp] theorem modRef_syns (k : Nat) (f : RefIn → RefIn) (s : State) : (modRef k f s).syns = s.syns := rfl
@[simp] theorem modRef_outs (k : Nat) (f : RefIn → RefIn) (s : State) : (modRef k f s).outs = s.outs := rfl
@[simp] theorem modRef_plss (k : Nat) (f : RefIn → RefIn) (s : State) : (modRef k f s).plss = s.plss := rfl
@[simp] theorem modRef_ptp (k : Nat) (f : RefIn → RefIn) (s : State) : (modRef k f s).ptp = s.ptp := rfl
@[simp] theorem modRef_servo (k : Nat) (f : RefIn → RefIn) (s : State) : (modRef k f s).servo = s.servo := rfl
@[simp] theorem modRef_zut (k : Nat) (f : RefIn → RefIn) (s : State) : (modRef k f s).zut = s.zut := rfl
@[simp] theorem modRef_tw (k : Nat) (f : RefIn → RefIn) (s : State) : (modRef k f s).tw = s.tw := rfl
@[simp] theorem modRef_tap (k : Nat) (f : RefIn → RefIn) (s : State) : (modRef k f s).tap = s.tap := rfl
@[simp] theorem modRef_pending (k : Nat) (f : RefIn → RefIn) (s : State) : (modRef k f s).pending = s.pending := rfl
@[simp] theorem rd_modRef (k : Nat) (f : RefIn → RefIn) (s : State) (a b c : Nat) : rd (modRef k f s) a b c = rd s a b c := rfl
@[simp] theorem r1_modRef (k : Nat) (f : RefIn → RefIn) (s : State) (a b : Nat) : r1 (modRef k f s) a b = r1 s a b := rfl
@[simp] theorem r0_modRef (k : Nat) (f : RefIn → RefIn) (s : State) (a : Nat) : r0 (modRef k f s) a = r0 s a := rfl

@[simp] theorem setMeas_now (k : Nat) (x : MeasSlot) (s : State) : (setMeas k x s).now = s.now := rfl
@[simp] theorem setMeas_counter (k : Nat) (x : MeasSlot) (s : State) : (setMeas k x s).counter = s.counter := rfl
@[simp] theorem setMeas_increment (k : Nat) (x : MeasSlot) (s : State) : (setMeas k x s).increment = s.increment := rfl
@[simp] theorem setMeas_tickPos (k : Nat) (x : MeasSlot) (s : State) : (setMeas k x s).tickPos = s.tickPos := rfl
@[simp] theorem setMeas_boundaryAt (k : Nat) (x : MeasSlot) (s : State) : (setMeas k x s).boundaryAt = s.boundaryAt := rfl
@[simp] theorem setMeas_boundaryReading (k : Nat) (x : MeasSlot) (s : State) : (setMeas k x s).boundaryReading = s.boundaryReading := rfl
@[simp] theorem setMeas_applied (k : Nat) (x : MeasSlot) (s : State) : (setMeas k x s).applied = s.applied := rfl
@[simp] theorem setMeas_workDue (k : Nat) (x : MeasSlot) (s : State) : (setMeas k x s).workDue = s.workDue := rfl
@[simp] theorem setMeas_jobs (k : Nat) (x : MeasSlot) (s : State) : (setMeas k x s).jobs = s.jobs := rfl
@[simp] theorem setMeas_regs (k : Nat) (x : MeasSlot) (s : State) : (setMeas k x s).regs = s.regs := rfl
@[simp] theorem setMeas_free (k : Nat) (x : MeasSlot) (s : State) : (setMeas k x s).free = s.free := rfl
@[simp] theorem setMeas_sent (k : Nat) (x : MeasSlot) (s : State) : (setMeas k x s).sent = s.sent := rfl
@[simp] theorem setMeas_opn (k : Nat) (x : MeasSlot) (s : State) : (setMeas k x s).opn = s.opn := rfl
@[simp] theorem setMeas_lrk (k : Nat) (x : MeasSlot) (s : State) : (setMeas k x s).lrk = s.lrk := rfl
@[simp] theorem setMeas_ev (k : Nat) (x : MeasSlot) (s : State) : (setMeas k x s).ev = s.ev := rfl
@[simp] theorem setMeas_ports (k : Nat) (x : MeasSlot) (s : State) : (setMeas k x s).ports = s.ports := rfl
@[simp] theorem setMeas_core (k : Nat) (x : MeasSlot) (s : State) : (setMeas k x s).core = s.core := rfl
@[simp] theorem setMeas_pwr (k : Nat) (x : MeasSlot) (s : State) : (setMeas k x s).pwr = s.pwr := rfl
@[simp] theorem setMeas_gates (k : Nat) (x : MeasSlot) (s : State) : (setMeas k x s).gates = s.gates := rfl
@[simp] theorem setMeas_comb (k : Nat) (x : MeasSlot) (s : State) : (setMeas k x s).comb = s.comb := rfl
@[simp] theorem setMeas_perf (k : Nat) (x : MeasSlot) (s : State) : (setMeas k x s).perf = s.perf := rfl
@[simp] theorem setMeas_arch (k : Nat) (x : MeasSlot) (s : State) : (setMeas k x s).arch = s.arch := rfl
@[simp] theorem setMeas_vit (k : Nat) (x : MeasSlot) (s : State) : (setMeas k x s).vit = s.vit := rfl
@[simp] theorem setMeas_lanes (k : Nat) (x : MeasSlot) (s : State) : (setMeas k x s).lanes = s.lanes := rfl
@[simp] theorem setMeas_cal (k : Nat) (x : MeasSlot) (s : State) : (setMeas k x s).cal = s.cal := rfl
@[simp] theorem setMeas_refs (k : Nat) (x : MeasSlot) (s : State) : (setMeas k x s).refs = s.refs := rfl
@[simp] theorem setMeas_syns (k : Nat) (x : MeasSlot) (s : State) : (setMeas k x s).syns = s.syns := rfl
@[simp] theorem setMeas_outs (k : Nat) (x : MeasSlot) (s : State) : (setMeas k x s).outs = s.outs := rfl
@[simp] theorem setMeas_plss (k : Nat) (x : MeasSlot) (s : State) : (setMeas k x s).plss = s.plss := rfl
@[simp] theorem setMeas_ptp (k : Nat) (x : MeasSlot) (s : State) : (setMeas k x s).ptp = s.ptp := rfl
@[simp] theorem setMeas_servo (k : Nat) (x : MeasSlot) (s : State) : (setMeas k x s).servo = s.servo := rfl
@[simp] theorem setMeas_zut (k : Nat) (x : MeasSlot) (s : State) : (setMeas k x s).zut = s.zut := rfl
@[simp] theorem setMeas_tw (k : Nat) (x : MeasSlot) (s : State) : (setMeas k x s).tw = s.tw := rfl
@[simp] theorem setMeas_tap (k : Nat) (x : MeasSlot) (s : State) : (setMeas k x s).tap = s.tap := rfl
@[simp] theorem setMeas_pending (k : Nat) (x : MeasSlot) (s : State) : (setMeas k x s).pending = s.pending := rfl
@[simp] theorem rd_setMeas (k : Nat) (x : MeasSlot) (s : State) (a b c : Nat) : rd (setMeas k x s) a b c = rd s a b c := rfl
@[simp] theorem r1_setMeas (k : Nat) (x : MeasSlot) (s : State) (a b : Nat) : r1 (setMeas k x s) a b = r1 s a b := rfl
@[simp] theorem r0_setMeas (k : Nat) (x : MeasSlot) (s : State) (a : Nat) : r0 (setMeas k x s) a = r0 s a := rfl

@[simp] theorem setFreq_now (k : Nat) (x : FreqSlot) (s : State) : (setFreq k x s).now = s.now := rfl
@[simp] theorem setFreq_counter (k : Nat) (x : FreqSlot) (s : State) : (setFreq k x s).counter = s.counter := rfl
@[simp] theorem setFreq_increment (k : Nat) (x : FreqSlot) (s : State) : (setFreq k x s).increment = s.increment := rfl
@[simp] theorem setFreq_tickPos (k : Nat) (x : FreqSlot) (s : State) : (setFreq k x s).tickPos = s.tickPos := rfl
@[simp] theorem setFreq_boundaryAt (k : Nat) (x : FreqSlot) (s : State) : (setFreq k x s).boundaryAt = s.boundaryAt := rfl
@[simp] theorem setFreq_boundaryReading (k : Nat) (x : FreqSlot) (s : State) : (setFreq k x s).boundaryReading = s.boundaryReading := rfl
@[simp] theorem setFreq_applied (k : Nat) (x : FreqSlot) (s : State) : (setFreq k x s).applied = s.applied := rfl
@[simp] theorem setFreq_workDue (k : Nat) (x : FreqSlot) (s : State) : (setFreq k x s).workDue = s.workDue := rfl
@[simp] theorem setFreq_jobs (k : Nat) (x : FreqSlot) (s : State) : (setFreq k x s).jobs = s.jobs := rfl
@[simp] theorem setFreq_regs (k : Nat) (x : FreqSlot) (s : State) : (setFreq k x s).regs = s.regs := rfl
@[simp] theorem setFreq_free (k : Nat) (x : FreqSlot) (s : State) : (setFreq k x s).free = s.free := rfl
@[simp] theorem setFreq_sent (k : Nat) (x : FreqSlot) (s : State) : (setFreq k x s).sent = s.sent := rfl
@[simp] theorem setFreq_opn (k : Nat) (x : FreqSlot) (s : State) : (setFreq k x s).opn = s.opn := rfl
@[simp] theorem setFreq_lrk (k : Nat) (x : FreqSlot) (s : State) : (setFreq k x s).lrk = s.lrk := rfl
@[simp] theorem setFreq_ev (k : Nat) (x : FreqSlot) (s : State) : (setFreq k x s).ev = s.ev := rfl
@[simp] theorem setFreq_ports (k : Nat) (x : FreqSlot) (s : State) : (setFreq k x s).ports = s.ports := rfl
@[simp] theorem setFreq_core (k : Nat) (x : FreqSlot) (s : State) : (setFreq k x s).core = s.core := rfl
@[simp] theorem setFreq_pwr (k : Nat) (x : FreqSlot) (s : State) : (setFreq k x s).pwr = s.pwr := rfl
@[simp] theorem setFreq_gates (k : Nat) (x : FreqSlot) (s : State) : (setFreq k x s).gates = s.gates := rfl
@[simp] theorem setFreq_comb (k : Nat) (x : FreqSlot) (s : State) : (setFreq k x s).comb = s.comb := rfl
@[simp] theorem setFreq_perf (k : Nat) (x : FreqSlot) (s : State) : (setFreq k x s).perf = s.perf := rfl
@[simp] theorem setFreq_arch (k : Nat) (x : FreqSlot) (s : State) : (setFreq k x s).arch = s.arch := rfl
@[simp] theorem setFreq_vit (k : Nat) (x : FreqSlot) (s : State) : (setFreq k x s).vit = s.vit := rfl
@[simp] theorem setFreq_lanes (k : Nat) (x : FreqSlot) (s : State) : (setFreq k x s).lanes = s.lanes := rfl
@[simp] theorem setFreq_cal (k : Nat) (x : FreqSlot) (s : State) : (setFreq k x s).cal = s.cal := rfl
@[simp] theorem setFreq_refs (k : Nat) (x : FreqSlot) (s : State) : (setFreq k x s).refs = s.refs := rfl
@[simp] theorem setFreq_syns (k : Nat) (x : FreqSlot) (s : State) : (setFreq k x s).syns = s.syns := rfl
@[simp] theorem setFreq_outs (k : Nat) (x : FreqSlot) (s : State) : (setFreq k x s).outs = s.outs := rfl
@[simp] theorem setFreq_plss (k : Nat) (x : FreqSlot) (s : State) : (setFreq k x s).plss = s.plss := rfl
@[simp] theorem setFreq_ptp (k : Nat) (x : FreqSlot) (s : State) : (setFreq k x s).ptp = s.ptp := rfl
@[simp] theorem setFreq_servo (k : Nat) (x : FreqSlot) (s : State) : (setFreq k x s).servo = s.servo := rfl
@[simp] theorem setFreq_zut (k : Nat) (x : FreqSlot) (s : State) : (setFreq k x s).zut = s.zut := rfl
@[simp] theorem setFreq_tw (k : Nat) (x : FreqSlot) (s : State) : (setFreq k x s).tw = s.tw := rfl
@[simp] theorem setFreq_tap (k : Nat) (x : FreqSlot) (s : State) : (setFreq k x s).tap = s.tap := rfl
@[simp] theorem setFreq_pending (k : Nat) (x : FreqSlot) (s : State) : (setFreq k x s).pending = s.pending := rfl
@[simp] theorem rd_setFreq (k : Nat) (x : FreqSlot) (s : State) (a b c : Nat) : rd (setFreq k x s) a b c = rd s a b c := rfl
@[simp] theorem r1_setFreq (k : Nat) (x : FreqSlot) (s : State) (a b : Nat) : r1 (setFreq k x s) a b = r1 s a b := rfl
@[simp] theorem r0_setFreq (k : Nat) (x : FreqSlot) (s : State) (a : Nat) : r0 (setFreq k x s) a = r0 s a := rfl

@[simp] theorem putSI_now (k : Nat) (x : StandIn) (s : State) : (putSI k x s).now = s.now := rfl
@[simp] theorem putSI_counter (k : Nat) (x : StandIn) (s : State) : (putSI k x s).counter = s.counter := rfl
@[simp] theorem putSI_increment (k : Nat) (x : StandIn) (s : State) : (putSI k x s).increment = s.increment := rfl
@[simp] theorem putSI_tickPos (k : Nat) (x : StandIn) (s : State) : (putSI k x s).tickPos = s.tickPos := rfl
@[simp] theorem putSI_boundaryAt (k : Nat) (x : StandIn) (s : State) : (putSI k x s).boundaryAt = s.boundaryAt := rfl
@[simp] theorem putSI_boundaryReading (k : Nat) (x : StandIn) (s : State) : (putSI k x s).boundaryReading = s.boundaryReading := rfl
@[simp] theorem putSI_applied (k : Nat) (x : StandIn) (s : State) : (putSI k x s).applied = s.applied := rfl
@[simp] theorem putSI_workDue (k : Nat) (x : StandIn) (s : State) : (putSI k x s).workDue = s.workDue := rfl
@[simp] theorem putSI_jobs (k : Nat) (x : StandIn) (s : State) : (putSI k x s).jobs = s.jobs := rfl
@[simp] theorem putSI_regs (k : Nat) (x : StandIn) (s : State) : (putSI k x s).regs = s.regs := rfl
@[simp] theorem putSI_free (k : Nat) (x : StandIn) (s : State) : (putSI k x s).free = s.free := rfl
@[simp] theorem putSI_sent (k : Nat) (x : StandIn) (s : State) : (putSI k x s).sent = s.sent := rfl
@[simp] theorem putSI_opn (k : Nat) (x : StandIn) (s : State) : (putSI k x s).opn = s.opn := rfl
@[simp] theorem putSI_lrk (k : Nat) (x : StandIn) (s : State) : (putSI k x s).lrk = s.lrk := rfl
@[simp] theorem putSI_ev (k : Nat) (x : StandIn) (s : State) : (putSI k x s).ev = s.ev := rfl
@[simp] theorem putSI_ports (k : Nat) (x : StandIn) (s : State) : (putSI k x s).ports = s.ports := rfl
@[simp] theorem putSI_core (k : Nat) (x : StandIn) (s : State) : (putSI k x s).core = s.core := rfl
@[simp] theorem putSI_pwr (k : Nat) (x : StandIn) (s : State) : (putSI k x s).pwr = s.pwr := rfl
@[simp] theorem putSI_gates (k : Nat) (x : StandIn) (s : State) : (putSI k x s).gates = s.gates := rfl
@[simp] theorem putSI_comb (k : Nat) (x : StandIn) (s : State) : (putSI k x s).comb = s.comb := rfl
@[simp] theorem putSI_perf (k : Nat) (x : StandIn) (s : State) : (putSI k x s).perf = s.perf := rfl
@[simp] theorem putSI_arch (k : Nat) (x : StandIn) (s : State) : (putSI k x s).arch = s.arch := rfl
@[simp] theorem putSI_vit (k : Nat) (x : StandIn) (s : State) : (putSI k x s).vit = s.vit := rfl
@[simp] theorem putSI_lanes (k : Nat) (x : StandIn) (s : State) : (putSI k x s).lanes = s.lanes := rfl
@[simp] theorem putSI_cal (k : Nat) (x : StandIn) (s : State) : (putSI k x s).cal = s.cal := rfl
@[simp] theorem putSI_refs (k : Nat) (x : StandIn) (s : State) : (putSI k x s).refs = s.refs := rfl
@[simp] theorem putSI_syns (k : Nat) (x : StandIn) (s : State) : (putSI k x s).syns = s.syns := rfl
@[simp] theorem putSI_outs (k : Nat) (x : StandIn) (s : State) : (putSI k x s).outs = s.outs := rfl
@[simp] theorem putSI_plss (k : Nat) (x : StandIn) (s : State) : (putSI k x s).plss = s.plss := rfl
@[simp] theorem putSI_ptp (k : Nat) (x : StandIn) (s : State) : (putSI k x s).ptp = s.ptp := rfl
@[simp] theorem putSI_servo (k : Nat) (x : StandIn) (s : State) : (putSI k x s).servo = s.servo := rfl
@[simp] theorem putSI_zut (k : Nat) (x : StandIn) (s : State) : (putSI k x s).zut = s.zut := rfl
@[simp] theorem putSI_tw (k : Nat) (x : StandIn) (s : State) : (putSI k x s).tw = s.tw := rfl
@[simp] theorem putSI_tap (k : Nat) (x : StandIn) (s : State) : (putSI k x s).tap = s.tap := rfl
@[simp] theorem putSI_pending (k : Nat) (x : StandIn) (s : State) : (putSI k x s).pending = s.pending := rfl
@[simp] theorem rd_putSI (k : Nat) (x : StandIn) (s : State) (a b c : Nat) : rd (putSI k x s) a b c = rd s a b c := rfl
@[simp] theorem r1_putSI (k : Nat) (x : StandIn) (s : State) (a b : Nat) : r1 (putSI k x s) a b = r1 s a b := rfl
@[simp] theorem r0_putSI (k : Nat) (x : StandIn) (s : State) (a : Nat) : r0 (putSI k x s) a = r0 s a := rfl

@[simp] theorem delSI_now (k : Nat) (s : State) : (delSI k s).now = s.now := rfl
@[simp] theorem delSI_counter (k : Nat) (s : State) : (delSI k s).counter = s.counter := rfl
@[simp] theorem delSI_increment (k : Nat) (s : State) : (delSI k s).increment = s.increment := rfl
@[simp] theorem delSI_tickPos (k : Nat) (s : State) : (delSI k s).tickPos = s.tickPos := rfl
@[simp] theorem delSI_boundaryAt (k : Nat) (s : State) : (delSI k s).boundaryAt = s.boundaryAt := rfl
@[simp] theorem delSI_boundaryReading (k : Nat) (s : State) : (delSI k s).boundaryReading = s.boundaryReading := rfl
@[simp] theorem delSI_applied (k : Nat) (s : State) : (delSI k s).applied = s.applied := rfl
@[simp] theorem delSI_workDue (k : Nat) (s : State) : (delSI k s).workDue = s.workDue := rfl
@[simp] theorem delSI_jobs (k : Nat) (s : State) : (delSI k s).jobs = s.jobs := rfl
@[simp] theorem delSI_regs (k : Nat) (s : State) : (delSI k s).regs = s.regs := rfl
@[simp] theorem delSI_free (k : Nat) (s : State) : (delSI k s).free = s.free := rfl
@[simp] theorem delSI_sent (k : Nat) (s : State) : (delSI k s).sent = s.sent := rfl
@[simp] theorem delSI_opn (k : Nat) (s : State) : (delSI k s).opn = s.opn := rfl
@[simp] theorem delSI_lrk (k : Nat) (s : State) : (delSI k s).lrk = s.lrk := rfl
@[simp] theorem delSI_ev (k : Nat) (s : State) : (delSI k s).ev = s.ev := rfl
@[simp] theorem delSI_ports (k : Nat) (s : State) : (delSI k s).ports = s.ports := rfl
@[simp] theorem delSI_core (k : Nat) (s : State) : (delSI k s).core = s.core := rfl
@[simp] theorem delSI_pwr (k : Nat) (s : State) : (delSI k s).pwr = s.pwr := rfl
@[simp] theorem delSI_gates (k : Nat) (s : State) : (delSI k s).gates = s.gates := rfl
@[simp] theorem delSI_comb (k : Nat) (s : State) : (delSI k s).comb = s.comb := rfl
@[simp] theorem delSI_perf (k : Nat) (s : State) : (delSI k s).perf = s.perf := rfl
@[simp] theorem delSI_arch (k : Nat) (s : State) : (delSI k s).arch = s.arch := rfl
@[simp] theorem delSI_vit (k : Nat) (s : State) : (delSI k s).vit = s.vit := rfl
@[simp] theorem delSI_lanes (k : Nat) (s : State) : (delSI k s).lanes = s.lanes := rfl
@[simp] theorem delSI_cal (k : Nat) (s : State) : (delSI k s).cal = s.cal := rfl
@[simp] theorem delSI_refs (k : Nat) (s : State) : (delSI k s).refs = s.refs := rfl
@[simp] theorem delSI_syns (k : Nat) (s : State) : (delSI k s).syns = s.syns := rfl
@[simp] theorem delSI_outs (k : Nat) (s : State) : (delSI k s).outs = s.outs := rfl
@[simp] theorem delSI_plss (k : Nat) (s : State) : (delSI k s).plss = s.plss := rfl
@[simp] theorem delSI_ptp (k : Nat) (s : State) : (delSI k s).ptp = s.ptp := rfl
@[simp] theorem delSI_servo (k : Nat) (s : State) : (delSI k s).servo = s.servo := rfl
@[simp] theorem delSI_zut (k : Nat) (s : State) : (delSI k s).zut = s.zut := rfl
@[simp] theorem delSI_tw (k : Nat) (s : State) : (delSI k s).tw = s.tw := rfl
@[simp] theorem delSI_tap (k : Nat) (s : State) : (delSI k s).tap = s.tap := rfl
@[simp] theorem delSI_pending (k : Nat) (s : State) : (delSI k s).pending = s.pending := rfl
@[simp] theorem rd_delSI (k : Nat) (s : State) (a b c : Nat) : rd (delSI k s) a b c = rd s a b c := rfl
@[simp] theorem r1_delSI (k : Nat) (s : State) (a b : Nat) : r1 (delSI k s) a b = r1 s a b := rfl
@[simp] theorem r0_delSI (k : Nat) (s : State) (a : Nat) : r0 (delSI k s) a = r0 s a := rfl

@[simp] theorem setSession_now (k : Nat) (x : Session) (s : State) : (setSession k x s).now = s.now := rfl
@[simp] theorem setSession_counter (k : Nat) (x : Session) (s : State) : (setSession k x s).counter = s.counter := rfl
@[simp] theorem setSession_increment (k : Nat) (x : Session) (s : State) : (setSession k x s).increment = s.increment := rfl
@[simp] theorem setSession_tickPos (k : Nat) (x : Session) (s : State) : (setSession k x s).tickPos = s.tickPos := rfl
@[simp] theorem setSession_boundaryAt (k : Nat) (x : Session) (s : State) : (setSession k x s).boundaryAt = s.boundaryAt := rfl
@[simp] theorem setSession_boundaryReading (k : Nat) (x : Session) (s : State) : (setSession k x s).boundaryReading = s.boundaryReading := rfl
@[simp] theorem setSession_applied (k : Nat) (x : Session) (s : State) : (setSession k x s).applied = s.applied := rfl
@[simp] theorem setSession_workDue (k : Nat) (x : Session) (s : State) : (setSession k x s).workDue = s.workDue := rfl
@[simp] theorem setSession_jobs (k : Nat) (x : Session) (s : State) : (setSession k x s).jobs = s.jobs := rfl
@[simp] theorem setSession_regs (k : Nat) (x : Session) (s : State) : (setSession k x s).regs = s.regs := rfl
@[simp] theorem setSession_free (k : Nat) (x : Session) (s : State) : (setSession k x s).free = s.free := rfl
@[simp] theorem setSession_sent (k : Nat) (x : Session) (s : State) : (setSession k x s).sent = s.sent := rfl
@[simp] theorem setSession_opn (k : Nat) (x : Session) (s : State) : (setSession k x s).opn = s.opn := rfl
@[simp] theorem setSession_ev (k : Nat) (x : Session) (s : State) : (setSession k x s).ev = s.ev := rfl
@[simp] theorem setSession_ports (k : Nat) (x : Session) (s : State) : (setSession k x s).ports = s.ports := rfl
@[simp] theorem setSession_core (k : Nat) (x : Session) (s : State) : (setSession k x s).core = s.core := rfl
@[simp] theorem setSession_pwr (k : Nat) (x : Session) (s : State) : (setSession k x s).pwr = s.pwr := rfl
@[simp] theorem setSession_gates (k : Nat) (x : Session) (s : State) : (setSession k x s).gates = s.gates := rfl
@[simp] theorem setSession_comb (k : Nat) (x : Session) (s : State) : (setSession k x s).comb = s.comb := rfl
@[simp] theorem setSession_perf (k : Nat) (x : Session) (s : State) : (setSession k x s).perf = s.perf := rfl
@[simp] theorem setSession_arch (k : Nat) (x : Session) (s : State) : (setSession k x s).arch = s.arch := rfl
@[simp] theorem setSession_vit (k : Nat) (x : Session) (s : State) : (setSession k x s).vit = s.vit := rfl
@[simp] theorem setSession_lanes (k : Nat) (x : Session) (s : State) : (setSession k x s).lanes = s.lanes := rfl
@[simp] theorem setSession_cal (k : Nat) (x : Session) (s : State) : (setSession k x s).cal = s.cal := rfl
@[simp] theorem setSession_tdc (k : Nat) (x : Session) (s : State) : (setSession k x s).tdc = s.tdc := rfl
@[simp] theorem setSession_refs (k : Nat) (x : Session) (s : State) : (setSession k x s).refs = s.refs := rfl
@[simp] theorem setSession_syns (k : Nat) (x : Session) (s : State) : (setSession k x s).syns = s.syns := rfl
@[simp] theorem setSession_outs (k : Nat) (x : Session) (s : State) : (setSession k x s).outs = s.outs := rfl
@[simp] theorem setSession_plss (k : Nat) (x : Session) (s : State) : (setSession k x s).plss = s.plss := rfl
@[simp] theorem setSession_ptp (k : Nat) (x : Session) (s : State) : (setSession k x s).ptp = s.ptp := rfl
@[simp] theorem setSession_servo (k : Nat) (x : Session) (s : State) : (setSession k x s).servo = s.servo := rfl
@[simp] theorem setSession_zut (k : Nat) (x : Session) (s : State) : (setSession k x s).zut = s.zut := rfl
@[simp] theorem setSession_tw (k : Nat) (x : Session) (s : State) : (setSession k x s).tw = s.tw := rfl
@[simp] theorem setSession_tap (k : Nat) (x : Session) (s : State) : (setSession k x s).tap = s.tap := rfl
@[simp] theorem setSession_pending (k : Nat) (x : Session) (s : State) : (setSession k x s).pending = s.pending := rfl
@[simp] theorem rd_setSession (k : Nat) (x : Session) (s : State) (a b c : Nat) : rd (setSession k x s) a b c = rd s a b c := rfl
@[simp] theorem r1_setSession (k : Nat) (x : Session) (s : State) (a b : Nat) : r1 (setSession k x s) a b = r1 s a b := rfl
@[simp] theorem r0_setSession (k : Nat) (x : Session) (s : State) (a : Nat) : r0 (setSession k x s) a = r0 s a := rfl

@[simp] theorem setBank_now (k : Nat) (x : Bank) (s : State) : (setBank k x s).now = s.now := rfl
@[simp] theorem setBank_counter (k : Nat) (x : Bank) (s : State) : (setBank k x s).counter = s.counter := rfl
@[simp] theorem setBank_increment (k : Nat) (x : Bank) (s : State) : (setBank k x s).increment = s.increment := rfl
@[simp] theorem setBank_tickPos (k : Nat) (x : Bank) (s : State) : (setBank k x s).tickPos = s.tickPos := rfl
@[simp] theorem setBank_boundaryAt (k : Nat) (x : Bank) (s : State) : (setBank k x s).boundaryAt = s.boundaryAt := rfl
@[simp] theorem setBank_boundaryReading (k : Nat) (x : Bank) (s : State) : (setBank k x s).boundaryReading = s.boundaryReading := rfl
@[simp] theorem setBank_applied (k : Nat) (x : Bank) (s : State) : (setBank k x s).applied = s.applied := rfl
@[simp] theorem setBank_workDue (k : Nat) (x : Bank) (s : State) : (setBank k x s).workDue = s.workDue := rfl
@[simp] theorem setBank_jobs (k : Nat) (x : Bank) (s : State) : (setBank k x s).jobs = s.jobs := rfl
@[simp] theorem setBank_regs (k : Nat) (x : Bank) (s : State) : (setBank k x s).regs = s.regs := rfl
@[simp] theorem setBank_free (k : Nat) (x : Bank) (s : State) : (setBank k x s).free = s.free := rfl
@[simp] theorem setBank_sent (k : Nat) (x : Bank) (s : State) : (setBank k x s).sent = s.sent := rfl
@[simp] theorem setBank_lrk (k : Nat) (x : Bank) (s : State) : (setBank k x s).lrk = s.lrk := rfl
@[simp] theorem setBank_ev (k : Nat) (x : Bank) (s : State) : (setBank k x s).ev = s.ev := rfl
@[simp] theorem setBank_ports (k : Nat) (x : Bank) (s : State) : (setBank k x s).ports = s.ports := rfl
@[simp] theorem setBank_core (k : Nat) (x : Bank) (s : State) : (setBank k x s).core = s.core := rfl
@[simp] theorem setBank_pwr (k : Nat) (x : Bank) (s : State) : (setBank k x s).pwr = s.pwr := rfl
@[simp] theorem setBank_gates (k : Nat) (x : Bank) (s : State) : (setBank k x s).gates = s.gates := rfl
@[simp] theorem setBank_comb (k : Nat) (x : Bank) (s : State) : (setBank k x s).comb = s.comb := rfl
@[simp] theorem setBank_perf (k : Nat) (x : Bank) (s : State) : (setBank k x s).perf = s.perf := rfl
@[simp] theorem setBank_arch (k : Nat) (x : Bank) (s : State) : (setBank k x s).arch = s.arch := rfl
@[simp] theorem setBank_vit (k : Nat) (x : Bank) (s : State) : (setBank k x s).vit = s.vit := rfl
@[simp] theorem setBank_lanes (k : Nat) (x : Bank) (s : State) : (setBank k x s).lanes = s.lanes := rfl
@[simp] theorem setBank_cal (k : Nat) (x : Bank) (s : State) : (setBank k x s).cal = s.cal := rfl
@[simp] theorem setBank_tdc (k : Nat) (x : Bank) (s : State) : (setBank k x s).tdc = s.tdc := rfl
@[simp] theorem setBank_refs (k : Nat) (x : Bank) (s : State) : (setBank k x s).refs = s.refs := rfl
@[simp] theorem setBank_syns (k : Nat) (x : Bank) (s : State) : (setBank k x s).syns = s.syns := rfl
@[simp] theorem setBank_outs (k : Nat) (x : Bank) (s : State) : (setBank k x s).outs = s.outs := rfl
@[simp] theorem setBank_plss (k : Nat) (x : Bank) (s : State) : (setBank k x s).plss = s.plss := rfl
@[simp] theorem setBank_ptp (k : Nat) (x : Bank) (s : State) : (setBank k x s).ptp = s.ptp := rfl
@[simp] theorem setBank_servo (k : Nat) (x : Bank) (s : State) : (setBank k x s).servo = s.servo := rfl
@[simp] theorem setBank_zut (k : Nat) (x : Bank) (s : State) : (setBank k x s).zut = s.zut := rfl
@[simp] theorem setBank_tw (k : Nat) (x : Bank) (s : State) : (setBank k x s).tw = s.tw := rfl
@[simp] theorem setBank_tap (k : Nat) (x : Bank) (s : State) : (setBank k x s).tap = s.tap := rfl
@[simp] theorem setBank_pending (k : Nat) (x : Bank) (s : State) : (setBank k x s).pending = s.pending := rfl
@[simp] theorem rd_setBank (k : Nat) (x : Bank) (s : State) (a b c : Nat) : rd (setBank k x s) a b c = rd s a b c := rfl
@[simp] theorem r1_setBank (k : Nat) (x : Bank) (s : State) (a b : Nat) : r1 (setBank k x s) a b = r1 s a b := rfl
@[simp] theorem r0_setBank (k : Nat) (x : Bank) (s : State) (a : Nat) : r0 (setBank k x s) a = r0 s a := rfl

theorem getPort_setPort (k j : Nat) (x : PortSt) (s : State) : getPort (setPort k x s) j = if j = k then x else getPort s j := tget_tset ..
@[simp] theorem getPort_setPort_same (k : Nat) (x : PortSt) (s : State) : getPort (setPort k x s) k = x := by simp [getPort_setPort]

theorem getLane_setLane (k j : Nat) (x : LaneSt) (s : State) : getLane (setLane k x s) j = if j = k then x else getLane s j := tget_tset ..
@[simp] theorem getLane_setLane_same (k : Nat) (x : LaneSt) (s : State) : getLane (setLane k x s) k = x := by simp [getLane_setLane]

theorem getSyn_setSyn (k j : Nat) (x : SynSt) (s : State) : getSyn (setSyn k x s) j = if j = k then x else getSyn s j := tget_tset ..
@[simp] theorem getSyn_setSyn_same (k : Nat) (x : SynSt) (s : State) : getSyn (setSyn k x s) k = x := by simp [getSyn_setSyn]

theorem getPls_setPls (k j : Nat) (x : PlsSt) (s : State) : getPls (setPls k x s) j = if j = k then x else getPls s j := tget_tset ..
@[simp] theorem getPls_setPls_same (k : Nat) (x : PlsSt) (s : State) : getPls (setPls k x s) k = x := by simp [getPls_setPls]

theorem getOut_setOut (k j : Nat) (x : OutSt) (s : State) : getOut (setOut k x s) j = if j = k then x else getOut s j := tget_tset ..
@[simp] theorem getOut_setOut_same (k : Nat) (x : OutSt) (s : State) : getOut (setOut k x s) k = x := by simp [getOut_setOut]

theorem getPtp_setPtp (k j : Nat) (x : PtpPort) (s : State) : getPtp (setPtp k x s) j = if j = k then x else getPtp s j := tget_tset ..
@[simp] theorem getPtp_setPtp_same (k : Nat) (x : PtpPort) (s : State) : getPtp (setPtp k x s) k = x := by simp [getPtp_setPtp]

theorem getGate_setGate (k j : Nat) (x : GateSt) (s : State) : getGate (setGate k x s) j = if j = k then x else getGate s j := tget_tset ..
@[simp] theorem getGate_setGate_same (k : Nat) (x : GateSt) (s : State) : getGate (setGate k x s) k = x := by simp [getGate_setGate]

theorem getPerf_setPerf (k j : Nat) (x : PerfSt) (s : State) : getPerf (setPerf k x s) j = if j = k then x else getPerf s j := tget_tset ..
@[simp] theorem getPerf_setPerf_same (k : Nat) (x : PerfSt) (s : State) : getPerf (setPerf k x s) k = x := by simp [getPerf_setPerf]

theorem getRef_setRef (k j : Nat) (x : RefIn) (s : State) : getRef (setRef k x s) j = if j = k then x else getRef s j := tget_tset ..
@[simp] theorem getRef_setRef_same (k : Nat) (x : RefIn) (s : State) : getRef (setRef k x s) k = x := by simp [getRef_setRef]

theorem getMeas_setMeas (k j : Nat) (x : MeasSlot) (s : State) : getMeas (setMeas k x s) j = if j = k then x else getMeas s j := tget_tset ..
@[simp] theorem getMeas_setMeas_same (k : Nat) (x : MeasSlot) (s : State) : getMeas (setMeas k x s) k = x := by simp [getMeas_setMeas]

theorem getFreq_setFreq (k j : Nat) (x : FreqSlot) (s : State) : getFreq (setFreq k x s) j = if j = k then x else getFreq s j := tget_tset ..
@[simp] theorem getFreq_setFreq_same (k : Nat) (x : FreqSlot) (s : State) : getFreq (setFreq k x s) k = x := by simp [getFreq_setFreq]

@[simp] theorem advanceTo_increment (t : Nat) (s : State) : (advanceTo t s).increment = s.increment := by unfold advanceTo; split <;> rfl
@[simp] theorem elapse_increment (t : Nat) (s : State) : (elapse t s).increment = s.increment := advanceTo_increment ..
@[simp] theorem advanceToReading_increment (t : Nat) (s : State) : (advanceToReading t s).increment = s.increment := advanceTo_increment ..
@[simp] theorem advanceTo_tickPos (t : Nat) (s : State) : (advanceTo t s).tickPos = s.tickPos := by unfold advanceTo; split <;> rfl
@[simp] theorem elapse_tickPos (t : Nat) (s : State) : (elapse t s).tickPos = s.tickPos := advanceTo_tickPos ..
@[simp] theorem advanceToReading_tickPos (t : Nat) (s : State) : (advanceToReading t s).tickPos = s.tickPos := advanceTo_tickPos ..
@[simp] theorem advanceTo_boundaryAt (t : Nat) (s : State) : (advanceTo t s).boundaryAt = s.boundaryAt := by unfold advanceTo; split <;> rfl
@[simp] theorem elapse_boundaryAt (t : Nat) (s : State) : (elapse t s).boundaryAt = s.boundaryAt := advanceTo_boundaryAt ..
@[simp] theorem advanceToReading_boundaryAt (t : Nat) (s : State) : (advanceToReading t s).boundaryAt = s.boundaryAt := advanceTo_boundaryAt ..
@[simp] theorem advanceTo_boundaryReading (t : Nat) (s : State) : (advanceTo t s).boundaryReading = s.boundaryReading := by unfold advanceTo; split <;> rfl
@[simp] theorem elapse_boundaryReading (t : Nat) (s : State) : (elapse t s).boundaryReading = s.boundaryReading := advanceTo_boundaryReading ..
@[simp] theorem advanceToReading_boundaryReading (t : Nat) (s : State) : (advanceToReading t s).boundaryReading = s.boundaryReading := advanceTo_boundaryReading ..
@[simp] theorem advanceTo_applied (t : Nat) (s : State) : (advanceTo t s).applied = s.applied := by unfold advanceTo; split <;> rfl
@[simp] theorem elapse_applied (t : Nat) (s : State) : (elapse t s).applied = s.applied := advanceTo_applied ..
@[simp] theorem advanceToReading_applied (t : Nat) (s : State) : (advanceToReading t s).applied = s.applied := advanceTo_applied ..
@[simp] theorem advanceTo_workDue (t : Nat) (s : State) : (advanceTo t s).workDue = s.workDue := by unfold advanceTo; split <;> rfl
@[simp] theorem elapse_workDue (t : Nat) (s : State) : (elapse t s).workDue = s.workDue := advanceTo_workDue ..
@[simp] theorem advanceToReading_workDue (t : Nat) (s : State) : (advanceToReading t s).workDue = s.workDue := advanceTo_workDue ..
@[simp] theorem advanceTo_jobs (t : Nat) (s : State) : (advanceTo t s).jobs = s.jobs := by unfold advanceTo; split <;> rfl
@[simp] theorem elapse_jobs (t : Nat) (s : State) : (elapse t s).jobs = s.jobs := advanceTo_jobs ..
@[simp] theorem advanceToReading_jobs (t : Nat) (s : State) : (advanceToReading t s).jobs = s.jobs := advanceTo_jobs ..
@[simp] theorem advanceTo_regs (t : Nat) (s : State) : (advanceTo t s).regs = s.regs := by unfold advanceTo; split <;> rfl
@[simp] theorem elapse_regs (t : Nat) (s : State) : (elapse t s).regs = s.regs := advanceTo_regs ..
@[simp] theorem advanceToReading_regs (t : Nat) (s : State) : (advanceToReading t s).regs = s.regs := advanceTo_regs ..
@[simp] theorem advanceTo_free (t : Nat) (s : State) : (advanceTo t s).free = s.free := by unfold advanceTo; split <;> rfl
@[simp] theorem elapse_free (t : Nat) (s : State) : (elapse t s).free = s.free := advanceTo_free ..
@[simp] theorem advanceToReading_free (t : Nat) (s : State) : (advanceToReading t s).free = s.free := advanceTo_free ..
@[simp] theorem advanceTo_sent (t : Nat) (s : State) : (advanceTo t s).sent = s.sent := by unfold advanceTo; split <;> rfl
@[simp] theorem elapse_sent (t : Nat) (s : State) : (elapse t s).sent = s.sent := advanceTo_sent ..
@[simp] theorem advanceToReading_sent (t : Nat) (s : State) : (advanceToReading t s).sent = s.sent := advanceTo_sent ..
@[simp] theorem advanceTo_opn (t : Nat) (s : State) : (advanceTo t s).opn = s.opn := by unfold advanceTo; split <;> rfl
@[simp] theorem elapse_opn (t : Nat) (s : State) : (elapse t s).opn = s.opn := advanceTo_opn ..
@[simp] theorem advanceToReading_opn (t : Nat) (s : State) : (advanceToReading t s).opn = s.opn := advanceTo_opn ..
@[simp] theorem advanceTo_lrk (t : Nat) (s : State) : (advanceTo t s).lrk = s.lrk := by unfold advanceTo; split <;> rfl
@[simp] theorem elapse_lrk (t : Nat) (s : State) : (elapse t s).lrk = s.lrk := advanceTo_lrk ..
@[simp] theorem advanceToReading_lrk (t : Nat) (s : State) : (advanceToReading t s).lrk = s.lrk := advanceTo_lrk ..
@[simp] theorem advanceTo_ev (t : Nat) (s : State) : (advanceTo t s).ev = s.ev := by unfold advanceTo; split <;> rfl
@[simp] theorem elapse_ev (t : Nat) (s : State) : (elapse t s).ev = s.ev := advanceTo_ev ..
@[simp] theorem advanceToReading_ev (t : Nat) (s : State) : (advanceToReading t s).ev = s.ev := advanceTo_ev ..
@[simp] theorem advanceTo_ports (t : Nat) (s : State) : (advanceTo t s).ports = s.ports := by unfold advanceTo; split <;> rfl
@[simp] theorem elapse_ports (t : Nat) (s : State) : (elapse t s).ports = s.ports := advanceTo_ports ..
@[simp] theorem advanceToReading_ports (t : Nat) (s : State) : (advanceToReading t s).ports = s.ports := advanceTo_ports ..
@[simp] theorem advanceTo_core (t : Nat) (s : State) : (advanceTo t s).core = s.core := by unfold advanceTo; split <;> rfl
@[simp] theorem elapse_core (t : Nat) (s : State) : (elapse t s).core = s.core := advanceTo_core ..
@[simp] theorem advanceToReading_core (t : Nat) (s : State) : (advanceToReading t s).core = s.core := advanceTo_core ..
@[simp] theorem advanceTo_pwr (t : Nat) (s : State) : (advanceTo t s).pwr = s.pwr := by unfold advanceTo; split <;> rfl
@[simp] theorem elapse_pwr (t : Nat) (s : State) : (elapse t s).pwr = s.pwr := advanceTo_pwr ..
@[simp] theorem advanceToReading_pwr (t : Nat) (s : State) : (advanceToReading t s).pwr = s.pwr := advanceTo_pwr ..
@[simp] theorem advanceTo_gates (t : Nat) (s : State) : (advanceTo t s).gates = s.gates := by unfold advanceTo; split <;> rfl
@[simp] theorem elapse_gates (t : Nat) (s : State) : (elapse t s).gates = s.gates := advanceTo_gates ..
@[simp] theorem advanceToReading_gates (t : Nat) (s : State) : (advanceToReading t s).gates = s.gates := advanceTo_gates ..
@[simp] theorem advanceTo_comb (t : Nat) (s : State) : (advanceTo t s).comb = s.comb := by unfold advanceTo; split <;> rfl
@[simp] theorem elapse_comb (t : Nat) (s : State) : (elapse t s).comb = s.comb := advanceTo_comb ..
@[simp] theorem advanceToReading_comb (t : Nat) (s : State) : (advanceToReading t s).comb = s.comb := advanceTo_comb ..
@[simp] theorem advanceTo_arch (t : Nat) (s : State) : (advanceTo t s).arch = s.arch := by unfold advanceTo; split <;> rfl
@[simp] theorem elapse_arch (t : Nat) (s : State) : (elapse t s).arch = s.arch := advanceTo_arch ..
@[simp] theorem advanceToReading_arch (t : Nat) (s : State) : (advanceToReading t s).arch = s.arch := advanceTo_arch ..
@[simp] theorem advanceTo_vit (t : Nat) (s : State) : (advanceTo t s).vit = s.vit := by unfold advanceTo; split <;> rfl
@[simp] theorem elapse_vit (t : Nat) (s : State) : (elapse t s).vit = s.vit := advanceTo_vit ..
@[simp] theorem advanceToReading_vit (t : Nat) (s : State) : (advanceToReading t s).vit = s.vit := advanceTo_vit ..
@[simp] theorem advanceTo_lanes (t : Nat) (s : State) : (advanceTo t s).lanes = s.lanes := by unfold advanceTo; split <;> rfl
@[simp] theorem elapse_lanes (t : Nat) (s : State) : (elapse t s).lanes = s.lanes := advanceTo_lanes ..
@[simp] theorem advanceToReading_lanes (t : Nat) (s : State) : (advanceToReading t s).lanes = s.lanes := advanceTo_lanes ..
@[simp] theorem advanceTo_cal (t : Nat) (s : State) : (advanceTo t s).cal = s.cal := by unfold advanceTo; split <;> rfl
@[simp] theorem elapse_cal (t : Nat) (s : State) : (elapse t s).cal = s.cal := advanceTo_cal ..
@[simp] theorem advanceToReading_cal (t : Nat) (s : State) : (advanceToReading t s).cal = s.cal := advanceTo_cal ..
@[simp] theorem advanceTo_tdc (t : Nat) (s : State) : (advanceTo t s).tdc = s.tdc := by unfold advanceTo; split <;> rfl
@[simp] theorem elapse_tdc (t : Nat) (s : State) : (elapse t s).tdc = s.tdc := advanceTo_tdc ..
@[simp] theorem advanceToReading_tdc (t : Nat) (s : State) : (advanceToReading t s).tdc = s.tdc := advanceTo_tdc ..
@[simp] theorem advanceTo_refs (t : Nat) (s : State) : (advanceTo t s).refs = s.refs := by unfold advanceTo; split <;> rfl
@[simp] theorem elapse_refs (t : Nat) (s : State) : (elapse t s).refs = s.refs := advanceTo_refs ..
@[simp] theorem advanceToReading_refs (t : Nat) (s : State) : (advanceToReading t s).refs = s.refs := advanceTo_refs ..
@[simp] theorem advanceTo_syns (t : Nat) (s : State) : (advanceTo t s).syns = s.syns := by unfold advanceTo; split <;> rfl
@[simp] theorem elapse_syns (t : Nat) (s : State) : (elapse t s).syns = s.syns := advanceTo_syns ..
@[simp] theorem advanceToReading_syns (t : Nat) (s : State) : (advanceToReading t s).syns = s.syns := advanceTo_syns ..
@[simp] theorem advanceTo_outs (t : Nat) (s : State) : (advanceTo t s).outs = s.outs := by unfold advanceTo; split <;> rfl
@[simp] theorem elapse_outs (t : Nat) (s : State) : (elapse t s).outs = s.outs := advanceTo_outs ..
@[simp] theorem advanceToReading_outs (t : Nat) (s : State) : (advanceToReading t s).outs = s.outs := advanceTo_outs ..
@[simp] theorem advanceTo_plss (t : Nat) (s : State) : (advanceTo t s).plss = s.plss := by unfold advanceTo; split <;> rfl
@[simp] theorem elapse_plss (t : Nat) (s : State) : (elapse t s).plss = s.plss := advanceTo_plss ..
@[simp] theorem advanceToReading_plss (t : Nat) (s : State) : (advanceToReading t s).plss = s.plss := advanceTo_plss ..
@[simp] theorem advanceTo_ptp (t : Nat) (s : State) : (advanceTo t s).ptp = s.ptp := by unfold advanceTo; split <;> rfl
@[simp] theorem elapse_ptp (t : Nat) (s : State) : (elapse t s).ptp = s.ptp := advanceTo_ptp ..
@[simp] theorem advanceToReading_ptp (t : Nat) (s : State) : (advanceToReading t s).ptp = s.ptp := advanceTo_ptp ..
@[simp] theorem advanceTo_servo (t : Nat) (s : State) : (advanceTo t s).servo = s.servo := by unfold advanceTo; split <;> rfl
@[simp] theorem elapse_servo (t : Nat) (s : State) : (elapse t s).servo = s.servo := advanceTo_servo ..
@[simp] theorem advanceToReading_servo (t : Nat) (s : State) : (advanceToReading t s).servo = s.servo := advanceTo_servo ..
@[simp] theorem advanceTo_zut (t : Nat) (s : State) : (advanceTo t s).zut = s.zut := by unfold advanceTo; split <;> rfl
@[simp] theorem elapse_zut (t : Nat) (s : State) : (elapse t s).zut = s.zut := advanceTo_zut ..
@[simp] theorem advanceToReading_zut (t : Nat) (s : State) : (advanceToReading t s).zut = s.zut := advanceTo_zut ..
@[simp] theorem advanceTo_tw (t : Nat) (s : State) : (advanceTo t s).tw = s.tw := by unfold advanceTo; split <;> rfl
@[simp] theorem elapse_tw (t : Nat) (s : State) : (elapse t s).tw = s.tw := advanceTo_tw ..
@[simp] theorem advanceToReading_tw (t : Nat) (s : State) : (advanceToReading t s).tw = s.tw := advanceTo_tw ..
@[simp] theorem advanceTo_tap (t : Nat) (s : State) : (advanceTo t s).tap = s.tap := by unfold advanceTo; split <;> rfl
@[simp] theorem elapse_tap (t : Nat) (s : State) : (elapse t s).tap = s.tap := advanceTo_tap ..
@[simp] theorem advanceToReading_tap (t : Nat) (s : State) : (advanceToReading t s).tap = s.tap := advanceTo_tap ..
@[simp] theorem advanceTo_pending (t : Nat) (s : State) : (advanceTo t s).pending = s.pending := by unfold advanceTo; split <;> rfl
@[simp] theorem elapse_pending (t : Nat) (s : State) : (elapse t s).pending = s.pending := advanceTo_pending ..
@[simp] theorem advanceToReading_pending (t : Nat) (s : State) : (advanceToReading t s).pending = s.pending := advanceTo_pending ..
@[simp] theorem rd_advanceTo (t : Nat) (s : State) (a b c : Nat) : rd (advanceTo t s) a b c = rd s a b c := by unfold rd; rw [advanceTo_regs]
@[simp] theorem r1_advanceTo (t : Nat) (s : State) (a b : Nat) : r1 (advanceTo t s) a b = r1 s a b := rd_advanceTo ..
@[simp] theorem r0_advanceTo (t : Nat) (s : State) (a : Nat) : r0 (advanceTo t s) a = r0 s a := rd_advanceTo ..
@[simp] theorem rd_elapse (t : Nat) (s : State) (a b c : Nat) : rd (elapse t s) a b c = rd s a b c := by unfold rd; rw [elapse_regs]
@[simp] theorem r1_elapse (t : Nat) (s : State) (a b : Nat) : r1 (elapse t s) a b = r1 s a b := rd_elapse ..
@[simp] theorem r0_elapse (t : Nat) (s : State) (a : Nat) : r0 (elapse t s) a = r0 s a := rd_elapse ..
@[simp] theorem rd_advanceToReading (t : Nat) (s : State) (a b c : Nat) : rd (advanceToReading t s) a b c = rd s a b c := by unfold rd; rw [advanceToReading_regs]
@[simp] theorem r1_advanceToReading (t : Nat) (s : State) (a b : Nat) : r1 (advanceToReading t s) a b = r1 s a b := rd_advanceToReading ..
@[simp] theorem r0_advanceToReading (t : Nat) (s : State) (a : Nat) : r0 (advanceToReading t s) a = r0 s a := rd_advanceToReading ..

/-- Time passes to the instant asked for, or stays. -/
theorem advanceTo_now (t : Nat) (s : State) : (advanceTo t s).now = max t s.now := by
  unfold advanceTo; split
  · omega
  · show t = _; omega

@[simp] theorem emit_now (e : Emission) (s : State) : (emit e s).now = s.now := by unfold emit; split <;> rfl
@[simp] theorem emit_counter (e : Emission) (s : State) : (emit e s).counter = s.counter := by unfold emit; split <;> rfl
@[simp] theorem emit_increment (e : Emission) (s : State) : (emit e s).increment = s.increment := by unfold emit; split <;> rfl
@[simp] theorem emit_tickPos (e : Emission) (s : State) : (emit e s).tickPos = s.tickPos := by unfold emit; split <;> rfl
@[simp] theorem emit_boundaryAt (e : Emission) (s : State) : (emit e s).boundaryAt = s.boundaryAt := by unfold emit; split <;> rfl
@[simp] theorem emit_boundaryReading (e : Emission) (s : State) : (emit e s).boundaryReading = s.boundaryReading := by unfold emit; split <;> rfl
@[simp] theorem emit_applied (e : Emission) (s : State) : (emit e s).applied = s.applied := by unfold emit; split <;> rfl
@[simp] theorem emit_workDue (e : Emission) (s : State) : (emit e s).workDue = s.workDue := by unfold emit; split <;> rfl
@[simp] theorem emit_jobs (e : Emission) (s : State) : (emit e s).jobs = s.jobs := by unfold emit; split <;> rfl
@[simp] theorem emit_regs (e : Emission) (s : State) : (emit e s).regs = s.regs := by unfold emit; split <;> rfl
@[simp] theorem emit_free (e : Emission) (s : State) : (emit e s).free = s.free := by unfold emit; split <;> rfl
@[simp] theorem emit_opn (e : Emission) (s : State) : (emit e s).opn = s.opn := by unfold emit; split <;> rfl
@[simp] theorem emit_lrk (e : Emission) (s : State) : (emit e s).lrk = s.lrk := by unfold emit; split <;> rfl
@[simp] theorem emit_ev (e : Emission) (s : State) : (emit e s).ev = s.ev := by unfold emit; split <;> rfl
@[simp] theorem emit_ports (e : Emission) (s : State) : (emit e s).ports = s.ports := by unfold emit; split <;> rfl
@[simp] theorem emit_core (e : Emission) (s : State) : (emit e s).core = s.core := by unfold emit; split <;> rfl
@[simp] theorem emit_pwr (e : Emission) (s : State) : (emit e s).pwr = s.pwr := by unfold emit; split <;> rfl
@[simp] theorem emit_gates (e : Emission) (s : State) : (emit e s).gates = s.gates := by unfold emit; split <;> rfl
@[simp] theorem emit_comb (e : Emission) (s : State) : (emit e s).comb = s.comb := by unfold emit; split <;> rfl
@[simp] theorem emit_perf (e : Emission) (s : State) : (emit e s).perf = s.perf := by unfold emit; split <;> rfl
@[simp] theorem emit_arch (e : Emission) (s : State) : (emit e s).arch = s.arch := by unfold emit; split <;> rfl
@[simp] theorem emit_vit (e : Emission) (s : State) : (emit e s).vit = s.vit := by unfold emit; split <;> rfl
@[simp] theorem emit_lanes (e : Emission) (s : State) : (emit e s).lanes = s.lanes := by unfold emit; split <;> rfl
@[simp] theorem emit_cal (e : Emission) (s : State) : (emit e s).cal = s.cal := by unfold emit; split <;> rfl
@[simp] theorem emit_tdc (e : Emission) (s : State) : (emit e s).tdc = s.tdc := by unfold emit; split <;> rfl
@[simp] theorem emit_refs (e : Emission) (s : State) : (emit e s).refs = s.refs := by unfold emit; split <;> rfl
@[simp] theorem emit_syns (e : Emission) (s : State) : (emit e s).syns = s.syns := by unfold emit; split <;> rfl
@[simp] theorem emit_outs (e : Emission) (s : State) : (emit e s).outs = s.outs := by unfold emit; split <;> rfl
@[simp] theorem emit_plss (e : Emission) (s : State) : (emit e s).plss = s.plss := by unfold emit; split <;> rfl
@[simp] theorem emit_ptp (e : Emission) (s : State) : (emit e s).ptp = s.ptp := by unfold emit; split <;> rfl
@[simp] theorem emit_servo (e : Emission) (s : State) : (emit e s).servo = s.servo := by unfold emit; split <;> rfl
@[simp] theorem emit_zut (e : Emission) (s : State) : (emit e s).zut = s.zut := by unfold emit; split <;> rfl
@[simp] theorem emit_tw (e : Emission) (s : State) : (emit e s).tw = s.tw := by unfold emit; split <;> rfl
@[simp] theorem emit_tap (e : Emission) (s : State) : (emit e s).tap = s.tap := by unfold emit; split <;> rfl
@[simp] theorem emit_pending (e : Emission) (s : State) : (emit e s).pending = s.pending := by unfold emit; split <;> rfl
@[simp] theorem rd_emit (e : Emission) (s : State) (a b c : Nat) : rd (emit e s) a b c = rd s a b c := by unfold rd; rw [emit_regs]
@[simp] theorem r1_emit (e : Emission) (s : State) (a b : Nat) : r1 (emit e s) a b = r1 s a b := rd_emit ..
@[simp] theorem r0_emit (e : Emission) (s : State) (a : Nat) : r0 (emit e s) a = r0 s a := rd_emit ..

end Sys2Proof.Machine
end

