-- ==== Sys2Proof/Laws/Operands.lean ====
section
/-! SUPPORT. What the one write operation does: an accepted write is its effect, a violation is its record, an unserved
write is nothing. -/

namespace Sys2Proof.Machine

theorem catWriteAs_accepts {s : State} {w : WriteReq} {idx sub row st v : Nat} (op : Nat)
    (eff : Nat → Nat → State → State) (h : Accepts s w idx sub row st v) :
    catWriteAs op w idx sub row eff s = eff st v s := by
  obtain ⟨_, h2, h3, h4⟩ := h
  obtain ⟨e, he, hv⟩ := Option.map_eq_some_iff.mp h4
  simp [catWriteAs, h2, h3, he, hv]

theorem catWrite_accepts {s : State} {w : WriteReq} {idx sub row st v : Nat} (eff : Nat → Nat → State → State)
    (h : Accepts s w idx sub row st v) : catWrite w idx sub row eff s = eff st v s := by
  obtain ⟨h1, h2⟩ := h.1
  simp [catWrite, h1, h2, catWriteAs_accepts 4 eff h]

theorem catWrite_violates {s : State} {w : WriteReq} {idx sub row kind : Nat} (eff : Nat → Nat → State → State)
    (hr : reaches s w.slot.val = true) (hw : s.vit.waiting = []) (hj : judge s .write w.slot.val idx sub row (some w.value) = some kind) :
    catWrite w idx sub row eff s = violate 4 w.slot.val idx sub row w.sequence.toNat w.item.toNat kind s := by
  simp [catWrite, catWriteAs, hr, hw, hj]

theorem catWrite_unserved {s : State} {w : WriteReq} {idx sub row : Nat} (eff : Nat → Nat → State → State)
    (hr : reaches s w.slot.val = false) : catWrite w idx sub row eff s = s := by
  simp [catWrite, hr]

@[simp] theorem effBool_zero (f : Nat → State → State) (st : Nat) (s : State) : effBool f st 0 s = s := rfl
@[simp] theorem effBool_one (f : Nat → State → State) (st : Nat) (s : State) : effBool f st 1 s = f st s := rfl

/-- Every kind of violation is one of R55's seven. -/
theorem judge_kind {s : State} {op : OpKind} {slot idx sub row k : Nat} {value : Option Bytes}
    (h : judge s op slot idx sub row value = some k) : k ≤ 6 := by
  unfold judge at h
  dsimp only at h
  repeat' (first | split at h | (cases h; decide) | (cases h))

theorem violate_keeps (op slot idx sub row seq item kind : Nat) (s : State) (hs : slot < 16) (hk : kind ≤ 6) :
    Keeps [Reg.sessionViolations, Reg.sessionViolationKinds, Reg.sessionLastViolation] s
      (violate op slot idx sub row seq item kind s) := by
  unfold violate
  refine w1_keeps (inc_keeps (inc_keeps (Keeps.refl _ s) _ _ (by simp) (by omega)) _ _ (by simp) (by omega)) _ _ _
    (by simp) (by omega)

end Sys2Proof.Machine
end

