-- ==== Sys2Proof/Laws/TickFollows.lean ====
section
/-! SUPPORT. Every operation of Tick follows. -/

set_option linter.unreachableTactic false
set_option linter.unusedTactic false

namespace Sys2Proof.Machine

theorem jobOverrun_follows {s0 s : State} (h : Follows s0 s) (c : Nat) :
    Follows s0 (jobOverrun c s) := by
  unfold jobOverrun
  repeat' (first
    | with_reducible assumption | with_reducible exact Follows.refl _ | with_reducible refine Follows.ite ?_ ?_ 
    | with_reducible refine raise_follows ?_ .. | with_reducible refine inc_follows ?_ ..
    | fail_if_no_progress (with_reducible refine mk_follows ?_ rfl rfl) | fail_if_no_progress intros | split | extract_lets | dsimp only | dsimp +zetaDelta only)

theorem perfJobs_follows {s0 s : State} (h : Follows s0 s) (x : Sched8) :
    Follows s0 (perfJobs x s) := by
  unfold perfJobs
  repeat' (first
    | with_reducible assumption | with_reducible exact Follows.refl _ | with_reducible refine Follows.ite ?_ ?_ | with_reducible refine forL_snd ?_ ?_ | with_reducible refine forL_third ?_ ?_ | with_reducible refine forN_snd ?_ ?_ | with_reducible refine forN_third ?_ ?_ 
    | with_reducible refine forL_follows ?_ ?_ | with_reducible refine forN_follows ?_ ?_ | with_reducible refine perfCycles_follows ?_ ..
    | fail_if_no_progress (with_reducible refine mk_follows ?_ rfl rfl) | fail_if_no_progress intros | split | extract_lets | dsimp only | dsimp +zetaDelta only)

theorem endSchedule_follows {s0 s : State} (h : Follows s0 s) (x : Sched8) :
    Follows s0 (endSchedule x s) := by
  unfold endSchedule
  repeat' (first
    | with_reducible assumption | with_reducible exact Follows.refl _ | with_reducible refine Follows.ite ?_ ?_ | with_reducible refine forN_snd ?_ ?_ | with_reducible refine forN_third ?_ ?_ 
    | with_reducible refine forN_follows ?_ ?_ | with_reducible refine jobOverrun_follows ?_ .. | with_reducible refine perfJobs_follows ?_ .. | with_reducible refine inc0_follows ?_ .. | with_reducible refine w1_follows ?_ .. | with_reducible refine modPwr_follows ?_ ..
    | fail_if_no_progress (with_reducible refine mk_follows ?_ rfl rfl) | fail_if_no_progress intros | split | extract_lets | dsimp only | dsimp +zetaDelta only)

theorem curatorTick_follows {s0 s : State} (h : Follows s0 s) (new : List Nat) :
    Follows s0 (curatorTick new s).2 := by
  unfold curatorTick
  repeat' (first
    | with_reducible assumption | with_reducible exact Follows.refl _ | with_reducible refine Follows.ite ?_ ?_ 
    | with_reducible refine notifyJobEnds_follows ?_ .. | with_reducible refine endSchedule_follows ?_ ..
    | fail_if_no_progress (with_reducible refine mk_follows ?_ rfl rfl) | fail_if_no_progress intros | split | extract_lets | dsimp only | dsimp +zetaDelta only)

theorem cutCounted_follows {s0 s : State} (h : Follows s0 s) (cut : Option Nat) :
    Follows s0 (cutCounted cut s) := by
  unfold cutCounted
  repeat' (first
    | with_reducible assumption | with_reducible exact Follows.refl _ | with_reducible refine Follows.ite ?_ ?_ 
    | with_reducible refine perfEvent_follows ?_ ..
    | fail_if_no_progress (with_reducible refine mk_follows ?_ rfl rfl) | fail_if_no_progress intros | split | extract_lets | dsimp only | dsimp +zetaDelta only)

theorem readings_follows {s0 s : State} (h : Follows s0 s) (i : TickInput) :
    Follows s0 (readings i s) := by
  unfold readings
  repeat' (first
    | with_reducible assumption | with_reducible exact Follows.refl _ | with_reducible refine Follows.ite ?_ ?_ | with_reducible refine foldl_follows ?_ ?_ | with_reducible refine foldl_snd ?_ ?_ 
    | with_reducible refine readSensors_follows ?_ .. | with_reducible refine w0_follows ?_ .. | with_reducible refine readSensor_follows ?_ .. | with_reducible refine w1_follows ?_ .. | with_reducible refine judgeOvertemp_follows ?_ ..
    | fail_if_no_progress (with_reducible refine mk_follows ?_ rfl rfl) | fail_if_no_progress intros | split | extract_lets | dsimp only | dsimp +zetaDelta only)

theorem curatorJobs_follows {s0 s : State} (h : Follows s0 s) (ended : Nat) :
    Follows s0 (curatorJobs ended s) := by
  unfold curatorJobs
  repeat' (first
    | with_reducible assumption | with_reducible exact Follows.refl _ | with_reducible refine Follows.ite ?_ ?_ 
    | with_reducible refine twinsIdle_follows ?_ .. | with_reducible refine servoJob_follows ?_ .. | with_reducible refine heartbeatJob_follows ?_ .. | with_reducible refine archiveWatermarkTick_follows ?_ .. | with_reducible refine zutumJob_follows ?_ ..
    | fail_if_no_progress (with_reducible refine mk_follows ?_ rfl rfl) | fail_if_no_progress intros | split | extract_lets | dsimp only | dsimp +zetaDelta only)

theorem numberTick_follows {s0 s : State} (h : Follows s0 s) :
    Follows s0 (numberTick s) := by
  unfold numberTick
  repeat' (first
    | with_reducible assumption | with_reducible exact Follows.refl _ | with_reducible refine Follows.ite ?_ ?_ 
    | with_reducible refine w0_follows ?_ .. | with_reducible refine inc0_follows ?_ ..
    | fail_if_no_progress (with_reducible refine mk_follows ?_ rfl rfl) | fail_if_no_progress intros | split | extract_lets | dsimp only | dsimp +zetaDelta only)

theorem boundaryWork_follows {s0 s : State} (h : Follows s0 s) (ended : Nat) :
    Follows s0 (boundaryWork ended s) := by
  unfold boundaryWork
  repeat' (first
    | with_reducible assumption | with_reducible exact Follows.refl _ | with_reducible refine Follows.ite ?_ ?_ | with_reducible refine forN_snd ?_ ?_ | with_reducible refine forN_third ?_ ?_ 
    | with_reducible refine calJob_follows ?_ .. | with_reducible refine twinBoundary_follows ?_ .. | with_reducible refine freqTick_follows ?_ .. | with_reducible refine refTick_follows ?_ .. | with_reducible refine curatorJobs_follows ?_ .. | with_reducible refine forN_follows ?_ ?_ | with_reducible refine plsBoundary_follows ?_ .. | with_reducible refine synTick_follows ?_ .. | with_reducible refine synBoundary_follows ?_ .. | with_reducible refine vitrineTick_follows ?_ ..
    | fail_if_no_progress (with_reducible refine mk_follows ?_ rfl rfl) | fail_if_no_progress intros | split | extract_lets | dsimp only | dsimp +zetaDelta only)

theorem workDone_follows {s0 s : State} (h : Follows s0 s) :
    Follows s0 (workDone s) := by
  unfold workDone
  repeat' (first
    | with_reducible assumption | with_reducible exact Follows.refl _ | with_reducible refine Follows.ite ?_ ?_ 
    | with_reducible refine boundaryWork_follows ?_ ..
    | fail_if_no_progress (with_reducible refine mk_follows ?_ rfl rfl) | fail_if_no_progress intros | split | extract_lets | dsimp only | dsimp +zetaDelta only)

theorem settled_follows {s0 s : State} (h : Follows s0 s) :
    Follows s0 (settled s) := by
  unfold settled
  repeat' (first
    | with_reducible assumption | with_reducible exact Follows.refl _ | with_reducible refine Follows.ite ?_ ?_ 
    | with_reducible refine workDone_follows ?_ .. | with_reducible refine routeOpenDue_follows ?_ .. | with_reducible refine openDue_follows ?_ .. | with_reducible refine captureDue_follows ?_ ..
    | fail_if_no_progress (with_reducible refine mk_follows ?_ rfl rfl) | fail_if_no_progress intros | split | extract_lets | dsimp only | dsimp +zetaDelta only)

theorem execInventoryCapture_ends {s0 s : State} (h : Follows s0 s) :
    Ends s0 (execInventoryCapture s) := by
  unfold execInventoryCapture
  repeat' (first
    | with_reducible assumption | with_reducible exact Follows.refl _ | with_reducible refine Ends.of ?_ | with_reducible refine Ends.ite ?_ ?_ | with_reducible refine Follows.ite ?_ ?_ 
    | with_reducible refine captureDue_follows ?_ .. | with_reducible refine workDone_follows ?_ ..
    | fail_if_no_progress (with_reducible refine mk_follows ?_ rfl rfl) | fail_if_no_progress intros | split | extract_lets | dsimp only | dsimp +zetaDelta only)

theorem execRouteOpening_ends {s0 s : State} (h : Follows s0 s) :
    Ends s0 (execRouteOpening s) := by
  unfold execRouteOpening
  repeat' (first
    | with_reducible assumption | with_reducible exact Follows.refl _ | with_reducible refine Ends.of ?_ | with_reducible refine Ends.ite ?_ ?_ | with_reducible refine Follows.ite ?_ ?_ 
    | with_reducible refine settled_follows ?_ ..
    | fail_if_no_progress (with_reducible refine mk_follows ?_ rfl rfl) | fail_if_no_progress intros | split | extract_lets | dsimp only | dsimp +zetaDelta only)

theorem execOpening_ends {s0 s : State} (h : Follows s0 s) :
    Ends s0 (execOpening s) := by
  unfold execOpening
  repeat' (first
    | with_reducible assumption | with_reducible exact Follows.refl _ | with_reducible refine Ends.of ?_ | with_reducible refine Ends.ite ?_ ?_ | with_reducible refine Follows.ite ?_ ?_ 
    | with_reducible refine settled_follows ?_ ..
    | fail_if_no_progress (with_reducible refine mk_follows ?_ rfl rfl) | fail_if_no_progress intros | split | extract_lets | dsimp only | dsimp +zetaDelta only)

theorem execDomainSleepEntry_ends {s0 s : State} (h : Follows s0 s) (domain : SwDomain) :
    Ends s0 (execDomainSleepEntry domain s) := by
  unfold execDomainSleepEntry
  repeat' (first
    | with_reducible assumption | with_reducible exact Follows.refl _ | with_reducible refine Ends.of ?_ | with_reducible refine Ends.ite ?_ ?_ | with_reducible refine Follows.ite ?_ ?_ 
    | with_reducible refine sleepDue_follows ?_ .. | with_reducible refine settled_follows ?_ ..
    | fail_if_no_progress (with_reducible refine mk_follows ?_ rfl rfl) | fail_if_no_progress intros | split | extract_lets | dsimp only | dsimp +zetaDelta only)

theorem takeInput_follows {s0 s : State} (h : Follows s0 s) (i : TickInput) :
    Follows s0 (takeInput i s) := by
  unfold takeInput
  repeat' (first
    | with_reducible assumption | with_reducible exact Follows.refl _ | with_reducible refine Follows.ite ?_ ?_ 
    | with_reducible refine perfTick_follows ?_ .. | with_reducible refine laneTicks_follows ?_ .. | with_reducible refine selfTestErrors_follows ?_ .. | with_reducible refine readings_follows ?_ ..
    | fail_if_no_progress (with_reducible refine mk_follows ?_ rfl rfl) | fail_if_no_progress intros | split | extract_lets | dsimp only | dsimp +zetaDelta only)

theorem raiseBoundary_follows {s0 s : State} (h : Follows s0 s) (work : List Nat) (inp : Option TickInput) :
    Follows s0 (raiseBoundary work inp s) := by
  unfold raiseBoundary
  repeat' (first
    | with_reducible assumption | with_reducible exact Follows.refl _ | with_reducible refine Follows.ite ?_ ?_ 
    | with_reducible refine curatorTick_follows ?_ .. | with_reducible refine takeInput_follows ?_ .. | with_reducible refine perfTick_follows ?_ .. | with_reducible refine laneTicks_follows ?_ .. | with_reducible refine cutCounted_follows ?_ .. | with_reducible refine markSleeps_follows ?_ .. | with_reducible refine markWakes_follows ?_ .. | with_reducible refine wakesLeftOver_follows ?_ .. | with_reducible refine judgeClose_follows ?_ .. | with_reducible refine numberTick_follows ?_ .. | with_reducible refine noteActive_follows ?_ .. | with_reducible refine workDone_follows ?_ ..
    | fail_if_no_progress (with_reducible refine mk_follows ?_ rfl rfl) | fail_if_no_progress intros | split | extract_lets | dsimp only | dsimp +zetaDelta only)

theorem drawWork_follows {s0 s : State} (h : Follows s0 s) :
    Follows s0 (drawWork s).2 := by
  unfold drawWork
  repeat' (first
    | with_reducible assumption | with_reducible exact Follows.refl _ | with_reducible refine Follows.ite ?_ ?_ 
    | fail_if_no_progress (with_reducible refine mk_follows ?_ rfl rfl) | fail_if_no_progress intros | split | extract_lets | dsimp only | dsimp +zetaDelta only)

theorem afterApply_follows {s0 s : State} (h : Follows s0 s) :
    Follows s0 (afterApply s) := by
  unfold afterApply
  repeat' (first
    | with_reducible assumption | with_reducible exact Follows.refl _ | with_reducible refine Follows.ite ?_ ?_ 
    | with_reducible refine raiseBoundary_follows ?_ .. | with_reducible refine drawWork_follows ?_ ..
    | fail_if_no_progress (with_reducible refine mk_follows ?_ rfl rfl) | fail_if_no_progress intros | split | extract_lets | dsimp only | dsimp +zetaDelta only)

theorem applyNow_follows {s0 s : State} (h : Follows s0 s) :
    Follows s0 (applyNow s) := by
  unfold applyNow
  repeat' (first
    | with_reducible assumption | with_reducible exact Follows.refl _ | with_reducible refine Follows.ite ?_ ?_ 
    | with_reducible refine afterApply_follows ?_ .. | with_reducible refine applyDecided_follows ?_ .. | with_reducible refine advanceTo_follows ?_ .. | with_reducible refine settled_follows ?_ ..
    | fail_if_no_progress (with_reducible refine mk_follows ?_ rfl rfl) | fail_if_no_progress intros | split | extract_lets | dsimp only | dsimp +zetaDelta only)

theorem leftOvers_follows {s0 s : State} (h : Follows s0 s) :
    Follows s0 (leftOvers s) := by
  unfold leftOvers
  repeat' (first
    | with_reducible assumption | with_reducible exact Follows.refl _ | with_reducible refine Follows.ite ?_ ?_ 
    | with_reducible refine microcodeDue_follows ?_ .. | with_reducible refine flashDue_follows ?_ .. | with_reducible refine closeDue_follows ?_ .. | with_reducible refine settled_follows ?_ .. | with_reducible refine sleepsLeftOver_follows ?_ .. | with_reducible refine scheduledWakes_follows ?_ .. | with_reducible refine bankFull_follows ?_ .. | with_reducible refine expireArms_follows ?_ .. | with_reducible refine notifyJob_follows ?_ .. | with_reducible refine sendNotices_follows ?_ .. | with_reducible refine curatorReset_follows ?_ .. | with_reducible refine drain_follows ?_ .. | with_reducible refine resetLeftOver_follows ?_ ..
    | fail_if_no_progress (with_reducible refine mk_follows ?_ rfl rfl) | fail_if_no_progress intros | split | extract_lets | dsimp only | dsimp +zetaDelta only)

theorem steppedTick_follows {s0 s : State} (h : Follows s0 s) :
    Follows s0 (steppedTick s) := by
  unfold steppedTick
  repeat' (first
    | with_reducible assumption | with_reducible exact Follows.refl _ | with_reducible refine Follows.ite ?_ ?_ 
    | with_reducible refine leftOvers_follows ?_ .. | with_reducible refine applyNow_follows ?_ ..
    | fail_if_no_progress (with_reducible refine mk_follows ?_ rfl rfl) | fail_if_no_progress intros | split | extract_lets | dsimp only | dsimp +zetaDelta only)

theorem tick_follows {s0 s : State} (h : Follows s0 s) (i : TickInput) :
    Follows s0 (tick i s) := by
  unfold tick
  repeat' (first
    | with_reducible assumption | with_reducible exact Follows.refl _ | with_reducible refine Follows.ite ?_ ?_ 
    | with_reducible refine steppedTick_follows ?_ .. | with_reducible refine applyNow_follows ?_ .. | with_reducible refine leftOvers_follows ?_ .. | with_reducible refine raiseBoundary_follows ?_ .. | with_reducible refine advanceToReading_follows ?_ ..
    | fail_if_no_progress (with_reducible refine mk_follows ?_ rfl rfl) | fail_if_no_progress intros | split | extract_lets | dsimp only | dsimp +zetaDelta only)

theorem execTickBoundary_ends {s0 s : State} (h : Follows s0 s) (inp : TickInput) :
    Ends s0 (execTickBoundary inp s) := by
  unfold execTickBoundary
  repeat' (first
    | with_reducible assumption | with_reducible exact Follows.refl _ | with_reducible refine Ends.of ?_ | with_reducible refine Ends.ite ?_ ?_ | with_reducible refine Follows.ite ?_ ?_ 
    | with_reducible refine tick_follows ?_ ..
    | fail_if_no_progress (with_reducible refine mk_follows ?_ rfl rfl) | fail_if_no_progress intros | split | extract_lets | dsimp only | dsimp +zetaDelta only)

theorem execApplyPoint_ends {s0 s : State} (h : Follows s0 s) :
    Ends s0 (execApplyPoint s) := by
  unfold execApplyPoint
  repeat' (first
    | with_reducible assumption | with_reducible exact Follows.refl _ | with_reducible refine Ends.of ?_ | with_reducible refine Ends.ite ?_ ?_ | with_reducible refine Follows.ite ?_ ?_ 
    | with_reducible refine applyNow_follows ?_ ..
    | fail_if_no_progress (with_reducible refine mk_follows ?_ rfl rfl) | fail_if_no_progress intros | split | extract_lets | dsimp only | dsimp +zetaDelta only)

end Sys2Proof.Machine
end

