-- ==== Sys2Proof/WellFormed.lean ====
section
/-! DEFINITION. Which commands can be given at all: operands within what their source can carry. A command outside these
bounds is no event of the hardware; `step` runs what the queue holds, and statements name this check where they need it. -/

namespace Sys2Proof

/-- A signed 16-bit reading (R43). -/
def okS16 (x : Int) : Bool := decide (-32768 ≤ x) && decide (x ≤ 32767)

/-- A signed 64-bit value (R43). -/
def okS64 (x : Int) : Bool := decide (-(2 ^ 63) ≤ x) && decide (x < 2 ^ 63)

/-- The reports of a boundary: no more than the eight job classes (R15) and the sensors (R350, R428) there are. -/
def okTick (i : TickInput) : Bool :=
  decide (i.work.length ≤ 8) && decide (i.groupTemp.length ≤ 32) && decide (i.tdcTemp.length ≤ 10) &&
  decide (i.outTemp.length ≤ 16) && decide (i.dieTemp.length ≤ 4) &&
  (i.groupTemp ++ i.tdcTemp ++ i.outTemp ++ i.dieTemp ++ [i.crystalTemp]).all okS16 &&
  i.lanes.all (fun l => decide (l.chkLevelErrors.length ≤ 4) && decide (l.fecBitsCorrected ≤ l.fecBitsReceived)) &&
  decide (i.vin < 2 ^ 32) && decide (i.current < 2 ^ 32) && decide (i.power < 2 ^ 32)

/-- A PDU as an envelope can carry it: no envelope carries more than a jumbo frame (R65, R81-R83). -/
def okPdu (p : Pdu) : Bool := decide (p.payload.length + p.tag.length ≤ 16384)

/-- A PDU that is a request: ANSWER clear (R66). -/
def okRequest (p : Pdu) : Bool := okPdu p && !p.flags.getLsbD 0

/-- A BULK request of one operation: Op is byte 3 of the payload (R68). -/
def okBulk (op : Nat) (p : Pdu) : Bool := okRequest p && decide ((p.payload.getD 3 0).toNat = op)

/-- The value of a write to one object: a WRITE carries at most 1,390 bytes (R65, R69). -/
def okValue (w : WriteReq) : Bool := decide (w.value.length ≤ 1390)

/-- What is measured for the lanes of a port: one lane or two (R89). -/
def okPair (l : List (BitVec 64)) : Bool := decide (1 ≤ l.length) && decide (l.length ≤ 2)

/-- A frame at the MAC (R118). -/
def okFrame (b : FrameBytes) : Bool := decide (1 ≤ b.length) && decide (b.length ≤ 65536)

/-- A PTP message: nanoseconds below one second, a 64-bit correction, one byte of logMessageInterval (R44, R299). -/
def okPtp (m : PtpMsg) : Bool :=
  decide (m.nanos.toNat < 10 ^ 9) && okS64 m.correction && decide (-128 ≤ m.logInterval) && decide (m.logInterval ≤ 127)

/-- The edges of a tick, in their order, and the tracked delays (R89, R220). -/
def okTdcTick (m : TdcTick) : Bool :=
  okS64 m.rxTracked && okS64 m.txTracked && (m.edges.zip (m.edges.drop 1)).all (fun e => decide (e.1.cycle ≤ e.2.cycle))

/-- The pairs of a self-test: 256 steps of 16 pairs for each value of n (R236). -/
def okPairs (l : List SelfTestPair) : Bool :=
  decide (l.length = 12288) && ([0, 1, 2] : List (Fin 3)).all (fun n => decide ((l.filter (fun p => p.n = n)).length = 4096))

/-- The instances of a calibration class (R350). -/
def okInst (c : CalClass) (i : Nat) : Bool :=
  match c with
  | .lane => decide (i < 64)
  | .tdc => decide (i < 80)
  | .portDelay => decide (i < 64)
  | .output => decide (i < 16)
  | .crystal => decide (i < 1)

/-- What a run of an instance measured, with its check stamps (R350-R352). -/
def okResult (i : Nat) (r : CalResult) (c : List (Fin 64 × Int)) : Bool :=
  match r with
  | .lane codes => okInst .lane i && codes.all okS64
  | .portDelay f b => okInst .portDelay i && decide (f.length = 256) && decide (b.length = 256) && f.all okS64 && b.all okS64
  | .output p => okInst .output i && decide (p.length = 65) && decide (c.length = 32) && p.all okS64 && c.all (fun e => okS64 e.2)
  | .crystal => okInst .crystal i

/-- The check of a command. -/
def wellFormed (i : Instr) : Bool :=
  match i with
  | .tickBoundary inp => okTick inp
  | .stage _ p => okRequest p
  | .arm _ p => okRequest p
  | .armDeadline _ => true
  | .cancel _ p => okRequest p
  | .opening => true
  | .shadowDiscard w => okValue w
  | .tickMaxClear w => okValue w
  | .inventory _ p => okRequest p
  | .inventoryCapture => true
  | .inventoryBankFull _ => true
  | .collect _ p => okRequest p
  | .inventoryRelease _ w => okValue w
  | .read _ p => okRequest p
  | .write _ p => okRequest p
  | .bulkRead _ p => okBulk 0 p
  | .bulkWrite _ p => okBulk 1 p
  | .bulkStage _ p => okBulk 2 p
  | .openSession _ p => okRequest p
  | .closeSession _ p => okRequest p
  | .subscribe _ p => okRequest p
  | .unknownOpcode opcode _ p => okRequest p && (decide (opcode = 0) || decide (12 ≤ opcode.toNat))
  | .lorakRelay _ _ p => okPdu p
  | .lorakAnswerReceive _ _ p => okPdu p && p.flags.getLsbD 0
  | .openingOutcomeNotify => true
  | .sessionIdleTimeout _ => true
  | .sessionViolationClear _ w => okValue w
  | .lorakKeyWrite _ w => okValue w
  | .lorakKeyErase w => okValue w
  | .lorakAuthRequiredWrite _ w => okValue w
  | .mgtModeWrite w => okValue w
  | .mgtLinkUp _ => true
  | .svcLineBreak _ => true
  | .laneSignalDetected _ => true
  | .laneCdrLocked _ => true
  | .laneEqualised _ _ _ _ => true
  | .polarityTrialSwitch _ => true
  | .lanePolarityDecided _ => true
  | .trainingFrameReceive _ _ => true
  | .laneOrderDecided _ _ => true
  | .laneLocked _ rxDelay txDelay arrivals => okPair rxDelay && okPair txDelay && okPair arrivals
  | .laneStateTimeout _ => true
  | .laneBackoffEnd _ => true
  | .laneLinkDown _ _ => true
  | .laneLossBeforeUp _ _ => true
  | .laneEnableWrite _ w => okValue w
  | .adaptWindowEval _ _ _ _ _ _ => true
  | .reserveRequest _ w => okValue w
  | .reservePhaseEnd _ _ => true
  | .eyeScan _ _ => true
  | .testSelectWrite _ _ w => okValue w
  | .checkerLock _ _ => true
  | .checkerLockLoss _ _ => true
  | .chkClear _ w => okValue w
  | .injectFire _ w => okValue w
  | .injectIntervalExpire _ => true
  | .firstCellWritten _ _ bytes _ => okFrame bytes && decide (bytes.length ≤ 128)
  | .frameReceived _ _ bytes _ _ => okFrame bytes
  | .pauseReceive _ _ _ => true
  | .pfcReceive _ _ _ time => decide (time.length = 8)
  | .holdTimerExpire _ _ => true
  | .controlFrameSend _ => true
  | .pfcRefresh _ => true
  | .egressFrameStart _ _ => true
  | .egressFrameEnd _ _ => true
  | .headFrameAge _ _ => true
  | .fdbAgeSweep => true
  | .fdbAgeTimeWrite w => okValue w
  | .fdbFlushLearned w => okValue w
  | .portCounterClear _ w => okValue w
  | .classRuleHitClear w => okValue w
  | .coreCounterClear w => okValue w
  | .gateEntryBoundary _ => true
  | .gateListSwitch _ => true
  | .starvePromotion _ _ => true
  | .gateCounterClear _ w => okValue w
  | .windowOpen _ _ => true
  | .combinerAdd => true
  | .windowClose _ => true
  | .combinerConfigSwitch => true
  | .combinerCounterClear w => okValue w
  | .tdcTickResult _ met => okTdcTick met
  | .ppsiEdge _ _ _ => true
  | .tdcCalRequest _ w => okValue w
  | .tdcStandinStepEnd _ _ => true
  | .tdcCalRunEnd _ result => decide (result.hist.length = 1024) && decide (result.check.length = 1024)
  | .tdcMeasureConfigWrite _ w => okValue w
  | .tdcMeasureStart _ w => okValue w
  | .tdcMeasureComplete _ _ _ => true
  | .tdcMeasureOverflow _ => true
  | .freqMeasureConfigWrite _ w => okValue w
  | .freqMeasureStart _ w => okValue w
  | .freqGateEnd _ _ => true
  | .xoscLoss ratioNum ratioDen => decide (ratioNum ≠ 0) && decide (ratioDen ≠ 0)
  | .tdcSelfTestStart w => okValue w
  | .tdcSelfTestEnd pairs _ _ => okPairs pairs
  | .refAbsentTimeout _ => true
  | .waitToRestoreExpire _ => true
  | .refDisqualify _ => true
  | .regainToTrack => true
  | .holdoverBinEnd => true
  | .todMessage _ _ bytes _ => decide (bytes.length ≤ 1024)
  | .synOffsetWrite _ w => okValue w
  | .synRelockTrigger _ => true
  | .synLockAchieved _ => true
  | .synOutputRestart _ => true
  | .synLockTimeout _ => true
  | .outEnableWrite _ w => okValue w
  | .pulseAnchoredEmit _ => true
  | .pulseFollowerEmit _ => true
  | .pulseMissed _ => true
  | .pulseAutoAlign _ => true
  | .applyPoint => true
  | .timeIncrementSetWrite w => okValue w
  | .timeStepWrite w => okValue w
  | .servoStateSetWrite w => okValue w
  | .servoModeWrite w => okValue w
  | .timeSet w => okValue w
  | .servoEnterTest w => okValue w
  | .servoLeaveTest w => okValue w
  | .servoEnterRecovery w => okValue w
  | .acceptStep w => okValue w
  | .ptpSyncSend _ _ => true
  | .ptpAnnounceSend _ => true
  | .ptpDelayReqSend _ _ => true
  | .ptpDelayRespSend _ => true
  | .ptpSyncReceive _ msg _ => okPtp msg
  | .ptpFollowUpReceive _ msg => okPtp msg
  | .ptpDelayReqReceive _ msg _ => okPtp msg
  | .ptpDelayRespReceive _ msg => okPtp msg
  | .ptpAnnounceReceive _ msg => okPtp msg.head
  | .announceTimeout => true
  | .leapSecond => true
  | .ptpCounterClear _ w => okValue w
  | .helloSend => true
  | .helloReceive _ payload => decide (payload.length ≤ 1500)
  | .adjacencyTimeout _ => true
  | .linkstateRefresh => true
  | .linkstateOriginate => true
  | .linkstateReceive _ payload => decide (payload.length ≤ 1500)
  | .linkstateExpire _ => true
  | .routeArm => true
  | .routeArmReceive _ payload => decide (payload.length ≤ 1500)
  | .routeArmDeadline => true
  | .routeAnswer _ payload => decide (payload.length ≤ 1500)
  | .routeCancelDeadline => true
  | .routeCancel _ payload => decide (payload.length ≤ 1500)
  | .routeOpening => true
  | .twinHeartbeatReceive _ body framed crc _ =>
    decide (body.length ≤ 1400) && decide (framed.rest.length ≤ 64) && decide (crc.length ≤ 64)
  | .twinPeerFailed => true
  | .twinPathDegraded => true
  | .twinRankTakeover => true
  | .twinRoleChange => true
  | .twinActiveReceive _ body => decide (body.length ≤ 1400)
  | .arbiterRelease _ => true
  | .dualActiveReceive _ body => decide (body.length ≤ 1400)
  | .calRunStart cls inst => okInst cls inst.val
  | .calRunEnd inst result checks => okResult inst.val result checks
  | .calRunAbandon cls inst => okInst cls inst.val
  | .calRetryExpire cls inst => okInst cls inst.val
  | .calRequest cls inst w => okInst cls inst.val && okValue w
  | .calDiscardSets w => okValue w
  | .perfConfigWrite _ _ _ w => okValue w
  | .perfCounterPreset _ _ w => okValue w
  | .perfGateEnd _ => true
  | .perfOverflowClear w => okValue w
  | .counterClearAll w => okValue w
  | .archiveConfigWrite _ w => okValue w
  | .archiveTrigger w => okValue w
  | .archiveReadIndexWrite w => okValue w
  | .archiveClear w => okValue w
  | .eventClear _ w => okValue w
  | .eventMaskWrite _ _ w => okValue w
  | .eventHoldWrite w => okValue w
  | .eventNotify => true
  | .eventCountClear w => okValue w
  | .intervalClose => true
  | .sealNFall => true
  | .sealOpenQualified => true
  | .sealNRise => true
  | .sealWrite _ _ w => okValue w
  | .microcodeCheck changed => decide (changed.length ≤ 65536)
  | .powerUpStart supply _ _ => decide (supply.vin < 2 ^ 32) && okS16 supply.reading
  | .brownoutRelease vin => decide (vin < 2 ^ 32)
  | .curatorImageRunning _ _ => true
  | .brownout vin => decide (vin < 2 ^ 32)
  | .undervoltageLockout vin => decide (vin < 2 ^ 32)
  | .overtempShutdown _ reading => okS16 reading
  | .domainSleepRequest _ w => okValue w
  | .domainSleepAtTickWrite _ w => okValue w
  | .domainWakeAtTickWrite _ w => okValue w
  | .domainSleepEntry _ => true
  | .domainWakeCommand _ w => okValue w
  | .wakeSourceFire domain source lane => decide (source ≠ .signal) || decide (domain = .d5 ∧ lane.val < 32) || decide (domain = .d6 ∧ 32 ≤ lane.val)
  | .domainWakeComplete _ => true
  | .resetNowDatapath w => okValue w
  | .resetNowCurator w => okValue w
  | .resetNowFull w => okValue w
  | .datapathReset => true
  | .curatorReset => true
  | .fullModuleReset _ _ => true
  | .curatorWatchdog => true
  | .resetNAssert => true
  | .resetNRelease _ _ => true
  | .imageBlockWrite _ w => okValue w
  | .imageErase w => okValue w
  | .imageEraseComplete => true
  | .imageCommit w => okValue w
  | .bootPreferSet w => okValue w
  | .extest => true
  | .samplePreload => true
  | .idcode => true
  | .highz => true
  | .clamp => true
  | .extestPulse => true
  | .extestTrain => true
  | .vitrineId => true
  | .svcPort => true
  | .bypass code => decide (6 < code.toNat) && decide (code ≠ 0x20) && decide (code ≠ 0x21)
  | .mgtLinkDown => true
  | .imageCheckComplete _ _ => true
  | .vitrineRecordInFlash => true
  | .fuseBurnComplete => true
  | .overtempLimitCrossed _ reading => okS16 reading
  | .tapReset => true
  | .startEdgeTaken _ _ _ => true

end Sys2Proof
end

