-- ==== Sys2Proof/Tests/Slice0.lean ====
section
/-! SUPPORT. Witnesses that the hypotheses of every statement can be met, what WellFormed refuses, and small tests whose
expected values are the spec's own examples. -/

set_option Elab.async false

namespace Sys2Proof.Tests

open Sys2Proof Sys2Proof.Machine

/-- A host on SVC. -/
def host : Peer := { transport := .svc, srcAddr := 0, srcTag := 0, port := 0, mac := 0 }

/-- Its session, after sequence number 5. -/
def sess : Session :=
  { peer := host, serial := 1, last := 5, answers := [], held := [], closedAt := 0, key := none, sk := [], lastReq := 0 }

/-- A module that is powered, runs its Curator and all its domains, and serves the host's session in slot 0. -/
def base : State :=
  w1 Reg.sessionState 0 1 ([2, 4, 5, 6, 7].foldl (fun s d => w1 Reg.domainState d 0 s)
    { State.reset with
      pwr := { State.reset.pwr with phase := .on, reduced := false, served := true, curator := .running }
      lrk := { State.reset.lrk with stamp := 1, sessions := [(0, sess)] } })

/-- A write of the host's session. -/
def wq (value : Bytes) : WriteReq := { slot := 0, sequence := 6, item := 0, value := value }

/-- `StepRunsFrontCommand`: a queue with a command in front. -/
theorem wit_StepRunsFrontCommand : { base with pending := [.opening, .combinerAdd] }.pending = .opening :: [.combinerAdd] := rfl

/-- `EveryStepKeepsTheRegisterFileCanonical`: a step from the reset state, which idles. -/
theorem wit_EveryStepKeepsTheRegisterFileCanonical : State.reset.regsOk ∧ ∃ t, step State.reset = .next t :=
  ⟨by unfold State.regsOk; decide +kernel, _, rfl⟩

/-- `EveryCommandGoesOnAndFollows`: a command that leaves the test access port alone. -/
theorem wit_EveryCommandGoesOnAndFollows : touchesTap .opening = false := rfl

/-- `WritingOneRegisterChangesNoOther`: two registers that differ in the row alone, at the last sub-index and row. -/
theorem wit_WritingOneRegisterChangesNoOther : 255 < 256 ∧ 2 ^ 24 - 1 < 2 ^ 24 ∧
    (Reg.forwardingTable, 255, 2 ^ 24 - 1) ≠ (Reg.forwardingTable, 255, 0) := by decide

/-- A programmable counter whose gate has ended. -/
def gateDue : PerfSt := { live := true, started := true, left := 0, due := true, cycles := 0, since := 0 }

/-- `TimePassesAtTheIncrementInForce`: at the instant itself, one later, with a programmable counter, and with nothing queued. -/
theorem wit_TimePassesAtTheIncrementInForce : State.reset.now ≤ State.reset.now ∧ State.reset.now < 1 ∧
    0 < State.reset.increment ∧ State.reset.pending = [] ∧
    (getPerf { State.reset with perf := [(63, gateDue)] } 63).live = true := by decide +kernel

/-- `ViolationIsCountedAndChangesNothingElse`: 2 in a BOOL is out of range. -/
theorem wit_ViolationIsCountedAndChangesNothingElse :
    writeOf (.shadowDiscard (wq [2])) = some (wq [2], Reg.shadowDiscard, 0, 0) ∧ reaches base (wq [2]).slot.val = true ∧
    judge base .write 0 Reg.shadowDiscard 0 0 (some [2]) = some 4 ∧
    (judge base .write 0 Reg.vitrineInterval 0 0 (some [1]) = some 6 ∧ base.vit.burning = none) ∧
    base.vit.waiting = [] := by decide +kernel

/-- `UnservedWriteChangesNothing`: slot 1 is not open. -/
theorem wit_UnservedWriteChangesNothing : ∃ w : WriteReq, w.slot = 1 ∧ reaches base w.slot.val = false ∧
    writeOf (.lorakKeyErase w) = some (w, Reg.lorakKeyErase, 0, 0) :=
  ⟨{ slot := 1, sequence := 6, item := 0, value := [1] }, by decide +kernel⟩

/-- `CommandObjectIgnoresZero`: on an object of one instance and on one held by port slot. -/
theorem wit_CommandObjectIgnoresZero :
    writeOf (.portCounterClear 63 (wq [0])) = some (wq [0], Reg.portCounterClear, 63, 0) ∧
    Accepts base (wq [0]) Reg.portCounterClear 63 0 63 0 ∧ Accepts base (wq [0]) Reg.imageErase 0 0 0 0 := by
  simp only [Accepts]; decide +kernel

/-- `AnEventSetsItsPendingBitAndCounts`: an edge and a level source, of a running and of a sleeping domain. -/
theorem wit_AnEventSetsItsPendingBitAndCounts :
    ((sourceMask ((Ev.portLink + 63) / 32)).testBit ((Ev.portLink + 63) % 32) = true ∧
      (levelMapWord ((Ev.portLink + 63) / 32)).testBit ((Ev.portLink + 63) % 32) = false) ∧
    ((sourceMask (Ev.combOvercommit / 32)).testBit (Ev.combOvercommit % 32) = true ∧
      (levelMapWord (Ev.combOvercommit / 32)).testBit (Ev.combOvercommit % 32) = true) ∧
    running base (sourceDomain (Ev.portLink + 63)) = true ∧ running base (sourceDomain Ev.combOvercommit) = true ∧
    running State.reset (sourceDomain (Ev.portLink + 63)) = false ∧
    running State.reset (sourceDomain Ev.combOvercommit) = false := by decide +kernel

/-- `CounterClearsReturnTheirCountersToZero`: no capture is due, and each clause accepts its write. -/
theorem wit_CounterClearsReturnTheirCountersToZero :
    (∀ b < 2, r1 base Reg.inventoryBankState b = 1 → (getBank base b).captured = true ∨
      r0 base Reg.tickNumber < (getBank base b).tick) ∧
    Accepts base (wq [1]) Reg.portCounterClear 63 0 63 1 ∧ Accepts base (wq [1]) Reg.classRuleHitClear 0 0 0 1 ∧
    Accepts base (wq [1]) Reg.eventCountClear 0 0 0 1 ∧ Accepts base (wq [1]) Reg.tickMaxClear 0 0 0 1 ∧
    Accepts base (wq [1]) Reg.gateCounterClear 63 0 63 1 ∧ Accepts base (wq [1]) Reg.ptpCounterClear 0 0 0 1 ∧
    Accepts base (wq [1]) Reg.chkClear 63 0 63 1 ∧ Accepts base (wq [1]) Reg.combinerCounterClear 0 0 0 1 ∧
    Accepts base (wq [1]) Reg.coreCounterClear 0 0 0 1 ∧ Accepts base (wq [1]) Reg.counterClearAll 0 0 0 1 := by
  simp only [Accepts]
  refine ⟨by decide +kernel, by decide +kernel, by decide +kernel, by decide +kernel, by decide +kernel, by decide +kernel,
    by decide +kernel⟩

/-- A lane that is in TEST, its checker seeking; and the same lane with its checker locked and injection on. -/
def testing : State := w1 Reg.chkState 63 1 (w1 Reg.laneState 63 8 base)
def injecting : State := w1 Reg.injectMode 63 1 (w1 Reg.chkState 63 3 testing)

/-- 1,031 levels of PRBS7 on NRZ, and the same levels inverted. -/
def prbs7 : List (Fin 4) := (prbsBits 1 0 1031).map (fun b => if b then 1 else 0)
def prbs7Inverted : List (Fin 4) := (prbsBits 1 0 1031).map (fun b => if b then 0 else 1)

/-- The lane, on NRZ, whose checker looks for PRBS7. -/
def seeking : State := w1 Reg.portGroupMode 31 6 (w1 Reg.patChkSelect 63 1 testing)

/-- A lane in near-end loopback whose generator and checker have one pattern, the checker locked, one burst to inject. -/
def looped : State :=
  w1 Reg.loopbackMode 63 1 (w1 Reg.patGenSelect 63 1 (w1 Reg.patChkSelect 63 1 injecting))

/-- `LaneTestCommandsSetTheirRegisters`: lock in both senses, loss of lock, injections under test and on live data. -/
theorem wit_LaneTestCommandsSetTheirRegisters :
    (r1 seeking Reg.chkState 63 = 1 ∧ r1 seeking Reg.laneState 63 = 8 ∧ checkerFinds seeking 63 prbs7 = some false ∧
      checkerFinds seeking 63 prbs7Inverted = some true) ∧
    (hearsItself looped 63 = true ∧ injects looped 63 = true ∧ r1 looped Reg.chkState 63 ∈ [2, 3]) ∧
    (256 < 257 ∧ hearsItself injecting 63 = false ∧ r1 injecting Reg.laneState 63 ≠ 7) ∧
    (∃ s x, injects s 63 = true ∧ r1 s Reg.laneState 63 = 7 ∧ slotOfLane s 63 = some 63 ∧ (getPort s 63).tx = some x) ∧
    r1 injecting Reg.chkState 63 ∈ [2, 3] ∧ injects injecting 63 = true ∧ r1 injecting Reg.injectInterval 63 = 0 ∧
    r1 (w1 Reg.injectInterval 63 5 injecting) Reg.injectInterval 63 ≠ 0 ∧
    injects (w1 Reg.injectInterval 63 5 injecting) 63 = true ∧ Accepts injecting (wq [1]) Reg.injectFire 63 0 63 1 := by
  simp only [Accepts]
  refine ⟨by decide +kernel, by decide +kernel, by decide +kernel,
    ⟨w1 Reg.laneState 63 7 { injecting with ports := [(63, { getPort injecting 63 with
      tx := some (TxSt.mk 0 7 false false 0 0) })] }, TxSt.mk 0 7 false false 0 0, by decide +kernel⟩, by decide +kernel⟩

/-- `LaneWritesActOnTheLane`. -/
theorem wit_LaneWritesActOnTheLane :
    Accepts base (wq [1]) Reg.laneEnable 63 0 63 1 ∧ Accepts base (wq [0]) Reg.laneEnable 0 0 0 0 ∧
    Accepts base (wq [1]) Reg.patGenSelect 0 0 0 1 ∧ Accepts base (wq [1]) Reg.patChkSelect 63 0 63 1 ∧
    Accepts base (wq [1]) Reg.loopbackMode 0 0 0 1 ∧ Accepts base (wq [1]) Reg.reserveRequest 63 0 63 1 := by
  simp only [Accepts]; decide +kernel

/-- `SessionAdministrationWrites`: also the rewriting of the key that is there. -/
theorem wit_SessionAdministrationWrites :
    Accepts base (wq [1]) Reg.sessionViolationClear 15 0 15 1 ∧ Accepts base (wq [1]) Reg.lorakKeyErase 0 0 0 1 ∧
    Accepts base (wq (7 :: List.replicate 15 0)) Reg.lorakKey 3 0 3 7 ∧ keyOf base 3 ≠ some 7 ∧
    (∃ s, Accepts s (wq (7 :: List.replicate 15 0)) Reg.lorakKey 3 0 3 7 ∧ keyOf s 3 = some 7) ∧
    Accepts base (wq [1]) Reg.lorakAuthRequired 2 0 2 1 ∧ Accepts base (wq [0]) Reg.lorakAuthRequired 0 0 0 0 ∧
    Accepts base (wq [2]) Reg.mgtMode 0 0 0 2 := by
  simp only [Accepts]
  refine ⟨by decide +kernel, by decide +kernel, by decide +kernel, by decide +kernel,
    ⟨w1 Reg.lorakKeyLoaded 3 1 { base with lrk := { base.lrk with keys := [(3, 7)] } }, by decide +kernel⟩,
    by decide +kernel, by decide +kernel, by decide +kernel⟩

/-- `ForwardingTableWrites`: with D4 awake and asleep. -/
theorem wit_ForwardingTableWrites :
    Accepts base (wq [0x2C, 1, 0, 0]) Reg.fdbAgeTime 0 0 0 300 ∧ running base 4 = true ∧
    Accepts (w1 Reg.domainState 4 4 base) (wq [0, 0, 0, 0]) Reg.fdbAgeTime 0 0 0 0 ∧
    running (w1 Reg.domainState 4 4 base) 4 = false ∧ Accepts base (wq [1]) Reg.fdbFlushLearned 0 0 0 1 := by
  simp only [Accepts]; decide +kernel

/-- `MeasurementWrites`. -/
theorem wit_MeasurementWrites :
    Accepts base (wq [1, 0, 0, 0]) Reg.tdcMeasureConfig 7 0 7 1 ∧ Accepts base (wq [1]) Reg.tdcMeasureStart 0 0 0 1 ∧
    Accepts base (wq [1, 0, 0, 0]) Reg.freqMeasureConfig 7 0 7 1 ∧ Accepts base (wq [1]) Reg.freqMeasureStart 0 0 0 1 ∧
    (Accepts base (wq [1]) Reg.tdcSelfTestStart 0 0 0 1 ∧ selfTestBusy base = false ∧
      standsIn base (r0 base Reg.tdcSelfTestChannel) = false) ∧
    Accepts base (wq [1]) Reg.tdcCalRequest 0x4F 0 0x4F 1 := by
  simp only [Accepts]; decide +kernel

/-- `ClockAndCalibrationWrites`: the synthesiser disabled, and enabled with D2 running. -/
theorem wit_ClockAndCalibrationWrites :
    Accepts base (wq [1, 0, 0, 0]) Reg.synOffset 3 0 3 1 ∧ (synEnabled base 3 && running base 2) = false ∧
    (∃ s, Accepts s (wq [1, 0, 0, 0]) Reg.synOffset 0 0 0 1 ∧ synEnabled s 0 = true ∧ running s 2 = true) ∧
    Accepts base (wq [1]) Reg.outEnable 11 0 11 1 ∧ Accepts base (wq [1]) (calRequestIdx .tdc) 0x4F 0 0x4F 1 ∧
    Accepts base (wq [1]) (calRequestIdx .portDelay) 63 0 63 1 ∧ Accepts base (wq [1]) (calRequestIdx .output) 15 0 15 1 ∧
    Accepts base (wq [1]) (calRequestIdx .crystal) 0 0 0 1 ∧ Accepts base (wq [1]) Reg.reserveRequest 63 0 63 1 ∧
    Accepts base (wq [1]) Reg.calDiscardSets 0 0 0 1 ∧ (∀ x ∈ (getCal base 5 0).sets, x.tick ≠ 0) := by
  simp only [Accepts]
  refine ⟨by decide +kernel, by decide +kernel, ⟨w1 Reg.synConfig 0 (2 ^ 31) base, by decide +kernel⟩, by decide +kernel,
    by decide +kernel, by decide +kernel, by decide +kernel, by decide +kernel, by decide +kernel, by decide +kernel, by decide +kernel⟩

/-- The module with its servo in a state. -/
def servoIn (state : Nat) (s : State) : State := w0 Reg.servoState state s

/-- `TimeServoWrites`: TimeSet in UNSET (as after reset), TEST and LOCKED, and each other object. -/
theorem wit_TimeServoWrites :
    (Accepts base (wq (List.replicate 16 0)) Reg.timeSet 0 0 0 0 ∧ r0 base Reg.servoState ∈ [0, 5]) ∧
    (Accepts (servoIn 5 base) (wq (List.replicate 16 0)) Reg.timeSet 0 0 0 0 ∧ r0 (servoIn 5 base) Reg.servoState ∈ [0, 5]) ∧
    (Accepts (servoIn 2 base) (wq (List.replicate 16 0)) Reg.timeSet 0 0 0 0 ∧
      r0 (servoIn 2 base) Reg.servoState ∉ [0, 5]) ∧
    Accepts base (wq [1]) Reg.servoMode 0 0 0 1 ∧ Accepts base (wq [3]) Reg.servoCommand 0 0 0 3 ∧
    Accepts base (wq [1]) Reg.acceptStep 0 0 0 1 ∧
    Accepts base (wq [0, 0, 0, 0, 0, 2, 0, 0]) Reg.timeIncrementSet 0 0 0 (2 ^ 41) ∧
    Accepts base (wq [5]) Reg.servoStateSet 0 0 0 5 ∧
    Accepts base (wq [1, 0, 0, 0, 0, 0, 0, 0]) Reg.timeStep 0 0 0 1 := by
  simp only [Accepts]; decide +kernel

/-- A module whose counter 63 counts. -/
def counting : State := w1 Reg.perfGateTicks 63 8 <| w1 Reg.perfConfig 63 (2 ^ 30) { base with perf := [(63, { gateDue with left := 8, due := false })] }

/-- `PerfConfigWriteOrder`: for both objects; with a gate of 8 ticks its clause is met as well; a counter that counts. -/
theorem wit_PerfConfigWriteOrder :
    Accepts base (wq [0, 0, 0, 0]) Reg.perfConfig 63 0 63 0 ∧ Accepts base (wq [8, 0]) Reg.perfGateTicks 0 0 0 8 ∧
    (∃ t, exec (.perfConfigWrite 0 true 3 (wq [8, 0])) base = .next t ∧ r1 t Reg.perfGateTicks 0 = 8 ∧
      perfAwake t 0 = true) ∧
    (perfCounts counting 63 = true ∧ (getPerf counting 63).due = false) := by
  simp only [Accepts]
  exact ⟨by decide +kernel, by decide +kernel, ⟨_, rfl, by decide +kernel, by decide +kernel⟩, by decide +kernel⟩

/-- `ProgrammableCountersAndArchiveWrites`. -/
theorem wit_ProgrammableCountersAndArchiveWrites :
    Accepts base (wq [1, 0, 0, 0, 0, 0, 0, 0]) Reg.perfCounter 63 0 63 1 ∧
    Accepts base (wq [1, 0, 0, 0, 0, 0, 0, 0x80]) Reg.perfOverflowClear 0 0 0 (2 ^ 63 + 1) ∧
    (getPerf { base with perf := [(5, gateDue)] } 5).due = true ∧
    Accepts base (wq [2]) Reg.archiveMode 0 0 0 2 ∧ Accepts base (wq [0, 0, 0, 0]) Reg.archiveFilter 0 0 0 0 ∧
    Accepts base (wq [1, 0, 0, 0]) Reg.archiveSampleEvery 0 0 0 1 ∧ Accepts base (wq [1]) Reg.archiveTrigger 0 0 0 1 ∧
    Accepts base (wq [0, 0, 0, 0]) Reg.archiveReadIndex 0 0 0 0 ∧ Accepts base (wq [1]) Reg.archiveClear 0 0 0 1 := by
  simp only [Accepts]; decide +kernel

/-- `EventMaskAndClearWrites`. -/
theorem wit_EventMaskAndClearWrites :
    Accepts base (wq [0xFF, 0xFF, 0xFF, 0xFF]) Reg.eventClear 0 0 0 0xFFFFFFFF ∧
    Accepts base (wq [1, 0, 0, 0]) Reg.eventMaskA 0 0 0 1 ∧ Accepts base (wq [1, 0, 0, 0]) Reg.eventMaskB 15 0 15 1 ∧
    Accepts base (wq [1, 0, 0, 0]) Reg.eventMaskNotify 0 0 0 1 ∧ Accepts base (wq [1]) Reg.eventHold 0 0 0 1 ∧
    Accepts (w0 Reg.eventHold 1 base) (wq [0]) Reg.eventHold 0 0 0 0 := by
  simp only [Accepts]; decide +kernel

/-- An unsealed module. -/
def unsealed : State := w0 Reg.sealState 2 base

/-- `SealWriteWaitsBurnsOrApplies`. -/
theorem wit_SealWriteWaitsBurnsOrApplies :
    Accepts unsealed (wq [1]) Reg.vitrineInterval 0 0 0 1 ∧
    Accepts unsealed (wq (List.replicate 8 0)) Reg.tenantMap 0 63 0 0 ∧
    (∃ s : State, reaches s 0 = true ∧ s.vit.waiting = [] ∧
      judge s .write 0 Reg.tenantMap 0 63 (some (List.replicate 8 0)) = some 6 ∧ s.vit.burning.isSome = true) ∧
    (∃ s : State, reaches s 0 = true ∧ s.vit.waiting ≠ [] ∧
      writeOf (.shadowDiscard (wq [1])) = some (wq [1], Reg.shadowDiscard, 0, 0)) := by
  simp only [Accepts]
  exact ⟨by decide +kernel, by decide +kernel,
    ⟨{ base with vit := { base.vit with burning := some .unseal } }, by decide +kernel⟩,
    ⟨{ base with vit := { base.vit with waiting := [.write Reg.tenantMap 0 63 (wq [])] } }, by decide +kernel⟩⟩

/-- `PowerAndImageWrites`. -/
theorem wit_PowerAndImageWrites :
    Accepts base (wq [1]) Reg.domainSleepRequest 4 0 4 1 ∧ Accepts base (wq [2]) Reg.domainSleepRequest 7 0 7 2 ∧
    Accepts base (wq (List.replicate 8 0)) Reg.domainSleepAtTick 2 0 2 0 ∧
    Accepts base (wq [1, 0, 0, 0, 0, 0, 0, 0]) Reg.domainWakeAtTick 7 0 7 1 ∧
    Accepts base (wq [1]) Reg.resetNow 0 0 0 1 ∧ Accepts base (wq [3]) Reg.resetNow 0 0 0 3 ∧
    Accepts base (wq (List.replicate 128 0)) Reg.imageBlock 0 1 0 0 ∧ Accepts base (wq [1]) Reg.imageErase 0 0 0 1 ∧
    Accepts base (wq [1]) Reg.imageCommit 0 0 0 1 ∧ Accepts base (wq [1]) Reg.bootPreferSet 0 0 0 1 := by
  simp only [Accepts]; decide +kernel

/-- The SVC line, with the characters of one frame. -/
def svcLine (line : Bytes) : Envelope :=
  { transport := .svc, port := 0, mac := 0, dest := 0, etherType := 0, length := 0, line := line, jtag := false }

/-- A PDU as the SVC line carries it. -/
def svc (opcode : Nat) (p : Pdu) : Envelope := svcLine (svcEscape (pduBytes opcode p))

/-- A request of the host with its next sequence number. -/
def ask (opcode : Nat) (payload : Bytes) : Pdu :=
  sealPdu opcode { version := 1, flags := 0, dst := 0, src := 0, srcTag := 0, hop := 0, session := 0, status := 0,
                   sequence := 6, payloadLength := BitVec.ofNat 16 payload.length, reserved := 0, payload := payload,
                   tag := [], crc := 0 }

/-- The request as received. -/
def got (opcode : Nat) (payload : Bytes) (s : State) : Req :=
  { opcode := opcode, env := svc opcode (ask opcode payload), pdu := ask opcode payload, received := s.counter }

/-- The state in which the request is executed. -/
def atTurn (s : State) : State := setSession 0 { sess with lastReq := s.now } s

/-- The PDU arrives on the SVC line. -/
theorem reaches_svc (opcode : Nat) (p : Pdu) (s : State)
    (h : pathUp s (svc opcode p) = true ∧ framed opcode p = true ∧ listens s .svc = true ∧
      svcUnescape (svc opcode p).line = some (pduBytes opcode p) ∧ 24 ≤ (pduBytes opcode p).length ∧
      (pduBytes opcode p).length ≤ 1440 ∧ (svc opcode p).line ≠ [] ∧ (svc opcode p).jtag = svcPortSelected s) : Reaches s opcode (svc opcode p) p :=
  ⟨h.1, by simp [svc, svcLine], fun _ => h.2.2.2, by simp [svc, svcLine], h.2.1, fun _ => h.2.2.1⟩

/-- A request of the host arrives on the SVC line and its turn comes. -/
def Asked (s : State) (opcode : Nat) (payload : Bytes) : Prop :=
  InTurn s opcode (svc opcode (ask opcode payload)) (ask opcode payload) 0 (got opcode payload s) (atTurn s)

theorem asked_of (opcode : Nat) (payload : Bytes) (s : State)
    (h : (pathUp s (svc opcode (ask opcode payload)) = true ∧ framed opcode (ask opcode payload) = true ∧
        listens s .svc = true ∧
        svcUnescape (svc opcode (ask opcode payload)).line = some (pduBytes opcode (ask opcode payload)) ∧
        24 ≤ (pduBytes opcode (ask opcode payload)).length ∧ (pduBytes opcode (ask opcode payload)).length ≤ 1440 ∧
        (svc opcode (ask opcode payload)).line ≠ [] ∧
        (svc opcode (ask opcode payload)).jtag = svcPortSelected s) ∧
      isMine s .svc (ask opcode payload) = true ∧ svcWaiting s < 4 ∧
      sessionFor s 0 (requester (svc opcode (ask opcode payload)) (ask opcode payload)) = some sess ∧
      tagHolds sess (got opcode payload s) = true ∧ collecting s 0 = false ∧ s.vit.waiting = []) : Asked s opcode payload := by
  obtain ⟨whole, mine, room, open_, tag, free, empty⟩ := h
  refine ⟨s, sess, ⟨reaches_svc _ _ _ whole, ?_, mine, whole.2.2.1, fun _ => room, ?_, rfl⟩, ?_, open_, tag, ?_, ?_, free, empty, rfl⟩
  · simp [arrivedIn, svc, svcLine]
  · simp [ask, sealPdu]
  · simp [ask, sealPdu]
  · simp [ask, sealPdu, sess]
  · simp [sess]

/-- An OPEN from a host without a session: its tag is 1. -/
def askOpen : Pdu :=
  sealPdu 1 { version := 1, flags := 0, dst := 0, src := 0, srcTag := 1, hop := 0, session := 0, status := 0, sequence := 0,
              payloadLength := 12, reserved := 0, payload := List.replicate 12 0, tag := [], crc := 0 }

/-- An item that names an object, with a value (R69). -/
def item (idx sub row : Nat) (value : Bytes) : Bytes :=
  bytesLE 2 idx ++ bytesLE 1 sub ++ [0] ++ bytesLE 4 row ++ bytesLE 2 value.length ++ value

/-- The fixed part of a BULK request: object, operation, first row, number of rows and length of a row (R70). -/
def bulk (idx op row count len : Nat) : Bytes :=
  bytesLE 2 idx ++ bytesLE 1 0 ++ bytesLE 1 op ++ bytesLE 4 row ++ bytesLE 2 count ++ bytesLE 2 len

/-- `ShadowCountAndDigest`: an empty shadow, a staged entry, the discard. -/
theorem wit_ShadowCountAndDigest : base.opn.shadow = [] ∧ (base.opn.shadow.map Prod.fst).Pairwise (· < ·) ∧
    (∃ t, stageEntry Reg.portMaxFrame 5 0 9000 base = some t) ∧ Accepts base (wq [1]) Reg.shadowDiscard 0 0 0 1 := by
  simp only [Accepts]
  exact ⟨rfl, List.Pairwise.nil, ⟨_, rfl⟩, by decide +kernel⟩

theorem base_opn : base.opn = Opn.reset := rfl

/-- An opening armed for tick 0, with one entry. -/
def armed0 : ArmedOpening :=
  { id := 9, tick := 0, count := 1, digest := 0, originator := 0, entries := [(objKey Reg.portMaxFrame 5 0, 9000)], cancelLate := false }
def arming : State := { base with opn := { base.opn with armed := some armed0 } }

/-- An ARM for tick 0 that waits. -/
def waits : WaitingArm :=
  { id := 9, tick := 0, deadline := 0, count := 1, digest := 0, participants := 1, serial := 1, peer := host }
def waitingArm : State := { base with opn := { base.opn with waiting := [waits] } }

/-- `OpeningAppliesEveryArmedEntry`: an opening whose tick has come, one to come, each reset, no route opening, no work, a late
ARM, a running Curator. -/
theorem wit_OpeningAppliesEveryArmedEntry :
    (arming.opn.armed = some armed0 ∧ armed0.tick ≤ r0 arming Reg.tickNumber) ∧
    (∀ a, base.opn.armed = some a → r0 base Reg.tickNumber < a.tick) ∧
    ((∀ k ∈ [1, 2, 3], r0 (w0 Reg.resetAtOpening k base) Reg.resetAtOpening = k) ∧ base.zut.arm = none ∧ base.workDue = none) ∧
    waitingArm.opn.waiting.find? (fun w => decide (w.id = BitVec.toNat (9 : BitVec 32)) &&
      decide (w.deadline ≤ waitingArm.counter / (125000 * 2 ^ 40))) = some waits ∧
    curatorRuns base = true :=
  ⟨by decide +kernel, by simp [base_opn, Opn.reset], by decide +kernel, by decide +kernel, by decide +kernel⟩

/-- `EntriesOfAnOpeningReplaceLiveValues`: two entries of different objects. -/
theorem wit_EntriesOfAnOpeningReplaceLiveValues : ∃ l : List (Nat × Nat), l.length = 2 ∧
    (∀ e ∈ l, keyIdx e.1 ≠ Reg.portGroupMode) ∧
    ((l.filterMap (fun e => (resolveKey base e.1).map (fun k => (k, e.2)))).map Prod.fst).Nodup :=
  ⟨[(objKey Reg.portMaxFrame 5 0, 9000), (objKey Reg.portMaxFrame 63 0, 64)], by decide +kernel⟩

/-- `InventoryIsAcceptedOnlyEarlyAndWithAFreeBank`: T at the deadline, one later, and with both banks taken. -/
theorem wit_InventoryIsAcceptedOnlyEarlyAndWithAFreeBank :
    (inventoryRequest 0 9 3 base).1 = 0 ∧ (inventoryRequest 0 9 2 base).1 = 0x0C ∧
    ¬ (r0 base Reg.tickNumber < 2 ∧ 0 < (2 - r0 base Reg.inventoryLead) * (125000 * 2 ^ 40)) ∧ 0 ≤ r0 base Reg.tickNumber ∧
    (∃ s, r0 s Reg.tickNumber < 3 ∧ 0 < (3 - r0 s Reg.inventoryLead) * (125000 * 2 ^ 40) ∧
      r1 s Reg.inventoryBankState 0 ≠ 0 ∧ r1 s Reg.inventoryBankState 1 ≠ 0) := by
  refine ⟨by decide +kernel, by decide +kernel, by decide +kernel, by decide +kernel,
    w1 Reg.inventoryBankState 1 1 (w1 Reg.inventoryBankState 0 2 base), by decide +kernel⟩

/-- Bank 1 armed for tick 0, and the same bank once it has captured. -/
def bankArmed : State := w1 Reg.inventoryBankState 1 1 (w1 Reg.inventoryBankId 1 9 base)
def bankCaptured : State := setBank 1 { Bank.free with captured := true } bankArmed

/-- `InventoryBanksCaptureFillAndFree`. -/
theorem wit_InventoryBanksCaptureFillAndFree :
    (r1 bankArmed Reg.inventoryBankState 1 = 1 ∧ (getBank bankArmed 1).captured = false ∧
      (getBank bankArmed 1).tick ≤ r0 bankArmed Reg.tickNumber) ∧
    ((getBank bankCaptured 1).captured = true ∧ r1 bankCaptured Reg.inventoryBankState 1 = 1) ∧
    r1 bankArmed Reg.inventoryBankState 0 ≠ 1 ∧
    Accepts base (wq [1]) Reg.inventoryRelease 0 0 0 1 := by
  simp only [Accepts]; decide +kernel

/-- Items whose answer is longer than 1,400 bytes (R69). -/
def manyItems : Bytes := (List.range 120).flatMap (fun _ => item Reg.shadowCount 0 0 [])

/-- `ReadRequestsReturnTheirItems`: an item, a torn item, too many, rows of a table, a BULK_READ cut short and one too long, an
object that may and one that may not be read, and rows of another length. -/
theorem wit_ReadRequestsReturnTheirItems :
    Asked base 3 (item Reg.shadowCount 0 0 []) ∧
    (∃ l, requestItems (got 3 (item Reg.shadowCount 0 0 []) base) = some l ∧
      l.foldl (fun a i => a + 10 + readLength (atTurn base) 0 i.idx i.sub) 0 ≤ 1400) ∧
    Asked base 3 [1] ∧ requestItems (got 3 [1] base) = none ∧
    Asked base 6 (bulk Reg.forwardingTable 0 7 3 16) ∧
    (leAt (bulk Reg.forwardingTable 0 7 3 16) 3 1 = 0 ∧
      leAt (bulk Reg.forwardingTable 0 7 3 16) 8 2 * leAt (bulk Reg.forwardingTable 0 7 3 16) 10 2 ≤ 1388) ∧
    (∃ l, requestItems (got 3 manyItems base) = some l ∧
      1400 < l.foldl (fun a i => a + 10 + readLength (atTurn base) 0 i.idx i.sub) 0) ∧
    (Asked base 6 [1] ∧ Asked base 6 (bulk Reg.forwardingTable 0 7 88 16) ∧ 1388 < 88 * 16) ∧
    (judge (atTurn base) .read 0 Reg.shadowCount 0 0 none = none ∧
      (visible (atTurn base) 0 Reg.shadowCount 0).isSome = true) ∧
    judge (atTurn base) .read 0 Reg.lorakKey 0 0 none = some 2 ∧ readLength (atTurn base) 0 Reg.shadowCount 0 ≠ 8 := by
  refine ⟨asked_of _ _ _ (by decide +kernel), ⟨[⟨Reg.shadowCount, 0, 0, []⟩], by decide +kernel⟩,
    asked_of _ _ _ (by decide +kernel), by decide +kernel, asked_of _ _ _ (by decide +kernel), by decide +kernel,
    ⟨List.replicate 120 ⟨Reg.shadowCount, 0, 0, []⟩, by decide +kernel⟩,
    ⟨asked_of _ _ _ (by decide +kernel), asked_of _ _ _ (by decide +kernel), by decide⟩,
    by decide +kernel, by decide +kernel, by decide +kernel⟩

/-- A SEAL item: row 63 of TenantMap. -/
def sealItem : Bytes := item Reg.tenantMap 0 63 (List.replicate 8 0)

/-- `WriteRequestsApplyTheirItems`: with a SEAL item that waits for its fuse, one that finds it burned, a BULK_WRITE of a SEAL object,
and one whose rows do not make its length. -/
theorem wit_WriteRequestsApplyTheirItems :
    Asked base 4 (item Reg.laneEnable 5 0 [1]) ∧
    requestItems (got 4 (item Reg.laneEnable 5 0 [1]) base) = some [⟨Reg.laneEnable, 5, 0, [1]⟩] ∧
    Asked base 4 [1] ∧ requestItems (got 4 [1] base) = none ∧
    Asked base 6 (bulk Reg.laneEnable 1 0 1 1 ++ [1]) ∧
    leAt (bulk Reg.laneEnable 1 0 1 1) 3 1 = 1 ∧
    Asked base 6 [1] ∧
    (Asked unsealed 4 sealItem ∧ requestItems (got 4 sealItem unsealed) =
        some [⟨Reg.tenantMap, 0, 63, List.replicate 8 0⟩] ∧
      (runWrites 0 (got 4 sealItem unsealed) 0 [⟨Reg.tenantMap, 0, 63, List.replicate 8 0⟩] (atTurn unsealed)).1 = some 0) ∧
    (∃ s, (runWrites 0 (got 4 sealItem s) 0 [⟨Reg.tenantMap, 0, 63, List.replicate 8 0⟩] s).1 = none) ∧
    (Asked unsealed 6 (bulk Reg.tenantMap 1 63 1 8 ++ List.replicate 8 0) ∧
      (runWrites 0 (got 6 (bulk Reg.tenantMap 1 63 1 8 ++ List.replicate 8 0) unsealed) 0
        (bulkItems (got 6 (bulk Reg.tenantMap 1 63 1 8 ++ List.replicate 8 0) unsealed)) (atTurn unsealed)).1 = some 0) ∧
    (Asked base 6 (bulk Reg.laneEnable 1 0 2 1 ++ [1]) ∧ leAt (bulk Reg.laneEnable 1 0 2 1) 3 1 = 1) ∧
    (itemHeld 0 ⟨Reg.tenantMap, 0, 63, List.replicate 8 0⟩ unsealed = true ∧ itemHeld 0 ⟨Reg.laneEnable, 5, 0, [1]⟩ unsealed = false) := by
  refine ⟨asked_of _ _ _ (by decide +kernel), by decide +kernel, asked_of _ _ _ (by decide +kernel), by decide +kernel,
    asked_of _ _ _ (by decide +kernel), by decide +kernel, asked_of _ _ _ (by decide +kernel),
    ⟨asked_of _ _ _ (by decide +kernel), by decide +kernel, by decide +kernel⟩,
    ⟨{ unsealed with vit := { unsealed.vit with wrote := true } }, by decide +kernel⟩,
    ⟨asked_of _ _ _ (by decide +kernel), by decide +kernel⟩, ⟨asked_of _ _ _ (by decide +kernel), by decide +kernel⟩,
    by decide +kernel⟩

/-- `StageRequestsFillTheShadow`. -/
theorem wit_StageRequestsFillTheShadow :
    Asked base 5 (item Reg.portMaxFrame 5 0 [0x28, 0x23]) ∧
    requestItems (got 5 (item Reg.portMaxFrame 5 0 [0x28, 0x23]) base) = some [⟨Reg.portMaxFrame, 5, 0, [0x28, 0x23]⟩] ∧
    Asked base 5 [1] ∧ requestItems (got 5 [1] base) = none ∧
    Asked base 6 (bulk Reg.portMaxFrame 2 0 1 2 ++ [0x28, 0x23]) ∧
    leAt (bulk Reg.portMaxFrame 2 0 1 2) 3 1 = 2 ∧
    (judge (atTurn base) .stage 0 Reg.portMaxFrame 5 0 (some [0x28, 0x23]) = none ∧ (∃ e, entryOf Reg.portMaxFrame 5 = some e)) ∧
    judge (atTurn base) .stage 0 Reg.tickNumber 0 0 (some (List.replicate 8 0)) = some 2 := by
  refine ⟨asked_of _ _ _ (by decide +kernel), by decide +kernel, asked_of _ _ _ (by decide +kernel), by decide +kernel,
    asked_of _ _ _ (by decide +kernel), by decide +kernel, ⟨by decide +kernel, _, rfl⟩, by decide +kernel⟩

/-- `ArmCancelAndInventoryRequests`: the requests; an ARM in time that matches and one that does not; CANCEL in time, late and
of nothing. -/
theorem wit_ArmCancelAndInventoryRequests :
    Asked base 7 (List.replicate 24 1) ∧
    Asked base 8 (List.replicate 4 1) ∧
    Asked base 9 (List.replicate 12 1) ∧
    (base.opn.waiting.filter (armLate base) = [] ∧ r0 base Reg.tickNumber < 100 ∧ tickOfReading 0 + r0 base Reg.armLead < 100 ∧
      base.opn.armed = none ∧ shadowMatches base 0 0 = true ∧ entriesAsleep base = false ∧ shadowMatches base 1 0 = false) ∧
    (arming.opn.waiting.filter (armLate arming) = [] ∧ arming.opn.armed = some armed0 ∧ armed0.id = 9 ∧
      armed0.tick ≤ tickOfReading 0 + 1) ∧
    (∃ (s : State) (a : ArmedOpening), s.opn.waiting.filter (armLate s) = [] ∧ s.opn.armed = some a ∧ tickOfReading 0 + 1 < a.tick) ∧
    (∀ a, base.opn.armed = some a → a.id ≠ 9) ∧ (∀ x ∈ base.opn.waiting, x.id ≠ 9) := by
  refine ⟨asked_of _ _ _ (by decide +kernel), asked_of _ _ _ (by decide +kernel), asked_of _ _ _ (by decide +kernel),
    by decide +kernel, by decide +kernel,
    ⟨{ base with opn := { base.opn with armed := some { armed0 with tick := 2 } } }, { armed0 with tick := 2 },
      by decide +kernel⟩, by simp [base_opn, Opn.reset],
    by simp [base_opn, Opn.reset]⟩

/-- `CollectSubscribeCloseAndUnknownRequests`: no bank of the id, a bank that is captured and not full, and a full one. -/
theorem wit_CollectSubscribeCloseAndUnknownRequests :
    Asked base 0x0B [3, 0, 0, 0] ∧
    Asked base 2 [] ∧
    Asked base 0 [] ∧
    Asked base 0x0C [] ∧
    Asked base 0x0A [9, 0, 0, 0, 0, 0, 0, 0, 1, 0] ∧
    bankOf (atTurn base) 9 = none ∧
    Asked bankCaptured 0x0A [9, 0, 0, 0, 0, 0, 0, 0, 1, 0] ∧
    (bankOf (atTurn bankCaptured) 9 = some 1 ∧ r1 (atTurn bankCaptured) Reg.inventoryBankState 1 = 1) ∧
    (∃ s, Asked s 0x0A [9, 0, 0, 0, 0, 0, 0, 0, 1, 0] ∧
      bankOf (atTurn s) 9 = some 1 ∧ r1 (atTurn s) Reg.inventoryBankState 1 ≠ 1) := by
  refine ⟨asked_of _ _ _ (by decide +kernel), asked_of _ _ _ (by decide +kernel), asked_of _ _ _ (by decide +kernel),
    asked_of _ _ _ (by decide +kernel), asked_of _ _ _ (by decide +kernel), by decide +kernel,
    asked_of _ _ _ (by decide +kernel), by decide +kernel,
    ⟨w1 Reg.inventoryBankState 1 2 bankCaptured, asked_of _ _ _ (by decide +kernel), by decide +kernel⟩⟩

/-- The OPEN arrives. -/
theorem arrives_open (s : State)
    (h : (pathUp s (svc 1 askOpen) = true ∧ framed 1 askOpen = true ∧ listens s .svc = true ∧
        svcUnescape (svc 1 askOpen).line = some (pduBytes 1 askOpen) ∧ 24 ≤ (pduBytes 1 askOpen).length ∧
        (pduBytes 1 askOpen).length ≤ 1440 ∧ (svc 1 askOpen).line ≠ [] ∧ (svc 1 askOpen).jtag = svcPortSelected s) ∧
      isMine s .svc askOpen = true ∧ svcWaiting s < 4) :
    Arrives s 1 (svc 1 askOpen) askOpen { opcode := 1, env := svc 1 askOpen, pdu := askOpen, received := s.counter } s :=
  ⟨reaches_svc _ _ _ h.1, by simp [arrivedIn, svc, svcLine], h.2.1, h.1.2.2.1, fun _ => h.2.2, by simp [askOpen, sealPdu], rfl⟩

/-- `SessionsOpenAndTimeOut`: slot 1 is free; with AuthRequired on SVC the OPEN fails. -/
theorem wit_SessionsOpenAndTimeOut :
    Arrives base 1 (svc 1 askOpen) askOpen
      { opcode := 1, env := svc 1 askOpen, pdu := askOpen, received := base.counter } base ∧
    (askOpen.payload.length = 12 ∧ leAt askOpen.payload 0 1 = 0 ∧ leAt askOpen.payload 1 1 ≤ 3 ∧
      (∀ k, k < 16 → sessionFor base k (requester (svc 1 askOpen) askOpen) = none) ∧
      r1 base Reg.lorakAuthRequired (transportIdx .svc) ≠ 1 ∧ r1 base Reg.sessionState 1 = 0 ∧
      (∀ k, k < 1 → r1 base Reg.sessionState k ≠ 0)) ∧
    (∃ s, Arrives s 1 (svc 1 askOpen) askOpen
        { opcode := 1, env := svc 1 askOpen, pdu := askOpen, received := s.counter } s ∧
      (∀ k, k < 16 → sessionFor s k (requester (svc 1 askOpen) askOpen) = none) ∧
      r1 s Reg.lorakAuthRequired (transportIdx .svc) = 1) ∧
    (getSession base 0 = some sess ∧ reaches base 0 = true) ∧ base.pwr.phase = .on ∧ serves base = true ∧
    base.tap.instruction ≠ 0x21 := by
  refine ⟨arrives_open _ (by decide +kernel), by decide +kernel,
    ⟨w1 Reg.lorakAuthRequired 0 1 base, arrives_open _ (by decide +kernel), by decide +kernel⟩, by decide +kernel,
    by decide +kernel, by decide +kernel⟩

/-- A PDU for address 7, from the SVC line, with HopLimit 3; a module with address 5 that routes it by port 11, whose
neighbour it sees. -/
def passing (hop : BitVec 8) (flags : BitVec 16) (dst : BitVec 16) (tag : BitVec 8) : Pdu :=
  sealPdu 3 { version := 1, flags := flags, dst := dst, src := 0, srcTag := tag, hop := hop, session := 0, status := 0,
              sequence := 6, payloadLength := 0, reserved := 0, payload := [], tag := [], crc := 0 }
def routed : State :=
  w1 Reg.adjacencyState 11 2 (wr Reg.managementRoutes 0 7 (2 ^ 31 + 11) (w0 Reg.fabricAddress 5
    { base with zut := { base.zut with carries := [11] } }))
def path64 : RelayPath := { tag := 64, peer := host }

theorem reaches_passing (hop : BitVec 8) (flags dst : BitVec 16) (tag : BitVec 8) (s : State)
    (h : pathUp s (svc 3 (passing hop flags dst tag)) = true ∧ framed 3 (passing hop flags dst tag) = true ∧
      listens s .svc = true ∧
      svcUnescape (svc 3 (passing hop flags dst tag)).line = some (pduBytes 3 (passing hop flags dst tag)) ∧
      24 ≤ (pduBytes 3 (passing hop flags dst tag)).length ∧ (pduBytes 3 (passing hop flags dst tag)).length ≤ 1440 ∧
      (svc 3 (passing hop flags dst tag)).line ≠ [] ∧ (svc 3 (passing hop flags dst tag)).jtag = svcPortSelected s) :
    Reaches s 3 (svc 3 (passing hop flags dst tag)) (passing hop flags dst tag) := reaches_svc _ _ _ h

/-- An MGT frame to the group address that Lorak takes, and one of another EtherType; an in-band one by port 63. -/
def mgtFrame (etherType : BitVec 16) : Envelope :=
  { transport := .mgt, port := 0, mac := 0, dest := BitVec.ofNat 48 lorakLinkMac, etherType := etherType, length := 64,
    line := [], jtag := false }
def inbandFrame : Envelope := { mgtFrame 0x88B5 with transport := .inband, port := 63 }

/-- `RelayAndAnswers`: no hop left, no route, a request and an answer to pass on, an answer for a host, a torn PDU and a bad
line, a stray MGT frame, a masked port. -/
theorem wit_RelayAndAnswers :
    (Reaches routed 3 (svc 3 (passing 0 0 7 2)) (passing 0 0 7 2) ∧ isMine routed .svc (passing 0 0 7 2) = false ∧
      r0 routed Reg.fabricAddress ≠ 0 ∧ (passing 0 0 7 2).hop = 0) ∧
    (Reaches routed 3 (svc 3 (passing 3 0 8 2)) (passing 3 0 8 2) ∧ isMine routed .svc (passing 3 0 8 2) = false ∧
      (passing 3 0 8 2).hop ≠ 0 ∧ routePort routed 8 = none) ∧
    (Reaches routed 3 (svc 3 (passing 3 0 7 2)) (passing 3 0 7 2) ∧ isMine routed .svc (passing 3 0 7 2) = false ∧
      routePort routed 7 = some 11 ∧
      originKind { opcode := 3, env := svc 3 (passing 3 0 7 2), pdu := passing 3 0 7 2, received := 0 } = some 3) ∧
    (Reaches routed 3 (svc 3 (passing 3 1 7 2)) (passing 3 1 7 2) ∧ (passing 3 1 7 2).flags.getLsbD 0 = true) ∧
    (∃ s : State, Reaches s 3 (svc 3 (passing 3 1 5 64)) (passing 3 1 5 64) ∧ listens s .svc = true ∧
      isMine s .svc (passing 3 1 5 64) = true ∧ (passing 3 1 5 64).dst ≠ 0 ∧ svcWaiting s < 4 ∧
      s.lrk.relay.find? (fun x => x.tag = (passing 3 1 5 64).srcTag.toNat) = some path64) ∧
    (listens base .svc = true ∧ svcUnescape (svcLine [0x7D, 0x55]).line = none ∧
      svcUnescape (svcLine [1]).line = some [1] ∧ (svcLine [1]).jtag = svcPortSelected base) ∧
    (∃ s, pathUp s (mgtFrame 0x88B5) = true ∧ listens s .mgt = true ∧ mgtAccepts s (mgtFrame 0x88B5) = true ∧
      mgtAccepts s (mgtFrame 0x800) = false ∧ framed 3 { passing 3 0 7 2 with crc := 0 } = false) ∧
    (∃ s, pathUp s inbandFrame = true ∧ lorakAccepts s 63 = false ∧ slotOf s 63 = some 63) ∧
    (∃ s, pathUp s inbandFrame = true ∧ lorakAccepts s 63 = true ∧ framed 3 { passing 3 0 7 2 with crc := 0 } = false ∧
      brokenHeartbeat s { opcode := 3, env := inbandFrame, pdu := { passing 3 0 7 2 with crc := 0 }, received := 0 } = false) ∧
    (∃ s p, pathUp s inbandFrame = true ∧ lorakAccepts s 63 = true ∧ framed 0x0C p = false ∧
      brokenHeartbeat s { opcode := 0x0C, env := inbandFrame, pdu := p, received := 0 } = true) ∧
    (∃ p, pathUp base (svcLine (svcEscape (pduBytes 3 p))) = true ∧ (svcLine (svcEscape (pduBytes 3 p))).line ≠ [] ∧
      (svcLine []).jtag = svcPortSelected base ∧ framed 3 p = false ∧
      svcUnescape (svcLine (svcEscape (pduBytes 3 p))).line = some (pduBytes 3 p)) ∧
    [1].length < 24 := by
  refine ⟨⟨reaches_passing _ _ _ _ _ (by decide +kernel), by decide +kernel⟩,
    ⟨reaches_passing _ _ _ _ _ (by decide +kernel), by decide +kernel⟩,
    ⟨reaches_passing _ _ _ _ _ (by decide +kernel), by decide +kernel⟩,
    ⟨reaches_passing _ _ _ _ _ (by decide +kernel), by decide +kernel⟩,
    ⟨{ routed with lrk := { routed.lrk with relay := [path64] } }, reaches_passing _ _ _ _ _ (by decide +kernel),
      by decide +kernel⟩, by decide +kernel,
    ⟨w0 Reg.mgtLinkState 3 base, by decide +kernel⟩,
    ⟨w0 Reg.lorakAcceptMask 0 (w1 Reg.laneState 63 7 base), by decide +kernel⟩,
    ⟨w0 Reg.lorakAcceptMask (2 ^ 63) (w1 Reg.laneState 63 7 base), by decide +kernel⟩,
    ⟨w0 Reg.fabricAddress 5 (w0 Reg.lorakAcceptMask (2 ^ 63) (w1 Reg.laneState 63 7 base)),
      { passing 3 1 5 2 with payload := [3], crc := 0 }, by decide +kernel⟩,
    ⟨{ passing 3 0 7 2 with crc := 0 }, by decide +kernel⟩, by decide⟩

/-- Lane k in a state; its port has this lane alone. -/
def laneIn (k state : Nat) (s : State := base) : State := w1 Reg.laneState k state s

/-- Lane 63 in a state, trained. -/
def trained (state : Nat) : State :=
  setLane 63 { getLane base 63 with used := { (getLane base 63).used with train := 1 } } (laneIn 63 state)

/-- A well-formed training header: the marker, then a byte and its complement. -/
def header : BitVec 48 := 0x1F350B6D00FF

/-- `LaneBringUpSteps`: the state each clause starts from, on the last lane. -/
theorem wit_LaneBringUpSteps :
    (r1 (laneIn 63 1) Reg.laneState 63 = 1 ∧ (laneIn 63 1).tap.held = false) ∧ r1 (laneIn 63 2) Reg.laneState 63 = 2 ∧ (r1 (laneIn 63 3) Reg.laneState 63 = 3 ∧
      ∀ n, (getLane (laneIn 63 3) 63).convRun = some n → 4096 ≤ n) ∧
    (∃ s, r1 s Reg.laneState 63 = 3 ∧ r1 s Reg.laneAdaptFrozen 63 = 1 ∧ (getLane s 63).convRun = some 4096) ∧
    r1 (laneIn 63 4) Reg.laneState 63 = 4 ∧
    ((getLane (trained 6) 63).used.train = 1 ∧ trainingCheck header.toNat = true ∧ 4 ≤ r1 (trained 6) Reg.laneState 63 ∧
      r1 (trained 6) Reg.laneState 63 ≤ 6) ∧
    r1 (laneIn 63 9) Reg.laneState 63 = 9 := by
  have e : (getLane (laneIn 63 3) 63).convRun = none := by decide +kernel
  exact ⟨by decide +kernel, by decide +kernel, ⟨by decide +kernel, by simp [e]⟩,
    ⟨setLane 63 { getLane base 63 with convRun := some 4096 } (w1 Reg.laneAdaptFrozen 63 1 (laneIn 63 3)), by decide +kernel⟩,
    by decide +kernel, by decide +kernel, by decide +kernel⟩

/-- Lanes 62 and 63 form one port; both in one state. -/
def pairIn (state : Nat) : State := laneIn 62 state (laneIn 63 state (w1 Reg.portGroupMode 31 3 base))

/-- `LanesEnterAndLeaveUp`: a port of two lanes and one of one lane; UP and before it; the limit of a state. -/
theorem wit_LanesEnterAndLeaveUp :
    ((lanesOfSlot (pairIn 5) 62).length = 2 ∧ (∀ j ∈ lanesOfSlot (pairIn 5) 62, r1 (pairIn 5) Reg.laneState j = 5) ∧
      portOrder (pairIn 5) 62 true = some true) ∧
    ((lanesOfSlot (laneIn 63 5) 63).length = 1 ∧ (∀ j ∈ lanesOfSlot (laneIn 63 5) 63, r1 (laneIn 63 5) Reg.laneState j = 5) ∧
      (getLane (laneIn 63 5) 63).used.train = 0) ∧
    (lanesOfSlot (pairIn 6) 62 ≠ [] ∧ (∀ j ∈ lanesOfSlot (pairIn 6) 62, r1 (pairIn 6) Reg.laneState j = 6) ∧
      ((([200 * 65536, 0] : List (BitVec 64)).getD 0 0).toInt - (([200 * 65536, 0] : List (BitVec 64)).getD 1 0).toInt).natAbs ≤
        200 * 65536) ∧
    (r1 (laneIn 63 7 (w1 Reg.portGroupMode 31 6 base)) Reg.laneState 63 = 7 ∧
      hasFec (laneIn 63 7 (w1 Reg.portGroupMode 31 6 base)) 63 = false) ∧
    (3 ≤ r1 (laneIn 63 3) Reg.laneState 63 ∧ r1 (laneIn 63 3) Reg.laneState 63 ≤ 6) ∧
    laneDeadline (pairIn 6) 62 = some (10 ^ 10) := by decide +kernel

/-- `LinksFollowTheirLanes`: a change of lane 63 alone changes its link, and one of lane 62 leaves that link. -/
theorem wit_LinksFollowTheirLanes :
    (linkStateOf (laneIn 62 1) (2 * 31) = linkStateOf base (2 * 31) ∧
      linkStateOf (laneIn 62 1) (2 * 31 + 1) = linkStateOf base (2 * 31 + 1)) ∧
    linkStateOf (laneIn 62 7) (2 * 31) ≠ linkStateOf base (2 * 31) ∧ linkStateOf (laneIn 62 7) 62 = 1 ∧
    linkStateOf (laneIn 62 8) 62 = 2 ∧
    (62 ∈ portLanes (pairIn 7) 63 ∧ r1 (pairIn 7) Reg.laneState 62 = 7) := by decide +kernel

/-- `AdaptationReserveAndEye`: the states in which windows are judged and eyes scanned, and each phase of a handover. -/
theorem wit_AdaptationReserveAndEye :
    r1 (laneIn 63 3) Reg.laneState 63 ∈ [3, 7] ∧ r1 (laneIn 63 7) Reg.laneState 63 ∈ [3, 7] ∧
    (∀ n ∈ [1, 2, 3, 4, 5], r1 (w1 Reg.reserveState 63 n (laneIn 63 7)) Reg.reserveState 63 = n) ∧
    (r1 (laneIn 63 8) Reg.laneState 63 ∈ [7, 8] ∧ r1 (laneIn 63 8) Reg.reserveState 63 = 0) := by decide +kernel

/-- Port 63 with its lane UP. -/
def up : State := laneIn 63 7

/-- The module with port groups 0-30 off: its port 1 is slot 63. -/
def few (s : State) : State := (List.range 31).foldl (fun s g => w1 Reg.portGroupMode g 0 s) s
def fewUp : State := few up

/-- A frame of 64 bytes in reception that no cell holds; 64 bytes of a frame in error. -/
def rx0 : RxSt := RxSt.mk none 9216 0 0 0 [] [] none false none 0 0 0
def receiving : State := setPort 63 { getPort fewUp 63 with rx := some rx0 } fewUp
def badFrame : Bytes := List.replicate 64 0

/-- `ReceptionJudgesFramesInOrder`: no frame in reception, one in reception, one whose limit changed while it came, one that
starts a cell, a domain that does not run, a link that is down. -/
theorem wit_ReceptionJudgesFramesInOrder :
    (slotOf (judgeGates (elapse 0 fewUp)) 1 = some 63 ∧ running (judgeGates (elapse 0 fewUp)) 4 = true ∧
      linkStateOf (judgeGates (elapse 0 fewUp)) 63 = 1 ∧ (getPort (judgeGates (elapse 0 fewUp)) 63).rx = none) ∧
    ((getPort (judgeGates (elapse 0 receiving)) 63).rx = some rx0 ∧ slotOf (judgeGates (elapse 0 receiving)) 1 = some 63) ∧
    (badFrame.length ≤ 128 ∧ verdictOf badFrame (r1 fewUp Reg.portMaxFrame 63) .error ≠ .legal) ∧
    (128 < (List.replicate 200 (0 : Byte)).length ∧
      (getPort (firstCell 1 63 (List.replicate 200 0) [] (judgeGates (elapse 0 fewUp))) 63).rx.isSome = true) ∧
    running (judgeGates (elapse 0 State.reset)) 4 = false ∧
    (slotOf (judgeGates (elapse 0 (few base))) 1 = some 63 ∧ linkStateOf (judgeGates (elapse 0 (few base))) 63 ≠ 1 ∧
      (getPort (judgeGates (elapse 0 (few base))) 63).rx = none) := by
  refine ⟨by decide +kernel, by decide +kernel, by decide +kernel, by decide +kernel, by decide +kernel, by decide +kernel⟩

/-- Port 63 held by PAUSE and PFC, with a control frame waiting; with class 7 in Xoff and a refresh due. -/
def held63 : State := setPort 63 { getPort up 63 with
  pauseEnd := 5000, pfcEnd := [(7, 6000)], controls := [{ pfc := false, enable := 0, times := [0xFFFF] }] } up
def xoff63 : State := { setPort 63 { getPort up 63 with refresh := 4000 } up with
  core := { up.core with accts := [(63 * 8 + 7, { g := 0, s := 0, h := 0, xoff := true })] } }

/-- `FlowControlTimersAndFrames`. -/
theorem wit_FlowControlTimersAndFrames :
    (slotOf up 63 = some 63 ∧ running up 4 = true ∧ linkStateOf up 63 = 1) ∧
    (slotOf held63 63 = some 63 ∧ running held63 4 = true ∧ timerEnd held63 63 .pause ≠ 0 ∧ timerEnd held63 63 (.pfc 7) ≠ 0 ∧
      linkStateOf held63 63 = 1 ∧ (getPort held63 63).tx = none ∧ (getPort held63 63).controls ≠ [] ∧
      (getPort held63 63).lineUntil ≤ held63.now) ∧
    (∃ s, slotOf s 63 = some 63 ∧ running s 4 = true ∧ linkStateOf s 63 = 2 ∧ pcsLoopback s 63 = true ∧
      (getPort s 63).tx = none ∧ (getPort s 63).controls ≠ [] ∧ (getPort s 63).lineUntil ≤ s.now) ∧
    (slotOf xoff63 63 = some 63 ∧ running xoff63 4 = true ∧ (getPort xoff63 63).refresh ≠ 0 ∧ xoffMask xoff63 63 ≠ 0) := by
  exact ⟨by decide +kernel, by decide +kernel, ⟨w1 Reg.loopbackMode 63 3 (laneIn 63 8 held63), by decide +kernel⟩,
    by decide +kernel⟩

/-- A whole frame of class 7 for port 63, its copy at the head of the queue; and the same copy in transmission. -/
def frame0 : Frame :=
  { id := 0, origin := .ingress 0, cls := 7, vid := 1, bytes := List.replicate 64 0, cells := 1, banks := [0], arrival := 0,
    whole := true, stomp := false, refs := [63], pcIds := [], pcAt := 0, selected := none, startAt := 0 }
def queued : State := { setPort 63 { getPort up 63 with
  queue := [{ frame := 0, cls := 7, cut := false, residue := false, deferred := false }] } up with
  core := { up.core with frames := [(0, frame0)], nextId := 1 } }
def sending : State := { setPort 63 { getPort up 63 with
  tx := some { frame := 0, cls := 7, cut := false, residue := false, startAt := 0, struck := 0 } } up with
  core := { up.core with frames := [(0, frame0)], nextId := 1 } }

/-- `EgressCopiesLeaveQueuesInOrder`: a start, nothing to start, an end, an ageing, a promotion. -/
theorem wit_EgressCopiesLeaveQueuesInOrder :
    (slotOf (few queued) 1 = some 63 ∧ running (few queued) 4 = true ∧ carriesFrames (few queued) 63 = true ∧ (getPort (few queued) 63).tx = none ∧
      (getPort (few queued) 63).controls = [] ∧ (getPort (few queued) 63).lineUntil ≤ (few queued).now ∧ selectQueue (judgeGates (elapse 0 (few queued))) 63 = some 7 ∧
      selectQueue (judgeGates (elapse 0 fewUp)) 63 = none) ∧
    (slotOf (few sending) 1 = some 63 ∧ (getPort (judgeGates (elapse 0 (few sending))) 63).tx = some ⟨0, 7, false, false, 0, 0⟩ ∧
      getFrame (judgeGates (elapse 0 (few sending))) 0 = some frame0 ∧ frame0.whole = true) ∧
    (headOf queued 63 7 = some ⟨0, 7, false, false, false⟩ ∧ getFrame queued 0 = some frame0) ∧
    (r1 (w1 (Reg.starveLimit + 7) 63 100 queued) (Reg.starveLimit + 7) 63 ≠ 0 ∧
      isPromoted (w1 (Reg.starveLimit + 7) 63 100 queued) 63 7 = false ∧
      r1 (w1 (Reg.starveLimit + 7) 63 100 queued) (Reg.starveLimit + 7) 63 <
        r1 (w1 (Reg.starveLimit + 7) 63 100 queued) Reg.maxResidence 7) := by decide +kernel

/-- Port 63 with a gate list of one entry that is open for 10 µs, and a learned row in the forwarding table. -/
def gated : State := { setGate 63 { getGate base 63 with
  retained := some { entries := [(0xFF, 10000)], cycle := 10000 }, switchAt := 10 ^ 9 } base with
  core := { base.core with sweepAt := 5000 } }

/-- `GatesAndForwardingTableAge`. -/
theorem wit_GatesAndForwardingTableAge :
    running gated 4 = true ∧ slotOf gated 63 = some 63 ∧ (∃ v, nextGateBoundary gated 63 gated.counter = some v) ∧
    (getGate gated 63).retained ≠ none ∧ (getGate { gated with counter := 10 ^ 9 } 63).switchAt ≤ 10 ^ 9 ∧
    gated.counter < (getGate gated 63).switchAt ∧ (getGate gated 62).retained = none ∧ gated.core.sweepAt ≠ 0 := by
  refine ⟨by decide +kernel, by decide +kernel, ?_, by decide +kernel, by decide +kernel, by decide +kernel, by decide +kernel,
    by decide +kernel⟩
  exact Option.isSome_iff_exists.1 (by decide +kernel)

/-- Group 255 of the combiner in use with one window row; an open window of it; a frame that waits; a retained layout. -/
def grouped : State := servoIn 1 (w1 Reg.windowCount 0 1 (wr Reg.windowTable 0 0 (2 ^ 32 + 1000)
  (wr Reg.groupState 0 255 1 base)))
def win0 : Window :=
  { group := 255, ms := 0, row := 0, openAt := 0, closeAt := 2 ^ 52, groupRow := 0, acc := [], supplied := [], present := [] }
def opened : State := { grouped with comb := { grouped.comb with
  windows := [win0], waiting := [⟨0, 0, 0⟩], switchAt := 7
  retained := some { groups := [], windows := [], counts := [] } } }

/-- A frame of group 255's first contributor (row 0 of it) that carries no section, and one that stops within its eCPRI header. -/
def contribution (ecpri : Bytes) : State := { grouped with core := { grouped.core with frames := [(0, { frame0 with
  bytes := List.replicate 12 0 ++ [0xAE, 0xFE] ++ ecpri ++ List.replicate (64 - ecpri.length) 0 })] } }
def whole0 : Bytes := [0x10, 0, 0, 4, 0, 0, 0, 0]
def row255 : Nat := 255 * 2 ^ 55

/-- `CombinerWindowsOpenAddAndClose`. -/
theorem wit_CombinerWindowsOpenAddAndClose :
    (running grouped 7 = true ∧ servoUnset grouped = false ∧ rd grouped Reg.groupState 0 255 = 1 ∧
      0 < windowCountOf grouped (grpTable (groupRowOf grouped 255))) ∧
    running opened 7 = true ∧ opened.comb.waiting ≠ [] ∧ grouped.comb.waiting = [] ∧
    win0 ∈ opened.comb.windows.filter (fun w => w.group = 255) ∧ opened.comb.retained ≠ none ∧
    (∃ f e, getFrame (contribution whole0) 0 = some f ∧ e = ecpriOf (contribution whole0) f.bytes ∧ beAt e 0 1 / 16 = 1 ∧
      beAt e 0 1 % 2 = 0 ∧ beAt e 2 2 + 4 ≤ e.length - 4 ∧ (cutSections (beAt e 2 2 / 8 + 1) (slice e 8 (beAt e 2 2 - 4))).2 = true ∧
      4 ≤ beAt e 2 2 ∧ rd (contribution whole0) Reg.groupState 0 (ctrGroup row255) = 1) ∧
    (∃ f, getFrame (contribution [0x20]) 0 = some f ∧ beAt (ecpriOf (contribution [0x20]) f.bytes) 0 1 / 16 ≠ 1) := by
  refine ⟨by decide +kernel, by decide +kernel, by decide +kernel, by decide +kernel, by decide +kernel, by decide +kernel,
    ⟨_, _, rfl, rfl, by decide +kernel⟩, ⟨_, rfl, by decide +kernel⟩⟩

/-- Measurement slot 7 with its start taken; frequency slot 7 at the end of a whole gate and 6 at that of one with a gap. -/
def bound0 : GateBound := { edge := 0, number := 0, cycle := 0, slew := 0 }
def measuring : State := { base with tdc := { base.tdc with
  meas := [(7, { armed := true, start := some (5, 0), stop := none, firstCycle := 3 })]
  freq := [(6, { freqInit with running := true, gap := true }),
    (7, { freqInit with running := true, startTick := some 1, first := some bound0, last := some bound0 })] } }

/-- Slot 7 armed in a mode, from channel 0 to channel `stop`. -/
def awaiting (mode stop : Nat) : State := w1 Reg.tdcMeasureConfig 7 (mode * 2 ^ 30 + stop)
  { base with tdc := { base.tdc with meas := [(7, { measInit with armed := true })] } }

/-- `TickResultsAndIntervals`: a channel with and one without a tick result, a start and a stop taken in each mode, the slots
of `measuring`. -/
theorem wit_TickResultsAndIntervals : hasTickResult 0x43 = true ∧ hasTickResult 0x44 = false ∧
    (∀ mode ∈ [1, 2, 3], (getMeas (elapse 0 (awaiting mode 5)) 7).armed = true ∧
      (getMeas (elapse 0 (awaiting mode 5)) 7).start = none ∧ (getMeas (elapse 0 (awaiting mode 5)) 7).stop = none ∧
      measMode (awaiting mode 5) 7 = mode ∧ oneEdge (awaiting mode 5) 7 = false ∧
      givesEdge (awaiting mode 5) (startChannel (awaiting mode 5) 7) (startSense (awaiting mode 5) 7) = true ∧
      (stampEdge (startChannel (awaiting mode 5) 7) ⟨0, 1, none⟩ (awaiting mode 5)).1.isSome = true ∧
      givesEdge (awaiting mode 5) (stopChannel (awaiting mode 5) 7) (stopSense (awaiting mode 5) 7) = true ∧
      (stampEdge (stopChannel (awaiting mode 5) 7) ⟨0, 1, none⟩ (awaiting mode 5)).1.isSome = true) ∧
    oneEdge (awaiting 1 0) 7 = true ∧
    ((getMeas measuring 7).start.isSome ∨ (getMeas measuring 7).stop.isSome) ∧
    ((getFreq measuring 6).running = true ∧ (getFreq measuring 6).gap = true) ∧
    ((getFreq measuring 7).running = true ∧ (getFreq measuring 7).gap = false ∧
      (getFreq measuring 7).startTick.isSome = true ∧ (getFreq measuring 7).left = 0 ∧
      (getFreq measuring 7).first = some bound0 ∧ (getFreq measuring 7).last = some bound0) := by decide +kernel

/-- A stand-in of channel 3 in a step, begun in tick 0, in tick 1000. -/
def standIn (step : Nat) (reserve : Option Nat) : StandIn :=
  { step := step, since := 0, reserve := reserve, d := 0, oldTaps := [], oldEps := 0, oldSource := 0, measured := [],
    residual := 0, selfTest := false, back := 1, diffs := [] }
def standing (step : Nat) (reserve : Option Nat) : State := w0 Reg.tickSequence 1000 { base with tdc := { base.tdc with
  standIns := [(3, standIn step reserve)], selfTest := some (3, 0) } }

/-- Each phase captures n edges at each of 200 taps. -/
def flat (n : Nat) : List Nat := (List.range 1024).map (fun j => if j % 256 < 200 then n else 0)

theorem flat_at (n k i : Nat) (hk : k < 4) (hi : i < 256) : histAt (flat n) k i = if i < 200 then n else 0 := by
  have h : 256 * k + i < 1024 := by omega
  have m : (256 * k + i) % 256 = i := by omega
  simp [histAt, flat, h, m]

theorem flat_tap (n i : Nat) (hi : i < 256) : tapEdges (flat n) i = if i < 200 then 4 * n else 0 := by
  simp only [tapEdges, flat_at n 0 i (by decide) hi, flat_at n 1 i (by decide) hi, flat_at n 2 i (by decide) hi,
    flat_at n 3 i (by decide) hi]
  split <;> omega

theorem flat_top (n k : Nat) (hn : 0 < n) (hk : k < 4) : phaseTop (flat n) k = 200 := by
  rw [phaseTop, List.foldl_ext _ (fun a i => if i < 200 then i + 1 else a) _
    (fun a i h => by rw [flat_at n k i hk (List.mem_range.1 h)]; by_cases c : i < 200 <;> simp [c, hn])]
  decide +kernel

theorem flat_reach (n i : Nat) (hn : 0 < n) : phasesReaching (flat n) i = if i < 200 then 4 else 0 := by
  have h : (List.range 4).filter (fun k => decide (i < phaseTop (flat n) k)) = (List.range 4).filter (fun _ => decide (i < 200)) :=
    List.filter_congr (fun k h => by rw [flat_top n k hn (List.mem_range.1 h)])
  simp only [phasesReaching, h]
  by_cases c : i < 200 <;> simp [c]

/-- Where the check set implies the run's own widths, no position is off. -/
theorem positionErrors_exact (r : CodeDensity) : ∀ l : List Nat,
    (∀ i ∈ l, phasesReaching r.hist i ≠ 0 → checkWidth r i = Rat.ofInt (tapWidthOf r.hist i)) →
    ∀ x ∈ positionErrors r l 0, x = 0
  | [], _, x, hx => by simp [positionErrors] at hx
  | i :: t, h, x, hx => by
    have ih := positionErrors_exact r t (fun j hj => h j (by simp [hj]))
    by_cases c : phasesReaching r.hist i = 0
    · simp only [positionErrors, c, if_true] at hx
      exact ih x hx
    · have e : checkWidth r i - Rat.ofInt (tapWidthOf r.hist i) = 0 := by rw [h i (by simp) c]; ring
      simp only [positionErrors, c, if_false, e, mul_zero, add_zero, List.mem_cons] at hx
      exact hx.elim id (ih x)

theorem squares_zero : ∀ l : List Rat, (∀ x ∈ l, x = 0) → l.foldl (fun a x => a + x * x) 0 = 0
  | [], _ => rfl
  | x :: t, h => by
    have e : x = 0 := h x (by simp)
    simpa [e] using squares_zero t (fun y hy => h y (by simp [hy]))

/-- 5,000 edges at each tap of the run and 1,250 of the check set, which imply the same widths. -/
def goodRun : CodeDensity := { hist := flat 5000, check := flat 1250 }

theorem goodRun_residual : residualSquare goodRun = 0 := by
  have e : ∀ x ∈ positionErrors goodRun (List.range 256) 0, x = 0 :=
    positionErrors_exact _ _ (fun i hi hr => by
      have c : i < 200 := by
        by_contra c
        exact hr (by rw [goodRun, flat_reach 5000 i (by omega), if_neg c])
      simp only [checkWidth, tapWidthOf, goodRun, flat_reach 5000 i (by omega), flat_tap _ i (List.mem_range.1 hi), c, if_true]
      decide +kernel)
  show List.foldl _ 0 (positionErrors goodRun (List.range 256) 0) / _ * _ = 0
  rw [squares_zero _ e, zero_div, zero_mul]

theorem goodRun_passes : codeDensityFails goodRun = false := by
  have sums : ∀ k ∈ List.range 4, phaseEdges goodRun.hist k = 1000000 := by decide +kernel
  have zero := goodRun_residual
  simp only [codeDensityFails, Bool.or_eq_false_iff, List.any_eq_false, List.mem_range]
  refine ⟨⟨⟨fun i hi => ?_, fun k hk => by simp [sums k (List.mem_range.2 hk)]⟩, fun k hk => ?_⟩, ?_⟩
  · simp only [goodRun, flat_reach 5000 i (by omega), flat_tap 5000 i hi]
    by_cases c : i < 200 <;> simp [c]
  · simp [goodRun, flat_at 5000 k 255 hk (by omega)]
  · simp only [zero]
    decide +kernel

/-- A stand-in of pulse input 0x44, which gives edges, in step 1 or 3 with 16 differences. -/
def compared (step : Nat) (diffs : List Rat) : StandIn := { standIn step (some 0x48) with diffs := diffs }
def comparing (step : Nat) (diffs : List Rat) : State := { base with tdc := { base.tdc with
  standIns := [(0x44, compared step diffs)], lastStamp := [(0x44, 0)] } }
def spread : List Rat := (List.range 16).map (fun k => if k % 2 = 0 then 40 else -40)

/-- `StandInsRunsAndSelfTests`: trial and comparison without edges, with equal and with spread differences; a run that fails and one
that passes, with and without a reserve; a self-test that ends, alone and within a stand-in. -/
theorem wit_StandInsRunsAndSelfTests :
    (∀ step ∈ [1, 3], getSI (standing step none) 3 = some (standIn step none) ∧ (standIn step none).step = step ∧
      inputFailed (standing step none) 3 (standIn step none) = true ∧
      (slowChannel (standing step none) 3 && hasEdges (standing step none) 3) = false ∧
      0 + 64 ≤ r0 (standing step none) Reg.tickSequence) ∧
    (∀ step ∈ [1, 3], ∀ d ∈ [List.replicate 16 (0 : Rat), spread], getSI (comparing step d) 0x44 = some (compared step d) ∧
      (slowChannel (comparing step d) 0x44 && hasEdges (comparing step d) 0x44) = true ∧ 16 ≤ d.length ∧
      inputFailed (comparing step d) 0x44 (compared step d) = false) ∧
    (tooWide (List.replicate 16 0) = false ∧ tooWide spread = true) ∧
    (∀ r ∈ [none, some 0x48], getSI (standing 2 r) 3 = some (standIn 2 r) ∧ (standIn 2 r).selfTest = false ∧
      0 + 672 ≤ r0 (standing 2 r) Reg.tickSequence) ∧
    codeDensityFails { hist := [], check := [] } = true ∧
    codeDensityFails goodRun = false ∧
    ((standing 2 none).tdc.selfTest = some (3, 0) ∧ 0 + 32 ≤ r0 (standing 2 none) Reg.tickSequence) ∧
    (∃ s, s.tdc.selfTest = some (3, 0) ∧ 0 + 32 ≤ r0 s Reg.tickSequence ∧ getSI s 3 = none) := by
  refine ⟨by decide +kernel, by decide +kernel, by decide +kernel, by decide +kernel, by decide +kernel, goodRun_passes,
    by decide +kernel, ⟨{ standing 2 none with tdc := { (standing 2 none).tdc with standIns := [] } }, by decide +kernel⟩⟩

/-- A reference input's section state. -/
def refAt (i : Nat) (x : RefIn → RefIn) (s : State) : State := { s with refs := { s.refs with ins := [(i, x (getRef s i))] } }

/-- `ReferencesAndTheLoop`: a pulse and a ticked input about to be absent, a wait that ends, a disqualification, a regain. -/
theorem wit_ReferencesAndTheLoop :
    (∃ s, (getRef s 0x44).present = true ∧ perEdge s 0x44 = true) ∧
    (∃ s, (getRef s 3).present = true ∧ perEdge s 3 = false ∧ validResult s 3 (r0 s Reg.tickNumber) = none ∧
      7 ≤ (getRef s 3).invalid) ∧
    (∃ s, refStateOf s 3 = 2 ∧ offMagnitude s 3 ≤ bandOf s 3 ∧ waitDone s 3 = true) ∧
    (∃ s, refStateOf s 3 = 5 ∧ bandOf s 3 < offMagnitude s 3 ∧ 7999 ≤ (getRef s 3).beyond) ∧
    (∃ s r, r0 s Reg.loopState = 1 ∧ perEdge s (refSelected s) = false ∧ s.refs.done = false ∧
      validResult s (refSelected s) (r0 s Reg.tickNumber) = some r ∧
      r0 (regainUpdate (refSelected s) ((resPhase r : Nat) : Rat) s) Reg.loopState = 2) ∧
    (∃ s, r0 s Reg.timeBaseSource = 1) := by
  refine ⟨⟨refAt 0x44 (fun x => { x with present := true }) base, by decide +kernel⟩,
    ⟨refAt 3 (fun x => { x with present := true, invalid := 7 }) base, by decide +kernel⟩,
    ⟨refAt 3 (fun x => { x with waited := 10 ^ 9 }) (w1 Reg.refState 3 2 base), by decide +kernel⟩,
    ⟨refAt 3 (fun x => { x with beyond := 7999 }) (w1 Reg.refOffset 3 (10 ^ 17) (w1 Reg.refState 3 5 base)), by decide +kernel⟩,
    ⟨{ w1 Reg.tdcTickResult 3 (2 ^ 144) (w0 Reg.refSelected 3 (w0 Reg.loopState 1 base)) with
      refs := { base.refs with okRun := 10 ^ 9 } }, 2 ^ 144, by decide +kernel⟩,
    ⟨w0 Reg.timeBaseSource 1 base, by decide +kernel⟩⟩

/-- Pulse input 1 with its ToD line on and an edge 20 ms ago; a port in SLAVE with an Announce; a leap second pending. -/
def pulsed : State := { refAt 0x45 (fun x => { x with lastEdge := some 0, edgeAt := 0 }) (w1 Reg.todBaud 0x45 1 base) with
  now := 20 * 10 ^ 9 }
def ptpMsg0 : PtpMsg :=
  { line := { dest := 0x0180C200000E, sender := 0, tagged := false, etherType := 0x88F7, length := 64 }, logInterval := -7
    domain := 0, sequenceId := 4, twoStep := true, seconds := 0, nanos := 0, correction := 0, specific := 0, source := 0,
    requesting := 0 }
def ann0 : AnnounceMsg :=
  { head := ptpMsg0, utcOffset := 37, utcValid := true, leap61 := false, leap59 := false, ptpTimescale := true,
    priority1 := 128, clockClass := 6, clockAccuracy := 0, variance := 0, priority2 := 128, identity := 1, stepsRemoved := 0 }
def following (state : Nat) : State := w1 Reg.ptpPortProfile 63 1 (w1 Reg.ptpPortState 63 state { up with
  ptp := [(63, { ptpInit with announce := some (ann0, 0) })] })

/-- A ToD message of 20 bytes with its CRC. -/
def todBytes : Bytes :=
  let body : Bytes := [0x4B, 0x54, 1, 0, 1, 0, 0, 0, 0, 0, 0, 0, 0, 0, 0, 0]
  body ++ bytesLE 4 (crc32c body)

/-- `PulseInputsTimeOfDayAndLeapSecond`. -/
theorem wit_PulseInputsTimeOfDayAndLeapSecond :
    (stampEdge (pulseChannel 1) ⟨0, 1, none⟩ (elapse 0 pulsed)).1.isSome = true ∧
    (∃ s, (stampEdge (pulseChannel 1) ⟨0, 1, none⟩ s).1 = none) ∧
    r1 base Reg.todBaud 0x45 = 0 ∧ r1 pulsed Reg.todBaud 0x45 ≠ 0 ∧
    (todWellFormed todBytes true && todInTime pulsed 0x45) = false ∧
    (todWellFormed todBytes false && todInTime pulsed 0x45) = true ∧
    (parentSlot (following 9) = some 63 ∧ (getPtp (following 9) 63).announce = some (ann0, 0) ∧
      tickSeq (following 9) < 0 + 3000 ∧ 0 + 3000 ≤ tickSeq (w0 Reg.tickSequence 3000 (following 9))) ∧
    (r0 (w0 Reg.leapPending 2 base) Reg.leapPending ≠ 0 ∧ (w0 Reg.leapPending 2 base).servo.leapFrom = none) ∧
    r0 base Reg.leapPending = 0 := by
  refine ⟨by decide +kernel,
    ⟨{ base with tdc := { base.tdc with lastStamp := [(0x45, fineStamp base 0x45 ⟨0, 1, none⟩ - 1)] } }, by decide +kernel⟩, by decide +kernel, by decide +kernel, by decide +kernel, by decide +kernel,
    by decide +kernel, by decide +kernel, by decide +kernel⟩

/-- Synthesiser 3 enabled and in a state; pulse output 3 in a mode. -/
def synIn (state : Nat) (s : State := base) : State := w1 Reg.synConfig 3 (2 ^ 31) (w1 Reg.synState 3 state s)
def plsIn (mode : Nat) (p : PlsSt) : State := w1 Reg.plsPeriod 3 1000 (w1 Reg.plsMode 3 mode { base with plss := [(3, p)] })

/-- `SynthesisersAndPulses`. -/
theorem wit_SynthesisersAndPulses :
    (synEnabled (synIn 1) 3 = true ∧ synRuns (synIn 1) 3 = true) ∧ synRelocking (synIn 4) 3 = true ∧
    (synEnabled (synIn 4) 3 = true ∧ synRelocking (synIn 4) 3 = true ∧ (getSyn (synIn 4) 3).locked = false) ∧
    (∃ s, (getSyn s 3).restartDue = true) ∧
    (plsModeOf (plsIn 2 { plsInit with aligned := true }) 3 = 2 ∧
      (getPls (plsIn 2 { plsInit with aligned := true }) 3).aligned = true) ∧
    (getPls (plsIn 1 { plsInit with due := [(65536, 0)] }) 3).due = [(65536, 0)] ∧
    (∀ w ∈ [base, plsIn 1 { plsInit with due := [] }, plsIn 2 { plsInit with aligned := true }],
      pulseHeld w 3 = false ∧ (getPls w 3).endAt = 0) ∧
    (plsModeOf (plsIn 1 plsInit) 3 = 1 ∧
      (getRef (plsIn 1 plsInit) (r1 (plsIn 1 plsInit) Reg.plsSource 3)).present = false) ∧
    (getPls (plsIn 2 { plsInit with alignDue := true }) 3).alignDue = true := by
  refine ⟨by decide +kernel, by decide +kernel, by decide +kernel, ⟨setSyn 3 { getSyn base 3 with restartDue := true } base, by decide +kernel⟩,
    by decide +kernel, by decide +kernel, by decide +kernel, by decide +kernel, by decide +kernel⟩

/-- Port 63 in MASTER with the servo in LOCKED and an answer due; in SLAVE with a Sync, a request and an Announce. -/
def master : State := servoIn 2 (w1 Reg.ptpPortProfile 63 1 (w1 Reg.ptpPortState 63 6 { up with
  ptp := [(63, { ptpInit with resps := [{ source := 5, seq := 6, t4 := 7 }] })] }))
def sync0 : SyncSt :=
  { seq := 4, t1 := none, corr := 0, t2 := 9, twoStep := true, coarse := false, partnerCoarse := false, steps := 0,
    stepTo := none }
def slave (t1 : Option Int) : State := w1 Reg.ptpPortProfile 63 1 (w1 Reg.ptpPortState 63 9 { up with
  ptp := [(63, { ptpInit with sync := some { sync0 with t1 := t1 }, req := some { seq := 4, t3 := 8, steps := 0, tick := 0, sync := some { sync0 with t1 := t1 }, stepFrom := none } })] })

/-- `PtpMessagesSentAndTaken`: what is due, and messages that are taken. -/
theorem wit_PtpMessagesSentAndTaken :
    (slotOf master 63 = some 63 ∧ ptpProfile master 63 ≠ 0 ∧ ptpMaster master 63 = true ∧ r0 master Reg.servoState ≠ 0 ∧
      ptpDue master (getPtp master 63).syncAt (syncInterval master 63) = true ∧
      ptpDue master (getPtp master 63).annAt 1000 = true ∧ (getPtp master 63).resps ≠ []) ∧
    (slotOf (slave none) 63 = some 63 ∧ ptpProfile (slave none) 63 ≠ 0 ∧ ptpFollows (slave none) 63 = true ∧
      linkStateOf (slave none) 63 = 1 ∧
      ptpDue (slave none) (getPtp (slave none) 63).reqAt (syncInterval (slave none) 63) = true) ∧
    (ptpTaken (slave none) 63 ptpMsg0 = true ∧ ptpFollows (inc Reg.ptpSyncReceived 63 (slave none)) 63 = true) ∧
    ((getPtp (slave none) 63).sync = some sync0 ∧ sync0.twoStep = true ∧ sync0.t1 = none ∧
      sync0.seq = ptpMsg0.sequenceId.toNat) ∧
    (∃ msg : PtpMsg, ptpTaken (slave (some 1)) 63 msg = true ∧ msg.requesting = portIdentity (slave (some 1)) 63 ∧
      (getPtp (slave (some 1)) 63).req = some ⟨4, 8, 0, 0, some { sync0 with t1 := some 1 }, none⟩ ∧
      msg.sequenceId.toNat = 4) ∧
    (∃ msg : PtpMsg, ptpTaken (slave (some 1)) 63 msg = true ∧ msg.requesting = portIdentity (slave (some 1)) 63 ∧
      msg.sequenceId.toNat ≠ 4) ∧
    (getPtp master 63).req = none ∧ ptpMayBegin master 63 = true ∧
    ptpMayBegin (setPort 63 { getPort master 63 with controls := [⟨false, 0, []⟩] } master) 63 = false ∧
    ptpTaken (slave none) 63 ann0.head = true := by
  refine ⟨by decide +kernel, by decide +kernel, by decide +kernel, by decide +kernel,
    ⟨{ ptpMsg0 with requesting := portIdentity (slave (some 1)) 63 }, by decide +kernel⟩,
    ⟨{ ptpMsg0 with requesting := portIdentity (slave (some 1)) 63, sequenceId := 5 }, by decide +kernel⟩, by decide +kernel,
    by decide +kernel, by decide +kernel, by decide +kernel⟩

/-- `TickBoundaryAndApplyPoint`: a powered module before and after its apply point; a step into a later tick and one back. -/
theorem wit_TickBoundaryAndApplyPoint : base.pwr.phase = .on ∧ base.applied = false ∧
    (∃ s : State, s.pwr.phase = .on ∧ s.applied = true) ∧
    (applyDecided (advanceTo (base.boundaryAt + 18000000) (settled base))).2.counter / (125000 * 2 ^ 40) ≤ base.tickPos ∧
    (∃ s, s.pwr.phase = .on ∧ s.applied = false ∧ s.tickPos = 0 ∧
      0 < (applyDecided (advanceTo (s.boundaryAt + 18000000) (settled s))).2.counter / (125000 * 2 ^ 40)) := by
  refine ⟨by decide +kernel, by decide +kernel, ⟨{ base with applied := true }, by decide +kernel⟩, by decide +kernel,
    ⟨{ few base with servo := { base.servo with nextStep := some (125000 * 2 ^ 40) } }, by decide +kernel⟩⟩

/-- `CuratorScheduleSharesATick`: a tick in which jobs 0 and 1 have room and a later one is cut. -/
theorem wit_CuratorScheduleSharesATick : ∃ work : List Nat, work.length = 8 ∧
    work.getD 0 0 + work.getD 1 0 ≤ 125000 ∧ cutOf (runTick 125000 work) = some 2 :=
  ⟨[100, 100, 10 ^ 6, 0, 0, 0, 0, 0], by decide +kernel⟩

/-- A Zutum payload of a kind with a body (R314). -/
def zutum (kind : Nat) (body : Bytes) : Bytes := [1, BitVec.ofNat 8 kind] ++ bytesLE 2 body.length ++ bytesLE 4 0 ++ body

/-- Bodies that are well formed. -/
def helloBody0 : Bytes := List.replicate 40 0
def linkBody : Bytes := List.replicate 27 0 ++ [1]
def armBody : Bytes := List.replicate 8 0 ++ [1, 0, 0, 0] ++ List.replicate 16 0
def answerBody : Bytes := List.replicate 6 0 ++ [1, 0] ++ List.replicate 8 0
def cancelBody : Bytes := List.replicate 16 0

/-- Zutum on, on port 63; port 63's neighbour silent since tick 1; a route opening held, waiting and armed. -/
def zutOn : State := w0 Reg.zutumEnable (2 ^ 63) up
def lost63 : State := w0 Reg.tickSequence 40000 { w1 Reg.adjacencyState 63 1 up with zut := { up.zut with heardAt := [(63, 1)] } }
def cand0 : RouteCand := { routes := [], states := [], gm := none, depth := 0, orphan := false, basis := [] }
def heldRoute (cand : Option RouteCand) : State := { base with zut := { base.zut with
  arm := some { id := 9, tick := 0, deadline := 0, digest := 0, originator := ownUid base, grants := [], cand := cand } } }
def part0 : LsPart := { uid := 5, part := 0, seq := 1, body := linkBody, freshAt := 0 }

def waitedRoute : State := { base with zut := { base.zut with
  waits := [{ id := 9, tick := 0, deadline := 0, digest := 0, originator := 5, grants := [], cand := none }] } }

/-- `ZutumMessagesAndRoutes`. -/
theorem wit_ZutumMessagesAndRoutes :
    (∃ s : State, s.zut.helloDue = true) ∧ (slotOf lost63 63 = some 63 ∧ adjExpired lost63 63 0 = true) ∧
    (∃ s, ownChanged s = true) ∧ (lost63.zut.originAt + 8000 ≤ r0 lost63 Reg.tickSequence) ∧
    (expiredOrigin { lost63 with zut := { lost63.zut with parts := [(10, part0)] } } (BitVec.toNat (5 : BitVec 64)) = true) ∧
    (slotOf zutOn 63 = some 63 ∧ zutumOn zutOn 63 = true ∧
      zutumBody 1 (zutum 1 helloBody0) = some helloBody0 ∧ helloOk helloBody0 = true ∧
      zutumBody 2 (zutum 2 linkBody) = some linkBody ∧ linkstateOk linkBody = true ∧
      zutumBody 3 (zutum 3 armBody) = some armBody ∧ armOk armBody = true ∧
      zutumBody 4 (zutum 4 answerBody) = some answerBody ∧ answerOk answerBody = true ∧
      zutumBody 5 (zutum 5 cancelBody) = some cancelBody ∧ cancelOk cancelBody = true) ∧
    zutumBody 1 (zutum 2 helloBody0) = none ∧
    (∃ s, curatorRuns s = true ∧ isRoot s = true ∧ s.zut.arm = none ∧ s.zut.noneBefore ≤ r0 s Reg.tickNumber ∧
      s.zut.settleAt + r0 s Reg.zutumSettle ≤ r0 s Reg.tickSequence ∧ needsOpening s = true) ∧
    (waitedRoute.zut.waits.filter (fun a => decide (a.deadline ≤ r0 waitedRoute Reg.tickNumber)) ≠ []) ∧
    (∃ s a, s.zut.arm = some a ∧ a.originator = ownUid s ∧
      a.tick + largestHops s + 1 ≤ r0 s Reg.tickNumber + r0 s Reg.routeArmLead ∧
      (originsOf s.zut.parts).any (fun o => !s.zut.ready.contains o.uid) = true) ∧
    (∃ a, (heldRoute (some cand0)).zut.arm = some a ∧ a.cand = some cand0 ∧
      a.tick ≤ r0 (heldRoute (some cand0)) Reg.tickNumber ∧ captureIsDue (heldRoute (some cand0)) = false ∧
      openingIsDue (heldRoute (some cand0)) = false ∧ (heldRoute (some cand0)).workDue = none) := by
  refine ⟨⟨{ base with zut := { base.zut with helloDue := true } }, rfl⟩, by decide +kernel,
    ⟨{ base with zut := { base.zut with originateDue := true } }, by decide +kernel⟩, by decide +kernel, by decide +kernel,
    by decide +kernel, by decide +kernel,
    ⟨w0 Reg.tickSequence 10000 (w0 Reg.isFabricRoot 1 { base with zut := { base.zut with
      parts := [(ownUid base * 2, { part0 with uid := ownUid base })] } }), by decide +kernel⟩,
    by decide +kernel,
    ⟨{ heldRoute (some cand0) with zut := { (heldRoute (some cand0)).zut with parts := [(10, part0)] } }, _, rfl, by decide +kernel⟩,
    ⟨_, rfl, rfl, by decide +kernel⟩⟩

/-- The twin logic of a module whose pair is in use, with a part of its state set. -/
def twin (f : TwSt → TwSt) : State := w0 Reg.twinEnable 1 { base with tw := f base.tw }
def arb0 : TwArb := { pair := 1, follow := 2, low := 1, ports := 0, added := 0, since := 0, silent := 3 }

/-- A heartbeat body of 40 bytes, and its CRC. -/
def beat : Bytes := 1 :: List.replicate 39 0
def beatCrc : Bytes := bytesLE 4 (crc32c beat)

/-- `TwinsWatchAndTakeOver`. -/
theorem wit_TwinsWatchAndTakeOver :
    (twin (fun t => { t with failDue := true })).tw.failDue = true ∧
    (twin (fun t => { t with degradeDue := 1 })).tw.degradeDue ≠ 0 ∧
    (twin (fun t => { t with takeoverDue := true })).tw.takeoverDue = true ∧
    ((twin (fun t => { t with roleNext := some 2 })).tw.roleNext = some 2 ∧
      (advanceToReading (125000 * 2 ^ 40) (noteActive (twin (fun t => { t with roleNext := some 2 })))).tw.roleNext = some 2 ∧
      r0 (twin id) Reg.twinRole ≠ 2) ∧
    arbSilent (twin (fun t => { t with arb := [(15, arb0)] })) 15 = true ∧
    curatorRuns base = true ∧ beat.length = 40 ∧ leAt beat 0 1 = 1 ∧
    ((⟨.k27, [.violation]⟩ : HbFraming) ≠ ⟨.k27, [.k29]⟩ ∧ ([] : Bytes) ≠ beatCrc) ∧ (List.replicate 39 (0 : Byte)).length ≠ 40 ∧
    (twinOn (twin id) = true ∧ (List.replicate 20 (0 : Byte)).length = 20 ∧
      leAt (List.replicate 20 0) 0 2 = r0 (twin id) Reg.twinPairId ∧
      leAt (List.replicate 20 0) 4 8 ≠ ownUid (twin id)) := by decide +kernel

/-- Tick 9000, with instance 7 of a class in a state. -/
def calIn (code : Nat) (f : CalSt → CalSt) : State := w0 Reg.tickSequence 9000 (setCal code 7 (f (getCal base code 7)) base)

/-- The host has subscribed to event copies. -/
def subscribed : State := w1 Reg.lorakSubscriptions 0 1 base

/-- `CalibrationRunsAndEventNotifications`. -/
theorem wit_CalibrationRunsAndEventNotifications :
    (∃ s, nextRun s (classCode .output) = some 7) ∧
    runLapsed (w1 Reg.domainState 2 4 (calIn 4 (fun c => { c with running := some 0 }))) (classCode .output) 7 = true ∧
    (∃ s, retryDue s (classCode .output) 7 (r0 s Reg.tickSequence) = true) ∧
    runLasted (calIn 3 (fun c => { c with running := some 0 })) 3 7 64 = true ∧
    runLasted (calIn 4 (fun c => { c with running := some 0 })) 4 7 16 = true ∧
    (∃ s, runLasted s 5 0 8000 = true) ∧
    (∃ s, (getLane s 7).calDone = true ∧ (getCal s 1 7).running ≠ none) ∧
    (base.now / 2000 = base.boundaryAt / 2000 ∧ curatorRuns base = true ∧ r0 base Reg.eventHold ≠ 1 ∧
      tget (fun _ => 0) base.jobs 6 = 0) ∧
    (getSession subscribed 0 = some sess ∧ slotOpen subscribed 0 = true ∧
      (r1 subscribed Reg.lorakSubscriptions 0).testBit 0 = true ∧ leaves subscribed sess.peer = true) := by
  refine ⟨?_, by decide +kernel, ?_, by decide +kernel, by decide +kernel, ?_, ?_, by decide +kernel, by decide +kernel⟩
  · exact ⟨w1 Reg.tdcChannelState 0x48 6 (calIn 4 (fun c => { c with pending := true })), by decide +kernel⟩
  · exact ⟨w0 Reg.calAutoEnable 1 (calIn 4 (fun c => { c with failed := true, retryAt := 1 })), by decide +kernel⟩
  · exact ⟨w0 Reg.tickSequence 9000 (setCal 5 0 { getCal base 5 0 with running := some 0 } base), by decide +kernel⟩
  · exact ⟨setLane 7 { getLane base 7 with calDone := true } (calIn 1 (fun c => { c with running := some 0 })), by decide +kernel⟩

/-- A Vitrine with part of its state set. -/
def vitrine (f : VitSt → VitSt) (s : State := base) : State := { s with vit := f s.vit }

/-- `VitrineClosesBurnsAndSeals`. -/
theorem wit_VitrineClosesBurnsAndSeals :
    (State.reset.vit.closing = false ∧ State.reset.vit.unopened = false) ∧ (∃ s, (judgeClose s).vit.closing = true) ∧
    ((vitrine (fun v => { v with low := false })).vit.low = false ∧ base.pwr.phase ≠ .off) ∧
    (∀ low, ∃ s : State, s.vit.low = low ∧ s.pwr.phase = .off) ∧
    ((vitrine (fun v => { v with low := true }) (w0 Reg.sealState 1 base)).vit.low = true ∧
      r0 (vitrine (fun v => { v with low := true }) (w0 Reg.sealState 1 base)) Reg.sealState = 1 ∧
      (vitrine (fun v => { v with low := true }) (w0 Reg.sealState 1 base)).vit.burning = none ∧
      (vitrine (fun v => { v with low := true }) (w0 Reg.sealState 1 base)).pwr.phase ≠ .off) ∧
    (vitrine (fun v => { v with burning := some .unseal })).vit.burning = some .unseal ∧
    (vitrine (fun v => { v with burning := some .firstWrite })).vit.burning = some .firstWrite ∧
    (∀ e ∈ base.lrk.sessions, e.2.held = []) ∧
    (∃ s, s.vit.unflashed = [(0, 7)] ∧ rd s Reg.vitrineRecords 0 0 = 0) ∧
    (∃ s, s.vit.unflashed = [(0, 7)] ∧ rd s Reg.vitrineRecords 0 0 = 9 ∧ (s.vit.unflashed.map Prod.fst).Nodup) ∧
    (∃ s, s.pwr.phase ≠ .off ∧ s.vit.checkAt ≤ r0 s Reg.tickSequence) := by
  refine ⟨by decide +kernel,
    ⟨judgeClose (vitrine (fun v => { v with unopened := false }) { base with boundaryReading := 10 ^ 40 }), by decide +kernel⟩,
    by decide +kernel, fun low => ⟨vitrine (fun v => { v with low := low })
      { base with pwr := { base.pwr with phase := .off } }, rfl, rfl⟩, by decide +kernel, by decide +kernel, by decide +kernel,
    by decide +kernel, ⟨vitrine (fun v => { v with unflashed := [(0, 7)] }), by decide +kernel⟩,
    ⟨vitrine (fun v => { v with unflashed := [(0, 7)] }) (wr Reg.vitrineRecords 0 0 9 base), by decide +kernel⟩,
    ⟨w0 Reg.tickSequence 8000 base, by decide +kernel⟩⟩

/-- A module in a power phase with its Curator in a state. -/
def powered (phase : PowerPhase) (reduced : Bool) (c : CuratorState) : State :=
  { base with pwr := { base.pwr with phase := phase, reduced := reduced, curator := c } }

/-- `PowerComesAndGoes`. -/
theorem wit_PowerComesAndGoes :
    ((powered .off true .booting).pwr.phase = .off ∧ (powered .off true .booting).pwr.cause ≠ 4) ∧
    (∃ s : State, s.pwr.phase = .off ∧ s.pwr.cause = 4) ∧
    ((powered .on true .booting).pwr.phase = .on ∧ (powered .on true .booting).pwr.reduced = true) ∧
    ((powered .held true .booting).pwr.phase ≠ .off ∧ (powered .held true .booting).pwr.reduced = true) ∧
    (powered .on true .booting).pwr.curator = .booting ∧ imageKnown base 0 = true ∧
    base.pwr.phase ≠ .off ∧ r0 (w0 Reg.imageState 1 base) Reg.imageState = 1 ∧
    r0 (w0 Reg.imageState 3 base) Reg.imageState = 3 := by
  exact ⟨by decide +kernel, ⟨{ powered .off true .booting with pwr := { (powered .off true .booting).pwr with cause := 4 } },
    by decide +kernel⟩, by decide +kernel, by decide +kernel, by decide +kernel, by decide +kernel, by decide +kernel,
    by decide +kernel, by decide +kernel⟩

/-- A module with part of its power state set. -/
def power (f : PwrSt → PwrSt) : State := { base with pwr := f base.pwr }

/-- A sleep of D4 that is due, with the wakes that are due at the same boundary; the scheduled wake is a source of D4. -/
def sleepDue (wakes : List Nat) : State := w1 Reg.wakeSources 4 8 (w1 Reg.domainState 4 1
  (power (fun p => { p with sleeps := [(4, { tick := 0, due := true })], wakeDue := wakes })))

/-- `ResetsAndSleepingDomains`: each reset due, the watchdog, RESET_N, a sleep due alone and one withdrawn by a wake, a wake. -/
theorem wit_ResetsAndSleepingDomains :
    (∀ k ∈ [1, 2, 3], (power (fun p => { p with resetNow := some (k, 0) })).pwr.resetNow = some (k, 0)) ∧
    (curatorRuns (power (fun p => { p with watchdog := 10 ^ 9 })) = true ∧
      r0 (power (fun p => { p with watchdog := 10 ^ 9 })) Reg.curatorWatchdogTicks ≤ 10 ^ 9) ∧
    (keptByFullReset (objKey Reg.bootPreference 0 0) = true ∧ keptByFullReset (objKey Reg.tickNumber 0 0) = false ∧
      base.regsOk) ∧
    (powered .held false .booting).pwr.phase = .held ∧
    (∃ p q, planOf (settled (sleepDue [])) (swNum .d4) = some p ∧ p.due = true ∧
      planOf (scheduledWakes (openDue (settled (sleepDue [])))) (swNum .d4) = some q ∧ q.due = true) ∧
    (∃ p, planOf (settled (sleepDue [4])) (swNum .d4) = some p ∧ p.due = true ∧
      planOf (scheduledWakes (openDue (settled (sleepDue [4])))) (swNum .d4) = none) ∧
    (∃ e, (power (fun p => { p with waking := [(7, 5000, 4)] })).pwr.waking.find? (fun e => e.1 = swNum .d7) = some e) := by
  refine ⟨by decide +kernel, by decide +kernel, ⟨by decide +kernel, by decide +kernel, ?_⟩, by decide +kernel,
    ⟨⟨0, true⟩, ⟨0, true⟩, by decide +kernel⟩,
    ⟨⟨0, true⟩, by decide +kernel⟩, ⟨_, rfl⟩⟩
  unfold State.regsOk
  decide +kernel

/-- `TestAccessPortLoadsItsInstruction`: a module off, on and with its balls held; a code of its own and one of none. -/
theorem wit_TestAccessPortLoadsItsInstruction :
    (powered .off true .booting).pwr.phase = .off ∧ base.pwr.phase ≠ .off ∧ base.tap.held = false ∧
    ({ base with tap := { base.tap with held := true } } : State).tap.held = true ∧
    ({ base with tap := { base.tap with instruction := 0x21 } } : State).tap.instruction = 0x21 ∧ host.transport = .svc ∧
    ((Instr.idcode, 2) ∈ [(Instr.extest, 0), (.idcode, 2)]) ∧
    (∃ b : BitVec 8, Instr.bypass 0x55 = .bypass b ∧ (0x55 = if b.toNat ≤ 6 ∨ b.toNat = 0x20 ∨ b.toNat = 0x21 then 0xFF else b.toNat)) := by
  refine ⟨by decide +kernel, by decide +kernel, by decide +kernel, rfl, rfl, rfl, by simp, ⟨0x55, rfl, by decide⟩⟩

/-! What WellFormed refuses: one command for each check. -/

/-- A boundary's reports with nothing to report. -/
def quiet : TickInput :=
  { work := [], groupTemp := [], tdcTemp := [], outTemp := [], crystalTemp := 0, dieTemp := [], vin := 0,
    current := 0, power := 0, lanes := [] }

/-- A request in an envelope of no length. -/
def loose : Envelope := svcLine []
def zeros (n : Nat) : List Nat := List.replicate n 0
def rest0 : TdcTick := { edges := [], rxTracked := 0, txTracked := 0 }
def lane0 : LaneTick :=
  { lane := 0, fecCodewords := 0, fecUncorrectable := 0, fecSymbols := 0, fecBitsCorrected := 0, fecBitsReceived := 0,
    ber := 0, chkBits := 0, chkBitErrors := 0, chkSymbols := 0, chkSymbolErrors := 0, chkLevelErrors := [] }

theorem smoke_wellFormed : ∀ c ∈ [Instr.tickBoundary quiet, .read loose (ask 3 []), .bulkRead loose (ask 6 (bulk 0 0 0 0 0)),
    .shadowDiscard (wq [1]), .tdcTickResult 0 rest0, .tdcCalRunEnd 0 ⟨zeros 1024, zeros 1024⟩, .calRunStart .crystal 0,
    .calRunEnd 0 .crystal [], .calRunEnd 63 (.lane []) [], .bypass 7], wellFormed c = true := by
  decide +kernel

theorem smoke_illFormed : ∀ c ∈ [Instr.tickBoundary { quiet with work := zeros 9 },
    .tickBoundary { quiet with crystalTemp := 32768 },
    .tickBoundary { quiet with vin := 2 ^ 32 }, .tickBoundary { quiet with lanes := [{ lane0 with chkLevelErrors := zeros 5 }] },
    .tickBoundary { quiet with lanes := [{ lane0 with fecBitsCorrected := 1 }] },
    .read loose { ask 3 [] with flags := 1 }, .bulkRead loose (ask 6 (bulk 0 1 0 0 0)), .bulkWrite loose (ask 6 (bulk 0 2 0 0 0)),
    .bulkStage loose (ask 6 (bulk 0 0 0 0 0)), .unknownOpcode 3 loose (ask 3 []), .lorakAnswerReceive 3 loose (ask 3 []),
    .laneLocked 0 [] [0] [0], .laneLocked 0 [0] [0, 0, 0] [0],
    .firstCellWritten 0 0 [] [], .frameReceived 0 0 [] .normal [], .pfcReceive 0 0 0 [0],
    .tdcTickResult 0 { rest0 with rxTracked := 2 ^ 63 },
    .tdcTickResult 0 { rest0 with edges := [⟨1, ⟨0, 0, none⟩⟩, ⟨0, ⟨0, 0, none⟩⟩] }, .tdcCalRunEnd 0 ⟨[], zeros 1024⟩, .tdcCalRunEnd 0 ⟨zeros 1024, []⟩,
    .xoscLoss 0 1, .xoscLoss 1 0, .ptpSyncReceive 0 { ptpMsg0 with nanos := 10 ^ 9 } ⟨0, 0⟩,
    .ptpDelayRespReceive 0 { ptpMsg0 with correction := 2 ^ 63 }, .ptpFollowUpReceive 0 { ptpMsg0 with logInterval := 128 },
    .calRunStart .crystal 1, .calRunEnd 16 (.output (List.replicate 65 0)) (List.replicate 32 (0, 0)),
    .calRunEnd 0 (.output []) [], .calRunEnd 0 (.lane [2 ^ 63]) [], .calRunEnd 0 (.portDelay [] []) [], .calRunEnd 1 .crystal [],
    .powerUpStart ⟨2 ^ 32, 0⟩ ⟨0, false, false⟩ 0, .powerUpStart ⟨0, 32768⟩ ⟨0, false, false⟩ 0, .tdcSelfTestEnd [] () (),
    .overtempShutdown 0 40000, .wakeSourceFire .d5 .signal 32, .wakeSourceFire .d4 .signal 0, .bypass 0x20], wellFormed c = false := by
  decide +kernel

theorem smoke_illFormed_sizes : wellFormed (.shadowDiscard (wq (List.replicate 1391 0))) = false ∧
    wellFormed (.firstCellWritten 0 0 (List.replicate 129 0) []) = false ∧
    wellFormed (.lorakRelay 3 loose { ask 3 [] with payload := List.replicate 16385 0 }) = false ∧
    wellFormed (.todMessage 0 0 (List.replicate 1025 0) false) = false ∧
    wellFormed (.helloReceive 0 (List.replicate 1501 0)) = false ∧
    wellFormed (.twinHeartbeatReceive .pair (List.replicate 1401 0) ⟨.k27, [.k29]⟩ [] 0) = false ∧
    wellFormed (.twinHeartbeatReceive .pair [] ⟨.k27, List.replicate 65 .k29⟩ [] 0) = false ∧
    wellFormed (.twinHeartbeatReceive .pair [] ⟨.k27, [.k29]⟩ (List.replicate 65 0) 0) = false ∧
    wellFormed (.dualActiveReceive 0 (List.replicate 1401 0)) = false := by decide +kernel

/-! The spec's own examples. -/

/-- CRC-32C of the nine digits (the algorithm's published check value, R65 names the algorithm). -/
theorem test_crc32c : crc32c [0x31, 0x32, 0x33, 0x34, 0x35, 0x36, 0x37, 0x38, 0x39] = 0xE3069283 := by decide +kernel

/-- The FCS algorithm's published check value (R118). -/
theorem test_crc32 : crc32Eth [0x31, 0x32, 0x33, 0x34, 0x35, 0x36, 0x37, 0x38, 0x39] = 0xCBF43926 := by decide +kernel

/-- The example of R44's types: the time 1,912,345,678 s and 67,750,000 ns on the wire. -/
theorem test_time128 : bytesLE 16 (time128 ((1912345678 * 10 ^ 9 + 67750000) * 2 ^ 40)) =
    [0, 0, 0, 0, 0x70, 0xC8, 0x09, 0x04, 0x4E, 0x14, 0xFC, 0x71, 0, 0, 0, 0] := by decide +kernel

/-- The example of a local opening: the tick of 1,912,345,678 s and 62,750,000 ns. -/
theorem test_tick_of_time : tickOfReading ((1912345678 * 10 ^ 9 + 62750000) * 2 ^ 40) = 15298765424502 := by decide +kernel

/-- The example row of ObjectDirectory: OpeningRecord (R63). -/
theorem test_directory_row : 0x102400000E10001800000040 ∈ directoryRows := by decide +kernel

/-- The concourse module's port groups: modes 2×25G, 1×200G, 2×100G and off. -/
def concourse : State :=
  (List.range 32).foldl (fun s g => w1 Reg.portGroupMode g (if g ≤ 20 then 6 else if g ≤ 24 then 1 else if g ≤ 26 then 2 else 0) s) base

/-- The concourse example: PortCount reads 50, and PortMap of P43 reads 0x2C. -/
theorem test_port_map : portCountOf concourse = 50 ∧ slotOf concourse 43 = some 0x2C := by decide +kernel

/-- The worked exchange: a READ of TickNumber over MGT in session slot 2, and its answer. -/
def mgt : Envelope := mgtFrame 0x88B5
def mgtHost : State :=
  w0 Reg.tickNumber 15298765424502 (w0 Reg.mgtLinkState 3 (w1 Reg.sessionTransport 2 2 (w1 Reg.sessionState 2 1
    { base with lrk := { base.lrk with sessions := [(2, { sess with
      last := 6, peer := { transport := .mgt, srcAddr := 0, srcTag := 5, port := 0, mac := 0 } })] } })))
def exchange : Pdu :=
  sealPdu 3 { ask 3 (item Reg.tickNumber 0 0 []) with srcTag := 5, hop := 32, session := 2, sequence := 7 }

theorem test_worked_request : pduHead 3 exchange ++ exchange.payload =
    [0x01, 0x03, 0, 0, 0, 0, 0, 0, 0x05, 0x20, 0x02, 0, 0x07, 0, 0, 0, 0x0A, 0, 0, 0] ++
    [0x00, 0x10, 0, 0, 0, 0, 0, 0, 0, 0] := by decide +kernel

/-- The bytes of the PDUs that a step sends. -/
def answers (o : Host.Outcome State Fault Refusal) : List Bytes :=
  match o with
  | .next t => t.sent.filterMap (fun e => match e with
    | .lorak _ opcode p _ => some (pduHead opcode p ++ p.payload)
    | _ => none)
  | _ => []

theorem test_worked_answer : answers (exec (.read mgt exchange) mgtHost) =
    [[0x01, 0x03, 0x01, 0, 0, 0, 0, 0, 0x05, 0x20, 0x02, 0, 0x07, 0, 0, 0, 0x12, 0, 0, 0] ++
     [0x00, 0x10, 0, 0, 0, 0, 0, 0, 0x08, 0, 0x76, 0x87, 0x7A, 0x05, 0xEA, 0x0D, 0, 0]] := by decide +kernel

/-- The Vitrine example: the interval of 15 minutes that holds 1,912,345,641 s UTC ends where number 2,124,829 begins. -/
theorem test_interval : intervalNumber (w0 Reg.utcOffset 37 base) 15 (1912345678 * 10 ^ 9 * 2 ^ 40) = 2124828 ∧
    intervalNumber (w0 Reg.utcOffset 37 base) 15 (1912346137 * 10 ^ 9 * 2 ^ 40) = 2124829 := by decide +kernel

/-- The tenant row of R400's example takes VLAN 0x17F on slot 0x34 and no other VLAN or slot. -/
theorem test_tenant_row : tenantRowMatches 0xE0B46A2002FE0000 0 0x34 0x17F = true ∧
    tenantRowMatches 0xE0B46A2002FE0000 1 0x35 0x100 = true ∧ tenantRowMatches 0xE0B46A2002FE0000 0 0x34 0x180 = false ∧
    tenantRowMatches 0xE0B46A2002FE0000 0 0x36 0x100 = false := by decide +kernel

/-- R358's example: 142.350 ps at 38.50 °C and 149.060 ps at 44.00 °C give 146.925 ps at 42.25 °C (units of 2^-16 ns). -/
theorem test_interpolation : interpolate [⟨9856, [9329], 0, 0⟩, ⟨11264, [9769], 0, 0⟩] 10816 = [9629] := by decide +kernel

/-! Single commands, from the rules. -/

/-- The tick that begins at 125 µs has number 1, and its sequence number is one up (R2, R3). -/
theorem test_first_tick : r0 (numberTick { base with counter := 125000 * 2 ^ 40 }) Reg.tickNumber = 1 ∧
    r0 (numberTick { base with counter := 125000 * 2 ^ 40 }) Reg.tickSequence = 1 := by decide +kernel

/-- A write of 1 to LaneEnable of a lane in OFF starts it in SIGNAL (R92). -/
theorem test_lane_starts : ∃ t, exec (.laneEnableWrite 5 (wq [1])) base = .next t ∧ r1 t Reg.laneState 5 = 1 := by
  refine ⟨_, rfl, ?_⟩
  decide +kernel

/-- An INVENTORY for tick 3 is accepted in tick 0 and takes bank 0 (R34). -/
theorem test_inventory : ∃ t, exec (.inventory (svc 9 (ask 9 (bytesLE 4 9 ++ bytesLE 8 3))) (ask 9 (bytesLE 4 9 ++ bytesLE 8 3))) base = .next t ∧
    r1 t Reg.inventoryBankState 0 = 1 ∧ r1 t Reg.inventoryBankId 0 = 9 := by
  refine ⟨_, rfl, ?_⟩
  decide +kernel

end Sys2Proof.Tests
end

section
/-! O52: the boundary of a tick and its apply point (R11, R13, R14, R23, R286). -/

namespace Sys2Proof.Machine

/-! Registers that take listed values, one write at a time. -/

theorem RegsSet.nil (s : State) : RegsSet [] s s := ⟨by simp, fun _ _ => rfl⟩

/-- A write adds its register to the list, where no earlier entry names the same one. -/
theorem RegsSet.wr {l : List (Nat × Nat × Nat × Nat)} {s t : State} (h : RegsSet l s t) (i j k v : Nat)
    (hne : ∀ e ∈ l, objKey e.1 e.2.1 e.2.2.1 ≠ objKey i j k) : RegsSet ((i, j, k, v) :: l) s (wr i j k v t) := by
  obtain ⟨hset, hkeep⟩ := h
  constructor
  · intro e he
    obtain rfl | he := List.mem_cons.mp he
    · exact rd_wr_same ..
    · exact (rd_wr_ne _ _ _ _ _ _ _ _ (hne e he)).trans (hset e he)
  · intro x hx
    obtain ⟨hx, hrest⟩ := List.forall_mem_cons.mp hx
    calc tget regDefault (Machine.wr i j k v t).regs x
        = tget regDefault t.regs x := (tget_tset ..).trans (if_neg hx)
      _ = tget regDefault s.regs x := hkeep x hrest

/-- What registers take is read from the register file alone. -/
theorem RegsSet.of_regs_eq {l : List (Nat × Nat × Nat × Nat)} {s t u : State} (h : RegsSet l s t) (e : u.regs = t.regs) :
    RegsSet l s u := by
  simpa only [RegsSet, rd, e] using h

/-! The boundary. -/

/-- A frame tick of 125,000 ns, in units of the counter (R3). -/
theorem tickUnits_eq : tickUnits = 125000 * 2 ^ 40 := rfl

theorem objKey_tickSequence_ne_tickNumber : objKey Reg.tickSequence 0 0 ≠ objKey Reg.tickNumber 0 0 := by decide

/-- TickNumber and TickSequence, and no other register, are written where a tick gets its number (R11, R13). -/
theorem numberTick_sets (s : State) :
    RegsSet [(Reg.tickNumber, 0, 0, s.counter / tickUnits), (Reg.tickSequence, 0, 0, (r0 s Reg.tickSequence + 1) % 2 ^ 64)]
      s (numberTick s) := by
  have sequence : RegsSet [(Reg.tickSequence, 0, 0, (r0 s Reg.tickSequence + 1) % 2 ^ 64)] s (inc0 Reg.tickSequence s) :=
    (RegsSet.nil s).wr _ _ _ _ (List.forall_mem_nil _)
  have number := sequence.wr Reg.tickNumber 0 0 (s.counter / tickUnits)
    (List.forall_mem_singleton.mpr objKey_tickSequence_ne_tickNumber)
  exact number.of_regs_eq rfl

/-- Beside registers the number of a tick changes only the record of the boundary. -/
theorem numberTick_frame (s : State) :
    numberTick s = { s with
      regs := (numberTick s).regs, tickPos := s.counter / tickUnits, boundaryAt := s.now, boundaryReading := s.counter,
      applied := false } := rfl

/-- The Curator's schedule closes a tick only where the Curator runs (R16). -/
theorem curatorTick_eq (work : List Nat) (s : State) :
    curatorTick work s = if curatorRuns s then
      (cutOf (scheduleOf work s), notifyJobEnds (endSchedule (scheduleOf work s) s)) else (none, { s with jobs := [] }) := by
  cases h : curatorRuns s <;> simp [curatorTick, h]

/-- The boundary with its number, wakes and sleeps, the work of its tick still due. -/
def boundaryMarked (work : List Nat) (inp : TickInput) (s : State) : State :=
  { markSleeps (markWakes (wakesLeftOver (judgeClose (numberTick (noteActive
      (cutCounted (curatorTick work s).1 (takeInput inp (curatorTick work s).2))))))) with workDue := some (tickNo s) }

/-- The work of a raised boundary follows at once, unless a capture or an opening comes before it (R23). -/
theorem raiseBoundary_some (work : List Nat) (inp : TickInput) (s : State) :
    raiseBoundary work (some inp) s =
      if captureIsDue (boundaryMarked work inp s) || stepTwoIsDue (boundaryMarked work inp s) then boundaryMarked work inp s
      else boundaryWork (tickNo s) { boundaryMarked work inp s with workDue := none } := rfl

/-- The boundary of a tick comes where the counter reads the next multiple of a tick's length (R3, R11). -/
theorem tick_eq (inp : TickInput) (s : State) : tick inp s = raiseBoundary inp.work (some inp)
    (advanceToReading (((steppedTick (applyNow (leftOvers s))).tickPos + 1) * tickUnits)
      (steppedTick (applyNow (leftOvers s)))) := by
  simp only [tick, nextTickReading]

/-- TICK_BOUNDARY of a module that runs is one tick (R11). -/
theorem exec_tickBoundary_of_on {s : State} (on : s.pwr.phase = .on) (inp : TickInput) :
    exec (.tickBoundary inp) s = .next (tick inp s) := if_pos on

/-! The apply point. -/

/-- APPLY_POINT of a module that runs is the apply point of its tick (R286). -/
theorem exec_applyPoint_of_on {s : State} (on : s.pwr.phase = .on) : exec .applyPoint s = .next (applyNow s) := if_pos on

theorem applyNow_of_applied {s : State} (h : s.applied = true) : applyNow s = s := if_pos h

theorem applyNow_of_not_applied {s : State} (h : s.applied = false) :
    applyNow s = afterApply (applyDecided (advanceTo (s.boundaryAt + 18000000) (settled s))).2 := if_neg (by simp [h])

/-- A step across a boundary raises one boundary, with free values for the works of the tick it ends (R14). -/
theorem afterApply_of_forward {s : State} (h : s.tickPos < tickOfReading s.counter) :
    afterApply s = raiseBoundary (drawWork s).1 none (drawWork s).2 := if_pos h

/-- Without a step across a boundary none is raised, and the tick lies where the counter does (R14). -/
theorem afterApply_of_not_forward {s : State} (h : tickOfReading s.counter ≤ s.tickPos) :
    afterApply s = { s with tickPos := tickOfReading s.counter } := if_neg (Nat.not_lt.mpr h)

/-- Settles O52: each clause is the law above of the operation it speaks of. -/
theorem tickBoundaryAndApplyPoint : Obligations.TickBoundaryAndApplyPoint := by
  unfold Obligations.TickBoundaryAndApplyPoint
  intro s on
  rw [← tickUnits_eq]
  refine ⟨?tick, ?raise, ?curator, fun v => ⟨numberTick_sets v, numberTick_frame v⟩, ?applied, ?apply⟩
  case tick =>
    intro inp u v hu hv
    rw [exec_tickBoundary_of_on on, tick_eq, hv, hu]
  case raise =>
    intro work inp v c u w hc hu hw
    have marked : w = boundaryMarked work inp v := by rw [hw, hu, hc]; rfl
    exact marked ▸ raiseBoundary_some work inp v
  case curator =>
    intro work v x hx
    have schedule : x = scheduleOf work v := hx
    rw [curatorTick_eq, schedule]
  case applied =>
    intro done
    rw [exec_applyPoint_of_on on, applyNow_of_applied done]
  case apply =>
    intro t waiting ht
    rw [exec_applyPoint_of_on on, applyNow_of_not_applied waiting, ← ht]
    exact ⟨fun forward => congrArg _ (afterApply_of_forward forward),
      fun back => congrArg _ (afterApply_of_not_forward back)⟩

end Sys2Proof.Machine
end

section
/-! O2: the values after a reset (R13, R31, R54, R284, R417, R431). -/

namespace Sys2Proof.Machine

/-- A register that the file does not name reads its default. -/
theorem tget_of_not_mem {α : Type} (d : Nat → α) {m : List (Nat × α)} {k : Nat} (h : k ∉ m.map Prod.fst) :
    tget d m k = d k := by
  induction m with
  | nil => rfl
  | cons e t ih =>
    have hne : e.1 ≠ k := (List.ne_of_not_mem_cons h).symm
    exact (if_neg hne).trans (ih (List.not_mem_of_not_mem_cons h))

/-- The objects that a reset leaves at another value than their default (R414, R417, R431; log 20). -/
theorem keyIdx_mem_of_mem_resetRegs : ∀ k ∈ State.resetRegs.map Prod.fst,
    keyIdx k ∈ [Reg.moduleUid, Reg.firmwareVersion, Reg.sealLog, Reg.domainState, Reg.lastResetCause,
      Reg.vitrineMicrocodeDigest] := by decide

theorem reset_tickRegisters : r0 State.reset Reg.tickNumber = 0 ∧ r0 State.reset Reg.tickSequence = 0 := by decide

theorem reset_domainState : ∀ d ∈ [2, 4, 5, 6, 7], r1 State.reset Reg.domainState d = 4 := by decide

theorem reset_lastResetCause : r0 State.reset Reg.lastResetCause = 1 := by decide

/-- Settles O2: the fields stand in the reset state, its register file names six objects alone. -/
theorem resetLeavesTheStatedValues : Obligations.ResetLeavesTheStatedValues :=
  ⟨rfl, rfl, reset_tickRegisters.1, reset_tickRegisters.2, rfl, rfl, rfl, rfl, rfl,
    fun _ hk => tget_of_not_mem _ fun h => hk (keyIdx_mem_of_mem_resetRegs _ h), reset_domainState, reset_lastResetCause⟩

end Sys2Proof.Machine
end

section
/-! O25: the shadow, its count and its digest (R19, R20). -/

namespace Sys2Proof.Machine

theorem readObj_shadowCount (s : State) (session : Nat) : readObj s session Reg.shadowCount 0 0 = shadowCount s := rfl

theorem readObj_shadowDigest (s : State) (session : Nat) : readObj s session Reg.shadowDigest 0 0 = shadowDigest s := rfl

/-- The keys of a table in rising order stay so when an entry is put into it. -/
theorem tput_keys_pairwise {α : Type} {m : List (Nat × α)} (k : Nat) (v : α)
    (h : (m.map Prod.fst).Pairwise (· < ·)) : ((tput m k v).map Prod.fst).Pairwise (· < ·) := by
  induction m with
  | nil => simp [tput]
  | cons f t ih =>
    obtain ⟨a, b⟩ := f
    obtain ⟨hlt, ht⟩ := List.pairwise_cons.mp h
    unfold tput
    split
    case isTrue hk =>
      exact List.pairwise_cons.mpr ⟨List.forall_mem_cons.mpr ⟨hk, fun j hj => hk.trans (hlt j hj)⟩, h⟩
    case isFalse hk =>
      split
      case isTrue e => exact e ▸ h
      case isFalse hne =>
        refine List.pairwise_cons.mpr ⟨?_, ih ht⟩
        intro j hj
        obtain ⟨e, he, rfl⟩ := List.mem_map.mp hj
        obtain rfl | he := mem_tput he
        · exact show a < k by omega
        · exact hlt _ (List.mem_map_of_mem he)

/-- An entry that is staged is put into the shadow, and nothing else changes (R19). -/
theorem stageEntry_some {idx sub row v : Nat} {s t : State} (h : stageEntry idx sub row v s = some t) :
    t = modOpn (fun o => { o with shadow := tput o.shadow (objKey idx sub row) v }) s := by
  unfold stageEntry at h
  simp only [Option.ite_none_right_eq_some, Option.some.injEq] at h
  exact h.2.symm

theorem exec_shadowDiscard_of_accepts {s : State} {w : WriteReq} (h : Accepts s w Reg.shadowDiscard 0 0 0 1) :
    exec (.shadowDiscard w) s = .next (emptyShadow s) := congrArg _ (catWrite_accepts effShadowDiscard h)

/-- Settles O25: count and digest are views of the shadow, a staged entry goes to its place, a discard leaves none. -/
theorem shadowCountAndDigest : Obligations.ShadowCountAndDigest := by
  unfold Obligations.ShadowCountAndDigest
  intro s
  refine ⟨readObj_shadowCount s, ?digest, ?empty, ?matching, ?staged, ?discard⟩
  case digest =>
    intro session
    rw [readObj_shadowDigest, shadowDigest, digestOfShadow]
    simp only [List.isEmpty_iff]
    rfl
  case empty =>
    intro none session
    rw [readObj_shadowCount, readObj_shadowDigest, shadowCount, shadowDigest, none]
    exact ⟨rfl, rfl⟩
  case matching =>
    intro count digest
    rw [readObj_shadowCount, readObj_shadowDigest, shadowMatches, Bool.and_eq_true, decide_eq_true_iff, decide_eq_true_iff]
  case staged =>
    intro idx sub row v t rising h
    rw [stageEntry_some h]
    exact tput_keys_pairwise _ v rising
  case discard =>
    intro w h
    exact ⟨_, exec_shadowDiscard_of_accepts h, rfl, rfl, fun _ => rfl⟩

end Sys2Proof.Machine
end

section
/-! O53: the job schedule of a tick (R15, R16). -/

namespace Sys2Proof.Machine

/-! Lists of numbers, read by place. -/

theorem getD_set (l : List Nat) {c : Nat} (hc : c < l.length) (v d : Nat) :
    (l.set c v).getD d 0 = if d = c then v else l.getD d 0 := by
  simp only [List.getD_eq_getElem?_getD, List.getElem?_set, hc, if_true, eq_comm (a := d)]
  split <;> rfl

theorem sum_set_add (l : List Nat) {c : Nat} (hc : c < l.length) (t : Nat) :
    (l.set c (l.getD c 0 + t)).sum = l.sum + t := by
  induction l generalizing c with
  | nil => exact absurd hc (Nat.not_lt_zero c)
  | cons a l ih =>
    cases c with
    | zero => simp only [List.set_cons_zero, List.getD_cons_zero, List.sum_cons]; omega
    | succ c =>
      simp only [List.set_cons_succ, List.getD_cons_succ, List.sum_cons, ih (Nat.lt_of_succ_lt_succ hc)]
      omega

theorem getD_replicate_zero (n d : Nat) : (List.replicate n 0).getD d 0 = 0 := by
  simp only [List.getD_eq_getElem?_getD, List.getElem?_replicate]
  split <;> rfl

/-- The sum of eight numbers of which only the first two are not 0. -/
theorem sum_eq_of_getD_eq_zero {l : List Nat} (h : l.length = 8) (zero : ∀ c, 2 ≤ c → l.getD c 0 = 0) :
    l.sum = l.getD 0 0 + l.getD 1 0 := by
  match l, h with
  | [a, b, c, d, e, f, g, i], _ =>
    obtain rfl : c = 0 := zero 2 (by decide)
    obtain rfl : d = 0 := zero 3 (by decide)
    obtain rfl : e = 0 := zero 4 (by decide)
    obtain rfl : f = 0 := zero 5 (by decide)
    obtain rfl : g = 0 := zero 6 (by decide)
    obtain rfl : i = 0 := zero 7 (by decide)
    rfl

/-! One turn of a class. -/

/-- The time that a class gets in a turn with a bound: its work, cut by the bound and by the time left (R16). -/
def jobTime (c bound : Nat) (x : Sched8) : Nat := min (min (x.work.getD c 0) bound) x.left

/-- A schedule is of eight classes, and the one that ran last is among them. -/
structure Sched8.Sound (x : Sched8) : Prop where
  work : x.work.length = 8
  used : x.used.length = 8
  last : x.last < 8

/-- What a turn of a class leaves: its time goes from its work and the time left to the time used (R16). -/
structure Turn (c t : Nat) (x y : Sched8) : Prop where
  sound : y.Sound
  work : ∀ d, y.work.getD d 0 = x.work.getD d 0 - if d = c then t else 0
  used : ∀ d, y.used.getD d 0 = x.used.getD d 0 + if d = c then t else 0
  sum : y.used.sum = x.used.sum + t
  left : y.left = x.left - t

theorem runJob_turn {c : Nat} (hc : c < 8) (bound : Nat) {x : Sched8} (h : x.Sound) :
    Turn c (jobTime c bound x) x (runJob c bound x) := by
  unfold runJob
  rw [← jobTime]
  dsimp only
  split
  case isTrue none => rw [none]; exact ⟨h, by simp, by simp, rfl, rfl⟩
  case isFalse =>
    have hw : c < x.work.length := h.work ▸ hc
    have hu : c < x.used.length := h.used ▸ hc
    refine ⟨⟨by simp [h.work], by simp [h.used], hc⟩, ?_, ?_, sum_set_add _ hu _, rfl⟩
    · intro d; rw [getD_set _ hw]; split <;> simp [*]
    · intro d; rw [getD_set _ hu]; split <;> simp [*]

/-! A pass over some classes. -/

/-- Classes take their turns one after another, each with its bound. -/
def runJobs (l : List Nat) (bound : Nat → Nat) (x : Sched8) : Sched8 := l.foldl (fun x c => runJob c (bound c) x) x

/-- What a pass in which each class wants a certain time leaves: one that gets less than it wants leaves no time, and those
after it get none. -/
structure Pass (l : List Nat) (want : Nat → Nat) (x y : Sched8) : Prop where
  sound : y.Sound
  total : ∀ d, y.used.getD d 0 + y.work.getD d 0 = x.used.getD d 0 + x.work.getD d 0
  sum : y.used.sum + y.left = x.used.sum + x.left
  left : y.left ≤ x.left
  kept : ∀ d, d ∉ l → y.used.getD d 0 = x.used.getD d 0
  grows : ∀ d, x.used.getD d 0 ≤ y.used.getD d 0
  bounded : ∀ d, d ∈ l → y.used.getD d 0 ≤ x.used.getD d 0 + want d
  idle : x.left = 0 → ∀ d, y.used.getD d 0 = x.used.getD d 0
  short : ∀ c, c ∈ l → y.used.getD c 0 < x.used.getD c 0 + want c → y.left = 0
  order : ∀ c, c ∈ l → ∀ d, d ∈ l → c < d → y.used.getD c 0 < x.used.getD c 0 + want c →
    y.used.getD d 0 = x.used.getD d 0

theorem Pass.nil (want : Nat → Nat) {x : Sched8} (h : x.Sound) : Pass [] want x x :=
  ⟨h, fun _ => rfl, rfl, Nat.le_refl _, fun _ _ => rfl, fun _ => Nat.le_refl _, by simp, fun _ _ => rfl, by simp, by simp⟩

/-- The work of a class that has no turn stays. -/
theorem Pass.work_kept {l : List Nat} {want : Nat → Nat} {x y : Sched8} (h : Pass l want x y) {d : Nat} (hd : d ∉ l) :
    y.work.getD d 0 = x.work.getD d 0 := by
  have := h.total d
  rw [h.kept d hd] at this
  omega

/-- Where time is left each class of the pass has had what it wants. -/
theorem Pass.wanted_le {l : List Nat} {want : Nat → Nat} {x y : Sched8} (h : Pass l want x y) (time : y.left ≠ 0) {c : Nat}
    (hc : c ∈ l) : x.used.getD c 0 + want c ≤ y.used.getD c 0 :=
  Nat.le_of_not_lt fun less => time (h.short c hc less)

/-- A turn before a pass of later classes is a pass. -/
theorem Pass.cons {c : Nat} {l : List Nat} {want : Nat → Nat} {x y z : Sched8} (hl : ∀ d ∈ l, c < d)
    (h : Turn c (min (want c) x.left) x y) (hw : min (want c) x.left ≤ x.work.getD c 0) (k : Pass l want y z) :
    Pass (c :: l) want x z := by
  have first : z.used.getD c 0 = x.used.getD c 0 + min (want c) x.left := by
    rw [k.kept c fun hc => Nat.lt_irrefl _ (hl c hc), h.used, if_pos rfl]
  have later : ∀ d, d ≠ c → y.used.getD d 0 = x.used.getD d 0 := fun d hd => by rw [h.used, if_neg hd, Nat.add_zero]
  have spent : y.left = x.left - min (want c) x.left := h.left
  have passed := k.left
  refine ⟨k.sound, ?total, ?sum, by omega, ?kept, ?grows, ?bounded, ?idle, ?short, ?order⟩
  case total =>
    intro d
    rw [k.total, h.used, h.work]
    split
    case isTrue e => subst e; omega
    case isFalse => simp
  case sum => rw [k.sum, h.sum]; omega
  case kept =>
    intro d hd
    obtain ⟨hne, hnot⟩ := not_or.mp (mt List.mem_cons.mpr hd)
    rw [k.kept d hnot, later d hne]
  case grows => exact fun d => Nat.le_trans (by rw [h.used]; omega) (k.grows d)
  case bounded =>
    intro d hd
    obtain rfl | hd := List.mem_cons.mp hd
    · omega
    · exact later d (hl d hd).ne' ▸ k.bounded d hd
  case idle =>
    intro none d
    rw [k.idle (by omega), h.used]
    split <;> omega
  case short =>
    intro d hd less
    obtain rfl | hd := List.mem_cons.mp hd
    · omega
    · exact k.short d hd (later d (hl d hd).ne' ▸ less)
  case order =>
    intro a ha b hb lt less
    obtain rfl | hal := List.mem_cons.mp ha
    · rw [k.idle (by omega), later b lt.ne']
    · obtain rfl | hbl := List.mem_cons.mp hb
      · exact absurd (hl a hal) lt.asymm
      · rw [k.order a hal b hbl lt (later a (hl a hal).ne' ▸ less), later b (hl b hbl).ne']

/-- Turns of classes in rising order are a pass, where what a class wants is what its work and its bound leave it. -/
theorem runJobs_pass {l : List Nat} {bound want : Nat → Nat} {x : Sched8} (h : x.Sound) (rising : l.Pairwise (· < ·))
    (hl : ∀ c ∈ l, c < 8)
    (hw : ∀ c ∈ l, ∀ t ≤ x.left, min (min (x.work.getD c 0) (bound c)) t = min (want c) t) :
    Pass l want x (runJobs l bound x) := by
  induction l generalizing x with
  | nil => exact Pass.nil want h
  | cons c l ih =>
    obtain ⟨hlt, rising⟩ := List.pairwise_cons.mp rising
    obtain ⟨hc, hl⟩ := List.forall_mem_cons.mp hl
    obtain ⟨hwc, hw⟩ := List.forall_mem_cons.mp hw
    have time : jobTime c (bound c) x = min (want c) x.left := hwc _ (Nat.le_refl _)
    have turn : Turn c (min (want c) x.left) x (runJob c (bound c) x) := time ▸ runJob_turn hc (bound c) h
    refine Pass.cons hlt turn (by unfold jobTime at time; omega) (ih turn.sound rising hl fun d hd t ht => ?_)
    rw [turn.work, if_neg (hlt d hd).ne', Nat.sub_zero]
    exact hw d hd t (by have := turn.left; omega)

/-- Where no bound cuts a turn shorter than the time left does, each class wants all its work. -/
theorem runJobs_pass_of_left_le {l : List Nat} {ns : Nat} {x : Sched8} (h : x.Sound) (rising : l.Pairwise (· < ·))
    (hl : ∀ c ∈ l, c < 8) (enough : x.left ≤ ns) :
    Pass l (fun c => x.work.getD c 0) x (runJobs l (fun _ => ns) x) :=
  runJobs_pass h rising hl fun _ _ _ ht => by rw [Nat.min_assoc, Nat.min_eq_right (ht.trans enough)]

/-! The tick. -/

/-- The share of a class among jobs 2 to 7, as the list of R15 has it. -/
theorem jobShare_eq {c : Nat} (h : 2 ≤ c) (hc : c < 8) :
    jobShare c = [10000, 60000, 8000, 8000, 4000, 15000].getD (c - 2) 0 := by
  interval_cases c <;> rfl

theorem mem_early_iff (c : Nat) : c ∈ [0, 1] ↔ c < 2 := by
  simp only [List.mem_cons, List.not_mem_nil, or_false]
  omega

theorem two_le_of_mem_shared : ∀ c ∈ [2, 3, 4, 5, 6, 7], 2 ≤ c := by decide

theorem two_le_of_mem_leftOver : ∀ c ∈ [2, 4, 5, 6, 7], 2 ≤ c := by decide

theorem mem_shared {c : Nat} (h : 2 ≤ c) (hc : c < 8) : c ∈ [2, 3, 4, 5, 6, 7] := by interval_cases c <;> decide

theorem mem_leftOver {c : Nat} (h : 2 ≤ c) (hc : c < 8) (h3 : c ≠ 3) : c ∈ [2, 4, 5, 6, 7] :=
  (by decide : ∀ d ∈ [2, 3, 4, 5, 6, 7], d ≠ 3 → d ∈ [2, 4, 5, 6, 7]) c (mem_shared h hc) h3

/-- A schedule before anything ran (R16). -/
def Sched8.start (ns : Nat) (work : List Nat) : Sched8 :=
  { work := work, used := List.replicate 8 0, left := ns, last := 0, ran := [] }

/-- The three passes of a tick: jobs 0 and 1, the shares of jobs 2 to 7, what is left (R16). -/
theorem runTick_eq (ns : Nat) (work : List Nat) :
    runTick ns work = runJobs [2, 4, 5, 6, 7] (fun _ => ns) (runJobs [2, 3, 4, 5, 6, 7] jobShare
      (runJobs [0, 1] (fun _ => ns) (Sched8.start ns work))) := by
  simp only [runTick, runJobs, Sched8.start, List.foldl_cons, List.foldl_nil]

/-- In a tick jobs 0 and 1 want their work, jobs 2 to 7 their work within their shares, and then all but job 3 what is left
of their work (R16). -/
theorem runTick_passes (ns : Nat) {work : List Nat} (h : work.length = 8) : ∃ x y,
    Pass [0, 1] (fun c => work.getD c 0) (Sched8.start ns work) x ∧
    Pass [2, 3, 4, 5, 6, 7] (fun c => min (work.getD c 0) (jobShare c)) x y ∧
    Pass [2, 4, 5, 6, 7] (fun c => y.work.getD c 0) y (runTick ns work) := by
  have start : (Sched8.start ns work).Sound := ⟨h, List.length_replicate, Nat.zero_lt_succ 7⟩
  have first := runJobs_pass_of_left_le (l := [0, 1]) start (by decide) (by decide) (Nat.le_refl ns)
  generalize hx : runJobs [0, 1] (fun _ => ns) (Sched8.start ns work) = x at first
  have second := runJobs_pass (l := [2, 3, 4, 5, 6, 7]) (bound := jobShare) first.sound (by decide) (by decide)
    fun c hc _ _ => by rw [first.work_kept ((by decide : ∀ d ∈ [2, 3, 4, 5, 6, 7], d ∉ [0, 1]) c hc)]
  generalize hy : runJobs [2, 3, 4, 5, 6, 7] jobShare x = y at second
  have third := runJobs_pass_of_left_le (l := [2, 4, 5, 6, 7]) (ns := ns) second.sound (by decide) (by decide)
    (second.left.trans first.left)
  rw [← hy, ← hx, ← runTick_eq, hx, hy] at third
  exact ⟨x, y, first, second, third⟩

/-- Settles O53: what each clause says of a class is said of the pass in which the class has its turn. -/
theorem curatorScheduleSharesATick : Obligations.CuratorScheduleSharesATick := by
  unfold Obligations.CuratorScheduleSharesATick
  intro ns work h z hz
  obtain ⟨x, y, first, second, third⟩ := runTick_passes ns h
  rw [← hz] at third
  have unused (c : Nat) : (Sched8.start ns work).used.getD c 0 = 0 := getD_replicate_zero 8 c
  have unusedLater (c : Nat) (hc : 2 ≤ c) : x.used.getD c 0 = 0 :=
    (first.kept c (mt (mem_early_iff c).mp (Nat.not_lt.mpr hc))).trans (unused c)
  have xtotal (c : Nat) : x.used.getD c 0 + x.work.getD c 0 = work.getD c 0 := by
    rw [first.total, unused, Nat.zero_add]; rfl
  have total (c : Nat) : z.used.getD c 0 + z.work.getD c 0 = work.getD c 0 := by rw [third.total, second.total, xtotal]
  have xsum : x.used.sum + x.left = ns := by rw [first.sum]; simp [Sched8.start]
  have early (c : Nat) (hc : c < 2) : z.work.getD c 0 = x.work.getD c 0 := by
    rw [third.work_kept fun m => Nat.not_le.mpr hc (two_le_of_mem_leftOver c m),
      second.work_kept fun m => Nat.not_le.mpr hc (two_le_of_mem_shared c m)]
  have done (c : Nat) (hc : c < 2) (time : x.left ≠ 0) : x.work.getD c 0 = 0 := by
    have had := first.wanted_le time ((mem_early_iff c).mpr hc)
    have := xtotal c
    omega
  refine ⟨third.sound.used, third.sound.work, by rw [third.sum, second.sum, xsum], fun c _ => total c, ?early, ?catalogue,
    ?cut, ?rest, ?less, ?more⟩
  case early =>
    intro fits
    rw [early 0 (by decide), early 1 (by decide)]
    by_cases time : x.left = 0
    · have := sum_eq_of_getD_eq_zero first.sound.used unusedLater
      have := xtotal 0
      have := xtotal 1
      omega
    · exact ⟨done 0 (by decide) time, done 1 (by decide) time⟩
  case catalogue =>
    have := second.bounded 3 (by decide)
    rw [third.kept 3 (by decide)]
    simp only [unusedLater 3 (by decide), jobShare] at this
    omega
  case cut =>
    intro c hc
    unfold cutOf at hc
    simp only [Option.ite_none_right_eq_some, Option.some.injEq] at hc
    obtain ⟨⟨none, later, unfinished⟩, rfl⟩ := hc
    exact ⟨later, third.sound.last, unfinished, none⟩
  case rest =>
    intro time c hc h3
    have := third.left
    have := second.left
    by_cases h2 : c < 2
    · rw [early c h2, done c h2 (by omega)]
    · have := third.wanted_le time (mem_leftOver (by omega) hc h3)
      have := third.total c
      omega
  case less =>
    intro c d hc hcd hd less
    rw [← jobShare_eq hc (by omega)] at less
    have short : y.used.getD c 0 < x.used.getD c 0 + min (work.getD c 0) (jobShare c) := by
      rw [unusedLater c hc, Nat.zero_add]
      exact (third.grows c).trans_lt less
    have spent : y.left = 0 := second.short c (mem_shared hc (by omega)) short
    have none : y.used.getD d 0 = x.used.getD d 0 :=
      second.order c (mem_shared hc (by omega)) d (mem_shared (by omega) hd) hcd short
    exact ⟨Nat.eq_zero_of_le_zero (spent ▸ third.left), by rw [third.idle spent, none, unusedLater d (by omega)]⟩
  case more =>
    intro c hc hc8 more
    rw [← jobShare_eq hc hc8] at more
    have shared := second.bounded c (mem_shared hc hc8)
    rw [unusedLater c hc] at shared
    have gained : z.used.getD c 0 ≠ y.used.getD c 0 := by omega
    have time : y.left ≠ 0 := fun spent => gained (third.idle spent c)
    have h3 : c ≠ 3 := fun e => gained (third.kept c (e ▸ by decide))
    refine ⟨fun d hd hd8 => ?_, fun d hd hdc hd3 => ?_⟩
    · rw [← jobShare_eq hd hd8]
      have had := second.wanted_le time (mem_shared hd hd8)
      have := third.grows d
      omega
    · by_contra unfinished
      have short : z.used.getD d 0 < y.used.getD d 0 + y.work.getD d 0 := by
        have := third.total d
        omega
      exact gained (third.order d (mem_leftOver hd (by omega) hd3) c (mem_leftOver hc hc8 h3) hdc short)

end Sys2Proof.Machine
end

section
/-! O28: when an INVENTORY is accepted (R34). -/

namespace Sys2Proof.Machine

/-- The start of tick T - lead has yet to come at a reading (R25, R34). -/
theorem leadPassed_eq_false_iff (reading T lead : Nat) :
    leadPassed reading T lead = false ↔ reading < (T - lead) * tickUnits := by
  have units : 0 < tickUnits := by decide
  rw [leadPassed, decide_eq_false_iff_not, tickOfReading, ← Nat.div_lt_iff_lt_mul units]
  generalize reading / tickUnits = n
  omega

theorem getBank_setBank_same (b : Nat) (x : Bank) (s : State) : getBank (setBank b x s) b = x := by
  unfold getBank setBank modOpn
  split <;> simp [*]

theorem getBank_setBank_ne {b c : Nat} (h : b ≠ c) (one : b = 0 ∨ c = 0) (x : Bank) (s : State) :
    getBank (setBank b x s) c = getBank s c := by
  unfold getBank setBank modOpn
  obtain rfl | rfl := one
  · simp [h.symm]
  · simp [h]

theorem getBank_of_opn_eq {s t : State} (h : t.opn = s.opn) (b : Nat) : getBank t b = getBank s b := by
  unfold getBank
  rw [h]

/-- A bank that an INVENTORY has armed with its id and its tick (R34). -/
def bankArmed (b id T : Nat) (s : State) : State :=
  setBank b { Bank.free with tick := T }
    (w1 Reg.inventoryBankState b 1 (w1 Reg.inventoryBankId b id (w1 Reg.inventoryBankTick b T s)))

/-- A write of a register changes no other field. -/
theorem w1_frame {s t : State} (h : t = { s with regs := t.regs }) (i j v : Nat) :
    w1 i j v t = { s with regs := (w1 i j v t).regs } := by
  conv_lhs => rw [h]
  rfl

/-- A bank that is set, after writes of registers, changes no field beside the banks. -/
theorem setBank_frame {s t : State} (h : t = { s with regs := t.regs }) (b : Nat) (x : Bank) :
    setBank b x t = { s with regs := (setBank b x t).regs, opn := (setBank b x t).opn } := by
  conv_lhs => rw [h]
  conv_rhs => rw [h]
  rfl

theorem bankArmed_frame (b id T : Nat) (s : State) :
    bankArmed b id T s = { s with regs := (bankArmed b id T s).regs, opn := (bankArmed b id T s).opn } :=
  setBank_frame (w1_frame (w1_frame (w1_frame rfl _ _ _) _ _ _) _ _ _) _ _

theorem getBank_bankArmed_same (b id T : Nat) (s : State) :
    getBank (bankArmed b id T s) b = { Bank.free with tick := T } := getBank_setBank_same ..

theorem getBank_bankArmed_other {b : Nat} (hb : b < 2) (id T : Nat) (s : State) :
    getBank (bankArmed b id T s) (1 - b) = getBank s (1 - b) := by
  have other := getBank_setBank_ne (b := b) (c := 1 - b) (by omega) (by omega)
  exact (other _ _).trans (getBank_of_opn_eq (by rw [w1_opn, w1_opn, w1_opn]) _)

theorem bankArmed_sets {b : Nat} (hb : b < 2) (id T : Nat) (s : State) :
    RegsSet [(Reg.inventoryBankState, b, 0, 1), (Reg.inventoryBankId, b, 0, id), (Reg.inventoryBankTick, b, 0, T)] s
      (bankArmed b id T s) := by
  have apart (i j : Nat) (h : i ≠ j) : objKey i b 0 ≠ objKey j b 0 :=
    objKey_ne _ _ _ _ _ _ h (by omega) (by decide) (by omega) (by decide)
  have tick := (RegsSet.nil s).wr Reg.inventoryBankTick b 0 T (List.forall_mem_nil _)
  have ident := tick.wr Reg.inventoryBankId b 0 id (by simpa using apart _ _ (by decide))
  have state := ident.wr Reg.inventoryBankState b 0 1
    (by simpa using ⟨apart _ _ (by decide), apart _ _ (by decide)⟩)
  exact state.of_regs_eq rfl

/-- A request for a tick that has come, or at or after the start of the tick that lies the lead before it, is late (R34). -/
theorem inventoryRequest_late {reading T : Nat} {s : State} (id : Nat)
    (late : ¬ (r0 s Reg.tickNumber < T ∧ reading < (T - r0 s Reg.inventoryLead) * tickUnits)) :
    inventoryRequest reading id T s = (0x0C, s) := by
  rw [← leadPassed_eq_false_iff, not_and_or, Nat.not_lt, Bool.not_eq_false] at late
  exact if_pos late

section
variable {reading T : Nat} {s : State} (coming : r0 s Reg.tickNumber < T)
  (inTime : reading < (T - r0 s Reg.inventoryLead) * tickUnits)
include coming inTime

theorem inventory_not_late : ¬ (T ≤ tickNo s ∨ leadPassed reading T (r0 s Reg.inventoryLead) = true) := by
  simpa [tickNo, (leadPassed_eq_false_iff ..).mpr inTime] using coming

theorem inventoryRequest_accepted (id : Nat) {b : Nat} (lowest : b = 0 ∨ b = 1 ∧ bankState s 0 ≠ 0) (free : bankState s b = 0) :
    inventoryRequest reading id T s = (0, bankArmed b id T s) := by
  have taken : (List.range 2).find? (fun b => decide (bankState s b = 0)) = some b := by
    obtain rfl | ⟨rfl, busy⟩ := lowest <;> simp [List.range_succ, *]
  unfold inventoryRequest
  rw [if_neg (inventory_not_late coming inTime), taken]
  rfl

theorem inventoryRequest_busy (id : Nat) (busy0 : bankState s 0 ≠ 0) (busy1 : bankState s 1 ≠ 0) :
    inventoryRequest reading id T s = (0x0D, s) := by
  have taken : (List.range 2).find? (fun b => decide (bankState s b = 0)) = none := by simp [List.range_succ, *]
  unfold inventoryRequest
  rw [if_neg (inventory_not_late coming inTime), taken]

end

/-- The lowest free bank, where one is free. -/
theorem exists_lowest_free {s : State} (h : bankState s 0 = 0 ∨ bankState s 1 = 0) :
    ∃ b < 2, (b = 0 ∨ b = 1 ∧ bankState s 0 ≠ 0) ∧ bankState s b = 0 := by
  by_cases h0 : bankState s 0 = 0
  · exact ⟨0, by decide, .inl rfl, h0⟩
  · exact ⟨1, by decide, .inr ⟨rfl, h0⟩, h.resolve_left h0⟩

/-- An INVENTORY is accepted only in time and with a free bank (R34). -/
theorem inventoryRequest_eq_zero_iff (reading id T : Nat) (s : State) : (inventoryRequest reading id T s).1 = 0 ↔
    (r0 s Reg.tickNumber < T ∧ reading < (T - r0 s Reg.inventoryLead) * tickUnits) ∧
      (bankState s 0 = 0 ∨ bankState s 1 = 0) := by
  by_cases inTime : r0 s Reg.tickNumber < T ∧ reading < (T - r0 s Reg.inventoryLead) * tickUnits
  · by_cases free : bankState s 0 = 0 ∨ bankState s 1 = 0
    · obtain ⟨b, _, lowest, hb⟩ := exists_lowest_free free
      simp [inventoryRequest_accepted inTime.1 inTime.2 id lowest hb, inTime, free]
    · obtain ⟨busy0, busy1⟩ := not_or.mp free
      simp [inventoryRequest_busy inTime.1 inTime.2 id busy0 busy1, free]
  · simp [inventoryRequest_late id inTime, inTime]

/-- Settles O28: late before busy, and else the lowest free bank is armed. -/
theorem inventoryIsAcceptedOnlyEarlyAndWithAFreeBank : Obligations.InventoryIsAcceptedOnlyEarlyAndWithAFreeBank := by
  unfold Obligations.InventoryIsAcceptedOnlyEarlyAndWithAFreeBank
  intro reading id T s
  rw [← tickUnits_eq]
  refine ⟨inventoryRequest_eq_zero_iff .., inventoryRequest_late id,
    fun coming inTime => inventoryRequest_busy coming inTime id, ?past, ?armed, by decide, rfl⟩
  case past =>
    intro past
    rw [inventoryRequest_late id fun h => Nat.not_le.mpr h.1 past]
  case armed =>
    intro accepted
    obtain ⟨⟨coming, inTime⟩, free⟩ := (inventoryRequest_eq_zero_iff ..).mp accepted
    obtain ⟨b, hb, lowest, hfree⟩ := exists_lowest_free free
    rw [inventoryRequest_accepted coming inTime id lowest hfree]
    exact ⟨b, hb, hfree, bankArmed_sets hb id T s, by rw [getBank_bankArmed_same]⟩

end Sys2Proof.Machine
end

section
/-! A request of a session that comes in its turn (R67, R72-R74, R77). -/

namespace Sys2Proof.Machine

/-- A request that arrives whole and is dropped by nothing is taken (R67, R79-R83). -/
theorem arrive_of_arrives {s u : State} {opcode : Nat} {e : Envelope} {p : Pdu} {r : Req}
    (h : Arrives s opcode e p r u) : arrive opcode e p s = takeRequest r u := by
  obtain ⟨⟨path, mgt, svc, mask, good, hears⟩, rfl, mine, listens, room, request, rfl⟩ := h
  have taken : dispatch { opcode := opcode, env := e, pdu := p, received := s.counter } (arrivedIn s e) =
      takeRequest { opcode := opcode, env := e, pdu := p, received := s.counter } (arrivedIn s e) := by
    have room : ¬ (e.transport = .svc ∧ 4 ≤ svcWaiting (arrivedIn s e)) := fun h => Nat.not_lt.mpr h.2 (room h.1)
    simp only [dispatch, mine, listens, request, room, Bool.not_true, Bool.false_eq_true, if_false]
  rw [← taken]
  unfold arrive
  simp only [path, Bool.not_true, Bool.false_eq_true, if_false]
  cases transport : e.transport with
  | mgt =>
    have awake : arrivedIn s e = wakeByMgt s := if_pos transport
    rw [awake, transport] at listens
    simp [arriveMgt, mgt transport, good, listens, awake]
  | svc =>
    have asleep : arrivedIn s e = s := if_neg (by simp [transport])
    obtain ⟨line, atLeast, atMost, some, jtag⟩ := svc transport
    rw [asleep, transport] at listens
    simp [arriveSvc, listens, some, jtag, line, good, asleep, Nat.not_lt.mpr atLeast, Nat.not_lt.mpr atMost]
  | inband =>
    have asleep : arrivedIn s e = s := if_neg (by simp [transport])
    simp [arriveInband, mask transport, good, asleep]

/-- Nothing of a slot waits where nothing waits for a fuse (R53). -/
theorem queuedOf_of_none {s : State} (h : s.vit.waiting = []) (slot : Nat) : queuedOf s slot = 0 := by
  simp [queuedOf, h]

/-- The next request of a session, none being executed or held before it, is executed, and then those held behind it (R74). -/
theorem inSequence_next {slot : Nat} {x : Session} {r : Req} {s : State} (next : ahead x r = 1)
    (new : x.held.any (fun h => h.pdu.sequence = r.pdu.sequence) = false) (free : collecting s slot = false)
    (none : s.vit.waiting = []) : inSequence slot x r s = drain (execute slot r s) := by
  have turn : takeTurn slot r s = execute slot r s := if_pos (by rw [none]; rfl)
  simp [inSequence, next, new, free, queuedOf_of_none none, b2n, turn]

/-- A request in its turn is executed, and then those held behind it (R74). -/
theorem arrive_of_inTurn {s v : State} {opcode : Nat} {e : Envelope} {p : Pdu} {slot : Nat} {r : Req}
    (h : InTurn s opcode e p slot r v) (hop : opcode ≠ 1) : arrive opcode e p s = drain (execute slot r v) := by
  obtain ⟨u, x, arrives, rfl, session, tag, next, new, free, none, rfl⟩ := h
  rw [arrive_of_arrives arrives]
  obtain rfl := arrives.req
  unfold takeRequest
  simp only [hop, if_false, session, tag, Bool.not_true, Bool.false_eq_true]
  exact inSequence_next next new free none

theorem InTurn.req {s v : State} {opcode : Nat} {e : Envelope} {p : Pdu} {slot : Nat} {r : Req}
    (h : InTurn s opcode e p slot r v) : r = { opcode := opcode, env := e, pdu := p, received := s.counter } :=
  let ⟨_, _, arrives, _⟩ := h.taken
  arrives.req

/-- An operation that answers at once, neither CLOSE nor COLLECT, is answered in the state it leaves (R68, R74). -/
theorem execute_of_answered {slot : Nat} {r : Req} {s : State} {d : Done} (h : opOf slot r s = d) (hcollect : r.opcode ≠ 0x0A)
    (hclose : r.opcode ≠ 0x02) (hwait : d.waits = false) :
    execute slot r s = finishRequest slot r d.status d.payload d.after := by
  unfold execute
  simp only [hcollect, if_false, h, hwait, Bool.false_eq_true, hclose, false_and]

/-- A command by which a request arrives that is in turn and is answered at once. -/
theorem exec_of_inTurn {s v : State} {e : Envelope} {p : Pdu} {slot : Nat} {r : Req} {c : Instr} {opcode : Nat} {d : Done}
    (hc : exec c s = .next (arrive opcode e p s))
    (h : InTurn s opcode e p slot r v) (hop : opcode ∉ [1, 2, 0x0A]) (hd : opOf slot r v = d) (hwait : d.waits = false) :
    exec c s = .next (drain (finishRequest slot r d.status d.payload d.after)) := by
  simp only [List.mem_cons, List.not_mem_nil, or_false, not_or] at hop
  obtain ⟨hopen, hclose, hcollect⟩ := hop
  have code : r.opcode = opcode := by rw [h.req]
  rw [hc, arrive_of_inTurn h hopen, execute_of_answered hd (code ▸ hcollect) (code ▸ hclose) hwait]

end Sys2Proof.Machine
end

section
/-! O33: ARM, CANCEL and INVENTORY in turn (R24-R28, R34, R71). -/

namespace Sys2Proof.Machine

/-! The three requests, whatever their judgement. -/

section
variable {s v : State} {e : Envelope} {p : Pdu} {slot : Nat} {r : Req}

/-- An ARM of 24 bytes answers the Result of its judgement (R71). -/
theorem exec_arm_of_judged (h : InTurn s 7 e p slot r v) (length : p.payload.length = 24) {code : Nat} {t : State}
    (ha : armRequest (serialOf v slot) (requester e p) s.counter (leAt p.payload 0 4) (leAt p.payload 4 8)
      (leAt p.payload 12 4) (leAt p.payload 16 4) (leAt p.payload 20 4) v = (code, t)) :
    exec (.arm e p) s = .next (drain (finishRequest slot r 0 (slice p.payload 0 4 ++ [BitVec.ofNat 8 code]) t)) := by
  refine exec_of_inTurn (opcode := 7) (d := { status := 0, payload := _, after := t }) rfl h (by decide) ?_ rfl
  obtain rfl := h.req
  refine (if_neg (not_not.mpr length)).trans ?_
  rw [ha]
  rfl

/-- A CANCEL of 4 bytes answers the Result of its judgement (R71). -/
theorem exec_cancel_of_judged (h : InTurn s 8 e p slot r v) (length : p.payload.length = 4) {code : Nat} {t : State}
    (ha : cancelRequest s.counter (leAt p.payload 0 4) v = (code, t)) :
    exec (.cancel e p) s = .next (drain (finishRequest slot r 0 (p.payload ++ [BitVec.ofNat 8 code]) t)) := by
  refine exec_of_inTurn (opcode := 8) (d := { status := 0, payload := _, after := t }) rfl h (by decide) ?_ rfl
  obtain rfl := h.req
  refine (if_neg (not_not.mpr length)).trans ?_
  rw [ha]
  rfl

/-- An INVENTORY of 12 bytes answers the Result of its judgement (R71). -/
theorem exec_inventory_of_judged (h : InTurn s 9 e p slot r v) (length : p.payload.length = 12) {code : Nat} {t : State}
    (ha : inventoryRequest s.counter (leAt p.payload 0 4) (leAt p.payload 4 8) v = (code, t)) :
    exec (.inventory e p) s = .next (drain (finishRequest slot r 0 (slice p.payload 0 4 ++ [BitVec.ofNat 8 code]) t)) := by
  refine exec_of_inTurn (opcode := 9) (d := { status := 0, payload := _, after := t }) rfl h (by decide) ?_ rfl
  obtain rfl := h.req
  refine (if_neg (not_not.mpr length)).trans ?_
  rw [ha]
  rfl

end

/-! The judgement of an ARM (R24-R26). -/

/-- Where no waiting ARM's deadline has come none is refused. -/
theorem expireArms_of_none {s : State} (h : s.opn.waiting.filter (armLate s) = []) : expireArms s = s := by
  unfold expireArms
  rw [h]
  rfl

theorem armRefusal_eq_none {s : State} {received T participants : Nat} (coming : r0 s Reg.tickNumber < T)
    (inTime : tickOfReading received + r0 s Reg.armLead < T) (free : s.opn.armed = none)
    (synced : participants ≤ 1 ∨ r0 s Reg.servoState ∈ [2, 3]) : armRefusal s received T participants = none := by
  have lead : leadPassed received T (r0 s Reg.armLead) = false := decide_eq_false (Nat.not_le.mpr inTime)
  have servo : ¬ (1 < participants ∧ r0 s Reg.servoState ≠ 2 ∧ r0 s Reg.servoState ≠ 3) := by
    simp only [List.mem_cons, List.not_mem_nil, or_false] at synced
    omega
  unfold armRefusal
  simp only [tickNo, Nat.not_le.mpr coming, lead, free, servo, if_false, Option.isSome_none, Bool.false_eq_true]

/-- An ARM as it waits (R26): its deadline is fixed when it comes. -/
def waitingArm (serial : Nat) (peer : Peer) (id T count digest participants : Nat) (s : State) : WaitingArm :=
  { id := id, tick := T, deadline := T - r0 s Reg.armLead, count := count, digest := digest,
    participants := participants, serial := serial, peer := peer }

section
variable {s : State} {received T participants : Nat} (serial : Nat) (peer : Peer) (id : Nat) {count digest : Nat}
  (late : s.opn.waiting.filter (armLate s) = []) (accepted : armRefusal s received T participants = none)
include late accepted

/-- An ARM that the shadow matches, with nothing armed and no entry asleep, arms it (R21, R26). -/
theorem armRequest_ready (same : shadowMatches s count digest = true) (free : s.opn.armed = none)
    (awake : entriesAsleep s = false) :
    armRequest serial peer received id T count digest participants s =
      (0, recheck (armNow (waitingArm serial peer id T count digest participants s) s)) := by
  unfold armRequest
  simp only [expireArms_of_none late, accepted, same, if_true, armMatched, free, awake, Option.isSome_none,
    Bool.false_eq_true, if_false, waitingArm]

/-- An ARM that the shadow does not match waits (R26). -/
theorem armRequest_waits (other : shadowMatches s count digest = false) :
    armRequest serial peer received id T count digest participants s =
      (9, modOpn (fun o => { o with waiting := o.waiting ++ [waitingArm serial peer id T count digest participants s] }) s) := by
  unfold armRequest
  simp only [expireArms_of_none late, accepted, other, Bool.false_eq_true, if_false, waitingArm]

end

theorem shadowMatches_iff (s : State) (count digest : Nat) : shadowMatches s count digest = true ↔
    s.opn.shadow.length = count ∧ digestOfShadow s.opn.shadow = digest := by
  rw [shadowMatches, Bool.and_eq_true, decide_eq_true_iff, decide_eq_true_iff]
  rfl

/-! The judgement of a CANCEL (R28). -/

section
variable {s : State} (late : s.opn.waiting.filter (armLate s) = []) {received id : Nat}
include late

/-- A CANCEL before tick T - 1 of the armed opening disarms it, and the record, the count and the notification tell it (R28). -/
theorem cancelRequest_inTime {a : ArmedOpening} (armed : s.opn.armed = some a) (hid : a.id = id)
    (inTime : tickOfReading received + 1 < a.tick) : cancelRequest received id s =
      (8, notice a.id a.tick 8 none true (inc0 Reg.openingCancels
        (pushRecord (recordRow a.id a.tick a.count a.originator 8 a.digest) (modOpn (fun o => { o with armed := none }) s)))) := by
  have early : leadPassed received a.tick 1 = false := decide_eq_false (Nat.not_le.mpr inTime)
  unfold cancelRequest
  simp only [expireArms_of_none late, armed, hid, early, if_true, Bool.false_eq_true, if_false]

/-- A CANCEL from tick T - 1 on leaves the opening armed (R28). -/
theorem cancelRequest_past {a : ArmedOpening} (armed : s.opn.armed = some a) (hid : a.id = id)
    (past : a.tick ≤ tickOfReading received + 1) : cancelRequest received id s =
      (0x0A, modOpn (fun o => { o with armed := some { a with cancelLate := true } }) s) := by
  have passed : leadPassed received a.tick 1 = true := decide_eq_true past
  unfold cancelRequest
  simp only [expireArms_of_none late, armed, hid, passed, if_true]

/-- A CANCEL that names nothing has no effect (R28). -/
theorem cancelRequest_unknown (armed : ∀ a, s.opn.armed = some a → a.id ≠ id) (waiting : ∀ x ∈ s.opn.waiting, x.id ≠ id) :
    cancelRequest received id s = (0x0B, s) := by
  have none : cancelRequest.cancelWaiting id s = (0x0B, s) := by
    have : s.opn.waiting.find? (fun w => w.id = id) = .none := List.find?_eq_none.mpr (by simpa using waiting)
    unfold cancelRequest.cancelWaiting
    rw [this]
  unfold cancelRequest
  simp only [expireArms_of_none late]
  split
  next a h => rw [if_neg (armed a h), none]
  next => exact none

end

/-! The obligation. -/


/-- An ARM, a CANCEL or an INVENTORY of another length is malformed (R71, R74). -/
theorem exec_malformed {s v : State} {e : Envelope} {p : Pdu} {slot : Nat} {r : Req} {c : Instr} {n opcode : Nat}
    (hc : (c = .arm e p ∧ n = 24 ∧ opcode = 7) ∨ (c = .cancel e p ∧ n = 4 ∧ opcode = 8) ∨
      (c = .inventory e p ∧ n = 12 ∧ opcode = 9)) (h : InTurn s opcode e p slot r v) (length : p.payload.length ≠ n) :
    exec c s = .next (drain (finishRequest slot r 8 [] v)) := by
  have req := h.req
  obtain ⟨rfl, rfl, rfl⟩ | ⟨rfl, rfl, rfl⟩ | ⟨rfl, rfl, rfl⟩ := hc <;>
    exact exec_of_inTurn (d := malformed v) rfl h (by decide) (req ▸ if_pos length) rfl

/-- Settles O33: each request answers its judgement, and the laws above say what the judgement is. -/
theorem armCancelAndInventoryRequests : Obligations.ArmCancelAndInventoryRequests := by
  unfold Obligations.ArmCancelAndInventoryRequests
  intro e p slot r s v
  rw [← tickUnits_eq]
  refine ⟨?arm, ?cancel, ?inventory, ?armed, ?cancelled, ?taken, fun _ _ _ => exec_malformed,
    fun _ => exec_shadowDiscard_of_accepts⟩
  case arm =>
    rintro _ _ count digest _ turn length rfl rfl hcount hdigest rfl late coming inTime free synced
    have accepted := armRefusal_eq_none coming inTime free synced
    subst hcount hdigest
    refine ⟨fun hcount hdigest awake => ?_, fun other => ?_⟩
    · have same := (shadowMatches_iff ..).mpr ⟨hcount, hdigest⟩
      have awake : entriesAsleep v = false := List.any_eq_false.mpr fun x hx => by simp [awake x hx]
      exact exec_arm_of_judged turn length (armRequest_ready _ _ _ late accepted same free awake)
    · have other := Bool.eq_false_iff.mpr (mt (shadowMatches_iff ..).mp other)
      exact exec_arm_of_judged turn length (armRequest_waits _ _ _ late accepted other)
  case cancel =>
    intro turn length late
    refine ⟨fun a armed hid => ⟨fun inTime => ?_, fun past => ?_⟩, fun armed waiting => ?_⟩
    · exact exec_cancel_of_judged turn length (cancelRequest_inTime late armed hid inTime)
    · exact exec_cancel_of_judged turn length (cancelRequest_past late armed hid past)
    · exact exec_cancel_of_judged turn length (cancelRequest_unknown late armed waiting)
  case inventory =>
    rintro _ b turn length rfl coming inTime lowest free
    have early := (leadPassed_eq_false_iff ..).mp (decide_eq_false (Nat.not_le.mpr inTime))
    have judged := inventoryRequest_accepted coming early (leAt p.payload 0 4) lowest free
    have hb : b < 2 := by omega
    exact ⟨bankArmed b (leAt p.payload 0 4) (leAt p.payload 4 8) v, exec_inventory_of_judged turn length judged,
      bankArmed_frame .., bankArmed_sets hb .., getBank_bankArmed_same .., getBank_bankArmed_other hb ..⟩
  case armed =>
    rintro turn length ⟨code, t⟩ judged
    rw [turn.req] at judged
    exact exec_arm_of_judged turn length judged.symm
  case cancelled =>
    rintro turn length ⟨code, t⟩ judged
    rw [turn.req] at judged
    exact exec_cancel_of_judged turn length judged.symm
  case taken =>
    rintro turn length ⟨code, t⟩ judged
    rw [turn.req] at judged
    exact exec_inventory_of_judged turn length judged.symm

end Sys2Proof.Machine
end

section
/-! What the judging of gates and holds before a capture leaves alone (R35, R127, R176). -/

namespace Sys2Proof.Machine

/-- The banks, the shadow, what is armed and the work that is due stay, and so does every register below those of the ports and
the switch core. -/
structure KeepsBelowPorts (s t : State) : Prop where
  opn : t.opn = s.opn
  workDue : t.workDue = s.workDue
  low : ∀ k < objKey 0x3000 0 0, tget regDefault t.regs k = tget regDefault s.regs k

namespace KeepsBelowPorts

theorem refl (s : State) : KeepsBelowPorts s s := ⟨rfl, rfl, fun _ _ => rfl⟩

section
variable {a s t : State}

theorem trans (h : KeepsBelowPorts a s) (k : KeepsBelowPorts s t) : KeepsBelowPorts a t :=
  ⟨k.opn.trans h.opn, k.workDue.trans h.workDue, fun x hx => (k.low x hx).trans (h.low x hx)⟩

/-- A change of another field. -/
theorem of_eq (h : KeepsBelowPorts a s) (opn : t.opn = s.opn) (workDue : t.workDue = s.workDue) (regs : t.regs = s.regs) :
    KeepsBelowPorts a t :=
  h.trans ⟨opn, workDue, fun _ _ => by rw [regs]⟩

/-- A write of a register of the ports or beyond. -/
theorem wr (h : KeepsBelowPorts a s) {i : Nat} (hi : 0x3000 ≤ i) (j k v : Nat) :
    KeepsBelowPorts a (Machine.wr i j k v s) := by
  refine h.trans ⟨rfl, rfl, fun x hx => (tget_tset ..).trans (if_neg ?_)⟩
  unfold objKey at hx ⊢
  omega

theorem w1 (h : KeepsBelowPorts a s) {i : Nat} (hi : 0x3000 ≤ i) (j v : Nat) : KeepsBelowPorts a (Machine.w1 i j v s) :=
  h.wr hi ..
theorem w0 (h : KeepsBelowPorts a s) {i : Nat} (hi : 0x3000 ≤ i) (v : Nat) : KeepsBelowPorts a (Machine.w0 i v s) := h.wr hi ..
theorem count (h : KeepsBelowPorts a s) {i : Nat} (hi : 0x3000 ≤ i) (j k n : Nat) :
    KeepsBelowPorts a (Machine.count i j k n s) := h.wr hi ..
theorem inc (h : KeepsBelowPorts a s) {i : Nat} (hi : 0x3000 ≤ i) (j : Nat) : KeepsBelowPorts a (Machine.inc i j s) :=
  h.count hi ..

theorem modPort (h : KeepsBelowPorts a s) (slot : Nat) (f : PortSt → PortSt) :
    KeepsBelowPorts a (Machine.modPort slot f s) := h.of_eq rfl rfl rfl
theorem setGate (h : KeepsBelowPorts a s) (slot : Nat) (g : GateSt) : KeepsBelowPorts a (Machine.setGate slot g s) :=
  h.of_eq rfl rfl rfl
theorem setPerf (h : KeepsBelowPorts a s) (k : Nat) (p : PerfSt) : KeepsBelowPorts a (Machine.setPerf k p s) :=
  h.of_eq rfl rfl rfl

theorem ite {c : Prop} [Decidable c] (h : KeepsBelowPorts a s) (k : KeepsBelowPorts a t) :
    KeepsBelowPorts a (if c then s else t) := by split <;> assumption

theorem forL {α : Type} {l : List α} {f : α → State → State} (h : KeepsBelowPorts a s)
    (hf : ∀ x b, KeepsBelowPorts a b → KeepsBelowPorts a (f x b)) : KeepsBelowPorts a (Machine.forL l f s) :=
  List.foldlRecOn l _ h fun b hb x _ => hf x b hb

theorem forN {n : Nat} {f : Nat → State → State} (h : KeepsBelowPorts a s)
    (hf : ∀ x b, KeepsBelowPorts a b → KeepsBelowPorts a (f x b)) : KeepsBelowPorts a (Machine.forN n f s) :=
  h.forL (l := List.range n) hf

/-- A register of chapter 1, such as TickNumber and the banks', reads as before. -/
theorem rd_eq (h : KeepsBelowPorts s t) {i j k : Nat} (low : objKey i j k < objKey 0x3000 0 0) : rd t i j k = rd s i j k :=
  h.low _ low

end

section
variable {a s : State} (h : KeepsBelowPorts a s)
include h

/-! Events and programmable counters. -/

theorem archTrigger (kind : Nat) : KeepsBelowPorts a (Machine.archTrigger kind s) := by
  unfold Machine.archTrigger
  exact ite (h.of_eq rfl rfl rfl) h

theorem archEventTrigger (w rise : Nat) : KeepsBelowPorts a (Machine.archEventTrigger w rise s) := by
  unfold Machine.archEventTrigger
  exact ite (h.archTrigger 3) h

theorem pend (w bits : Nat) : KeepsBelowPorts a (Machine.pend w bits s) := by
  unfold Machine.pend
  exact ((h.w1 (by decide) ..).archEventTrigger ..).of_eq rfl rfl rfl

theorem noteEdge (n : Nat) : KeepsBelowPorts a (Machine.noteEdge n s) := h.of_eq rfl rfl rfl

theorem raise (n : Nat) : KeepsBelowPorts a (Machine.raise n s) := by
  unfold Machine.raise
  exact ite (((h.noteEdge n).count (by decide) ..).pend ..) h

theorem perfWraps (k n : Nat) : KeepsBelowPorts a (Machine.perfWraps k n s) := by
  unfold Machine.perfWraps
  exact ite h ((h.w0 (by decide) _).forN fun _ _ hb => hb.raise _)

theorem perfCross (k : Nat) : KeepsBelowPorts a (Machine.perfCross k s) := by
  unfold Machine.perfCross
  exact ite ((h.raise _).archTrigger _) (h.raise _)

theorem perfGateEnd (k : Nat) : KeepsBelowPorts a (Machine.perfGateEnd k s) := by
  unfold Machine.perfGateEnd
  exact (((h.w1 (by decide) ..).w1 (by decide) ..).inc (by decide) _).setPerf ..

theorem perfSettle (k : Nat) : KeepsBelowPorts a (Machine.perfSettle k s) := by
  unfold Machine.perfSettle
  exact ite (h.perfGateEnd k) h

theorem perfAdd (k n : Nat) : KeepsBelowPorts a (Machine.perfAdd k n s) := by
  have settled := h.perfSettle k
  unfold Machine.perfAdd
  exact ite h (ite (((settled.w1 (by decide) ..).perfWraps ..).perfCross k) ((settled.w1 (by decide) ..).perfWraps ..))

theorem classEvent (block slot c event n : Nat) : KeepsBelowPorts a (Machine.classEvent block slot c event n s) := by
  unfold Machine.classEvent perfEvent perfCount
  exact h.forL fun _ _ hb => ite (hb.perfAdd ..) hb

/-! Gates. -/

theorem judgeDeferral (slot c : Nat) : KeepsBelowPorts a (Machine.judgeDeferral slot c s) := by
  have hi : 0x3000 ≤ Reg.guardDeferrals + c := Nat.le_add_right_of_le (by decide)
  unfold Machine.judgeDeferral
  split
  · exact h
  · exact ite (((h.modPort ..).inc hi _).classEvent ..) h

theorem syncGate (slot : Nat) : KeepsBelowPorts a (Machine.syncGate slot s) := by
  have switched := (h.setGate slot gateInit).w1 (by decide : 0x3000 ≤ Reg.gateSwitchPending) slot 0
  unfold Machine.syncGate
  exact ite h (((ite switched h).w1 (by decide) ..).w1 (by decide) ..)

theorem judgeGates : KeepsBelowPorts a (Machine.judgeGates s) := by
  unfold Machine.judgeGates
  refine of_eq (ite (h.forL fun slot _ hb => ?_) h) rfl rfl rfl
  exact (hb.forN fun c _ hb => hb.judgeDeferral slot c).syncGate slot

/-! Holds. -/

theorem settleHold (slot c : Nat) : KeepsBelowPorts a (Machine.settleHold slot c s) := by
  have hi : 0x3000 ≤ Reg.txHeldTime + c := Nat.le_add_right_of_le (by decide)
  unfold Machine.settleHold
  exact ite h ((h.modPort ..).count hi ..)

theorem startHold (slot c : Nat) : KeepsBelowPorts a (Machine.startHold slot c s) := by
  unfold Machine.startHold
  exact ite (h.modPort ..) h

theorem settleHolds (slot : Nat) : KeepsBelowPorts a (Machine.settleHolds slot s) :=
  h.forN fun c _ hb => (hb.settleHold slot c).startHold slot c

end

end KeepsBelowPorts

/-- What a capture brings up to now before it takes the counters. -/
theorem keepsBelowPorts_beforeCapture (s : State) : KeepsBelowPorts s (forN 64 settleHolds (judgeGates s)) :=
  (KeepsBelowPorts.refl s).judgeGates.forN fun slot _ hb => hb.settleHolds slot

end Sys2Proof.Machine
end

section
/-! O26: the captures and the opening of a boundary (R14, R22, R23, R26-R28, R35, R37, R76). -/

namespace Sys2Proof.Machine

/-! Captures. -/

/-- A bank is armed, has yet to capture, and its tick has come (R35). -/
def BankDue (b : Nat) (s : State) : Prop := bankState s b = 1 ∧ !(getBank s b).captured ∧ (getBank s b).tick ≤ tickNo s

/-- Nothing is captured, or the bank takes what stands then and has captured. -/
theorem captureBank_cases (b : Nat) (s : State) : ¬ BankDue b s ∧ captureBank b s = s ∨
    ∃ x : Bank, x.captured = true ∧ captureBank b s = setBank b x (forN 64 settleHolds (judgeGates s)) := by
  by_cases due : BankDue b s
  · exact .inr ⟨_, rfl, if_pos due⟩
  · exact .inl ⟨due, if_neg due⟩

/-- A capture changes no register of chapter 1. -/
theorem rd_captureBank (b : Nat) (s : State) {i j k : Nat} (low : objKey i j k < objKey 0x3000 0 0) :
    rd (captureBank b s) i j k = rd s i j k := by
  obtain ⟨_, same⟩ | ⟨x, _, taken⟩ := captureBank_cases b s
  · rw [same]
  · rw [taken, rd_setBank, (keepsBelowPorts_beforeCapture s).rd_eq low]

theorem tickNo_captureBank (b : Nat) (s : State) : tickNo (captureBank b s) = tickNo s := rd_captureBank b s (by decide)

theorem setBank_armed (b : Nat) (x : Bank) (s : State) : (setBank b x s).opn.armed = s.opn.armed := by
  unfold setBank modOpn
  split <;> rfl

theorem captureBank_armed (b : Nat) (s : State) : (captureBank b s).opn.armed = s.opn.armed := by
  obtain ⟨_, same⟩ | ⟨x, _, taken⟩ := captureBank_cases b s
  · rw [same]
  · rw [taken, setBank_armed, (keepsBelowPorts_beforeCapture s).opn]

theorem captureBank_workDue (b : Nat) (s : State) : (captureBank b s).workDue = s.workDue := by
  obtain ⟨_, same⟩ | ⟨x, _, taken⟩ := captureBank_cases b s
  · rw [same]
  · rw [taken, setBank_workDue, (keepsBelowPorts_beforeCapture s).workDue]

/-- A capture of one bank leaves the other as it was. -/
theorem getBank_captureBank_ne {b c : Nat} (h : b ≠ c) (hb : b < 2) (hc : c < 2) (s : State) :
    getBank (captureBank b s) c = getBank s c := by
  obtain ⟨_, same⟩ | ⟨x, _, taken⟩ := captureBank_cases b s
  · rw [same]
  · rw [taken, getBank_setBank_ne h (by omega), getBank_of_opn_eq (keepsBelowPorts_beforeCapture s).opn]

/-- A capture of a bank leaves it not due, and makes no other bank due. -/
theorem BankDue.of_captureBank {b c : Nat} {s : State} (hb : b < 2) (hc : c < 2)
    (h : BankDue c (captureBank b s)) : b ≠ c ∧ BankDue c s := by
  obtain ⟨not, same⟩ | ⟨x, captured, taken⟩ := captureBank_cases b s
  · rw [same] at h
    exact ⟨fun e => not (e ▸ h), h⟩
  · obtain ⟨armed, free, come⟩ := h
    have apart : b ≠ c := by
      rintro rfl
      rw [taken, getBank_setBank_same, captured] at free
      exact absurd free (by decide)
    have bank := getBank_captureBank_ne apart hb hc s
    have state : bankState (captureBank b s) c = bankState s c :=
      rd_captureBank b s (by simp only [objKey, Reg.inventoryBankState]; omega)
    rw [state] at armed
    rw [bank, tickNo_captureBank] at come
    rw [bank] at free
    exact ⟨apart, armed, free, come⟩

/-- Once every due bank has captured none is due. -/
theorem not_bankDue_captureDue (s : State) : ¬ BankDue 0 (captureDue s) ∧ ¬ BankDue 1 (captureDue s) := by
  refine ⟨fun zero => ?_, fun one => (BankDue.of_captureBank (by decide) (by decide) one).1 rfl⟩
  obtain ⟨_, zero⟩ := BankDue.of_captureBank (by decide) (by decide) zero
  exact (BankDue.of_captureBank (by decide) (by decide) zero).1 rfl

/-- Captures that have been made are not made again. -/
theorem captureDue_captureDue (s : State) : captureDue (captureDue s) = captureDue s := by
  obtain ⟨zero, one⟩ := not_bankDue_captureDue s
  have again : captureBank 0 (captureDue s) = captureDue s := if_neg zero
  rw [captureDue, again]
  exact if_neg one

theorem tickNo_captureDue (s : State) : tickNo (captureDue s) = tickNo s :=
  (tickNo_captureBank 1 _).trans (tickNo_captureBank 0 s)

theorem captureDue_armed (s : State) : (captureDue s).opn.armed = s.opn.armed :=
  (captureBank_armed 1 _).trans (captureBank_armed 0 s)

/-! The opening. -/

/-- An armed opening whose tick has come takes effect on the state that the captures leave, which are not made again (R22). -/
theorem openDue_of_due {a : ArmedOpening} {s : State} (armed : s.opn.armed = some a) (come : a.tick ≤ r0 s Reg.tickNumber) :
    openDue (captureDue s) = openArmed a (captureDue s) := by
  have come : a.tick ≤ tickNo (captureDue s) := tickNo_captureDue s ▸ come
  unfold openDue
  simp only [captureDue_armed, armed, come, if_true, captureDue_captureDue]

theorem openDue_of_not_due {s : State} (h : ∀ a, s.opn.armed = some a → r0 s Reg.tickNumber < a.tick) :
    openDue (captureDue s) = captureDue s := by
  unfold openDue
  rw [captureDue_armed]
  split
  next a armed => exact if_neg (Nat.not_le.mpr (tickNo_captureDue s ▸ h a armed))
  next => rfl

/-- No route opening that is armed and has a candidate has come (R332). -/
theorem routeOpenDue_of_none {s : State}
    (h : ∀ a c, s.zut.arm = some a → a.cand = some c → r0 s Reg.tickNumber < a.tick) : routeOpenDue s = s := by
  have none : routeDue s = none := by
    unfold routeDue
    split
    next a arm =>
      split
      next c cand => exact if_neg (Nat.not_le.mpr (h a c arm cand))
      next => rfl
    next => rfl
  unfold routeOpenDue
  rw [none]

theorem workDone_of_none {s : State} (h : s.workDue = none) : workDone s = s := by
  unfold workDone
  rw [h]

/-- A reset at the opening is made, or ordered where it is a full one (R37, R430). -/
theorem resetAtOpening_of_kind {s : State} {k : Nat} (hk : r0 s Reg.resetAtOpening = k) (one : k ∈ [1, 2, 3]) :
    resetAtOpening s =
      if k = 1 then datapathReset (w0 Reg.resetAtOpening 0 s) else if k = 2 then curatorReset 2 (w0 Reg.resetAtOpening 0 s)
      else { w0 Reg.resetAtOpening 0 s with pwr := { s.pwr with resetNow := some (3, r0 s Reg.tickSequence), cause := 5 } } := by
  have sequence : r0 (w0 Reg.resetAtOpening 0 s) Reg.tickSequence = r0 s Reg.tickSequence :=
    rd_wr_ne _ _ _ _ _ _ _ _ (by decide)
  simp only [List.mem_cons, List.not_mem_nil, or_false] at one
  unfold resetAtOpening
  rw [hk]
  obtain rfl | rfl | rfl := one
  · rfl
  · rfl
  · simp only [modPwr, sequence]
    rfl

/-- A waiting ARM whose deadline has come is refused, and the shadow is discarded with it (R26). -/
theorem exec_armDeadline_of_late {s : State} {id : BitVec 32} {w : WaitingArm}
    (h : s.opn.waiting.find? (fun w => decide (w.id = id.toNat) && armLate s w) = some w) :
    exec (.armDeadline id) s = .next (recheck (incomplete w s)) := by
  show execArmDeadline id s = _
  unfold execArmDeadline
  rw [h]

theorem exec_openingOutcomeNotify_of_running {s : State} (h : curatorRuns s = true) :
    exec .openingOutcomeNotify s = .next (sendNotices s) := if_pos h

/-- Settles O26: what each command does is the law above of it. -/
theorem openingAppliesEveryArmedEntry : Obligations.OpeningAppliesEveryArmedEntry := by
  unfold Obligations.OpeningAppliesEveryArmedEntry
  intro s
  rw [← tickUnits_eq]
  refine ⟨?due, ?none, fun k => resetAtOpening_of_kind, routeOpenDue_of_none, workDone_of_none, ?deadline,
    exec_openingOutcomeNotify_of_running⟩
  case due =>
    rintro a u armed come rfl
    exact congrArg (fun t => Host.Outcome.next (workDone (routeOpenDue t))) (openDue_of_due armed come)
  case none =>
    intro none
    exact congrArg (fun t => Host.Outcome.next (workDone (routeOpenDue t))) (openDue_of_not_due none)
  case deadline =>
    rintro id w u late rfl
    exact exec_armDeadline_of_late late

end Sys2Proof.Machine
end

section
/-! O27: what is judged before an opening's entries take effect (R22, R176). -/

namespace Sys2Proof.Machine

theorem forN_const {σ : Type} (n : Nat) (s : σ) : forN n (fun _ s => s) s = s := by
  unfold forN
  exact List.foldl_fixed _

/-- An opening without entries, with the switch core asleep and no realignment staged, brings nothing (R22, R281). -/
theorem sectionsFollow_nil {old s : State} (same : ∀ i, r0 old i = r0 s i) (asleep : running s 4 = false)
    (unaligned : r0 s Reg.plsRealign = 0) : sectionsFollow old [] s = s := by
  have aligned : realignAtOpening s = s := if_pos unaligned
  simp [sectionsFollow, forL, asleep, stagedIn, stagedAny, stagedAt, forN_const, aligned, same]

/-- An opening without entries begins, as every opening does, with the judging of the gates (R176). -/
theorem applyEntries_nil (s : State) : applyEntries [] s = sectionsFollow (judgeGates s) [] (judgeGates s) := rfl

/-- With the switch core asleep the judging of the gates notes the reading, and nothing else changes. -/
theorem judgeGates_of_asleep {s : State} (asleep : running s 4 = false) :
    judgeGates s = { s with core := { s.core with judgedTo := s.counter } } := by
  unfold judgeGates
  simp only [asleep, Bool.false_eq_true, if_false]

/-- Refutes O27: two nanoseconds after a reset the reading to which the gates have been judged lies behind the counter. An
opening that names nothing brings it up to now before its sections follow, so it reaches no state that differs from the one
before it in registers alone. (With entries it is the same: `applyEntries` begins with `judgeGates`.) -/
theorem not_entriesOfAnOpeningReplaceLiveValues : ¬ Obligations.EntriesOfAnOpeningReplaceLiveValues := by
  unfold Obligations.EntriesOfAnOpeningReplaceLiveValues
  intro h
  generalize hs : advanceTo 2000 State.reset = s at h
  have asleep : running s 4 = false := hs ▸ by decide
  have unaligned : r0 s Reg.plsRealign = 0 := hs ▸ by decide
  have behind : s.core.judgedTo ≠ s.counter := hs ▸ by decide
  obtain ⟨u, opened, frame, _, kept⟩ := h [] [] s (by simp) rfl List.nodup_nil
  have same (i : Nat) : r0 u i = r0 s i := kept _ List.not_mem_nil
  have sameDomain : running u 4 = running s 4 := congrArg (fun d => decide (d ≤ 1)) (kept _ List.not_mem_nil)
  have judged := judgeGates_of_asleep asleep
  have reached : judgeGates s = u := calc
    judgeGates s = applyEntries [] s :=
      ((applyEntries_nil s).trans (sectionsFollow_nil (fun _ => rfl) (judged ▸ asleep) (judged ▸ unaligned))).symm
    _ = sectionsFollow s [] u := opened
    _ = u := sectionsFollow_nil (fun i => (same i).symm) (sameDomain.trans asleep) ((same _).trans unaligned)
  have : u.core = s.core := by rw [frame]
  rw [← reached, judged] at this
  exact behind (congrArg CoreSt.judgedTo this).symm

end Sys2Proof.Machine
end

section
/-! O29: what the judging of the gates may count before a capture (R35, R127, R176, R370). -/

namespace Sys2Proof.Machine

/-! The settling of holds writes TxHeldTime alone (R127). -/

/-- TxHeldTime of each class. -/
def heldTimes : List Nat := (List.range 8).map (Reg.txHeldTime + ·)

theorem Keeps.forL {α : Type} {l : List Nat} {a s : State} {m : List α} {f : α → State → State} (h : Keeps l a s)
    (hf : ∀ x ∈ m, ∀ b, Keeps l a b → Keeps l a (f x b)) : Keeps l a (Machine.forL m f s) :=
  List.foldlRecOn m _ h fun b hb x hx => hf x hx b hb

theorem settleHold_keeps {a s : State} (h : Keeps heldTimes a s) {slot c : Nat} (hslot : slot < 256) (hc : c < 8) :
    Keeps heldTimes a (settleHold slot c s) := by
  have hi : Reg.txHeldTime + c ∈ heldTimes := List.mem_map_of_mem (List.mem_range.mpr hc)
  unfold settleHold
  dsimp only
  split
  · exact h
  · exact wr_keeps (s := modPort slot _ s) h _ _ _ _ hi hslot (by decide)

theorem startHold_keeps {l : List Nat} {a s : State} (h : Keeps l a s) (slot c : Nat) : Keeps l a (startHold slot c s) := by
  unfold startHold
  dsimp only
  split <;> exact h

theorem settleAllHolds_keeps (s : State) : Keeps heldTimes s (forN 64 settleHolds s) := by
  refine (Keeps.refl _ s).forL (m := List.range 64) fun slot hslot b hb => hb.forL (m := List.range 8) fun c hc b hb => ?_
  have hslot : slot < 256 := (List.mem_range.mp hslot).trans (by decide)
  exact startHold_keeps (settleHold_keeps hb hslot (List.mem_range.mp hc)) _ _

/-- The sleeping domains are read from DomainState alone. -/
theorem asleepDomains_of_keeps {l : List Nat} {s t : State} (h : Keeps l s t) (hl : Reg.domainState ∉ l) :
    asleepDomains t = asleepDomains s := by
  have state (d : Nat) (hd : d < 256) : domainState t d = domainState s d :=
    h _ (by rwa [keyIdx_objKey _ _ _ hd (by decide)])
  simp [asleepDomains, switchable, asleep, state]

/-! A capture. -/

/-- A capture of bank 0 takes the sleeping domains as they read once the gates have been judged (R35, R176). -/
theorem asleep_of_captureDue {s : State} (due : BankDue 0 s) :
    (getBank (captureDue s) 0).asleep = asleepDomains (judgeGates s) := by
  have taken : captureBank 0 s = setBank 0 _ (forN 64 settleHolds (judgeGates s)) := if_pos due
  rw [captureDue, getBank_captureBank_ne (by decide) (by decide) (by decide), taken, getBank_setBank_same]
  dsimp only
  exact asleepDomains_of_keeps (settleAllHolds_keeps _) (by decide)

/-- A capture after which no work of the tick is due leaves what the captures leave. -/
theorem exec_inventoryCapture_of_no_work {s : State} (h : s.workDue = none) :
    exec .inventoryCapture s = .next (captureDue s) := by
  have none : (captureDue s).workDue = none := ((captureBank_workDue 1 _).trans (captureBank_workDue 0 s)).trans h
  show Host.Outcome.next (if stepTwoIsDue (captureDue s) then captureDue s else workDone (captureDue s)) = _
  rw [workDone_of_none none, ite_self]

theorem workDue_of_opn_frame {t u : State} (h : u = { t with opn := u.opn }) : u.workDue = t.workDue := by rw [h]

/-- What O29 would have of every state in which bank 0 alone is due and no work is: that the judging of the gates puts no domain
to sleep. -/
theorem asleepDomains_judgeGates_of_obligation (h : Obligations.InventoryBanksCaptureFillAndFree) {s : State}
    (due : BankDue 0 s) (other : r1 s Reg.inventoryBankState 1 ≠ 1) (idle : s.workDue = none) :
    asleepDomains (judgeGates s) = asleepDomains s := by
  unfold Obligations.InventoryBanksCaptureFillAndFree at h
  obtain ⟨armed, free, come⟩ := due
  obtain ⟨u, run, _, alone, bank⟩ := (h s).1 0 _ _ rfl armed (by simpa using free) come rfl
  have work : u.workDue = none := by
    rw [workDue_of_opn_frame (alone (.inl other)).2, (keepsBelowPorts_beforeCapture s).workDue, idle]
  rw [exec_inventoryCapture_of_no_work idle, workDone_of_none work, ite_self] at run
  obtain rfl : captureDue s = u := Host.Outcome.next.inj run
  exact (asleep_of_captureDue ⟨armed, free, come⟩).symm.trans (congrArg Bank.asleep bank)

/-! The counterexample. -/

/-- A counter's number under which PerfCounter stands where DomainState of domain 7 does: State bounds no counter's number to
the 64 that there are (R369). -/
def strayCounter : Nat := (Reg.domainState - Reg.perfCounter) * 256 + 7

/-- At port 0, of the one group that has a mode, a frame waits in the guard band of its open gate (R175): the gate closes after
2 ns, the counter reads 1.5 ns. Domain 7 runs with a sleep requested, bank 0 is armed for this tick, and the stray counter
counts the deferrals of queue 0 (R370). -/
def strayDeferral : State :=
  forN 31 (fun g s => w1 Reg.portGroupMode (g + 1) 0 s) (w1 Reg.perfConfig strayCounter (2 * 2 ^ 26 + 5 * 2 ^ 20)
    (w1 Reg.perfGateTicks strayCounter 65535 (w1 Reg.inventoryBankState 0 1 (w1 Reg.domainState 4 0
    (w1 Reg.domainState 7 1 (w1 Reg.gateListLength 0 2 (w1 Reg.gateCycleTime 0 125000
    (wr Reg.gateControlList 0 1 1000 (wr Reg.gateControlList 0 0 (0xFF * 2 ^ 32 + 1)
      { State.reset with
        counter := 3 * 2 ^ 39
        ports := [(0, { portInit with queue := [{ frame := 0, cls := 0, cut := true, residue := false, deferred := false }] })]
        perf := [(strayCounter, perfInit)] })))))))))

/-- The deferral is counted as the gates are judged, and domain 7 then reads as asleep. -/
theorem strayDeferral_asleep : asleepDomains (judgeGates strayDeferral) ≠ asleepDomains strayDeferral := by decide +kernel

theorem strayDeferral_due : BankDue 0 strayDeferral ∧ r1 strayDeferral Reg.inventoryBankState 1 ≠ 1 ∧
    strayDeferral.workDue = none := by
  unfold BankDue
  decide +kernel

/-- Refutes O29: AsleepDomains of a capture is what DomainState reads once the gates have been judged (R176), and the statement
asks for what it read before. Where State holds a programmable counter of a number beyond 63, the count of a deferral can fall on
DomainState. (The clauses on a bank that becomes full and on its release are not touched.) -/
theorem not_inventoryBanksCaptureFillAndFree : ¬ Obligations.InventoryBanksCaptureFillAndFree := fun h =>
  have ⟨due, other, idle⟩ := strayDeferral_due
  strayDeferral_asleep (asleepDomains_judgeGates_of_obligation h due other idle)

end Sys2Proof.Machine
end
section
/-! O3, O4: the register file keeps its one form (R54, 95_what_each_step_holds). -/

namespace Sys2Proof.Machine

/-- Settles O3: the file of a reset is written out in rising order (log 7). -/
theorem resetRegisterFileIsCanonical : Obligations.ResetRegisterFileIsCanonical := by
  unfold Obligations.ResetRegisterFileIsCanonical State.regsOk
  decide +kernel

/-- What a command does at most: it goes on to a state that advances, and follows where it is none of the test access port or
of the power. -/
def Steps (c : Instr) (s : State) : Prop := Moves s (exec c s) ∧ (touchesTap c = false → Ends s (exec c s))

theorem Ends.steps {c : Instr} {s : State} (h : Ends s (exec c s)) : Steps c s :=
  let ⟨t, ht, follows⟩ := h
  ⟨⟨t, ht, follows.toAdvances⟩, fun _ => h⟩

/-- Every command in every state goes on and advances, each by the law of its own meaning. -/
theorem exec_steps (c : Instr) (s : State) : Steps c s := by
  have same := Follows.refl s
  cases c with
  | tickBoundary inp => exact (execTickBoundary_ends same inp).steps
  | stage e p => exact (execStage_ends same e p).steps
  | arm e p => exact (execArm_ends same e p).steps
  | armDeadline id => exact (execArmDeadline_ends same id).steps
  | cancel e p => exact (execCancel_ends same e p).steps
  | opening => exact (execOpening_ends same).steps
  | shadowDiscard w => exact (execShadowDiscard_ends same w).steps
  | tickMaxClear w => exact (execTickMaxClear_ends same w).steps
  | inventory e p => exact (execInventory_ends same e p).steps
  | inventoryCapture => exact (execInventoryCapture_ends same).steps
  | inventoryBankFull bank => exact (execInventoryBankFull_ends same bank).steps
  | collect e p => exact (execCollect_ends same e p).steps
  | inventoryRelease bank w => exact (execInventoryRelease_ends same bank w).steps
  | read e p => exact (execRead_ends same e p).steps
  | write e p => exact (execWrite_ends same e p).steps
  | bulkRead e p => exact (execBulkRead_ends same e p).steps
  | bulkWrite e p => exact (execBulkWrite_ends same e p).steps
  | bulkStage e p => exact (execBulkStage_ends same e p).steps
  | openSession e p => exact (execOpenSession_ends same e p).steps
  | closeSession e p => exact (execCloseSession_ends same e p).steps
  | subscribe e p => exact (execSubscribe_ends same e p).steps
  | unknownOpcode opcode e p => exact (execUnknownOpcode_ends same opcode e p).steps
  | lorakRelay opcode e p => exact (execLorakRelay_ends same opcode e p).steps
  | lorakAnswerReceive opcode e p => exact (execLorakAnswerReceive_ends same opcode e p).steps
  | openingOutcomeNotify => exact (execOpeningOutcomeNotify_ends same).steps
  | sessionIdleTimeout slot => exact (execSessionIdleTimeout_ends same slot).steps
  | sessionViolationClear target w => exact (execSessionViolationClear_ends same target w).steps
  | lorakKeyWrite key w => exact (execLorakKeyWrite_ends same key w).steps
  | lorakKeyErase w => exact (execLorakKeyErase_ends same w).steps
  | lorakAuthRequiredWrite transport w => exact (execLorakAuthRequiredWrite_ends same transport w).steps
  | mgtModeWrite w => exact (execMgtModeWrite_ends same w).steps
  | mgtLinkUp signalled => exact (execMgtLinkUp_ends same signalled).steps
  | svcLineBreak inFrame => exact (execSvcLineBreak_ends same inFrame).steps
  | laneSignalDetected lane => exact (execLaneSignalDetected_ends same lane).steps
  | laneCdrLocked lane => exact (execLaneCdrLocked_ends same lane).steps
  | laneEqualised lane ctle ffe dfe => exact (execLaneEqualised_ends same lane ctle ffe dfe).steps
  | polarityTrialSwitch lane => exact (execPolarityTrialSwitch_ends same lane).steps
  | lanePolarityDecided lane => exact (execLanePolarityDecided_ends same lane).steps
  | trainingFrameReceive lane head => exact (execTrainingFrameReceive_ends same lane head).steps
  | laneOrderDecided slot markersExchanged => exact (execLaneOrderDecided_ends same slot markersExchanged).steps
  | laneLocked slot rxDelay txDelay skew => exact (execLaneLocked_ends same slot rxDelay txDelay skew).steps
  | laneStateTimeout lane => exact (execLaneStateTimeout_ends same lane).steps
  | laneBackoffEnd lane => exact (execLaneBackoffEnd_ends same lane).steps
  | laneLinkDown lane cause => exact (execLaneLinkDown_ends same lane cause).steps
  | laneLossBeforeUp lane cause => exact (execLaneLossBeforeUp_ends same lane cause).steps
  | laneEnableWrite lane w => exact (execLaneEnableWrite_ends same lane w).steps
  | adaptWindowEval lane transitions rarest ctle ffe dfe =>
    exact (execAdaptWindowEval_ends same lane transitions rarest ctle ffe dfe).steps
  | reserveRequest lane w => exact (execReserveRequest_ends same lane w).steps
  | reservePhaseEnd lane agree => exact (execReservePhaseEnd_ends same lane agree).steps
  | eyeScan lane fig => exact (execEyeScan_ends same lane fig).steps
  | testSelectWrite object lane w => exact (execTestSelectWrite_ends same object lane w).steps
  | checkerLock lane inverted => exact (execCheckerLock_ends same lane inverted).steps
  | checkerLockLoss lane errors => exact (execCheckerLockLoss_ends same lane errors).steps
  | chkClear lane w => exact (execChkClear_ends same lane w).steps
  | injectFire lane w => exact (execInjectFire_ends same lane w).steps
  | injectIntervalExpire lane => exact (execInjectIntervalExpire_ends same lane).steps
  | firstCellWritten port dt bytes bankLoad => exact (execFirstCellWritten_ends same port dt bytes bankLoad).steps
  | frameReceived port dt bytes ending bankLoad =>
    exact (execFrameReceived_ends same port dt bytes ending bankLoad).steps
  | pauseReceive port dt quanta => exact (execPauseReceive_ends same port dt quanta).steps
  | pfcReceive port dt enable time => exact (execPfcReceive_ends same port dt enable time).steps
  | holdTimerExpire port timer => exact (execHoldTimerExpire_ends same port timer).steps
  | controlFrameSend port => exact (execControlFrameSend_ends same port).steps
  | pfcRefresh port => exact (execPfcRefresh_ends same port).steps
  | egressFrameStart port dt => exact (execEgressFrameStart_ends same port dt).steps
  | egressFrameEnd port dt => exact (execEgressFrameEnd_ends same port dt).steps
  | headFrameAge port cls => exact (execHeadFrameAge_ends same port cls).steps
  | fdbAgeSweep => exact (execFdbAgeSweep_ends same).steps
  | fdbAgeTimeWrite w => exact (execFdbAgeTimeWrite_ends same w).steps
  | fdbFlushLearned w => exact (execFdbFlushLearned_ends same w).steps
  | portCounterClear port w => exact (execPortCounterClear_ends same port w).steps
  | classRuleHitClear w => exact (execClassRuleHitClear_ends same w).steps
  | coreCounterClear w => exact (execCoreCounterClear_ends same w).steps
  | gateEntryBoundary port => exact (execGateEntryBoundary_ends same port).steps
  | gateListSwitch port => exact (execGateListSwitch_ends same port).steps
  | starvePromotion port cls => exact (execStarvePromotion_ends same port cls).steps
  | gateCounterClear port w => exact (execGateCounterClear_ends same port w).steps
  | windowOpen group row => exact (execWindowOpen_ends same group row).steps
  | combinerAdd => exact (execCombinerAdd_ends same).steps
  | windowClose group => exact (execWindowClose_ends same group).steps
  | combinerConfigSwitch => exact (execCombinerConfigSwitch_ends same).steps
  | combinerCounterClear w => exact (execCombinerCounterClear_ends same w).steps
  | tdcTickResult channel met => exact (execTdcTickResult_ends same channel met).steps
  | ppsiEdge input dt edge => exact (execPpsiEdge_ends same input dt edge).steps
  | tdcCalRequest channel w => exact (execTdcCalRequest_ends same channel w).steps
  | tdcStandinStepEnd channel ended => exact (execTdcStandinStepEnd_ends same channel ended).steps
  | tdcCalRunEnd channel result => exact (execTdcCalRunEnd_ends same channel result).steps
  | tdcMeasureConfigWrite slot w => exact (execTdcMeasureConfigWrite_ends same slot w).steps
  | tdcMeasureStart slot w => exact (execTdcMeasureStart_ends same slot w).steps
  | tdcMeasureComplete slot dt edge => exact (execTdcMeasureComplete_ends same slot dt edge).steps
  | tdcMeasureOverflow slot => exact (execTdcMeasureOverflow_ends same slot).steps
  | freqMeasureConfigWrite slot w => exact (execFreqMeasureConfigWrite_ends same slot w).steps
  | freqMeasureStart slot w => exact (execFreqMeasureStart_ends same slot w).steps
  | freqGateEnd slot gate => exact (execFreqGateEnd_ends same slot gate).steps
  | xoscLoss ratioNum ratioDen => exact (execXoscLoss_ends same ratioNum ratioDen).steps
  | tdcSelfTestStart w => exact (execTdcSelfTestStart_ends same w).steps
  | tdcSelfTestEnd pairs x y => exact (execTdcSelfTestEnd_ends same pairs x y).steps
  | refAbsentTimeout input => exact (execRefAbsentTimeout_ends same input).steps
  | waitToRestoreExpire input => exact (execWaitToRestoreExpire_ends same input).steps
  | refDisqualify input => exact (execRefDisqualify_ends same input).steps
  | regainToTrack => exact (execRegainToTrack_ends same).steps
  | holdoverBinEnd => exact (execHoldoverBinEnd_ends same).steps
  | todMessage input dt bytes framingError => exact (execTodMessage_ends same input dt bytes framingError).steps
  | synOffsetWrite syn w => exact (execSynOffsetWrite_ends same syn w).steps
  | synRelockTrigger syn => exact (execSynRelockTrigger_ends same syn).steps
  | synLockAchieved syn => exact (execSynLockAchieved_ends same syn).steps
  | synOutputRestart syn => exact (execSynOutputRestart_ends same syn).steps
  | synLockTimeout syn => exact (execSynLockTimeout_ends same syn).steps
  | outEnableWrite output w => exact (execOutEnableWrite_ends same output w).steps
  | pulseAnchoredEmit pls => exact (execPulseAnchoredEmit_ends same pls).steps
  | pulseFollowerEmit pls => exact (execPulseFollowerEmit_ends same pls).steps
  | pulseMissed pls => exact (execPulseMissed_ends same pls).steps
  | pulseAutoAlign pls => exact (execPulseAutoAlign_ends same pls).steps
  | applyPoint => exact (execApplyPoint_ends same).steps
  | timeIncrementSetWrite w => exact (execTimeIncrementSetWrite_ends same w).steps
  | timeStepWrite w => exact (execTimeStepWrite_ends same w).steps
  | servoStateSetWrite w => exact (execServoStateSetWrite_ends same w).steps
  | servoModeWrite w => exact (execServoModeWrite_ends same w).steps
  | timeSet w => exact (execTimeSet_ends same w).steps
  | servoEnterTest w => exact (execServoEnterTest_ends same w).steps
  | servoLeaveTest w => exact (execServoLeaveTest_ends same w).steps
  | servoEnterRecovery w => exact (execServoEnterRecovery_ends same w).steps
  | acceptStep w => exact (execAcceptStep_ends same w).steps
  | ptpSyncSend port stamp => exact (execPtpSyncSend_ends same port stamp).steps
  | ptpAnnounceSend port => exact (execPtpAnnounceSend_ends same port).steps
  | ptpDelayReqSend port stamp => exact (execPtpDelayReqSend_ends same port stamp).steps
  | ptpDelayRespSend port => exact (execPtpDelayRespSend_ends same port).steps
  | ptpSyncReceive port msg stamp => exact (execPtpSyncReceive_ends same port msg stamp).steps
  | ptpFollowUpReceive port msg => exact (execPtpFollowUpReceive_ends same port msg).steps
  | ptpDelayReqReceive port msg stamp => exact (execPtpDelayReqReceive_ends same port msg stamp).steps
  | ptpDelayRespReceive port msg => exact (execPtpDelayRespReceive_ends same port msg).steps
  | ptpAnnounceReceive port msg => exact (execPtpAnnounceReceive_ends same port msg).steps
  | announceTimeout => exact (execAnnounceTimeout_ends same).steps
  | leapSecond => exact (execLeapSecond_ends same).steps
  | ptpCounterClear port w => exact (execPtpCounterClear_ends same port w).steps
  | helloSend => exact (execHelloSend_ends same).steps
  | helloReceive port payload => exact (execHelloReceive_ends same port payload).steps
  | adjacencyTimeout port => exact (execAdjacencyTimeout_ends same port).steps
  | linkstateRefresh => exact (execLinkstateRefresh_ends same).steps
  | linkstateOriginate => exact (execLinkstateOriginate_ends same).steps
  | linkstateReceive port payload => exact (execLinkstateReceive_ends same port payload).steps
  | linkstateExpire uid => exact (execLinkstateExpire_ends same uid).steps
  | routeArm => exact (execRouteArm_ends same).steps
  | routeArmReceive port payload => exact (execRouteArmReceive_ends same port payload).steps
  | routeArmDeadline => exact (execRouteArmDeadline_ends same).steps
  | routeAnswer port payload => exact (execRouteAnswer_ends same port payload).steps
  | routeCancelDeadline => exact (execRouteCancelDeadline_ends same).steps
  | routeCancel port payload => exact (execRouteCancel_ends same port payload).steps
  | routeOpening => exact (execRouteOpening_ends same).steps
  | twinHeartbeatReceive path body framed crc arrival =>
    exact (execTwinHeartbeatReceive_ends same path body framed crc arrival).steps
  | twinPeerFailed => exact (execTwinPeerFailed_ends same).steps
  | twinPathDegraded => exact (execTwinPathDegraded_ends same).steps
  | twinRankTakeover => exact (execTwinRankTakeover_ends same).steps
  | twinRoleChange => exact (execTwinRoleChange_ends same).steps
  | twinActiveReceive port body => exact (execTwinActiveReceive_ends same port body).steps
  | arbiterRelease row => exact (execArbiterRelease_ends same row).steps
  | dualActiveReceive port body => exact (execDualActiveReceive_ends same port body).steps
  | calRunStart cls inst => exact (execCalRunStart_ends same cls inst).steps
  | calRunEnd inst result checks => exact (execCalRunEnd_ends same inst result checks).steps
  | calRunAbandon cls inst => exact (execCalRunAbandon_ends same cls inst).steps
  | calRetryExpire cls inst => exact (execCalRetryExpire_ends same cls inst).steps
  | calRequest cls inst w => exact (execCalRequest_ends same cls inst w).steps
  | calDiscardSets w => exact (execCalDiscardSets_ends same w).steps
  | perfConfigWrite counter gate last w => exact (execPerfConfigWrite_ends same counter gate last w).steps
  | perfCounterPreset counter last w => exact (execPerfCounterPreset_ends same counter last w).steps
  | perfGateEnd counter => exact (execPerfGateEnd_ends same counter).steps
  | perfOverflowClear w => exact (execPerfOverflowClear_ends same w).steps
  | counterClearAll w => exact (execCounterClearAll_ends same w).steps
  | archiveConfigWrite object w => exact (execArchiveConfigWrite_ends same object w).steps
  | archiveTrigger w => exact (execArchiveTrigger_ends same w).steps
  | archiveReadIndexWrite w => exact (execArchiveReadIndexWrite_ends same w).steps
  | archiveClear w => exact (execArchiveClear_ends same w).steps
  | eventClear word w => exact (execEventClear_ends same word w).steps
  | eventMaskWrite mask word w => exact (execEventMaskWrite_ends same mask word w).steps
  | eventHoldWrite w => exact (execEventHoldWrite_ends same w).steps
  | eventNotify => exact (execEventNotify_ends same).steps
  | eventCountClear w => exact (execEventCountClear_ends same w).steps
  | intervalClose => exact (execIntervalClose_ends same).steps
  | sealNFall => exact (execSealNFall_ends same).steps
  | sealOpenQualified => exact (execSealOpenQualified_ends same).steps
  | sealNRise => exact (execSealNRise_ends same).steps
  | sealWrite interval row w => exact (execSealWrite_ends same interval row w).steps
  | microcodeCheck digest => exact (execMicrocodeCheck_ends same digest).steps
  | powerUpStart vin straps xosc => exact (execPowerUpStart_ends same vin straps xosc).steps
  | brownoutRelease vin => exact (execBrownoutRelease_ends same vin).steps
  | curatorImageRunning passA passB => exact (execCuratorImageRunning_ends same passA passB).steps
  | brownout vin => exact ⟨execBrownout_moves vin s, nofun⟩
  | undervoltageLockout vin => exact ⟨execUndervoltageLockout_moves vin s, nofun⟩
  | overtempShutdown die reading => exact ⟨execOvertempShutdown_moves die reading s, nofun⟩
  | domainSleepRequest domain w => exact (execDomainSleepRequest_ends same domain w).steps
  | domainSleepAtTickWrite domain w => exact (execDomainSleepAtTickWrite_ends same domain w).steps
  | domainWakeAtTickWrite domain w => exact (execDomainWakeAtTickWrite_ends same domain w).steps
  | domainSleepEntry domain => exact (execDomainSleepEntry_ends same domain).steps
  | domainWakeCommand domain w => exact (execDomainWakeCommand_ends same domain w).steps
  | wakeSourceFire domain source lane => exact (execWakeSourceFire_ends same domain source lane).steps
  | domainWakeComplete domain => exact (execDomainWakeComplete_ends same domain).steps
  | resetNowDatapath w => exact (execResetNowDatapath_ends same w).steps
  | resetNowCurator w => exact (execResetNowCurator_ends same w).steps
  | resetNowFull w => exact (execResetNowFull_ends same w).steps
  | datapathReset => exact (execDatapathReset_ends same).steps
  | curatorReset => exact (execCuratorReset_ends same).steps
  | fullModuleReset straps xosc => exact (execFullModuleReset_ends same straps xosc).steps
  | curatorWatchdog => exact (execCuratorWatchdog_ends same).steps
  | resetNAssert => exact (execResetNAssert_ends same).steps
  | resetNRelease straps xosc => exact (execResetNRelease_ends same straps xosc).steps
  | imageBlockWrite row w => exact (execImageBlockWrite_ends same row w).steps
  | imageErase w => exact (execImageErase_ends same w).steps
  | imageEraseComplete => exact (execImageEraseComplete_ends same).steps
  | imageCommit w => exact (execImageCommit_ends same w).steps
  | bootPreferSet w => exact (execBootPreferSet_ends same w).steps
  | extest => exact ⟨execExtest_moves s, nofun⟩
  | samplePreload => exact ⟨execSamplePreload_moves s, nofun⟩
  | idcode => exact ⟨execIdcode_moves s, nofun⟩
  | highz => exact ⟨execHighz_moves s, nofun⟩
  | clamp => exact ⟨execClamp_moves s, nofun⟩
  | extestPulse => exact ⟨execExtestPulse_moves s, nofun⟩
  | extestTrain => exact ⟨execExtestTrain_moves s, nofun⟩
  | vitrineId => exact ⟨execVitrineId_moves s, nofun⟩
  | svcPort => exact ⟨execSvcPort_moves s, nofun⟩
  | bypass code => exact ⟨execBypass_moves code s, nofun⟩
  | mgtLinkDown => exact (execMgtLinkDown_ends same).steps
  | imageCheckComplete pass version => exact (execImageCheckComplete_ends same pass version).steps
  | vitrineRecordInFlash => exact (execVitrineRecordInFlash_ends same).steps
  | fuseBurnComplete => exact (execFuseBurnComplete_ends same).steps
  | overtempLimitCrossed die reading => exact (execOvertempLimitCrossed_ends same die reading).steps
  | tapReset => exact ⟨execTapReset_moves s, nofun⟩
  | startEdgeTaken slot dt edge => exact (execStartEdgeTaken_ends same slot dt edge).steps

theorem idle_follows (s : State) : Follows s (idle s) := elapse_follows (Follows.refl s) _

/-- One step leaves a register file in its form: what a step answers is what its command answers, or an idle cycle. -/
theorem step_regsOk {s t : State} (ok : s.regsOk) (h : step s = .next t) : t.regsOk := by
  unfold step at h
  split at h
  next c rest _ =>
    obtain ⟨⟨u, hu, advances⟩, _⟩ := exec_steps c { s with pending := rest }
    obtain rfl : u = t := Host.Outcome.next.inj (hu.symm.trans h)
    exact advances.regs ok
  next =>
    obtain rfl : idle s = t := Host.Outcome.next.inj h
    exact (idle_follows s).regs ok

/-- Settles O4: every command advances, and what advances keeps the form. -/
theorem everyStepKeepsTheRegisterFileCanonical : Obligations.EveryStepKeepsTheRegisterFileCanonical := by
  unfold Obligations.EveryStepKeepsTheRegisterFileCanonical
  exact fun s t => step_regsOk

end Sys2Proof.Machine
end

section
/-! O9: one register is written at a time (R40, R48). -/

namespace Sys2Proof.Machine

/-- Registers have their own keys, within the ranges of sub-indices and rows. -/
theorem objKey_inj {i j k i' j' k' : Nat} (hj : j < 256) (hk : k < 2 ^ 24) (hj' : j' < 256) (hk' : k' < 2 ^ 24) :
    objKey i j k = objKey i' j' k' ↔ (i, j, k) = (i', j', k') := by
  simp only [objKey, Prod.mk.injEq]
  omega

theorem wr_sets (i j k v : Nat) (s : State) : Sets [(i, j, k, v)] s (wr i j k v s) :=
  ⟨rfl, (RegsSet.nil s).wr _ _ _ _ (List.forall_mem_nil _)⟩

/-- Settles O9: a counter's step is a write, and keys within range are the registers' own. -/
theorem writingOneRegisterChangesNoOther : Obligations.WritingOneRegisterChangesNoOther := by
  unfold Obligations.WritingOneRegisterChangesNoOther
  intro idx sub row v s hsub hrow
  refine ⟨wr_sets .., wr_sets .., fun idx' sub' row' hsub' hrow' other => rd_wr_ne _ _ _ _ _ _ _ _ ?_⟩
  exact mt (objKey_inj hsub' hrow' hsub hrow).mp other

end Sys2Proof.Machine
end

section
/-! O6, O7, O8: what a write command comes to (R48-R60, R72, R460). -/

namespace Sys2Proof.Machine

/-- The objects that are commands of type BOOL (R50). -/
def boolCommands : List Nat :=
  [Reg.shadowDiscard, Reg.tickMaxClear, Reg.sessionViolationClear, Reg.lorakKeyErase, Reg.reserveRequest,
    Reg.chkClear, Reg.injectFire, Reg.fdbFlushLearned, Reg.portCounterClear, Reg.classRuleHitClear,
    Reg.coreCounterClear, Reg.gateCounterClear, Reg.combinerCounterClear, Reg.tdcMeasureStart, Reg.freqMeasureStart,
    Reg.tdcSelfTestStart, Reg.acceptStep, Reg.ptpCounterClear, Reg.calDiscardSets, Reg.counterClearAll,
    Reg.archiveTrigger, Reg.archiveClear, Reg.eventCountClear, Reg.imageErase, Reg.imageCommit, Reg.tdcCalRequest,
    calRequestIdx .portDelay, calRequestIdx .output, calRequestIdx .crystal]

/-- A fuse holds up a write that has its turn: one of a SEAL object, by its judgement (R51, R408). -/
def FuseHeld (s : State) (w : WriteReq) (idx sub row : Nat) : Prop :=
  isSealed idx = true ∧ reaches s w.slot.val = true ∧ s.vit.waiting = [] ∧
    fuseHolds s (judge s .write w.slot.val idx sub row (some w.value)) = true

/-- The command is the one write operation with its object's effect, unless a fuse holds it up; the effect of a BOOL command
is none at 0 (R50). -/
structure WritesWith (c : Instr) (w : WriteReq) (idx sub row : Nat) (eff : Nat → Nat → State → State) : Prop where
  run : ∀ s, ¬ FuseHeld s w idx sub row → exec c s = .next (catWrite w idx sub row eff s)
  zero : idx ∈ boolCommands → ∀ st s, eff st 0 s = s

theorem isSealed_of_sealWrite {interval : Bool} {idx : Nat}
    (hidx : idx = if interval then Reg.vitrineInterval else Reg.tenantMap) : isSealed idx = true := by
  subst hidx
  cases interval <;> rfl

/-- A SEAL_WRITE that no fuse holds up is a write like the others (R51). -/
theorem exec_sealWrite_of_not_held {interval : Bool} {row : BitVec 32} {w : WriteReq} {idx : Nat} {s : State}
    (hidx : idx = if interval then Reg.vitrineInterval else Reg.tenantMap) (h : ¬ FuseHeld s w idx 0 row.toNat) :
    exec (.sealWrite interval row w) s = .next (catWrite w idx 0 row.toNat (effSeal 4 idx row.toNat w) s) := by
  have sealed := isSealed_of_sealWrite hidx
  subst hidx
  refine if_neg fun held => h ?_
  simp only [Bool.and_eq_true, List.isEmpty_iff] at held
  obtain ⟨⟨served, none⟩, held⟩ := held
  exact ⟨sealed, served, none, held⟩

/-- Every write command is a write of its object. -/
theorem writesWith_of_writeOf {c : Instr} {w : WriteReq} {idx sub row : Nat} (h : writeOf c = some (w, idx, sub, row)) :
    ∃ eff, WritesWith c w idx sub row eff := by
  cases c with
  | shadowDiscard | tickMaxClear | sessionViolationClear | lorakKeyErase | reserveRequest | chkClear | injectFire
  | fdbFlushLearned | portCounterClear | classRuleHitClear | coreCounterClear | gateCounterClear | combinerCounterClear
  | tdcCalRequest | tdcMeasureStart | freqMeasureStart | tdcSelfTestStart | acceptStep | ptpCounterClear | calRequest
  | calDiscardSets | counterClearAll | archiveTrigger | archiveClear | eventCountClear | imageErase | imageCommit =>
    cases h
    exact ⟨_, fun _ _ => rfl, fun _ _ _ => rfl⟩
  | lorakKeyWrite | lorakAuthRequiredWrite | mgtModeWrite | laneEnableWrite | fdbAgeTimeWrite | tdcMeasureConfigWrite
  | freqMeasureConfigWrite | synOffsetWrite | outEnableWrite | timeIncrementSetWrite | timeStepWrite | servoStateSetWrite
  | servoModeWrite | timeSet | servoEnterTest | servoLeaveTest | servoEnterRecovery | perfCounterPreset | perfOverflowClear
  | archiveReadIndexWrite | eventClear | eventHoldWrite | domainSleepRequest | domainSleepAtTickWrite
  | domainWakeAtTickWrite | domainWakeCommand | resetNowDatapath | resetNowCurator | resetNowFull | imageBlockWrite
  | bootPreferSet =>
    cases h
    exact ⟨_, fun _ _ => rfl, fun mem => absurd mem (by decide)⟩
  | testSelectWrite | perfConfigWrite | archiveConfigWrite | eventMaskWrite =>
    cases h
    exact ⟨_, fun _ _ => rfl, fun mem => absurd mem (by decide +revert)⟩
  | sealWrite interval row w =>
    cases h
    exact ⟨_, fun _ => exec_sealWrite_of_not_held rfl, fun mem => absurd mem (by decide +revert)⟩
  | _ => cases h

/-! A write that is not served (R58, R72, R460). -/

/-- Settles O7: every write command goes through the one write operation, which an unserved write does not pass. -/
theorem unservedWriteChangesNothing : Obligations.UnservedWriteChangesNothing := by
  unfold Obligations.UnservedWriteChangesNothing
  intro c s w idx sub row h unserved
  obtain ⟨eff, law⟩ := writesWith_of_writeOf h
  have free : ¬ FuseHeld s w idx sub row := fun ⟨_, served, _⟩ => Bool.false_ne_true (unserved.symm.trans served)
  rw [law.run s free, catWrite_unserved eff unserved]

/-! A command object that is written 0 (R50). -/

theorem not_isSealed_of_boolCommand : ∀ idx ∈ boolCommands, isSealed idx = false := by decide

/-- Settles O8: the effect of a BOOL command is none at 0, and no fuse holds one up. -/
theorem commandObjectIgnoresZero : Obligations.CommandObjectIgnoresZero := by
  unfold Obligations.CommandObjectIgnoresZero
  intro c s w idx sub row st h mem accepted
  obtain ⟨eff, law⟩ := writesWith_of_writeOf h
  have free : ¬ FuseHeld s w idx sub row :=
    fun ⟨sealed, _⟩ => Bool.false_ne_true ((not_isSealed_of_boolCommand idx mem).symm.trans sealed)
  rw [law.run s free, catWrite_accepts eff accepted, law.zero mem]

/-! A write that is a violation (R55, R56, R60). -/

/-- The record of a violation (R60). -/
def violationRecord (opcode idx sub row seq item kind : Nat) : Nat :=
  ofLE (bytesLE 2 idx ++ bytesLE 1 sub ++ bytesLE 1 (0x80 + kind) ++ bytesLE 4 row ++ bytesLE 4 seq ++ bytesLE 1 opcode ++
    bytesLE 1 item ++ bytesLE 2 0)

section
variable {slot kind : Nat} (hslot : slot < 16) (hkind : kind ≤ 6)
include hslot hkind

theorem kindsKey_ne_violationsKey :
    objKey Reg.sessionViolationKinds (slot * 16 + kind) 0 ≠ objKey Reg.sessionViolations slot 0 :=
  objKey_ne _ _ _ _ _ _ (by decide) (by omega) (by decide) (by omega) (by decide)

/-- A violation is three register writes (R56, R60). -/
theorem violate_eq (opcode idx sub row seq item : Nat) (s : State) :
    violate opcode slot idx sub row seq item kind s =
      wr Reg.sessionLastViolation slot 0 (violationRecord opcode idx sub row seq item kind)
        (wr Reg.sessionViolationKinds (slot * 16 + kind) 0 ((r1 s Reg.sessionViolationKinds (slot * 16 + kind) + 1) % 2 ^ 64)
          (wr Reg.sessionViolations slot 0 ((r1 s Reg.sessionViolations slot + 1) % 2 ^ 64) s)) := by
  simp only [violate, inc, count, w1, r1, rd_wr_ne _ _ _ _ _ _ _ _ (kindsKey_ne_violationsKey hslot hkind), violationRecord]

/-- A violation writes the record and the two counts of its session, and no other register (R56, R60). -/
theorem violate_sets (opcode idx sub row seq item : Nat) (s : State) :
    Sets [(Reg.sessionLastViolation, slot, 0, violationRecord opcode idx sub row seq item kind),
      (Reg.sessionViolationKinds, slot * 16 + kind, 0, (r1 s Reg.sessionViolationKinds (slot * 16 + kind) + 1) % 2 ^ 64),
      (Reg.sessionViolations, slot, 0, (r1 s Reg.sessionViolations slot + 1) % 2 ^ 64)] s
      (violate opcode slot idx sub row seq item kind s) := by
  have kinds : objKey Reg.sessionViolationKinds (slot * 16 + kind) 0 ≠ objKey Reg.sessionLastViolation slot 0 :=
    objKey_ne _ _ _ _ _ _ (by decide) (by omega) (by decide) (by omega) (by decide)
  have count : objKey Reg.sessionViolations slot 0 ≠ objKey Reg.sessionLastViolation slot 0 :=
    objKey_ne _ _ _ _ _ _ (by decide) (by omega) (by decide) (by omega) (by decide)
  rw [violate_eq hslot hkind]
  have one := (wr_sets Reg.sessionViolations slot 0 ((r1 s Reg.sessionViolations slot + 1) % 2 ^ 64) s).2
  have two := one.wr Reg.sessionViolationKinds (slot * 16 + kind) 0
    ((r1 s Reg.sessionViolationKinds (slot * 16 + kind) + 1) % 2 ^ 64)
    (List.forall_mem_singleton.mpr (kindsKey_ne_violationsKey hslot hkind).symm)
  have three := two.wr Reg.sessionLastViolation slot 0 (violationRecord opcode idx sub row seq item kind)
    (List.forall_mem_cons.mpr ⟨kinds, List.forall_mem_singleton.mpr count⟩)
  exact ⟨w1_frame (w1_frame (w1_frame rfl _ _ _) _ _ _) _ _ _, three⟩

end

/-- No fuse holds up a violation, but one of the seal while a fuse burns (R408). -/
theorem fuseHolds_of_violation {s : State} {kind : Nat} (h : kind = 6 → s.vit.burning = none) :
    fuseHolds s (some kind) = false := by
  by_cases closed : kind = 6
  · simp [fuseHolds, h closed]
  · simp [fuseHolds, closed]

/-- Settles O6: every write command goes through the one write operation, where a violation is recorded and nothing more. -/
theorem violationIsCountedAndChangesNothingElse : Obligations.ViolationIsCountedAndChangesNothingElse := by
  unfold Obligations.ViolationIsCountedAndChangesNothingElse
  intro c s w idx sub row kind h served none judged unburnt
  obtain ⟨eff, law⟩ := writesWith_of_writeOf h
  have free : ¬ FuseHeld s w idx sub row := by
    rintro ⟨_, _, _, held⟩
    rw [judged, fuseHolds_of_violation unburnt] at held
    exact Bool.false_ne_true held
  obtain ⟨frame, set, kept⟩ := violate_sets w.slot.isLt (judge_kind judged) 4 idx sub row w.sequence.toNat w.item.toNat s
  simp only [List.mem_cons, List.not_mem_nil, or_false, forall_eq_or_imp, forall_eq] at set kept
  obtain ⟨last, kinds, count⟩ := set
  refine ⟨_, (law.run s free).trans (congrArg _ (catWrite_violates eff served none judged)),
    ⟨frame, violate_keeps _ _ _ _ _ _ _ _ _ w.slot.isLt (judge_kind judged)⟩, count, kinds, last, fun k hk => ?_⟩
  simp only [List.mem_cons, List.not_mem_nil, or_false, not_or] at hk
  obtain ⟨hcount, hkinds, hlast⟩ := hk
  exact kept k ⟨hlast, hkinds, hcount⟩

end Sys2Proof.Machine
end

section
/-! O23: a write of a SEAL object waits for a fuse, takes effect, or finds the seal exhausted (R51, R53, R404, R408-R410). -/

namespace Sys2Proof.Machine

/-- A write of a session comes behind what waits for a fuse (R53). -/
theorem catWrite_waits {s : State} {w : WriteReq} {idx sub row : Nat} (eff : Nat → Nat → State → State)
    (served : reaches s w.slot.val = true) (waiting : s.vit.waiting ≠ []) :
    catWrite w idx sub row eff s = waitBehind (.write idx sub row w) s := by
  simp [catWrite, served, waiting]

/-- A write that takes effect on a SEAL object, counted, told and logged; a close that is due comes first (R404, R410). -/
theorem applySeal_eq {idx row : Nat} {w : WriteReq} {s u : State} (hidx : isSealed idx = true)
    (hu : u = raise Ev.sealedChange (w0 Reg.sealWrites ((r0 (closeDue s) Reg.sealWrites + 1) % 2 ^ 64)
      (wr idx 0 row (ofLE w.value) (closeDue s)))) :
    applySeal idx row w s = w0 Reg.vitrinePending 1
      (sealLogEntry 3 idx 0 (r1 u Reg.sessionTransport w.slot.val) row (ofLE (sha256 w.value)) u) := by
  have apart : objKey Reg.sealWrites 0 0 ≠ objKey idx 0 row := by
    simp only [isSealed, Bool.or_eq_true, decide_eq_true_eq] at hidx
    obtain rfl | rfl := hidx <;> simp only [objKey, Reg.sealWrites, Reg.tenantMap, Reg.vitrineInterval] <;> omega
  have counted : inc0 Reg.sealWrites (wr idx 0 row (ofLE w.value) (closeDue s)) =
      w0 Reg.sealWrites ((r0 (closeDue s) Reg.sealWrites + 1) % 2 ^ 64) (wr idx 0 row (ofLE w.value) (closeDue s)) := by
    simp only [inc0, count, w0, r0, rd_wr_ne _ _ _ _ _ _ _ _ apart]
  rw [applySeal, counted, ← hu]

/-- While a fuse burns, what it holds up waits for it alone (R408). -/
theorem waitForFuse_of_burning {s : State} (burning : s.vit.burning.isSome = true) (l : List SealWait) :
    waitForFuse l s = { s with vit := { s.vit with waiting := l } } := by
  simp only [waitForFuse, burning, if_true]

/-- In an open period that has had its fuse a write takes effect (R408). -/
theorem effSeal_of_wrote {s : State} (wrote : s.vit.wrote = true) (op idx row : Nat) (w : WriteReq) (st v : Nat) :
    effSeal op idx row w st v s = applySeal idx row w s := if_pos (by rw [wrote, Bool.true_or])

/-- The first write of an open period finds the seal exhausted once the fuses are spent (R409). -/
theorem effSeal_of_spent {s : State} (first : s.vit.wrote = false) (spent : fusesSpent s = true) (op idx row : Nat)
    (w : WriteReq) (st v : Nat) : effSeal op idx row w st v s =
      violate op w.slot.val idx 0 row w.sequence.toNat w.item.toNat 6 (exhaust s) := if_neg (by simp [first, spent])

section
variable {interval : Bool} {row : BitVec 32} {w : WriteReq} {idx : Nat} {s : State}
  (hidx : idx = if interval then Reg.vitrineInterval else Reg.tenantMap)
include hidx

/-- A SEAL_WRITE that a fuse holds up waits for it, and one burns (R408, R410). -/
theorem exec_sealWrite_of_held (served : reaches s w.slot.val = true) (none : s.vit.waiting = [])
    (held : fuseHolds s (judge s .write w.slot.val idx 0 row.toNat (some w.value)) = true) :
    exec (.sealWrite interval row w) s = .next (waitForFuse [.write idx 0 row.toNat w] s) := by
  subst hidx
  refine if_pos ?_
  rw [served, none, held]
  rfl

/-- An accepted SEAL_WRITE waits for the fuse that burns or that it needs, takes effect in an open period that has had its
fuse, and is a violation where none is left (R408-R410). -/
theorem exec_sealWrite_of_accepts {v : Nat} {u : State} (accepted : Accepts s w idx 0 row.toNat 0 v)
    (hu : u = raise Ev.sealedChange (w0 Reg.sealWrites ((r0 (closeDue s) Reg.sealWrites + 1) % 2 ^ 64)
      (wr idx 0 row.toNat (ofLE w.value) (closeDue s)))) :
    exec (.sealWrite interval row w) s = .next
      (if s.vit.burning.isSome then { s with vit := { s.vit with waiting := [.write idx 0 row.toNat w] } }
       else if s.vit.wrote then w0 Reg.vitrinePending 1
         (sealLogEntry 3 idx 0 (r1 u Reg.sessionTransport w.slot.val) row.toNat (ofLE (sha256 w.value)) u)
       else if 4095 ≤ r0 s Reg.sealEvents then
         violate 4 w.slot.val idx 0 row.toNat w.sequence.toNat w.item.toNat 6 (exhaust s)
       else { s with vit := { s.vit with burning := some .firstWrite, waiting := [.write idx 0 row.toNat w] } }) := by
  have ⟨⟨served, empty⟩, judged, _⟩ := accepted
  have holds : fuseHolds s (judge s .write w.slot.val idx 0 row.toNat (some w.value)) =
      (s.vit.burning.isSome || (!s.vit.wrote && !fusesSpent s)) := by rw [judged]; rfl
  have effect (free : (s.vit.burning.isSome || (!s.vit.wrote && !fusesSpent s)) = false) :
      exec (.sealWrite interval row w) s = .next (effSeal 4 idx row.toNat w 0 v s) := by
    have free : ¬ FuseHeld s w idx 0 row.toNat := by
      rintro ⟨_, _, _, held⟩
      rw [← holds, held] at free
      exact Bool.false_ne_true free.symm
    rw [exec_sealWrite_of_not_held hidx free, catWrite_accepts _ accepted]
  split
  case isTrue burning =>
    rw [exec_sealWrite_of_held hidx served empty (by rw [holds, burning, Bool.true_or]), waitForFuse_of_burning burning]
  case isFalse unburnt =>
    simp only [Bool.not_eq_true] at unburnt
    split
    case isTrue wrote =>
      rw [effect (by simp [unburnt, wrote]), effSeal_of_wrote wrote, applySeal_eq (isSealed_of_sealWrite hidx) hu]
    case isFalse first =>
      simp only [Bool.not_eq_true] at first
      split
      case isTrue spent =>
        have spent : fusesSpent s = true := decide_eq_true spent
        rw [effect (by simp [unburnt, first, spent]), effSeal_of_spent first spent]
      case isFalse left =>
        have left : fusesSpent s = false := decide_eq_false left
        rw [exec_sealWrite_of_held hidx served empty (by simp [holds, first, left])]
        simp only [waitForFuse, unburnt, Bool.false_eq_true, if_false]

end

/-- Settles O23: a write comes behind what waits, and the laws above say what a SEAL_WRITE in its turn does. -/
theorem sealWriteWaitsBurnsOrApplies : Obligations.SealWriteWaitsBurnsOrApplies := by
  unfold Obligations.SealWriteWaitsBurnsOrApplies
  intro interval row w idx s
  refine ⟨?behind, fun hidx => ⟨?accepted, ?closed⟩⟩
  case behind =>
    intro c i sub k h served waiting
    obtain ⟨eff, law⟩ := writesWith_of_writeOf h
    have free : ¬ FuseHeld s w i sub k := fun ⟨_, _, empty, _⟩ => waiting empty
    rw [law.run s free, catWrite_waits eff served waiting]
    rfl
  case accepted =>
    rintro v u _ accepted rfl hu
    exact exec_sealWrite_of_accepts hidx accepted hu
  case closed =>
    intro served none judged burning
    rw [exec_sealWrite_of_held hidx served none (by rw [judged]; exact burning), waitForFuse_of_burning burning]

end Sys2Proof.Machine
end

section
/-! O15: the administration of sessions (R56, R58, R60, R75, R78, R82). -/

namespace Sys2Proof.Machine

/-! The record of a slot's violations returns to 0 (R58, R60). -/

theorem RegsSet.congr {l m : List (Nat × Nat × Nat × Nat)} {s t : State} (h : RegsSet l s t)
    (same : ∀ e, e ∈ m ↔ e ∈ l) : RegsSet m s t := by
  simpa only [RegsSet, same] using h

/-- A write of a value that every entry of its register has adds its register to the list. -/
theorem RegsSet.wr_of_same {l : List (Nat × Nat × Nat × Nat)} {s t : State} (h : RegsSet l s t) (i j k v : Nat)
    (same : ∀ e ∈ l, objKey e.1 e.2.1 e.2.2.1 = objKey i j k → e.2.2.2 = v) :
    RegsSet ((i, j, k, v) :: l) s (Machine.wr i j k v t) := by
  obtain ⟨hset, hkeep⟩ := h
  refine ⟨List.forall_mem_cons.mpr ⟨rd_wr_same .., fun e he => ?_⟩, fun x hx => ?_⟩
  · rw [rd_wr]
    split
    case isTrue key => exact (same e he key).symm
    case isFalse => exact hset e he
  · obtain ⟨hx, hrest⟩ := List.forall_mem_cons.mp hx
    exact ((tget_tset ..).trans (if_neg hx)).trans (hkeep x hrest)

theorem forN_succ {σ : Type} (n : Nat) (f : Nat → σ → σ) (s : σ) : forN (n + 1) f s = f n (forN n f s) := by
  simp only [forN, List.range_succ, List.foldl_append, List.foldl_cons, List.foldl_nil]

/-- The registers of a slot's violations, at 0. -/
def violationsAtZero (slot n : Nat) : List (Nat × Nat × Nat × Nat) :=
  [(Reg.sessionViolations, slot, 0, 0), (Reg.sessionLastViolation, slot, 0, 0)] ++
    (List.range n).map (fun k => (Reg.sessionViolationKinds, slot * 16 + k, 0, 0))

theorem eq_zero_of_mem_violationsAtZero {slot n : Nat} {e : Nat × Nat × Nat × Nat} (h : e ∈ violationsAtZero slot n) :
    e.2.2.2 = 0 := by
  simp only [violationsAtZero, List.cons_append, List.nil_append, List.mem_cons, List.mem_map] at h
  obtain rfl | rfl | ⟨k, _, rfl⟩ := h <;> rfl

/-- The clear of a slot's counts and record, as far as the first kinds. -/
theorem clearKinds_sets (slot n : Nat) (s : State) : Sets (violationsAtZero slot n) s
    (forN n (fun k s => w1 Reg.sessionViolationKinds (slot * 16 + k) 0 s)
      (w1 Reg.sessionViolations slot 0 (w1 Reg.sessionLastViolation slot 0 s))) := by
  induction n with
  | zero =>
    refine ⟨w1_frame (w1_frame rfl _ _ _) _ _ _, ?_⟩
    exact (wr_sets Reg.sessionLastViolation slot 0 0 s).2.wr_of_same Reg.sessionViolations slot 0 0
      (List.forall_mem_singleton.mpr fun _ => rfl)
  | succ n ih =>
    obtain ⟨frame, set⟩ := ih
    rw [forN_succ]
    refine ⟨w1_frame frame _ _ _, ?_⟩
    refine (set.wr_of_same Reg.sessionViolationKinds (slot * 16 + n) 0 0
      fun e he _ => eq_zero_of_mem_violationsAtZero he).congr fun e => ?_
    simp only [violationsAtZero, List.range_succ, List.map_append, List.map_cons, List.map_nil, List.mem_append,
      List.mem_cons, List.not_mem_nil, or_false]
    tauto

/-- Counts and record of the violations of a slot are cleared, and nothing else changes (R58, R60). -/
theorem clearViolations_sets (slot : Nat) (s : State) : Sets (violationsAtZero slot 16) s (clearViolations slot s) :=
  clearKinds_sets slot 16 s

/-! A capture that is due comes before a clear (R35). -/

theorem rd_captureDue (s : State) {i j k : Nat} (low : objKey i j k < objKey 0x3000 0 0) :
    rd (captureDue s) i j k = rd s i j k := (rd_captureBank 1 _ low).trans (rd_captureBank 0 s low)

/-- A capture that is due changes its bank. -/
theorem captureDue_opn_ne {s : State} (due : BankDue 0 s) : (captureDue s).opn ≠ s.opn := by
  intro same
  obtain ⟨armed, free, come⟩ := due
  refine (not_bankDue_captureDue s).1 ⟨(rd_captureDue s (by decide)).trans armed, ?_, ?_⟩
  · rwa [getBank_of_opn_eq same]
  · rwa [getBank_of_opn_eq same, tickNo_captureDue]

/-- A clear of violations begins with the captures that are due (R35). -/
theorem exec_sessionViolationClear_of_accepts {s : State} {w : WriteReq} {target : Fin 16}
    (h : Accepts s w Reg.sessionViolationClear target.val 0 target.val 1) :
    exec (.sessionViolationClear target w) s = .next (clearViolations target.val (captureDue s)) := by
  show Host.Outcome.next (catWrite w Reg.sessionViolationClear target.val 0 (effClear clearViolations) s) = _
  rw [catWrite_accepts _ h, effClear, effBool_one]

/-- Where a capture is due the clear of violations changes its bank beside the registers. -/
theorem not_sets_of_captureDue {s : State} (due : BankDue 0 s) (slot : Nat) (l : List (Nat × Nat × Nat × Nat)) :
    ¬ Sets l s (clearViolations slot (captureDue s)) := by
  rintro ⟨frame, _⟩
  obtain ⟨cleared, _⟩ := clearViolations_sets slot (captureDue s)
  refine captureDue_opn_ne due ?_
  calc (captureDue s).opn
      = (clearViolations slot (captureDue s)).opn := by rw [cleared]
    _ = s.opn := by rw [frame]

/-- A module that serves the session in slot 0, its bank 0 armed for the tick at which it stands. -/
def servingWithCaptureDue : State :=
  w1 Reg.sessionState 0 1 (w1 Reg.inventoryBankState 0 1
    { State.reset with pwr := { State.reset.pwr with phase := .on, curator := .running } })

/-- The session's write of 0x01. -/
def writeOfOne : WriteReq := { slot := 0, sequence := 6, item := 0, value := [1] }

theorem servingWithCaptureDue_due : BankDue 0 servingWithCaptureDue := by
  unfold BankDue
  decide +kernel

theorem servingWithCaptureDue_accepts :
    Accepts servingWithCaptureDue writeOfOne Reg.sessionViolationClear 0 0 0 1 := by
  unfold Accepts
  decide +kernel

/-- Refutes O15: where the capture of an armed bank is due, SESSION_VIOLATION_CLEAR, as every clear, makes it before it takes
effect (R35), and so changes the bank beside the registers that the statement lists. (What the
clear then does is `clearViolations_sets`; the other clauses are not touched.) -/
theorem not_sessionAdministrationWrites : ¬ Obligations.SessionAdministrationWrites := by
  unfold Obligations.SessionAdministrationWrites
  intro h
  obtain ⟨t, run, sets⟩ := (h writeOfOne 0 servingWithCaptureDue).1 0 servingWithCaptureDue_accepts
  rw [exec_sessionViolationClear_of_accepts servingWithCaptureDue_accepts] at run
  obtain rfl := Host.Outcome.next.inj run
  exact not_sets_of_captureDue servingWithCaptureDue_due _ _ sets

end Sys2Proof.Machine
end

section
/-! O35: sessions open and time out (R59, R60, R72, R73, R75, R77, R82, R83). -/

namespace Sys2Proof.Machine

/-! Sessions, read after one is set. -/

/-- What a table that is searched from its front finds after an entry is put into it. -/
theorem find?_tput {α : Type} (m : List (Nat × α)) (k j : Nat) (v : α) :
    (tput m k v).find? (fun e => e.1 = j) = if k = j then some (k, v) else m.find? (fun e => e.1 = j) := by
  induction m with
  | nil => by_cases h : k = j <;> simp [tput, h]
  | cons e t ih =>
    obtain ⟨a, b⟩ := e
    unfold tput
    split
    case isTrue => by_cases h : k = j <;> simp [h]
    case isFalse =>
      split
      case isTrue ha => by_cases h : k = j <;> simp [← ha, h]
      case isFalse ha =>
        rw [List.find?_cons, ih]
        by_cases h : k = j
        · simp [h, Ne.symm (h ▸ ha)]
        · simp [List.find?_cons, h]

theorem getSession_setSession (slot k : Nat) (x : Session) (s : State) :
    getSession (setSession slot x s) k = if slot = k then some x else getSession s k := by
  simp only [getSession, setSession, modLrk, find?_tput]
  split <;> rfl

/-! The slot that an OPEN takes (R73). -/

theorem openSlot_of_lowest_free {s : State} {slot : Nat} (hslot : slot < 16) (free : r1 s Reg.sessionState slot = 0)
    (low : ∀ k, k < slot → r1 s Reg.sessionState k ≠ 0) : openSlot s = some slot := by
  have found : (List.range 16).find? (fun k => decide (r1 s Reg.sessionState k = 0)) = some slot :=
    List.find?_range_eq_some.mpr ⟨decide_eq_true free, List.mem_range.mpr hslot, fun k hk => by simp [low k hk]⟩
  unfold openSlot
  rw [found]

/-- The session that an unauthenticated OPEN begins (R72, R73). -/
def freshSession (r : Req) (s : State) : Session :=
  { peer := requester r.env r.pdu, serial := s.lrk.stamp + 1, last := 0, answers := [], held := [], closedAt := 0, key := none,
    sk := [], lastReq := s.now }

/-- The session stands in its slot, its registers not written yet. -/
def sessionPlaced (slot : Nat) (r : Req) (s : State) : State :=
  setSession slot (freshSession r s) { s with free := s.free + 1, lrk := { s.lrk with stamp := s.lrk.stamp + 1 } }

/-- The session is open in its slot, before the answer. -/
def sessionOpened (slot : Nat) (r : Req) (s : State) : State :=
  let net := decide (r.env.transport = .inband)
  w1 Reg.sessionPeer slot (if net then r.pdu.src.toNat else 0)
    (w1 Reg.sessionPort slot (if net then r.env.port.val else 0xFF)
    (w1 Reg.sessionTransport slot (transportIdx r.env.transport + 1)
    (w1 Reg.lorakSubscriptions slot 0
    (w1 Reg.sessionState slot 1
    (clearViolations slot (sessionPlaced slot r s))))))

/-- The registers of the new session (R59, R60). -/
def sessionRegisters (slot : Nat) (r : Req) : List (Nat × Nat × Nat × Nat) :=
  (Reg.sessionState, slot, 0, 1) :: (Reg.sessionTransport, slot, 0, transportIdx r.env.transport + 1) ::
    (Reg.sessionPeer, slot, 0, if r.env.transport = .inband then r.pdu.src.toNat else 0) ::
    (Reg.sessionPort, slot, 0, if r.env.transport = .inband then r.env.port.val else 0xFF) ::
    (Reg.lorakSubscriptions, slot, 0, 0) :: violationsAtZero slot 16

theorem mem_reordered {α : Type} {x a b c d f : α} {l : List α} :
    x ∈ a :: b :: c :: d :: f :: l ↔ x ∈ c :: d :: b :: f :: a :: l := by
  simp only [List.mem_cons]
  tauto

/-- The registers of the list are set and nothing else changes; they are of the objects listed, which are no TABLEs. -/
structure SetsOf (ix : List Nat) (l : List (Nat × Nat × Nat × Nat)) (s t : State) : Prop where
  sets : Sets l s t
  objects : ∀ e ∈ l, e.1 ∈ ix ∧ e.2.1 < 256 ∧ e.2.2.1 = 0

theorem SetsOf.w1 {ix : List Nat} {l : List (Nat × Nat × Nat × Nat)} {s t : State} (h : SetsOf ix l s t) {i j : Nat}
    (v : Nat) (hi : i ∉ ix) (hj : j < 256) : SetsOf (i :: ix) ((i, j, 0, v) :: l) s (Machine.w1 i j v t) := by
  obtain ⟨⟨frame, set⟩, objects⟩ := h
  refine ⟨⟨w1_frame frame _ _ _, set.wr i j 0 v fun e he => ?_⟩,
    List.forall_mem_cons.mpr ⟨⟨List.mem_cons_self, hj, rfl⟩, ?_⟩⟩
  · obtain ⟨object, sub, row⟩ := objects e he
    rw [row]
    exact objKey_ne _ _ _ _ _ _ (fun same => hi (same ▸ object)) hj (by decide) sub (by decide)
  · exact fun e he => (objects e he).imp_left (List.mem_cons_of_mem _)

theorem clearViolations_setsOf {slot : Nat} (hslot : slot < 16) (s : State) :
    SetsOf [Reg.sessionViolations, Reg.sessionLastViolation, Reg.sessionViolationKinds] (violationsAtZero slot 16) s
      (clearViolations slot s) := by
  refine ⟨clearViolations_sets slot s, fun e he => ?_⟩
  simp only [violationsAtZero, List.cons_append, List.nil_append, List.mem_cons, List.mem_map, List.mem_range] at he
  obtain rfl | rfl | ⟨k, hk, rfl⟩ := he <;> simp <;> omega

/-- An OPEN writes the registers of its session and no other (R59, R60). -/
theorem sessionOpened_sets {slot : Nat} (hslot : slot < 16) (r : Req) (s : State) :
    Sets (sessionRegisters slot r) (sessionPlaced slot r s) (sessionOpened slot r s) := by
  have hsub : slot < 256 := by omega
  have written := (((((clearViolations_setsOf hslot (sessionPlaced slot r s)).w1 1 (i := Reg.sessionState) (by decide) hsub).w1
    0 (i := Reg.lorakSubscriptions) (by decide) hsub).w1
    (transportIdx r.env.transport + 1) (i := Reg.sessionTransport) (by decide) hsub).w1
    (if r.env.transport = .inband then r.env.port.val else 0xFF) (i := Reg.sessionPort) (by decide) hsub).w1
    (if r.env.transport = .inband then r.pdu.src.toNat else 0) (i := Reg.sessionPeer) (by decide) hsub
  obtain ⟨frame, set⟩ := written.sets
  simp only [sessionOpened, decide_eq_true_eq]
  exact ⟨frame, set.congr fun _ => mem_reordered⟩

theorem getSession_sessionOpened {slot : Nat} (hslot : slot < 16) (r : Req) (s : State) (k : Nat) :
    getSession (sessionOpened slot r s) k = if slot = k then some (freshSession r s) else getSession s k := by
  have placed := getSession_setSession slot k (freshSession r s)
    { s with free := s.free + 1, lrk := { s.lrk with stamp := s.lrk.stamp + 1 } }
  obtain ⟨frame, _⟩ := sessionOpened_sets hslot r s
  rw [frame]
  exact placed

/-- An unauthenticated OPEN opens the session and answers the module's nonce (R72, R73, R77). -/
theorem openIn_none {slot : Nat} (hslot : slot < 16) (r : Req) (s : State) : openIn slot none r s =
    answer r slot 0 (bytesLE 8 (Config.moduleNonce s.free).toNat) none (sessionOpened slot r s) := by
  have key : slotKey (sessionOpened slot r s) slot = none := by
    unfold slotKey
    rw [getSession_sessionOpened hslot, if_pos rfl]
    rfl
  rw [← key]
  rfl

/-! An OPEN by an identity that has no session (R73, R77). -/

theorem slotsOf_of_new {s : State} {who : Peer} (new : ∀ k, k < 16 → sessionFor s k who = none) : slotsOf s who = [] :=
  List.filter_eq_nil_iff.mpr fun k hk => by simp [new k (List.mem_range.mp hk)]

section
variable {s u : State} {e : Envelope} {p : Pdu} {r : Req} (h : Arrives s 1 e p r u)
include h

/-- An OPEN is taken, and then what is held behind it. -/
theorem exec_openSession_of_arrives : exec (.openSession e p) s = .next (drain (openRequest r u)) := by
  show Host.Outcome.next (arrive 1 e p s) = _
  rw [arrive_of_arrives h, h.req]
  rfl

variable (length : p.payload.length = 12) (plain : leAt p.payload 0 1 = 0) (keySlot : leAt p.payload 1 1 ≤ 3)
  (new : ∀ k, k < 16 → sessionFor u k (requester e p) = none)
include length plain keySlot new

/-- An OPEN without AUTH is refused where its transport requires AUTH (R77). -/
theorem openRequest_unauthenticated (required : r1 u Reg.lorakAuthRequired (transportIdx e.transport) = 1) :
    openRequest r u = answer r p.session.toNat 4 [] none u := by
  obtain rfl := h.req
  unfold openRequest
  simp [length, plain, Nat.not_lt.mpr keySlot, slotsOf_of_new new, forL, required]

/-- An OPEN without AUTH takes a free slot (R73). -/
theorem openRequest_opens (optional : r1 u Reg.lorakAuthRequired (transportIdx e.transport) ≠ 1) {slot : Nat}
    (free : openSlot u = some slot) : openRequest r u = openIn slot none r u := by
  obtain rfl := h.req
  unfold openRequest
  simp [length, plain, Nat.not_lt.mpr keySlot, slotsOf_of_new new, forL, optional, free]

end

/-! The links (R82, R83, R449). -/

/-- A session that is open closes at its limit (R75). -/
theorem exec_sessionIdleTimeout {s : State} {slot : Fin 16} {x : Session} (session : getSession s slot.val = some x)
    (served : reaches s slot.val = true) : exec (.sessionIdleTimeout slot) s =
      .next (closeSession slot.val (advanceTo (x.lastReq + r0 s Reg.lorakIdleLimit * 10 ^ 12) s)) := by
  show execSessionIdleTimeout slot s = _
  unfold execSessionIdleTimeout
  simp only [session, served, if_true]

theorem exec_mgtLinkUp_of_on {s : State} (on : s.pwr.phase = .on) (signalled : Fin 3) :
    exec (.mgtLinkUp signalled) s = .next (w0 Reg.mgtLinkState
      (if r0 s Reg.mgtMode = 0 then 3 else if r0 s Reg.mgtMode = 1 then 4 else signalled.val + 1) s) := if_pos on

/-- A break inside a frame is counted while the Curator serves and the serial balls are in use (R83, R449). -/
theorem exec_svcLineBreak_of_serves {s : State} (served : serves s = true) (balls : s.tap.instruction ≠ 0x21) :
    exec (.svcLineBreak true) s = .next (inc Reg.lorakFormatDrops 0 s) := by
  refine if_pos ?_
  simp only [served, svcPortSelected, balls, decide_false, Bool.not_false, Bool.and_self]

/-- Settles O35: an OPEN goes through `openRequest`, whose cases are the laws above. -/
theorem sessionsOpenAndTimeOut : Obligations.SessionsOpenAndTimeOut := by
  unfold Obligations.SessionsOpenAndTimeOut
  intro e p s
  refine ⟨?opens, ?required, fun slot x => exec_sessionIdleTimeout,
    fun signalled on => ⟨_, exec_mgtLinkUp_of_on on signalled, wr_sets ..⟩, ⟨_, rfl, wr_sets ..⟩,
    fun served balls => ⟨_, exec_svcLineBreak_of_serves served balls, wr_sets ..⟩⟩
  case opens =>
    intro r u slot arrives length plain keySlot new optional hslot free low
    have opens := openRequest_opens arrives length plain keySlot new optional (openSlot_of_lowest_free hslot free low)
    obtain ⟨frame, set⟩ := sessionOpened_sets hslot r u
    obtain rfl := arrives.req
    refine ⟨sessionOpened slot _ u, _, ?_, frame, rfl, ?_, fun k hk => ?_, ?_⟩
    · rw [exec_openSession_of_arrives arrives, opens, openIn_none hslot]
    · exact set
    · rw [getSession_sessionOpened hslot, if_neg (Ne.symm hk)]
    · rw [getSession_sessionOpened hslot, if_pos rfl]
      rfl
  case required =>
    intro r u arrives length plain keySlot new required
    rw [exec_openSession_of_arrives arrives, openRequest_unauthenticated arrives length plain keySlot new required]

end Sys2Proof.Machine
end

section
/-! O30: READ and BULK_READ in turn (R52, R56, R57, R69, R70, R367). -/

namespace Sys2Proof.Machine

/-! What is read of one item. -/

section
variable {slot idx sub row : Nat} {v : State}

/-- An object that is seen has the length of its type. -/
theorem readLength_of_visible {x : Entry} (seen : visible v slot idx sub = some x) : readLength v slot idx sub = x.ty.len := by
  unfold readLength
  rw [seen]

theorem readBytes_of_judged {x : Entry} (judged : judge v .read slot idx sub row none = none)
    (seen : visible v slot idx sub = some x) : readBytes v slot idx sub row = encodeVal x.ty (readObj v slot idx sub row) := by
  unfold readBytes
  simp only [seen, judged]

/-- A violation reads zeros, as many as its object's type has, and four of an unknown object (R56). -/
theorem readBytes_of_violation {kind : Nat} (judged : judge v .read slot idx sub row none = some kind) :
    readBytes v slot idx sub row = bytesLE (readLength v slot idx sub) 0 := by
  unfold readBytes readLength
  rw [judged]
  cases visible v slot idx sub <;> rfl

theorem readItem_of_judged (judged : judge v .read slot idx sub row none = none) (opcode seq item : Nat) :
    readItem opcode slot idx sub row seq item v = readTaken slot idx sub row v := by
  unfold readItem
  rw [judged]

theorem readItem_of_violation {kind : Nat} (judged : judge v .read slot idx sub row none = some kind) (opcode seq item : Nat) :
    readItem opcode slot idx sub row seq item v =
      (bytesLE (readLength v slot idx sub) 0, violate opcode slot idx sub row seq item kind v) := by
  unfold readItem
  rw [judged, readBytes_of_violation judged]

theorem bulkReadRow_of_judged (judged : judge v .read slot idx sub row none = none) (r : Req) {len : Nat}
    (length : readLength v slot idx sub = len) : bulkReadRow slot r idx sub row len v = readTaken slot idx sub row v := by
  unfold bulkReadRow
  simp only [judged, length, if_true]

theorem bulkReadRow_of_violation {kind : Nat} (judged : judge v .read slot idx sub row none = some kind) (r : Req) (len : Nat) :
    bulkReadRow slot r idx sub row len v =
      (bytesLE len 0, violate r.opcode slot idx sub row r.pdu.sequence.toNat 0 kind v) := by
  unfold bulkReadRow
  simp only [judged]

/-- A row of another length than its object's type is a violation of kind 3 (R70). -/
theorem bulkReadRow_of_length (judged : judge v .read slot idx sub row none = none) (r : Req) {len : Nat}
    (length : readLength v slot idx sub ≠ len) : bulkReadRow slot r idx sub row len v =
      (bytesLE len 0, violate r.opcode slot idx sub row r.pdu.sequence.toNat 0 3 v) := by
  unfold bulkReadRow
  simp only [judged, length, if_false]

end

/-! The cases of READ and of BULK (R69, R70). -/

theorem opRead_of_malformed {slot : Nat} {r : Req} {s : State} (h : requestItems r = none ∨ ∃ l, requestItems r = some l ∧
    1400 < l.foldl (fun a i => a + 10 + readLength s slot i.idx i.sub) 0) : opRead slot r s = malformed s := by
  unfold opRead
  obtain none | ⟨l, items, long⟩ := h
  · rw [none]
  · rw [items]
    exact if_pos long

/-- A BULK whose payload does not add up is malformed (R70). -/
theorem opBulk_of_malformed {slot : Nat} {r : Req} {s : State}
    (h : r.pdu.payload.length < 12 ∨ 2 < leAt r.pdu.payload 3 1 ∨
      leAt r.pdu.payload 3 1 = 0 ∧
        (12 < r.pdu.payload.length ∨ 1388 < leAt r.pdu.payload 8 2 * leAt r.pdu.payload 10 2) ∨
      leAt r.pdu.payload 3 1 ≠ 0 ∧
        (r.pdu.payload.drop 12).length ≠ leAt r.pdu.payload 8 2 * leAt r.pdu.payload 10 2) :
    opBulk slot r s = malformed s := by
  have rows : !(r.pdu.payload.drop 12).isEmpty ↔ 12 < r.pdu.payload.length := by simp [List.isEmpty_eq_false_iff]
  unfold opBulk
  dsimp only
  split
  next => rfl
  next whole =>
    obtain h | h | ⟨read, long⟩ | ⟨other, uneven⟩ := h
    · exact absurd (.inl h) whole
    · exact absurd (.inr h) whole
    · rw [if_pos read, if_pos (by rwa [rows])]
    · rw [if_neg other, if_pos uneven]

theorem opBulk_of_read {slot : Nat} {r : Req} {s : State} (length : r.pdu.payload.length = 12)
    (read : leAt r.pdu.payload 3 1 = 0) (fits : leAt r.pdu.payload 8 2 * leAt r.pdu.payload 10 2 ≤ 1388)
    {a : Bytes × State} (ha : a = (List.range (leAt r.pdu.payload 8 2)).foldl (fun (acc : Bytes × State) n =>
      (acc.1 ++ (bulkReadRow slot r (leAt r.pdu.payload 0 2) (leAt r.pdu.payload 2 1) (leAt r.pdu.payload 4 4 + n)
          (leAt r.pdu.payload 10 2) acc.2).1,
        (bulkReadRow slot r (leAt r.pdu.payload 0 2) (leAt r.pdu.payload 2 1) (leAt r.pdu.payload 4 4 + n)
          (leAt r.pdu.payload 10 2) acc.2).2)) (r.pdu.payload, s)) :
    opBulk slot r s = { status := 0, payload := a.1, after := a.2 } := by
  have rows : r.pdu.payload.drop 12 = [] := List.drop_eq_nil_of_le length.le
  have head : r.pdu.payload.take 12 = r.pdu.payload := List.take_of_length_le length.le
  unfold opBulk
  simp [length, read, rows, head, Nat.not_lt.mpr fits, ha]

/-- Settles O30: each request is answered by its operation, and the laws above say what that reads. -/
theorem readRequestsReturnTheirItems : Obligations.ReadRequestsReturnTheirItems := by
  unfold Obligations.ReadRequestsReturnTheirItems
  intro e p slot r s v
  refine ⟨?read, ?readMalformed, ?bulk, ?bulkMalformed, ?item, ?violation, ?length⟩
  case read =>
    intro turn l items fits a ha
    refine exec_of_inTurn (opcode := 3) (d := { status := 0, payload := a.1, after := a.2 }) rfl turn (by decide) ?_ rfl
    obtain rfl := turn.req
    show opRead slot _ v = _
    unfold opRead
    rw [items, ha]
    exact if_neg (Nat.not_lt.mpr fits)
  case readMalformed =>
    intro turn h
    refine exec_of_inTurn (opcode := 3) (d := malformed v) rfl turn (by decide) ?_ rfl
    obtain rfl := turn.req
    exact opRead_of_malformed h
  case bulk =>
    intro turn length read fits a ha
    refine exec_of_inTurn (opcode := 6) (d := { status := 0, payload := a.1, after := a.2 }) rfl turn (by decide) ?_ rfl
    obtain rfl := turn.req
    exact opBulk_of_read length read fits ha
  case bulkMalformed =>
    intro turn h
    refine exec_of_inTurn (opcode := 6) (d := malformed v) rfl turn (by decide) ?_ rfl
    obtain rfl := turn.req
    exact opBulk_of_malformed (h.imp_right (Or.imp_right .inl))
  case item =>
    intro opcode idx sub row seq item x u judged seen hu
    have taken : readTaken slot idx sub row v = (encodeVal x.ty (readObj v slot idx sub row), u) := by
      rw [readTaken, readBytes_of_judged judged seen, hu]
      rfl
    exact ⟨(readItem_of_judged judged ..).trans taken,
      fun _ => (bulkReadRow_of_judged judged r (readLength_of_visible seen)).trans taken⟩
  case violation =>
    intro opcode idx sub row seq item len kind judged
    exact ⟨readItem_of_violation judged .., bulkReadRow_of_violation judged ..⟩
  case length =>
    intro idx sub row len judged
    exact bulkReadRow_of_length judged r

end Sys2Proof.Machine
end

section
/-! O31: WRITE and BULK_WRITE in turn (R48, R49, R53, R57, R69, R70, R410). -/

namespace Sys2Proof.Machine

/-! The writes of a request, one after another. -/

section
variable {slot : Nat} {r : Req}

theorem isSealed_iff (idx : Nat) : isSealed idx = true ↔ idx ∈ [Reg.tenantMap, Reg.vitrineInterval] := by
  simp [isSealed]

theorem runWrites_of_held {i : Item} {s : State} (held : itemHeld slot i s = true) (place : Nat) (l : List Item) :
    runWrites slot r place (i :: l) s = (some place, s) := if_pos held

theorem runWrites_of_not_held {i : Item} {s : State} (free : itemHeld slot i s = false) (place : Nat) (l : List Item) :
    runWrites slot r place (i :: l) s =
      runWrites slot r (place + 1) l (applyWrite r.opcode (placeReq slot r place i) i.idx i.sub i.row s) :=
  if_neg (by rw [free]; exact Bool.false_ne_true)

/-- A write is held up only of a SEAL object (R51, R410). -/
theorem itemHeld_of_not_sealed {i : Item} (h : i.idx ∉ [Reg.tenantMap, Reg.vitrineInterval]) (s : State) :
    itemHeld slot i s = false := by
  rw [itemHeld, Bool.eq_false_iff.mpr (mt (isSealed_iff i.idx).mp h), Bool.false_and]

/-- Writes of other objects all take effect in their order (R69). -/
theorem runWrites_of_not_sealed {l : List Item} (h : ∀ i ∈ l, i.idx ∉ [Reg.tenantMap, Reg.vitrineInterval]) (place : Nat)
    (s : State) : runWrites slot r place l s = (none, (l.zipIdx place).foldl (fun s x =>
      applyWrite r.opcode (placeReq slot r x.2 x.1) x.1.idx x.1.sub x.1.row s) s) := by
  induction l generalizing place s with
  | nil => rfl
  | cons i l ih =>
    obtain ⟨hi, hl⟩ := List.forall_mem_cons.mp h
    rw [runWrites_of_not_held (itemHeld_of_not_sealed hi s), ih hl]
    rfl

/-- The rows of a BULK all stand at item 0 (R60). -/
theorem foldl_placeReq_of_bulk (bulk : r.opcode ≠ 4) (l : List Item) (s : State) :
    l.zipIdx.foldl (fun s x => applyWrite r.opcode (placeReq slot r x.2 x.1) x.1.idx x.1.sub x.1.row s) s =
      l.foldl (fun s i => applyWrite r.opcode (writeReq slot r 0 i.value) i.idx i.sub i.row s) s := by
  simp only [placeReq, bulk, if_false]
  conv_rhs => rw [← List.zipIdx_map_fst 0 l, List.foldl_map]

/-- A fuse that burns holds up what it may decide, one that is needed the first write of an open period (R408, R410). -/
theorem itemHeld_iff (i : Item) (s : State) : itemHeld slot i s = true ↔ i.idx ∈ [Reg.tenantMap, Reg.vitrineInterval] ∧
    (judge s .write slot i.idx i.sub i.row (some i.value) = none ∧ (s.vit.burning.isSome = true ∨
        s.vit.wrote = false ∧ r0 s Reg.sealEvents < 4095) ∨
      judge s .write slot i.idx i.sub i.row (some i.value) = some 6 ∧ s.vit.burning.isSome = true) := by
  rw [itemHeld, Bool.and_eq_true, isSealed_iff]
  cases judge s .write slot i.idx i.sub i.row (some i.value) <;> simp [fuseHolds, fusesSpent]

/-! A request of writes (R69, R70). -/

theorem opWrites_of_done {s t : State} (h : runWrites slot r 0 (writesOf r) s = (none, t)) :
    opWrites slot r s = { status := 0, payload := writesAnswer r, after := t } := by
  unfold opWrites
  rw [h]

theorem opWrites_of_held {s t : State} {k : Nat} (h : runWrites slot r 0 (writesOf r) s = (some k, t)) :
    opWrites slot r s =
      { status := 0, payload := [], waits := true
        after := waitForFuse (.request slot (serialOf s slot) r k :: t.vit.waiting) t } := by
  unfold opWrites
  rw [h]

theorem opBulk_of_write {s : State} (whole : 12 ≤ r.pdu.payload.length) (write : leAt r.pdu.payload 3 1 = 1)
    (rows : (r.pdu.payload.drop 12).length = leAt r.pdu.payload 8 2 * leAt r.pdu.payload 10 2) :
    opBulk slot r s = opWrites slot r s := by
  unfold opBulk
  simp only [Nat.not_lt.mpr whole, write, rows, false_or, if_true, ne_eq, not_true_eq_false, if_false, Nat.reduceLT,
    one_ne_zero]

end

/-- An operation that a fuse holds up is answered later (R410). -/
theorem execute_of_waiting {slot : Nat} {r : Req} {s : State} {d : Done} (h : opOf slot r s = d) (hcollect : r.opcode ≠ 0x0A)
    (hwait : d.waits = true) : execute slot r s = d.after := by
  unfold execute
  simp only [hcollect, if_false, h, hwait, if_true]

/-- A command by which a request arrives that is in turn and that a fuse holds up. -/
theorem exec_of_inTurn_waiting {s v : State} {e : Envelope} {p : Pdu} {slot : Nat} {r : Req} {c : Instr} {opcode : Nat}
    {d : Done} (hc : exec c s = .next (arrive opcode e p s)) (h : InTurn s opcode e p slot r v) (hopen : opcode ≠ 1)
    (hcollect : opcode ≠ 0x0A) (hd : opOf slot r v = d) (hwait : d.waits = true) : exec c s = .next (drain d.after) := by
  have code : r.opcode = opcode := by rw [h.req]
  rw [hc, arrive_of_inTurn h hopen, execute_of_waiting hd (code ▸ hcollect) hwait]

section
variable {s v : State} {e : Envelope} {p : Pdu} {slot : Nat} {r : Req}

/-- The command carries the writes listed: a WRITE that is well formed, or a BULK_WRITE whose rows add up (R69, R70). -/
def Carries (s v : State) (e : Envelope) (p : Pdu) (slot : Nat) (r : Req) (c : Instr) (l : List Item) : Prop :=
  (InTurn s 4 e p slot r v ∧ c = .write e p ∧ requestItems r = some l) ∨
    (InTurn s 6 e p slot r v ∧ c = .bulkWrite e p ∧ l = bulkItems r ∧ 12 ≤ p.payload.length ∧
      leAt p.payload 3 1 = 1 ∧ (p.payload.drop 12).length = leAt p.payload 8 2 * leAt p.payload 10 2)

/-- A command that carries writes arrives as their request, in turn, which executes them in order. -/
theorem Carries.arrives {c : Instr} {l : List Item} (h : Carries s v e p slot r c l) :
    writesOf r = l ∧ opOf slot r v = opWrites slot r v ∧
      ∃ opcode, opcode ∉ [1, 2, 0x0A] ∧ InTurn s opcode e p slot r v ∧ exec c s = .next (arrive opcode e p s) := by
  obtain ⟨turn, rfl, items⟩ | ⟨turn, rfl, rfl, whole, write, rows⟩ := h
  · obtain rfl := turn.req
    refine ⟨?_, ?_, 4, by decide, turn, rfl⟩
    · rw [writesOf, items]
      rfl
    · show opWrite slot _ v = _
      unfold opWrite
      rw [items]
  · obtain rfl := turn.req
    exact ⟨rfl, opBulk_of_write whole write rows, 6, by decide, turn, rfl⟩

/-- Writes that no fuse holds up are answered once they are done (R69, R70). -/
theorem exec_writes_of_done {c : Instr} {l : List Item} (h : Carries s v e p slot r c l) {t : State}
    (done : runWrites slot r 0 l v = (none, t)) :
    exec c s = .next (drain (finishRequest slot r 0 (writesAnswer r) t)) := by
  obtain ⟨rfl, op, opcode, hop, turn, arrives⟩ := h.arrives
  exact exec_of_inTurn (d := { status := 0, payload := writesAnswer r, after := t }) arrives turn hop
    (op.trans (opWrites_of_done done)) rfl

/-- A request waits unanswered at the write that a fuse holds up, what came before it applied (R410). -/
theorem exec_writes_of_held {c : Instr} {l : List Item} (h : Carries s v e p slot r c l) {k : Nat} {t : State}
    (held : runWrites slot r 0 l v = (some k, t)) :
    exec c s = .next (drain (waitForFuse (.request slot (serialOf v slot) r k :: t.vit.waiting) t)) := by
  obtain ⟨rfl, op, opcode, hop, turn, arrives⟩ := h.arrives
  simp only [List.mem_cons, List.not_mem_nil, or_false, not_or] at hop
  exact exec_of_inTurn_waiting arrives turn hop.1 hop.2.2 (op.trans (opWrites_of_held held)) rfl

end

/-- Settles O31: both commands run their writes in order, and the laws above say where a fuse holds them up. -/
theorem writeRequestsApplyTheirItems : Obligations.WriteRequestsApplyTheirItems := by
  unfold Obligations.WriteRequestsApplyTheirItems
  intro e p slot r s v
  refine ⟨?unsealed, ?write, fun c l carries k t => exec_writes_of_held carries, ?writeMalformed, ?bulk, ?bulkMalformed,
    fun i => itemHeld_iff i v, fun place i l => ⟨fun held => runWrites_of_held held place l,
      fun free => runWrites_of_not_held free place l⟩⟩
  case unsealed =>
    intro turn l items free
    have carries : Carries s v e p slot r (.write e p) l := .inl ⟨turn, rfl, items⟩
    rw [exec_writes_of_done carries (runWrites_of_not_sealed free 0 v)]
    obtain rfl := turn.req
    simp only [writesAnswer, carries.arrives.1, if_true]
    rfl
  case write =>
    intro turn l t items done
    have carries : Carries s v e p slot r (.write e p) l := .inl ⟨turn, rfl, items⟩
    rw [exec_writes_of_done carries done]
    obtain rfl := turn.req
    simp only [writesAnswer, carries.arrives.1, if_true]
  case writeMalformed =>
    intro turn none
    refine exec_of_inTurn (opcode := 4) (d := malformed v) rfl turn (by decide) ?_ rfl
    obtain rfl := turn.req
    show opWrite slot _ v = _
    unfold opWrite
    rw [none]
  case bulk =>
    intro turn whole write rows
    have carries : Carries s v e p slot r (.bulkWrite e p) (bulkItems r) := .inr ⟨turn, rfl, rfl, whole, write, rows⟩
    have answer : writesAnswer r = p.payload.take 12 ++ bytesLE 2 (leAt p.payload 8 2) := by
      obtain rfl := turn.req
      simp [writesAnswer, carries.arrives.1, bulkItems]
    rw [← answer]
    refine ⟨fun t => exec_writes_of_done carries, fun free => ?_⟩
    have free : ∀ i ∈ bulkItems r, i.idx ∉ [Reg.tenantMap, Reg.vitrineInterval] := by
      obtain rfl := turn.req
      simpa [bulkItems] using fun _ _ => free
    have code : r.opcode = 6 := by rw [turn.req]
    rw [exec_writes_of_done carries (runWrites_of_not_sealed free 0 v), foldl_placeReq_of_bulk (by omega)]
    obtain rfl := turn.req
    rw [bulkItems, List.foldl_map]
  case bulkMalformed =>
    intro turn h
    refine exec_of_inTurn (opcode := 6) (d := malformed v) rfl turn (by decide) ?_ rfl
    obtain rfl := turn.req
    exact opBulk_of_malformed (h.imp_right (Or.imp_right fun ⟨write, uneven⟩ => .inr ⟨by rw [write]; decide, uneven⟩))

end Sys2Proof.Machine
end

section
/-! O34: COLLECT, SUBSCRIBE, CLOSE and an unknown opcode in turn (R36, R68, R71, R74-R76). -/

namespace Sys2Proof.Machine

section
variable {s v : State} {e : Envelope} {p : Pdu} {slot : Nat} {r : Req}

/-- A SUBSCRIBE of 4 bytes sets the classes of its session and answers them (R68, R76). -/
theorem exec_subscribe_of_inTurn (turn : InTurn s 0x0B e p slot r v) (length : p.payload.length = 4) :
    exec (.subscribe e p) s = .next (drain (finishRequest slot r 0 (bytesLE 1 (leAt p.payload 0 1 % 4))
      (w1 Reg.lorakSubscriptions slot (leAt p.payload 0 1 % 4) v))) := by
  refine exec_of_inTurn (opcode := 0x0B) (d := { status := 0, payload := _, after := _ }) rfl turn (by decide) ?_ rfl
  obtain rfl := turn.req
  exact if_neg (not_not.mpr length)

/-- A CLOSE without payload is answered, and then its session closes (R75). -/
theorem execute_of_close (opcode : r.opcode = 0x02) (empty : r.pdu.payload = []) :
    execute slot r v = closeSession slot (finishRequest slot r 0 [] v) := by
  have done : opOf slot r v = { status := 0, payload := [], after := v } := by
    unfold opOf
    simp only [opcode, empty, List.isEmpty_nil, if_true]
  unfold execute
  rw [done]
  simp [opcode]

/-- An opcode that names no operation executes nothing (R68). -/
theorem opOf_of_unknown (unknown : r.opcode = 0 ∨ 0x0B < r.opcode) :
    opOf slot r v = { status := 6, payload := [], after := v } := by
  unfold opOf
  split
  case h_10 => rfl
  all_goals omega

/-! COLLECT (R36, R71). -/

/-- A COLLECT in turn is executed, and then what is held behind it. -/
theorem exec_collect_of_inTurn (turn : InTurn s 0x0A e p slot r v) :
    exec (.collect e p) s = .next (drain (collect slot r v)) := by
  show Host.Outcome.next (arrive 0x0A e p s) = _
  rw [arrive_of_inTurn turn (by decide), turn.req]
  rfl

/-- The COLLECT asks for 1 to 1,390 bytes of an image (R71). -/
def AsksSegment (r : Req) : Prop :=
  r.pdu.payload.length = 10 ∧ leAt r.pdu.payload 8 2 ≠ 0 ∧ leAt r.pdu.payload 8 2 ≤ 1390

theorem AsksSegment.not_malformed (asks : AsksSegment r) :
    ¬ (r.pdu.payload.length ≠ 10 ∨ leAt r.pdu.payload 8 2 = 0 ∨ 1390 < leAt r.pdu.payload 8 2) := by
  obtain ⟨length, some, fits⟩ := asks
  omega

theorem collect_of_no_bank (asks : AsksSegment r) (none : bankOf v (leAt r.pdu.payload 0 4) = none) :
    collect slot r v = finishRequest slot r 9 [] v := by
  unfold collect answerCollect
  simp only [if_neg asks.not_malformed, none]

theorem collect_of_filling (asks : AsksSegment r) {b : Nat} (bank : bankOf v (leAt r.pdu.payload 0 4) = some b)
    (filling : r1 v Reg.inventoryBankState b = 1) : collect slot r v =
      setBank b { getBank v b with held := (getBank v b).held ++ [{ req := r, slot := slot }] } v := by
  unfold collect
  rw [if_neg asks.not_malformed, bank]
  exact if_pos filling

/-- A full bank answers what its image has from the offset on, and is free then where the request asks that (R36, R71). -/
theorem collect_of_full (asks : AsksSegment r) {b : Nat} (bank : bankOf v (leAt r.pdu.payload 0 4) = some b)
    (full : r1 v Reg.inventoryBankState b ≠ 1) {d : Bytes} {t : State}
    (data : d = imageBytes v b (leAt r.pdu.payload 4 4) (leAt r.pdu.payload 8 2))
    (answered : t = finishRequest slot r 0 (slice r.pdu.payload 0 8 ++ bytesLE 2 d.length ++ d) v) :
    collect slot r v = if r.pdu.flags.getLsbD 2 then freeBank b t else t := by
  have full : ¬ bankState v b = 1 := full
  subst answered data
  unfold collect answerCollect
  simp only [if_neg asks.not_malformed, bank, if_neg full]
  rfl

end

/-- Settles O34: SUBSCRIBE and an unknown opcode are answered at once, and the laws above say what CLOSE and COLLECT do. -/
theorem collectSubscribeCloseAndUnknownRequests : Obligations.CollectSubscribeCloseAndUnknownRequests := by
  unfold Obligations.CollectSubscribeCloseAndUnknownRequests
  intro e p slot r s v
  refine ⟨exec_subscribe_of_inTurn, ?close, ?unknown, ?collect⟩
  case close =>
    intro turn empty
    show Host.Outcome.next (arrive 0x02 e p s) = _
    rw [arrive_of_inTurn turn (by decide)]
    obtain rfl := turn.req
    rw [execute_of_close rfl empty]
  case unknown =>
    intro opcode unknown turn
    have other : opcode.toNat ∉ [1, 2, 0x0A] := by
      simp only [List.mem_cons, List.not_mem_nil, or_false]
      omega
    refine exec_of_inTurn (d := { status := 6, payload := [], after := v }) rfl turn other (opOf_of_unknown ?_) rfl
    rwa [turn.req]
  case collect =>
    intro turn length some fits
    rw [exec_collect_of_inTurn turn]
    obtain rfl := turn.req
    have asks : AsksSegment { opcode := 0x0A, env := e, pdu := p, received := s.counter } := ⟨length, some, fits⟩
    refine ⟨fun none => ?_, fun b bank filling => ?_, fun b d t bank full data answered => ?_⟩
    · rw [collect_of_no_bank asks none]
    · rw [collect_of_filling asks bank filling]
    · rw [collect_of_full asks bank full data answered]

end Sys2Proof.Machine
end

section
/-! O36: what is relayed, what goes to a host, and what is counted and dropped (R67, R78-R83, R457). -/

namespace Sys2Proof.Machine

section
variable {s u : State} {opcode : Nat} {e : Envelope} {p : Pdu} {r : Req}

/-! The three transports. -/

/-- A PDU as received. -/
def receivedBy (s : State) (opcode : Nat) (e : Envelope) (p : Pdu) : Req :=
  { opcode := opcode, env := e, pdu := p, received := s.counter }

theorem arrive_mgt (path : pathUp s e = true) (mgt : e.transport = .mgt) :
    arrive opcode e p s = arriveMgt (receivedBy s opcode e p) s := by
  unfold arrive
  simp only [path, mgt, Bool.not_true, Bool.false_eq_true, if_false]
  rfl

theorem arrive_svc (path : pathUp s e = true) (svc : e.transport = .svc) :
    arrive opcode e p s = arriveSvc (receivedBy s opcode e p) s := by
  unfold arrive
  simp only [path, svc, Bool.not_true, Bool.false_eq_true, if_false]
  rfl

theorem arrive_inband (path : pathUp s e = true) (inband : e.transport = .inband) :
    arrive opcode e p s = arriveInband (receivedBy s opcode e p) s := by
  unfold arrive
  simp only [path, inband, Bool.not_true, Bool.false_eq_true, if_false]
  rfl

/-- A PDU that arrives whole is taken up (R67, R79-R83). -/
theorem arrive_of_reaches (h : Reaches s opcode e p)
    (hears : e.transport ≠ .inband → listens (arrivedIn s e) e.transport = true) :
    arrive opcode e p s = dispatch (receivedBy s opcode e p) (arrivedIn s e) := by
  obtain ⟨path, mgt, svc, mask, good, _⟩ := h
  cases transport : e.transport with
  | mgt =>
    have awake : arrivedIn s e = wakeByMgt s := if_pos transport
    rw [awake, transport] at hears
    simp [arrive_mgt path transport, arriveMgt, receivedBy, mgt transport, good, hears, awake]
  | svc =>
    have asleep : arrivedIn s e = s := if_neg (by simp [transport])
    obtain ⟨line, atLeast, atMost, some, jtag⟩ := svc transport
    rw [asleep, transport] at hears
    simp [arrive_svc path transport, arriveSvc, receivedBy, hears, some, jtag, line, good, asleep,
      Nat.not_lt.mpr atLeast, Nat.not_lt.mpr atMost]
  | inband =>
    have asleep : arrivedIn s e = s := if_neg (by simp [transport])
    simp [arrive_inband path transport, arriveInband, receivedBy, mask transport, good, asleep]

/-! A PDU for another module (R79, R80). -/

theorem dispatch_of_other (other : isMine u r.env.transport r.pdu = false) : dispatch r u = relayPdu r u := by
  unfold dispatch
  rw [other]
  rfl

/-- The path of a host stands recorded against the tag under which its request goes on (R80). -/
def pathRecorded (tag : Nat) (who : Peer) (s : State) : State :=
  modLrk (fun l => { l with relay := l.relay.filter (fun x => x.tag ≠ tag) ++ [{ tag := tag, peer := who }] }) s

section
variable (addressed : r0 u Reg.fabricAddress ≠ 0)
include addressed

theorem relayPdu_of_last_hop (last : r.pdu.hop = 0) : relayPdu r u = inc0 Reg.lorakHopDrops u := by
  unfold relayPdu
  exact (if_neg addressed).trans (if_pos last)

variable (hops : r.pdu.hop ≠ 0)
include hops

theorem relayPdu_of_no_route (none : routePort u r.pdu.dst.toNat = none) :
    relayPdu r u = answerUnreachable r (inc0 Reg.lorakUnreachable u) := by
  unfold relayPdu
  refine (if_neg addressed).trans ((if_neg hops).trans ?_)
  rw [none]

variable {port : Nat} (route : routePort u r.pdu.dst.toNat = some port)
include route

/-- What no host of this module sent, and every answer, passes on as it is (R79, R80). -/
theorem relayPdu_of_passing (passing : originKind r = none ∨ r.pdu.flags.getLsbD 0 = true) :
    relayPdu r u = sendInband port lorakLinkMac r.opcode (sealPdu r.opcode { r.pdu with hop := r.pdu.hop - 1 })
      (inc0 Reg.lorakRelayed u) := by
  unfold relayPdu
  refine (if_neg addressed).trans ((if_neg hops).trans ?_)
  rw [route]
  obtain none | answer := passing
  · simp only [none]
  · cases originKind r <;> simp only [answer]

/-- A host's request goes on under the module's own address and a tag of the module's (R80). -/
theorem relayPdu_of_host {k : Nat} (origin : originKind r = some k) (request : r.pdu.flags.getLsbD 0 = false) {tag : Nat}
    (htag : tag = k * 64 + r.pdu.srcTag.toNat % 64) : relayPdu r u =
      sendInband port lorakLinkMac r.opcode (sealPdu r.opcode
        { r.pdu with hop := r.pdu.hop - 1, src := BitVec.ofNat 16 (r0 u Reg.fabricAddress), srcTag := BitVec.ofNat 8 tag })
        (inc0 Reg.lorakRelayed (pathRecorded tag (requester r.env r.pdu) u)) := by
  subst htag
  unfold relayPdu
  refine (if_neg addressed).trans ((if_neg hops).trans ?_)
  rw [route]
  simp only [origin, request]
  rfl

end

/-- An answer to a host that sent the request through this module leaves on the host's path with its tag (R80, R457). -/
theorem dispatch_of_answer_to_host (mine : isMine u r.env.transport r.pdu = true) (hears : listens u r.env.transport = true)
    (room : r.env.transport = .svc → svcWaiting u < 4) (answer : r.pdu.flags.getLsbD 0 = true) (addressed : r.pdu.dst ≠ 0)
    (tagged : 64 ≤ r.pdu.srcTag.toNat) {x : RelayPath}
    (path : u.lrk.relay.find? (fun x => x.tag = r.pdu.srcTag.toNat) = some x) : dispatch r u =
      sendPdu x.peer r.opcode (sealPdu r.opcode
        { r.pdu with dst := BitVec.ofNat 16 x.peer.srcAddr, srcTag := BitVec.ofNat 8 x.peer.srcTag }) u := by
  have room : ¬ (r.env.transport = .svc ∧ 4 ≤ svcWaiting u) := fun h => Nat.not_lt.mpr h.2 (room h.1)
  have kind : r.pdu.srcTag.toNat / 64 ≠ 0 := by omega
  calc dispatch r u
      = lorakAnswer r u := by
        unfold dispatch
        simp only [mine, hears, room, answer, Bool.not_true, Bool.false_eq_true, if_false, if_true]
    _ = toHost r u := (if_neg addressed).trans (if_pos kind)
    _ = _ := by
        unfold toHost
        rw [path]

/-! What is dropped on arrival (R67, R81-R83, R338). -/

section
variable (path : pathUp s e = true)
include path

theorem arrive_of_stray (mgt : e.transport = .mgt) (stray : mgtAccepts s e = false) :
    arrive opcode e p s = inc0 Reg.mgtOtherDrops s := by
  rw [arrive_mgt path mgt]
  unfold arriveMgt
  simp [receivedBy, stray]

theorem arrive_of_torn_mgt (mgt : e.transport = .mgt) (hears : listens s .mgt = true) (lorak : mgtAccepts s e = true)
    (torn : framed opcode p = false) : arrive opcode e p s = formatDrop .mgt s := by
  rw [arrive_mgt path mgt]
  unfold arriveMgt
  simp [receivedBy, lorak, torn, hears]

/-- A line that carries no PDU is counted: a bad escape, a length out of bounds, or a failed check (R67, R83). -/
theorem arrive_of_torn_svc (svc : e.transport = .svc) (hears : listens s .svc = true) (line : e.line ≠ [])
    (jtag : e.jtag = svcPortSelected s) (torn : svcUnescape e.line = none ∨ ∃ b, svcUnescape e.line = some b ∧
      (b.length < 24 ∨ 1440 < b.length ∨ (b = pduBytes opcode p ∧ framed opcode p = false))) :
    arrive opcode e p s = formatDrop .svc s := by
  rw [arrive_svc path svc]
  unfold arriveSvc
  simp only [receivedBy, hears, line, jtag, List.isEmpty_iff, Bool.not_true, ne_eq, not_true_eq_false, decide_false,
    Bool.or_false, Bool.false_or, if_false]
  obtain bad | ⟨b, bytes, short | long | ⟨rfl, torn⟩⟩ := torn
  · rw [bad]
  · rw [bytes]
    exact if_pos (.inr short)
  · rw [bytes]
    exact if_pos (.inl long)
  · rw [bytes]
    simp [torn]

theorem arrive_of_masked (inband : e.transport = .inband) (masked : lorakAccepts s e.port.val = false) {k : Nat}
    (slot : slotOf s e.port.val = some k) : arrive opcode e p s = inc Reg.lorakMaskDrops k s := by
  rw [arrive_inband path inband]
  unfold arriveInband
  simp [receivedBy, masked, slot]

/-- A torn PDU is counted, one that would have been a heartbeat as such too (R67, R338). -/
theorem arrive_of_torn_inband (inband : e.transport = .inband) (open_ : lorakAccepts s e.port.val = true)
    (torn : framed opcode p = false) : arrive opcode e p s =
      formatDrop .inband (if brokenHeartbeat s (receivedBy s opcode e p) then inc Reg.twinHbErrors 1 s else s) := by
  rw [arrive_inband path inband]
  unfold arriveInband
  simp only [receivedBy, open_, torn, Bool.not_true, Bool.false_eq_true, if_false]

end

theorem inc0_sets (i : Nat) (s : State) : Sets [(i, 0, 0, (r0 s i + 1) % 2 ^ 64)] s (inc0 i s) := wr_sets ..

theorem inc_sets (i j : Nat) (s : State) : Sets [(i, j, 0, (r1 s i j + 1) % 2 ^ 64)] s (inc i j s) := wr_sets ..

theorem formatDrop_sets (t : Transport) (s : State) : Sets [(Reg.lorakFormatDrops, transportIdx t, 0,
    (r1 s Reg.lorakFormatDrops (transportIdx t) + 1) % 2 ^ 64)] s (formatDrop t s) := inc_sets ..

/-- A broken heartbeat is counted twice over, and nothing else changes (R338). -/
theorem formatDrop_heartbeat_sets (s : State) : Sets [(Reg.lorakFormatDrops, 2, 0, (r1 s Reg.lorakFormatDrops 2 + 1) % 2 ^ 64),
    (Reg.twinHbErrors, 1, 0, (r1 s Reg.twinHbErrors 1 + 1) % 2 ^ 64)] s (formatDrop .inband (inc Reg.twinHbErrors 1 s)) := by
  have other : r1 (inc Reg.twinHbErrors 1 s) Reg.lorakFormatDrops 2 = r1 s Reg.lorakFormatDrops 2 :=
    rd_wr_ne _ _ _ _ _ _ _ _ (by decide)
  have heartbeat := (wr_sets Reg.twinHbErrors 1 0 ((r1 s Reg.twinHbErrors 1 + 1) % 2 ^ 64) s).2
  refine ⟨rfl, ?_⟩
  rw [← other]
  exact heartbeat.wr _ _ _ _ (List.forall_mem_singleton.mpr (by dsimp only; decide))

/-- A host's request that is passed on is counted, and nothing else is written but its path (R79, R80). -/
theorem relayedForHost_sets (tag : Nat) (who : Peer) (u : State) :
    RegsSet [(Reg.lorakRelayed, 0, 0, (r0 u Reg.lorakRelayed + 1) % 2 ^ 64)] u
      (inc0 Reg.lorakRelayed (pathRecorded tag who u)) := (inc0_sets Reg.lorakRelayed (pathRecorded tag who u)).2

theorem relayedForHost_frame (tag : Nat) (who : Peer) (u : State) :
    inc0 Reg.lorakRelayed (pathRecorded tag who u) = { u with
      regs := (inc0 Reg.lorakRelayed (pathRecorded tag who u)).regs,
      lrk := { u.lrk with relay := u.lrk.relay.filter (fun x => x.tag ≠ tag) ++ [{ tag := tag, peer := who }] } } := rfl

/-- The commands by which a PDU arrives whatever its opcode. -/
theorem exec_of_any_opcode {opcode : BitVec 8} {c : Instr}
    (h : c ∈ [Instr.lorakRelay opcode e p, .lorakAnswerReceive opcode e p, .unknownOpcode opcode e p]) :
    exec c s = .next (arrive opcode.toNat e p s) := by
  simp only [List.mem_cons, List.not_mem_nil, or_false] at h
  obtain rfl | rfl | rfl := h <;> rfl

end

/-- Settles O36: what arrives whole is dispatched, what does not is counted, by the laws above. -/
theorem relayAndAnswers : Obligations.RelayAndAnswers := by
  unfold Obligations.RelayAndAnswers
  intro opcode e p r s u path hu hr
  have hr : r = receivedBy s opcode.toNat e p := hr
  subst hu hr
  refine ⟨?relay, ?answer, ?dropped⟩
  case relay =>
    intro reaches hears other addressed
    have relays : exec (.lorakRelay opcode e p) s =
        .next (relayPdu (receivedBy s opcode.toNat e p) (arrivedIn s e)) :=
      congrArg Host.Outcome.next ((arrive_of_reaches reaches hears).trans (dispatch_of_other other))
    rw [Runs, relays]
    refine ⟨fun last => ?_, fun hops none => ?_, fun port hops route passing => ?_,
      fun port k tag hops route origin request htag => ?_⟩
    · exact ⟨_, congrArg Host.Outcome.next (relayPdu_of_last_hop addressed last), inc0_sets ..⟩
    · refine ⟨inc0 Reg.lorakUnreachable (arrivedIn s e), inc0_sets .., ?_⟩
      have address : ownAddress (inc0 Reg.lorakUnreachable (arrivedIn s e)) = r0 (arrivedIn s e) Reg.fabricAddress :=
        rd_wr_ne _ _ _ _ _ _ _ _ (by decide)
      rw [← address]
      exact congrArg Host.Outcome.next (relayPdu_of_no_route addressed hops none)
    · exact ⟨inc0 Reg.lorakRelayed (arrivedIn s e), inc0_sets ..,
        congrArg Host.Outcome.next (relayPdu_of_passing addressed hops route passing)⟩
    · refine ⟨inc0 Reg.lorakRelayed (pathRecorded tag (requester e p) (arrivedIn s e)), ?_, ?_, ?_⟩
      · exact relayedForHost_sets ..
      · exact relayedForHost_frame ..
      · exact congrArg Host.Outcome.next
          (relayPdu_of_host (r := receivedBy s opcode.toNat e p) addressed hops route origin request htag)
  case answer =>
    intro reaches hears mine addressed answer room tagged x hx
    exact congrArg Host.Outcome.next ((arrive_of_reaches reaches fun _ => hears).trans
      (dispatch_of_answer_to_host mine hears room answer addressed tagged hx))
  case dropped =>
    intro c hc
    have arrives := exec_of_any_opcode (s := s) hc
    refine ⟨?torn, fun inband open_ torn heartbeat => ?heartbeat, fun mgt stray => ?stray,
      fun k inband masked slot => ?masked⟩
    case torn =>
      rintro (⟨mgt, hears, lorak, torn⟩ | ⟨inband, open_, torn, plain⟩ | ⟨svc, hears, line, jtag, torn⟩)
      · rw [arrive_of_torn_mgt path mgt hears lorak torn] at arrives
        rw [mgt]
        exact ⟨_, arrives, formatDrop_sets ..⟩
      · rw [arrive_of_torn_inband path inband open_ torn, if_neg (Bool.eq_false_iff.mp plain)] at arrives
        rw [inband]
        exact ⟨_, arrives, formatDrop_sets ..⟩
      · rw [arrive_of_torn_svc path svc hears line jtag torn] at arrives
        rw [svc]
        exact ⟨_, arrives, formatDrop_sets ..⟩
    case heartbeat =>
      rw [arrive_of_torn_inband path inband open_ torn, if_pos heartbeat] at arrives
      exact ⟨_, arrives, formatDrop_heartbeat_sets s⟩
    case stray =>
      rw [arrive_of_stray path mgt stray] at arrives
      exact ⟨_, arrives, inc0_sets ..⟩
    case masked =>
      rw [arrive_of_masked path inband masked slot] at arrives
      exact ⟨_, arrives, inc_sets ..⟩

end Sys2Proof.Machine
end

section
/-! What acting on one lane leaves alone (R92-R99). -/

namespace Sys2Proof.Machine

theorem r1_w1_of_ne {i j i' j' : Nat} (hi : i ≠ i') (hj : j < 256) (hj' : j' < 256) (v : Nat) (s : State) :
    r1 (w1 i' j' v s) i j = r1 s i j :=
  rd_wr_ne _ _ _ _ _ _ _ _ (objKey_ne _ _ _ _ _ _ hi hj' (by decide) hj (by decide))

theorem r1_w1_of_sub_ne {i j j' : Nat} (h : j ≠ j') (hj : j < 256) (hj' : j' < 256) (v : Nat) (s : State) :
    r1 (w1 i j' v s) i j = r1 s i j :=
  rd_wr_ne _ _ _ _ _ _ _ _ fun key => h (by simpa using (objKey_inj hj (by decide) hj' (by decide)).mp key)

/-- A register of lane k: one of the lane's own, or LaneReversal of its group (R96, R99). -/
def OfLane (k : Nat) (e : Nat × Nat × Nat × Nat) : Prop :=
  (e.2.1 = k ∨ e.1 = Reg.laneReversal ∧ e.2.1 = k / 2) ∧ e.2.2.1 = 0

/-- Acting on lane k sets the listed registers, which are the lane's and of the objects listed, and leaves x as its record: no
other register, no other lane and nothing else of the state changes. -/
structure LaneActs (k : Nat) (ix : List Nat) (l : List (Nat × Nat × Nat × Nat)) (x : LaneSt) (s t : State) : Prop where
  sets : RegsSet l s t
  objects : ∀ e ∈ l, e.1 ∈ ix ∧ OfLane k e
  frame : t = { s with regs := t.regs, lanes := t.lanes }
  others : ∀ j, j ≠ k → getLane t j = getLane s j
  lane : getLane t k = x

section
variable {k : Nat} {ix : List Nat} {l : List (Nat × Nat × Nat × Nat)} {x : LaneSt} {s t : State}

theorem LaneActs.refl (k : Nat) (s : State) : LaneActs k [] [] (getLane s k) s s :=
  ⟨.nil s, List.forall_mem_nil _, rfl, fun _ _ => rfl, rfl⟩

theorem LaneActs.now_eq (h : LaneActs k ix l x s t) : t.now = s.now := by rw [h.frame]

theorem LaneActs.cal_eq (h : LaneActs k ix l x s t) : t.cal = s.cal := by rw [h.frame]

/-- A change of the lane's record. -/
theorem LaneActs.modLane (h : LaneActs k ix l x s t) (f : LaneSt → LaneSt) :
    LaneActs k ix l (f x) s (Machine.modLane k f t) where
  sets := h.sets.of_regs_eq rfl
  objects := h.objects
  frame := by conv_lhs => rw [h.frame]
              rfl
  others j hj := ((getLane_setLane ..).trans (if_neg hj)).trans (h.others j hj)
  lane := (getLane_setLane_same ..).trans (congrArg f h.lane)

theorem OfLane.sub_lt {e : Nat × Nat × Nat × Nat} (hk : k < 64) (h : OfLane k e) : e.2.1 < 256 := by
  obtain ⟨rfl | ⟨_, same⟩, _⟩ := h <;> omega

variable (hk : k < 64)
include hk

/-- A write of another object of the lane, or of LaneReversal of its group. -/
theorem LaneActs.write (h : LaneActs k ix l x s t) {i j : Nat} (v : Nat) (hi : i ∉ ix) (own : OfLane k (i, j, 0, v)) :
    LaneActs k (i :: ix) ((i, j, 0, v) :: l) x s (Machine.w1 i j v t) where
  sets := h.sets.wr i j 0 v fun e he => by
    obtain ⟨object, own'⟩ := h.objects e he
    rw [own'.2]
    exact objKey_ne _ _ _ _ _ _ (fun same => hi (same ▸ object)) (own.sub_lt hk) (by decide) (own'.sub_lt hk) (by decide)
  objects := List.forall_mem_cons.mpr ⟨⟨List.mem_cons_self, own⟩, fun e he => (h.objects e he).imp_left (List.mem_cons_of_mem _)⟩
  frame := by conv_lhs => rw [h.frame]
              rfl
  others := h.others
  lane := h.lane

theorem LaneActs.w1 (h : LaneActs k ix l x s t) {i : Nat} (v : Nat) (hi : i ∉ ix) :
    LaneActs k (i :: ix) ((i, k, 0, v) :: l) x s (Machine.w1 i k v t) := h.write hk v hi ⟨.inl rfl, rfl⟩

theorem LaneActs.reversal (h : LaneActs k ix l x s t) (v : Nat) (hi : Reg.laneReversal ∉ ix) :
    LaneActs k (Reg.laneReversal :: ix) ((Reg.laneReversal, k / 2, 0, v) :: l) x s (Machine.w1 Reg.laneReversal (k / 2) v t) :=
  h.write hk v hi ⟨.inr ⟨rfl, rfl⟩, rfl⟩

/-- Registers of other objects read as before. -/
theorem LaneActs.r1_eq (h : LaneActs k ix l x s t) {i j : Nat} (hi : i ∉ ix) (hj : j < 256) : r1 t i j = r1 s i j :=
  h.sets.2 _ fun e he => by
    obtain ⟨object, own⟩ := h.objects e he
    rw [own.2]
    exact objKey_ne _ _ _ _ _ _ (fun same => hi (same ▸ object)) (own.sub_lt hk) (by decide) hj (by decide)

/-- A counter of the lane takes one more. -/
theorem LaneActs.inc (h : LaneActs k ix l x s t) {i : Nat} (hi : i ∉ ix) :
    LaneActs k (i :: ix) ((i, k, 0, (r1 s i k + 1) % 2 ^ 64) :: l) x s (Machine.inc i k t) := by
  rw [← h.r1_eq hk hi (by omega)]
  exact h.w1 hk _ hi

/-- The states of other lanes read as before. -/
theorem LaneActs.laneStateOf_eq (h : LaneActs k ix l x s t) {j : Nat} (other : j ≠ k) (hj : j < 256) :
    laneStateOf t j = laneStateOf s j :=
  h.sets.2 _ fun e he => by
    obtain ⟨_, own⟩ := h.objects e he
    rw [own.2]
    intro key
    have same := (objKey_inj hj (by decide) (own.sub_lt hk) (by decide)).mp key
    simp only [Prod.mk.injEq, and_true] at same
    obtain ⟨object, sub⟩ := same
    obtain ⟨hsub | ⟨reversal, _⟩, _⟩ := own
    · exact other (sub.trans hsub)
    · exact absurd (object.trans reversal) (by decide)

end

/-! Links (R117). -/

theorem mem_lanesOfSlot {s : State} {slot j : Nat} (h : j ∈ lanesOfSlot s slot) : j = slot ∨ j = slot + 1 := by
  unfold lanesOfSlot at h
  dsimp only at h
  split at h
  · cases h
  · split at h
    · split at h
      · simpa using h
      · cases h
    · exact .inl (by simpa using h)

theorem lanesOfSlot_congr {s t : State} {slot : Nat} (mode : groupMode t (slot / 2) = groupMode s (slot / 2)) :
    lanesOfSlot t slot = lanesOfSlot s slot := by
  unfold lanesOfSlot
  rw [mode]

/-- A link is read from the mode of its group and from which of its lanes are in UP and in TEST. -/
theorem linkStateOf_congr {s t : State} {slot : Nat} (mode : groupMode t (slot / 2) = groupMode s (slot / 2))
    (lanes : ∀ j ∈ lanesOfSlot s slot, laneUp t j = laneUp s j ∧ laneTest t j = laneTest s j) :
    linkStateOf t slot = linkStateOf s slot := by
  have up : (lanesOfSlot s slot).all (laneUp t) = (lanesOfSlot s slot).all (laneUp s) := by
    rw [Bool.eq_iff_iff, List.all_eq_true, List.all_eq_true]
    exact forall₂_congr fun j hj => by rw [(lanes j hj).1]
  have test : (lanesOfSlot s slot).any (laneTest t) = (lanesOfSlot s slot).any (laneTest s) := by
    rw [Bool.eq_iff_iff, List.any_eq_true, List.any_eq_true]
    exact exists_congr fun j => and_congr_right fun hj => by rw [(lanes j hj).2]
  simp only [linkStateOf, lanesOfSlot_congr mode, up, test]

theorem linkStateOf_eq_one_iff (s : State) (slot : Nat) :
    linkStateOf s slot = 1 ↔ lanesOfSlot s slot ≠ [] ∧ ∀ j ∈ lanesOfSlot s slot, r1 s Reg.laneState j = 7 := by
  have up : (lanesOfSlot s slot).all (laneUp s) = true ↔ ∀ j ∈ lanesOfSlot s slot, r1 s Reg.laneState j = 7 := by
    simp [laneUp]
  rw [← up, ne_eq, ← List.isEmpty_iff]
  simp only [linkStateOf]
  split
  case isTrue none => simp [none]
  case isFalse some =>
    split
    case isTrue all => simp [some, all]
    case isFalse notAll => split <;> simp [notAll]

theorem linkStateOf_eq_two_iff (s : State) (slot : Nat) :
    linkStateOf s slot = 2 ↔ (∃ j ∈ lanesOfSlot s slot, r1 s Reg.laneState j = 8) ∧
      ∃ j ∈ lanesOfSlot s slot, r1 s Reg.laneState j ≠ 7 := by
  have up : (lanesOfSlot s slot).all (laneUp s) = false ↔ ∃ j ∈ lanesOfSlot s slot, r1 s Reg.laneState j ≠ 7 := by
    simp [laneUp]
  have test : (lanesOfSlot s slot).any (laneTest s) = true ↔ ∃ j ∈ lanesOfSlot s slot, r1 s Reg.laneState j = 8 := by
    simp [laneTest]
  rw [← up, ← test]
  simp only [linkStateOf]
  split
  case isTrue none => simp [List.isEmpty_iff.mp none]
  case isFalse some =>
    split
    case isTrue all => simp [all]
    case isFalse notAll => split <;> simp [*]

/-- A slot whose link reads as before has no change to signal. -/
theorem linkChanged_of_same {slot before : Nat} {s : State} (same : linkStateOf s slot = before) :
    linkChanged slot before s = s := by
  subst same
  have quiet : linkMoved slot (linkStateOf s slot) s = s := if_pos rfl
  unfold linkChanged
  simp only [if_true, quiet]

/-- Acting on a group's lanes does nothing beside the act where both its links read as before. -/
theorem withLinks_of_same {g : Nat} {f : State → State} {s : State}
    (lower : linkStateOf (f s) (2 * g) = linkStateOf s (2 * g))
    (upper : linkStateOf (f s) (2 * g + 1) = linkStateOf s (2 * g + 1)) : withLinks g f s = f s := by
  simp only [withLinks, linkChanged_of_same lower, linkChanged_of_same upper]

/-- Acting on a lane that is neither in UP nor in TEST, before or after, changes no link. -/
theorem LaneActs.onLane_eq {k : Nat} {ix : List Nat} {l : List (Nat × Nat × Nat × Nat)} {x : LaneSt} {s : State}
    {f : State → State} (hk : k < 64) (h : LaneActs k ix l x s (f s)) (mode : Reg.portGroupMode ∉ ix)
    (before : laneStateOf s k < 7 ∨ 8 < laneStateOf s k) (after : laneStateOf (f s) k < 7 ∨ 8 < laneStateOf (f s) k) :
    onLane k f s = f s := by
  have same (slot : Nat) (group : slot / 2 = k / 2) : linkStateOf (f s) slot = linkStateOf s slot := by
    refine linkStateOf_congr (h.r1_eq hk mode (by omega)) fun j hj => ?_
    obtain rfl | other := eq_or_ne j k
    · simp only [laneStateOf] at before after
      simp only [laneUp, laneTest, decide_eq_decide]
      omega
    · have state : r1 (f s) Reg.laneState j = r1 s Reg.laneState j :=
        h.laneStateOf_eq hk other (by have := mem_lanesOfSlot hj; omega)
      simp only [laneUp, laneTest, state, and_self]
  exact withLinks_of_same (same _ (by omega)) (same _ (by omega))

/-! Entering a state (R92-R99). -/

/-- A lane is recorded in a state from now on. -/
def entered (k st : Nat) (s : State) : State :=
  modLane k (fun l => { l with enteredAt := s.now }) (w1 Reg.laneState k st s)

/-- Leaving UP or TEST abandons a handover, and leaving TEST drops the checker's lock (R99, R103). -/
def departed (k old : Nat) (s : State) : State :=
  let s := if old = 7 ∨ old = 8 then dropHandover k s else s
  if old = 8 then dropChecker k s else s

/-- The decision on polarity is void in SIGNAL and CDR (R94). -/
def polarityVoided (k st : Nat) (s : State) : State :=
  if st = 1 ∨ st = 2 then w1 Reg.lanePolarityFound k 0 s else s

/-- What CDR, EQUALISE and POLARITY begin with (R94, R95, R99, R101). -/
def begun (k st : Nat) (s : State) : State :=
  match st with
  | 2 => modLane k (fun l => { l with
      trialInverted := false, rxReady := false, rxIndex := none
      training := decide (r1 s Reg.laneTrainMode k = 1), framesLeft := 0, used := laneUse s k }) s
  | 3 => modLane k (fun l => { l with ctle := 0, ffe := 0, dfe := 0, passRun := 0, convRun := none })
      (w1 Reg.laneRxCtle k 0 (w1 Reg.laneRxFfeTaps k 0 (w1 Reg.laneRxDfeTaps k 0 (w1 Reg.laneAdaptFrozen k 0 s))))
  | 4 => modLane k (fun l => { l with trialInverted := false }) s
  | _ => s

theorem departed_of_calm {k old : Nat} (calm : old < 7 ∨ 8 < old) (s : State) : departed k old s = s := by
  have up : old ≠ 7 := by omega
  have test : old ≠ 8 := by omega
  simp only [departed, up, test, or_self, if_false]

theorem begun_of_other {st : Nat} (h : st ≤ 1 ∨ 5 ≤ st) (k : Nat) (s : State) : begun k st s = s := by
  match st, h with
  | 0, _ => rfl
  | 1, _ => rfl
  | n + 5, _ => rfl

theorem polarityVoided_of_other {st : Nat} (h : st = 0 ∨ 3 ≤ st) (k : Nat) (s : State) : polarityVoided k st s = s :=
  if_neg (by omega)

/-- A lane that enters a state leaves the one before it, and begins the new one. -/
theorem setLaneState_eq (k st : Nat) (s : State) : setLaneState k st s =
    begun k st (polarityVoided k st (departed k (laneStateOf s k) (entered k st s))) := by
  unfold setLaneState begun
  rfl

theorem r1_setLaneState {k j : Nat} (hk : k < 256) (hj : j < 256) (st : Nat) (s : State) :
    r1 (setLaneState k st s) Reg.laneState j = if j = k then st else r1 s Reg.laneState j := by
  have kept {i : Nat} (hi : Reg.laneState ≠ i) (v : Nat) (u : State) :
      r1 (w1 i k v u) Reg.laneState j = r1 u Reg.laneState j := r1_w1_of_ne hi hj hk v u
  have begins (u : State) : r1 (begun k st u) Reg.laneState j = r1 u Reg.laneState j := by
    unfold begun
    split
    · rw [r1_modLane]
    · rw [r1_modLane, kept (by decide), kept (by decide), kept (by decide), kept (by decide)]
    · rw [r1_modLane]
    · rfl
  have voided (u : State) : r1 (polarityVoided k st u) Reg.laneState j = r1 u Reg.laneState j := by
    unfold polarityVoided
    split
    · exact kept (by decide) _ _
    · rfl
  have handover (u : State) : r1 (dropHandover k u) Reg.laneState j = r1 u Reg.laneState j := by
    unfold dropHandover
    split
    · rfl
    · rw [r1_modLane, kept (by decide)]
  have departs (old : Nat) (u : State) : r1 (departed k old u) Reg.laneState j = r1 u Reg.laneState j := by
    have checker (u : State) : r1 (dropChecker k u) Reg.laneState j = r1 u Reg.laneState j := kept (by decide) _ _
    unfold departed
    dsimp only
    split <;> split <;> simp only [checker, handover]
  rw [setLaneState_eq, begins, voided, departs, entered, r1_modLane]
  split
  case isTrue same => rw [same, r1_w1_same]
  case isFalse other => exact r1_w1_of_sub_ne other hj hk st s

section
variable {k : Nat} {ix : List Nat} {l : List (Nat × Nat × Nat × Nat)} {x : LaneSt} {s t : State} (hk : k < 64)
include hk

theorem LaneActs.entered (h : LaneActs k ix l x s t) (new : Reg.laneState ∉ ix) (st : Nat) :
    LaneActs k (Reg.laneState :: ix) ((Reg.laneState, k, 0, st) :: l) { x with enteredAt := s.now } s
      (Machine.entered k st t) :=
  h.now_eq ▸ (h.w1 hk st new).modLane fun l => { l with enteredAt := t.now }

variable (h : LaneActs k ix l x s t) (calm : laneStateOf t k < 7 ∨ 8 < laneStateOf t k) (new : Reg.laneState ∉ ix)
include h calm new

theorem LaneActs.enter {st : Nat} (hst : st = 0 ∨ 5 ≤ st) : LaneActs k (Reg.laneState :: ix)
    ((Reg.laneState, k, 0, st) :: l) { x with enteredAt := s.now } s (setLaneState k st t) := by
  rw [setLaneState_eq, departed_of_calm calm, polarityVoided_of_other (by omega), begun_of_other (by omega)]
  exact h.entered hk new st

theorem LaneActs.enterSignal (void : Reg.lanePolarityFound ∉ Reg.laneState :: ix) :
    LaneActs k (Reg.lanePolarityFound :: Reg.laneState :: ix) ((Reg.lanePolarityFound, k, 0, 0) :: (Reg.laneState, k, 0, 1) :: l)
      { x with enteredAt := s.now } s (setLaneState k 1 t) := by
  rw [setLaneState_eq, departed_of_calm calm, begun_of_other (by omega)]
  exact (h.entered hk new 1).w1 hk 0 void

theorem LaneActs.enterPolarity : LaneActs k (Reg.laneState :: ix) ((Reg.laneState, k, 0, 4) :: l)
    { x with enteredAt := s.now, trialInverted := false } s (setLaneState k 4 t) := by
  rw [setLaneState_eq, departed_of_calm calm, polarityVoided_of_other (by omega)]
  exact (h.entered hk new 4).modLane fun l => { l with trialInverted := false }

end

section
variable {k : Nat} {s : State} (hk : k < 64) (calm : laneStateOf s k < 7 ∨ 8 < laneStateOf s k)
include hk calm

/-- CDR takes up the lane's objects as they stand, and starts training afresh (R95, R99). -/
theorem setLaneState_cdr_acts : LaneActs k [Reg.lanePolarityFound, Reg.laneState]
    [(Reg.lanePolarityFound, k, 0, 0), (Reg.laneState, k, 0, 2)]
    { getLane s k with
      enteredAt := s.now, trialInverted := false, rxReady := false, rxIndex := none, framesLeft := 0
      training := decide (r1 s Reg.laneTrainMode k = 1), used := laneUse s k } s (setLaneState k 2 s) := by
  have acts := ((LaneActs.refl k s).entered hk List.not_mem_nil 2).w1 hk (i := Reg.lanePolarityFound) 0 (by decide)
  have kept {i j : Nat} (hi : i ∉ [Reg.lanePolarityFound, Reg.laneState]) (hj : j < 256) := acts.r1_eq hk hi hj
  have hk : k < 256 := by omega
  have group : k / 2 < 256 := by omega
  have use : laneUse (w1 Reg.lanePolarityFound k 0 (entered k 2 s)) k = laneUse s k := by
    simp only [laneUse, kept (i := Reg.laneTrainMode) (by decide) hk, kept (i := Reg.lanePolarityMode) (by decide) hk,
      kept (i := Reg.laneTxPrecode) (by decide) hk, kept (i := Reg.laneRxPrecode) (by decide) hk,
      kept (i := Reg.laneTxInvert) (by decide) hk, kept (i := Reg.portGroupTxSwap) (by decide) group,
      kept (i := Reg.laneReversalMode) (by decide) group]
  rw [setLaneState_eq, departed_of_calm calm, ← use, ← kept (i := Reg.laneTrainMode) (by decide) hk]
  exact acts.modLane fun l => { l with
    trialInverted := false, rxReady := false, rxIndex := none
    training := decide (r1 (Machine.w1 Reg.lanePolarityFound k 0 (entered k 2 s)) Reg.laneTrainMode k = 1), framesLeft := 0
    used := laneUse (Machine.w1 Reg.lanePolarityFound k 0 (entered k 2 s)) k }

/-- EQUALISE starts the taps at 0 and not frozen (R101). -/
theorem setLaneState_equalise_acts : LaneActs k
    [Reg.laneRxCtle, Reg.laneRxFfeTaps, Reg.laneRxDfeTaps, Reg.laneAdaptFrozen, Reg.laneState]
    [(Reg.laneRxCtle, k, 0, 0), (Reg.laneRxFfeTaps, k, 0, 0), (Reg.laneRxDfeTaps, k, 0, 0), (Reg.laneAdaptFrozen, k, 0, 0),
      (Reg.laneState, k, 0, 3)]
    { getLane s k with enteredAt := s.now, ctle := 0, ffe := 0, dfe := 0, passRun := 0, convRun := none } s
    (setLaneState k 3 s) := by
  rw [setLaneState_eq, departed_of_calm calm, polarityVoided_of_other (by omega)]
  have entered := (LaneActs.refl k s).entered hk List.not_mem_nil 3
  have frozen := entered.w1 hk (i := Reg.laneAdaptFrozen) 0 (by decide)
  have dfe := frozen.w1 hk (i := Reg.laneRxDfeTaps) 0 (by decide)
  have ffe := dfe.w1 hk (i := Reg.laneRxFfeTaps) 0 (by decide)
  exact (ffe.w1 hk (i := Reg.laneRxCtle) 0 (by decide)).modLane fun l => { l with
    ctle := 0, ffe := 0, dfe := 0, passRun := 0, convRun := none }

end

end Sys2Proof.Machine
end

section
/-! O39: links follow their lanes (R92, R98, R110, R117). -/

namespace Sys2Proof.Machine

/-- A lane that is in LOCK or UP waits in REVERSAL, but not lane k itself (R98). -/
def waitFor (k j : Nat) (s : State) : State :=
  if j ≠ k ∧ (laneStateOf s j = 6 ∨ laneStateOf s j = 7) then setLaneState j 5 s else s

theorem othersWait_eq (k : Nat) (s : State) : othersWait k s = forL (portLanes s k) (waitFor k) s := rfl

theorem r1_waitFor {i j : Nat} (hi : i < 256) (hj : j < 256) (k : Nat) (s : State) : r1 (waitFor k i s) Reg.laneState j =
    if j ≠ k ∧ j = i ∧ (r1 s Reg.laneState j = 6 ∨ r1 s Reg.laneState j = 7) then 5 else r1 s Reg.laneState j := by
  unfold waitFor laneStateOf
  split
  case isTrue waits =>
    rw [r1_setLaneState hi hj]
    by_cases same : j = i
    · subst same; simp [waits]
    · simp [same]
  case isFalse stays =>
    rw [if_neg]
    rintro ⟨hk, rfl, hst⟩
    exact stays ⟨hk, hst⟩

/-- Of lanes that may wait each waits that is in LOCK or UP, and no other lane moves (R98). -/
theorem r1_forL_waitFor {l : List Nat} (hl : ∀ i ∈ l, i < 256) {j : Nat} (hj : j < 256) (k : Nat) (s : State) :
    r1 (forL l (waitFor k) s) Reg.laneState j =
      if j ≠ k ∧ j ∈ l ∧ (r1 s Reg.laneState j = 6 ∨ r1 s Reg.laneState j = 7) then 5 else r1 s Reg.laneState j := by
  induction l generalizing s with
  | nil => simp [forL]
  | cons i l ih =>
    obtain ⟨hi, hl⟩ := List.forall_mem_cons.mp hl
    have step : forL (i :: l) (waitFor k) s = forL l (waitFor k) (waitFor k i s) := rfl
    rw [step, ih hl, r1_waitFor hi hj]
    by_cases moved : j ≠ k ∧ j = i ∧ (r1 s Reg.laneState j = 6 ∨ r1 s Reg.laneState j = 7)
    · rw [if_pos moved, ite_self]
      obtain ⟨other, rfl, held⟩ := moved
      rw [if_pos ⟨other, List.mem_cons_self, held⟩]
    · rw [if_neg moved]
      have same : (j ≠ k ∧ j ∈ l ∧ (r1 s Reg.laneState j = 6 ∨ r1 s Reg.laneState j = 7)) ↔
          (j ≠ k ∧ j ∈ i :: l ∧ (r1 s Reg.laneState j = 6 ∨ r1 s Reg.laneState j = 7)) := by
        rw [List.mem_cons]
        tauto
      simp only [same]

theorem mem_portLanes_lt {s : State} {k j : Nat} (hk : k < 64) (h : j ∈ portLanes s k) : j < 256 := by
  have slot {i : Nat} (hi : slotOfLane s k = some i) : i ≤ k := by
    unfold slotOfLane at hi
    dsimp only at hi
    split at hi
    · cases hi
    · split at hi <;> cases hi <;> omega
  unfold portLanes at h
  split at h
  next i hi =>
    have := slot hi
    have := mem_lanesOfSlot h
    omega
  next =>
    have := List.mem_singleton.mp h
    omega

/-- Settles O39: a link is read from its lanes, and what is signalled is judged from the links before and after the act. -/
theorem linksFollowTheirLanes : Obligations.LinksFollowTheirLanes := by
  unfold Obligations.LinksFollowTheirLanes
  intro s
  refine ⟨linkStateOf_eq_one_iff s, linkStateOf_eq_two_iff s, fun _ _ => withLinks_of_same, fun _ _ _ => rfl, ?others⟩
  case others =>
    intro k j hk hj
    rw [othersWait_eq]
    exact r1_forL_waitFor (fun _ => mem_portLanes_lt hk) (by omega) k s

end Sys2Proof.Machine
end

section
/-! O37: a lane's bring-up moves one state on (R92-R101). -/

namespace Sys2Proof.Machine

section
variable {k : Nat} {ix iy : List Nat} {l m : List (Nat × Nat × Nat × Nat)} {x y : LaneSt} {s t u : State}

theorem LaneActs.mono (h : LaneActs k ix l x s t) (sub : ∀ i ∈ ix, i ∈ iy) : LaneActs k iy l x s t :=
  { h with objects := fun e he => (h.objects e he).imp_left (sub _) }

/-- What is said of an act in the order of the statements. -/
theorem LaneActs.told (h : LaneActs k ix l x s t) (same : ∀ e, e ∈ m ↔ e ∈ l) : RegsSet m s t ∧
    t = { s with regs := t.regs, lanes := t.lanes } ∧ (∀ j, j ≠ k → getLane t j = getLane s j) ∧ getLane t k = x :=
  ⟨h.sets.congr same, h.frame, h.others, h.lane⟩

variable (hk : k < 64)
include hk

/-- An act after an act, where what the second writes again is in its list. -/
theorem LaneActs.trans (h : LaneActs k ix l x s t) (h' : LaneActs k iy m y t u)
    (again : ∀ e ∈ l, e.1 ∈ iy → ∃ v, (e.1, e.2.1, 0, v) ∈ m) :
    LaneActs k (iy ++ ix) (m ++ l.filter (fun e => e.1 ∉ iy)) y s u where
  sets := by
    constructor
    · intro e he
      obtain he | he := List.mem_append.mp he
      · exact h'.sets.1 e he
      · obtain ⟨he, new⟩ := List.mem_filter.mp he
        obtain ⟨_, own⟩ := h.objects e he
        have kept : r1 u e.1 e.2.1 = r1 t e.1 e.2.1 := h'.r1_eq hk (of_decide_eq_true new) (own.sub_lt hk)
        have set := h.sets.1 e he
        rw [own.2] at set ⊢
        exact kept.trans set
    · intro key apart
      have second := h'.sets.2 key fun e he => apart e (List.mem_append_left _ he)
      refine second.trans (h.sets.2 key fun e he => ?_)
      by_cases written : e.1 ∈ iy
      · obtain ⟨v, mem⟩ := again e he written
        rw [(h.objects e he).2.2]
        exact apart (e.1, e.2.1, 0, v) (List.mem_append_left _ mem)
      · exact apart e (List.mem_append_right _ (List.mem_filter.mpr ⟨he, decide_eq_true written⟩))
  objects e he := by
    obtain he | he := List.mem_append.mp he
    · exact (h'.objects e he).imp_left (List.mem_append_left _)
    · exact (h.objects e (List.mem_of_mem_filter he)).imp_left (List.mem_append_right _)
  frame := h'.frame.trans (congrArg (fun v : State => { v with regs := u.regs, lanes := u.lanes }) h.frame)
  others j hj := (h'.others j hj).trans (h.others j hj)
  lane := h'.lane

end

section
variable {k : Nat} {ix : List Nat} {l : List (Nat × Nat × Nat × Nat)} {x : LaneSt} {s t : State}

/-! What the ends of EQUALISE and POLARITY do (R94-R96). -/

/-- What the lower lane of a port of one lane tells of its order (R96). -/
def reversalTold (s : State) (k : Nat) (l : LaneSt) : List (Nat × Nat × Nat × Nat) :=
  if twoLane s k = true ∨ k % 2 = 1 then []
  else if l.used.train ≠ 1 then [(Reg.laneReversal, k / 2, 0, 3)]
  else match l.rxIndex with
    | some i => [(Reg.laneReversal, k / 2, 0, if i = 1 then 2 else 0)]
    | none => []

theorem LaneActs.singleReversal (hk : k < 64) (h : LaneActs k ix l x s t) (new : Reg.laneReversal ∉ ix)
    (mode : Reg.portGroupMode ∉ ix) :
    LaneActs k (Reg.laneReversal :: ix) (reversalTold s k x ++ l) x s (Machine.singleReversal k t) := by
  have group : groupMode t (k / 2) = groupMode s (k / 2) := h.r1_eq hk mode (by omega)
  have two : twoLane t k = twoLane s k := by rw [twoLane, laneMode, group]; rfl
  have quiet : LaneActs k (Reg.laneReversal :: ix) l x s t := h.mono fun _ => List.mem_cons_of_mem _
  unfold Machine.singleReversal reversalTold
  simp only [trainOn, usedBy, h.lane, two, Bool.or_eq_true, decide_eq_true_eq, Bool.not_eq_true', decide_eq_false_iff_not]
  split
  · exact quiet
  · split
    · exact h.reversal hk 3 new
    · cases x.rxIndex with
      | some i => exact h.reversal hk _ new
      | none => exact quiet

theorem judgeTraining_regs (k : Nat) (s : State) : (Machine.judgeTraining k s).regs = s.regs := by
  unfold Machine.judgeTraining
  dsimp only
  split <;> rfl

/-- Training stops where a Ready frame has come and the lane has left POLARITY (R95). -/
theorem LaneActs.judgeTraining (h : LaneActs k ix l x s t) {go : Bool}
    (hgo : go = (x.training && x.rxReady && decide (5 ≤ laneStateOf t k) && decide (laneStateOf t k ≤ 7))) :
    LaneActs k ix l { x with training := x.training && !go, framesLeft := if go then 16 else x.framesLeft } s
      (Machine.judgeTraining k t) := by
  unfold Machine.judgeTraining
  simp only [h.lane, ← hgo]
  cases go
  · simpa using h
  · have stop := h.modLane fun l => { l with training := false, framesLeft := 16 }
    unfold Machine.modLane at stop
    simpa [h.lane] using stop

/-- The decision on polarity: the one forced, else the sense of the trial (R94). -/
def polarityDecided (l : LaneSt) : Nat := if l.used.polarity ≠ 0 then l.used.polarity else if l.trialInverted then 2 else 1

/-- The record of a lane that enters REVERSAL: training may stop there (R95). -/
def reversalRecord (go : Bool) (now : Nat) (l : LaneSt) : LaneSt :=
  { l with enteredAt := now, training := l.training && !go, framesLeft := if go then 16 else l.framesLeft }

/-- With polarity decided the lane enters REVERSAL, and tells the order that follows (R94-R96). -/
theorem decidePolarity_acts (hk : k < 64) (calm : laneStateOf s k < 7) {go : Bool}
    (hgo : go = ((getLane s k).training && (getLane s k).rxReady)) :
    LaneActs k [Reg.laneReversal, Reg.laneState, Reg.lanePolarityFound]
      (reversalTold s k (getLane s k) ++ [(Reg.laneState, k, 0, 5),
        (Reg.lanePolarityFound, k, 0, polarityDecided (getLane s k))])
      (reversalRecord go s.now (getLane s k)) s (decidePolarity k s) := by
  have found := (LaneActs.refl k s).w1 hk (i := Reg.lanePolarityFound) (polarityDecided (getLane s k)) List.not_mem_nil
  have calm : laneStateOf (w1 Reg.lanePolarityFound k (polarityDecided (getLane s k)) s) k < 7 :=
    (found.r1_eq hk (by decide) (by omega)).trans_lt calm
  have entered := found.enter hk (.inl calm) (by decide) (.inr (Nat.le_refl 5))
  have told := entered.singleReversal hk (by decide) (by decide)
  have state : laneStateOf (singleReversal k (setLaneState k 5
      (w1 Reg.lanePolarityFound k (polarityDecided (getLane s k)) s))) k = 5 :=
    told.sets.1 (Reg.laneState, k, 0, 5) (List.mem_append_right _ List.mem_cons_self)
  exact told.judgeTraining (by simp [hgo, state])

end

/-! The commands. -/

section
variable {lane : Fin 64} {s : State}

theorem exec_laneSignalDetected (signal : laneStateOf s lane.val = 1) (free : s.tap.held = false) :
    exec (.laneSignalDetected lane) s = .next (onLane lane.val (setLaneState lane.val 2) s) := if_pos ⟨signal, free⟩

theorem exec_laneCdrLocked (cdr : laneStateOf s lane.val = 2) :
    exec (.laneCdrLocked lane) s = .next (onLane lane.val (setLaneState lane.val 3) s) := if_pos cdr

/-- The taps that the equaliser found are in use, unless adaptation is frozen (R101). -/
def tapsTaken (k ctle ffe dfe : Nat) (s : State) : State :=
  if r1 s Reg.laneAdaptFrozen k = 1 then s else setTaps k ctle ffe dfe s

/-- The end of EQUALISE: POLARITY, which a forced polarity leaves at once (R92, R94). -/
def equalised (k ctle ffe dfe : Nat) (s : State) : State :=
  let s := setLaneState k 4 (tapsTaken k ctle ffe dfe s)
  if (usedBy s k).polarity ≠ 0 then decidePolarity k s else s

theorem converged_of_all {k : Nat} (h : ∀ n, (getLane s k).convRun = some n → 4096 ≤ n) : converged s k = true := by
  unfold converged
  split
  · rfl
  · exact decide_eq_true (h _ ‹_›)

theorem exec_laneEqualised (equalise : laneStateOf s lane.val = 3)
    (run : ∀ n, (getLane s lane.val).convRun = some n → 4096 ≤ n) (ctle : Fin 16) (ffe : BitVec 96) (dfe : BitVec 32) :
    exec (.laneEqualised lane ctle ffe dfe) s =
      .next (onLane lane.val (equalised lane.val ctle.val ffe.toNat dfe.toNat) s) :=
  if_pos ⟨equalise, converged_of_all run⟩

theorem exec_polarityTrialSwitch (polarity : laneStateOf s lane.val = 4) : exec (.polarityTrialSwitch lane) s =
    .next (modLane lane.val (fun l => { l with trialInverted := !l.trialInverted }) s) := if_pos polarity

theorem exec_lanePolarityDecided (polarity : laneStateOf s lane.val = 4) :
    exec (.lanePolarityDecided lane) s = .next (onLane lane.val (decidePolarity lane.val) s) := if_pos polarity

theorem exec_trainingFrameReceive {head : BitVec 48} (train : (getLane s lane.val).used.train = 1)
    (check : trainingCheck head.toNat = true) (from4 : 4 ≤ laneStateOf s lane.val) (to6 : laneStateOf s lane.val ≤ 6) :
    exec (.trainingFrameReceive lane head) s = .next (judgeTraining lane.val (modLane lane.val (fun l =>
      { l with rxReady := l.rxReady || head.toNat.testBit 9, rxIndex := some (bitAt head.toNat 8) }) s)) :=
  if_pos (by simp [trainOn, usedBy, train, check, from4, to6])

theorem exec_laneBackoffEnd (backoff : laneStateOf s lane.val = 9) : exec (.laneBackoffEnd lane) s =
    .next (onLane lane.val (setLaneState lane.val 1) (advanceTo ((getLane s lane.val).enteredAt + 16 * 125000000) s)) :=
  if_pos backoff

end

/-! The end of EQUALISE. -/

section
variable {k : Nat} {s : State} (hk : k < 64)
include hk

/-- The taps that are written where adaptation is not frozen. -/
def tapsWritten (frozen : Bool) (k ctle ffe dfe : Nat) : List (Nat × Nat × Nat × Nat) :=
  if frozen then [] else [(Reg.laneRxCtle, k, 0, ctle), (Reg.laneRxFfeTaps, k, 0, ffe), (Reg.laneRxDfeTaps, k, 0, dfe)]

/-- The record with the taps in use. -/
def tapsRecord (frozen : Bool) (ctle ffe dfe : Nat) (l : LaneSt) : LaneSt :=
  { l with ctle := if frozen then l.ctle else ctle, ffe := if frozen then l.ffe else ffe, dfe := if frozen then l.dfe else dfe }

theorem setTaps_acts (ctle ffe dfe : Nat) : LaneActs k [Reg.laneRxCtle, Reg.laneRxFfeTaps, Reg.laneRxDfeTaps]
    (tapsWritten false k ctle ffe dfe) (tapsRecord false ctle ffe dfe (getLane s k)) s (setTaps k ctle ffe dfe s) := by
  have dfeSet := (LaneActs.refl k s).w1 hk (i := Reg.laneRxDfeTaps) dfe List.not_mem_nil
  have ffeSet := dfeSet.w1 hk (i := Reg.laneRxFfeTaps) ffe (by decide)
  exact (ffeSet.w1 hk (i := Reg.laneRxCtle) ctle (by decide)).modLane fun l => { l with ctle := ctle, ffe := ffe, dfe := dfe }

theorem tapsTaken_acts {frozen : Bool} (hfrozen : frozen = decide (r1 s Reg.laneAdaptFrozen k = 1)) (ctle ffe dfe : Nat) :
    LaneActs k [Reg.laneRxCtle, Reg.laneRxFfeTaps, Reg.laneRxDfeTaps] (tapsWritten frozen k ctle ffe dfe)
      (tapsRecord frozen ctle ffe dfe (getLane s k)) s (tapsTaken k ctle ffe dfe s) := by
  unfold tapsTaken
  cases frozen
  · rw [if_neg (of_decide_eq_false hfrozen.symm)]
    exact setTaps_acts hk ctle ffe dfe
  · rw [if_pos (of_decide_eq_true hfrozen.symm)]
    exact (LaneActs.refl k s).mono (List.forall_mem_nil _)

theorem polarityEntered_acts (calm : laneStateOf s k < 7) {frozen : Bool}
    (hfrozen : frozen = decide (r1 s Reg.laneAdaptFrozen k = 1)) (ctle ffe dfe : Nat) :
    LaneActs k [Reg.laneState, Reg.laneRxCtle, Reg.laneRxFfeTaps, Reg.laneRxDfeTaps]
      ((Reg.laneState, k, 0, 4) :: tapsWritten frozen k ctle ffe dfe)
      { tapsRecord frozen ctle ffe dfe (getLane s k) with enteredAt := s.now, trialInverted := false } s
      (setLaneState k 4 (tapsTaken k ctle ffe dfe s)) := by
  have taps := tapsTaken_acts hk hfrozen ctle ffe dfe
  exact taps.enterPolarity hk (.inl ((taps.r1_eq hk (by decide) (by omega)).trans_lt calm)) (by decide)

section
variable (calm : laneStateOf s k < 7) {frozen : Bool} (hfrozen : frozen = decide (r1 s Reg.laneAdaptFrozen k = 1))
  (ctle ffe dfe : Nat)
include calm hfrozen

theorem equalised_of_automatic (automatic : (getLane s k).used.polarity = 0) :
    equalised k ctle ffe dfe s = setLaneState k 4 (tapsTaken k ctle ffe dfe s) := by
  have entered := polarityEntered_acts hk calm hfrozen ctle ffe dfe
  exact if_neg (not_not.mpr ((congrArg (·.used.polarity) entered.lane).trans automatic))

/-- A forced polarity leaves POLARITY at once, for REVERSAL (R94). -/
theorem equalised_forced_acts (forced : (getLane s k).used.polarity ≠ 0) {go : Bool}
    (hgo : go = ((getLane s k).training && (getLane s k).rxReady)) :
    LaneActs k ([Reg.laneReversal, Reg.laneState, Reg.lanePolarityFound] ++
        [Reg.laneState, Reg.laneRxCtle, Reg.laneRxFfeTaps, Reg.laneRxDfeTaps])
      (reversalTold s k (getLane s k) ++ [(Reg.laneState, k, 0, 5), (Reg.lanePolarityFound, k, 0, (getLane s k).used.polarity)] ++
        tapsWritten frozen k ctle ffe dfe)
      (reversalRecord go s.now { tapsRecord frozen ctle ffe dfe (getLane s k) with trialInverted := false }) s
      (equalised k ctle ffe dfe s) := by
  have entered := polarityEntered_acts hk calm hfrozen ctle ffe dfe
  have reaches : equalised k ctle ffe dfe s = decidePolarity k (setLaneState k 4 (tapsTaken k ctle ffe dfe s)) :=
    if_pos fun automatic => forced ((congrArg (·.used.polarity) entered.lane).symm.trans automatic)
  rw [reaches]
  generalize setLaneState k 4 (tapsTaken k ctle ffe dfe s) = u at entered
  have state : laneStateOf u k = 4 := entered.sets.1 (Reg.laneState, k, 0, 4) List.mem_cons_self
  have decided := decidePolarity_acts (s := u) hk (by omega) (go := go) (by rw [entered.lane]; exact hgo)
  have group : groupMode u (k / 2) = groupMode s (k / 2) := entered.r1_eq hk (by decide) (by omega)
  have two : twoLane u k = twoLane s k := by rw [twoLane, laneMode, group]; rfl
  have told : reversalTold u k (getLane u k) = reversalTold s k (getLane s k) := by
    rw [reversalTold, two, entered.lane]
    rfl
  have found : polarityDecided (getLane u k) = (getLane s k).used.polarity := by
    rw [entered.lane]
    exact if_pos forced
  rw [told, found, entered.lane, entered.now_eq] at decided
  have kept : (tapsWritten frozen k ctle ffe dfe).filter
      (fun e => e.1 ∉ [Reg.laneReversal, Reg.laneState, Reg.lanePolarityFound]) = tapsWritten frozen k ctle ffe dfe := by
    cases frozen <;> rfl
  have both := entered.trans hk decided (by
    intro e he again
    obtain rfl | he := List.mem_cons.mp he
    · exact ⟨5, List.mem_append_right _ List.mem_cons_self⟩
    · rw [← kept] at he
      exact absurd again (of_decide_eq_true (List.mem_filter.mp he).2))
  rw [List.filter_cons_of_neg (by simp), kept] at both
  exact both

end

end

/-! The obligation. -/

/-- A command that acts on a lane, in UP and TEST neither before nor after, does that act and changes no link. -/
theorem LaneActs.runs {k st : Nat} {ix : List Nat} {l m : List (Nat × Nat × Nat × Nat)} {x : LaneSt} {s : State} {c : Instr}
    {f : State → State} (h : LaneActs k ix l x s (f s)) (hk : k < 64) (run : exec c s = .next (onLane k f s))
    (mode : Reg.portGroupMode ∉ ix) (before : laneStateOf s k < 7 ∨ 8 < laneStateOf s k)
    (state : (Reg.laneState, k, 0, st) ∈ l) (after : st < 7) (same : ∀ e, e ∈ m ↔ e ∈ l) :
    Runs c s (fun t => RegsSet m s t ∧ t = { s with regs := t.regs, lanes := t.lanes } ∧
      (∀ j, j ≠ k → getLane t j = getLane s j) ∧ getLane t k = x) := by
  have entered : laneStateOf (f s) k = st := h.sets.1 (Reg.laneState, k, 0, st) state
  exact ⟨f s, by rw [run, h.onLane_eq hk mode before (.inl (entered.trans_lt after))], h.told same⟩

/-- Settles O37: each step is an act on its lane alone, in a state in which no link changes. -/
theorem laneBringUpSteps : Obligations.LaneBringUpSteps := by
  unfold Obligations.LaneBringUpSteps
  rintro lane k l s rev rfl rfl hrev
  have hk : lane.val < 64 := lane.isLt
  have hrev : rev = reversalTold s lane.val (getLane s lane.val) := hrev
  refine ⟨?signal, ?cdr, ?equalise, ?trial, ?polarity, ?training, ?backoff⟩
  case signal =>
    intro (state : laneStateOf s lane.val = 1) free
    have calm : laneStateOf s lane.val < 7 := by omega
    exact (setLaneState_cdr_acts hk (.inl calm)).runs hk (exec_laneSignalDetected state free) (by decide) (.inl calm)
      (st := 2) (by simp) (by decide) (by simp [or_comm])
  case cdr =>
    intro (state : laneStateOf s lane.val = 2)
    have calm : laneStateOf s lane.val < 7 := by omega
    exact (setLaneState_equalise_acts hk (.inl calm)).runs hk (exec_laneCdrLocked state) (by decide) (.inl calm)
      (st := 3) (by simp) (by decide) (fun e => by simp only [List.mem_cons, List.not_mem_nil, or_false]; tauto)
  case equalise =>
    rintro ctle ffe dfe _ frozen go (state : laneStateOf s lane.val = 3) run rfl hfrozen hgo
    have calm : laneStateOf s lane.val < 7 := by omega
    have ran := exec_laneEqualised state run ctle ffe dfe
    by_cases polarity : (getLane s lane.val).used.polarity = 0
    · have acts := polarityEntered_acts hk calm hfrozen ctle.val ffe.toNat dfe.toNat
      rw [← equalised_of_automatic hk calm hfrozen _ _ _ polarity] at acts
      have still : go = false := by simp [hgo, polarity]
      have result := acts.runs hk ran (by decide) (.inl calm) (st := 4) (by simp) (by decide) (fun _ => Iff.rfl)
      simpa [polarity, still, tapsWritten, tapsRecord] using result
    · have acts := equalised_forced_acts hk calm hfrozen ctle.val ffe.toNat dfe.toNat polarity (go := go)
        (by simp [hgo, polarity])
      rw [hrev, if_neg polarity, if_neg polarity]
      exact acts.runs hk ran (by decide) (.inl calm) (st := 5) (by simp) (by decide) (fun e => by
        simp only [tapsWritten, List.mem_append, List.mem_cons, List.not_mem_nil, or_false]
        tauto)
  case trial =>
    intro (state : laneStateOf s lane.val = 4)
    have acts := (LaneActs.refl lane.val s).modLane fun l => { l with trialInverted := !l.trialInverted }
    exact ⟨_, exec_polarityTrialSwitch state, rfl, acts.others, acts.lane⟩
  case polarity =>
    intro go hgo (state : laneStateOf s lane.val = 4)
    have calm : laneStateOf s lane.val < 7 := by omega
    rw [hrev]
    exact (decidePolarity_acts hk calm hgo).runs hk (exec_lanePolarityDecided state) (by decide) (.inl calm)
      (st := 5) (by simp) (by decide) (fun e => by
        simp only [List.mem_append, List.mem_cons, List.not_mem_nil, or_false, polarityDecided]
        tauto)
  case training =>
    rintro head _ go train check from4 to6 rfl hgo
    have acts := ((LaneActs.refl lane.val s).modLane fun l => { l with
      rxReady := l.rxReady || head.toNat.testBit 9, rxIndex := some (bitAt head.toNat 8) }).judgeTraining (go := go) (by
        have upper : laneStateOf s lane.val ≤ 7 := Nat.le_succ_of_le to6
        rw [laneStateOf] at upper ⊢
        rw [r1_modLane, decide_eq_true upper, Bool.and_true, hgo])
    have frame := acts.frame
    rw [judgeTraining_regs, modLane_regs] at frame
    exact ⟨_, exec_trainingFrameReceive train check from4 to6, frame, acts.others, acts.lane⟩
  case backoff =>
    intro (state : laneStateOf s lane.val = 9)
    have ran := exec_laneBackoffEnd state
    generalize hu : advanceTo ((getLane s lane.val).enteredAt + 16 * 125000000) s = u at ran
    have record (j : Nat) : getLane u j = getLane s j := by rw [← hu, getLane, advanceTo_lanes]; rfl
    have backoff : laneStateOf u lane.val = 9 := by rw [← hu]; exact (r1_advanceTo ..).trans state
    have acts := (LaneActs.refl lane.val u).enterSignal hk (.inr (by omega)) List.not_mem_nil (by decide)
    have entered : laneStateOf (setLaneState lane.val 1 u) lane.val = 1 := acts.sets.1 (Reg.laneState, lane.val, 0, 1) (by simp)
    rw [acts.onLane_eq hk (by decide) (.inr (by omega)) (.inl (by omega))] at ran
    obtain ⟨sets, frame, others, own⟩ := acts.told (m := [(Reg.laneState, lane.val, 0, 1), (Reg.lanePolarityFound, lane.val, 0, 0)])
      (by simp [or_comm])
    exact ⟨_, ran, u, rfl, sets, frame, fun j hj => (others j hj).trans (record j), by rw [own, record]⟩

end Sys2Proof.Machine
end

section
/-! O13: checker lock, injection and what symbols carry (R86, R87, R94, R107-R109). -/

namespace Sys2Proof.Machine

/-! Symbols (R86, R87, R94). -/

theorem grayBits_grayLevel (a b : Bool) : grayBits (grayLevel a b) = (a, b) := by cases a <;> cases b <;> rfl

/-- The bits of a stream of whole pairs come back from their levels (R86). -/
theorem pam4Bits_pam4Levels : ∀ bits : List Bool, bits.length % 2 = 0 → pam4Bits (pam4Levels bits) = bits
  | [], _ => rfl
  | [_], odd => absurd odd (Nat.succ_ne_zero 0)
  | a :: b :: t, even => by
    have rest := pam4Bits_pam4Levels t (by simp only [List.length_cons] at even; omega)
    rw [pam4Levels, pam4Bits, List.flatMap_cons, grayBits_grayLevel, ← pam4Bits, rest]
    rfl

/-- Levels come back from their precoding, from any level before the first (R87). -/
theorem unprecodeFrom_precodeFrom (y : Nat) {l : List Nat} (h : ∀ x ∈ l, x < 4) :
    unprecodeFrom y (precodeFrom y l) = l := by
  induction l generalizing y with
  | nil => rfl
  | cons x t ih =>
    obtain ⟨hx, ht⟩ := List.forall_mem_cons.mp h
    have first : ((x + 4 - y % 4) % 4 + y) % 4 = x := by omega
    rw [precodeFrom, unprecodeFrom, first, ih _ ht]

theorem invertLevel_invertLevel {pam4 : Bool} {x : Nat} (h : x < if pam4 then 4 else 2) :
    invertLevel pam4 (invertLevel pam4 x) = x := by
  cases pam4 <;> simp only [invertLevel, Bool.false_eq_true, if_true, if_false] at h ⊢ <;> omega

/-! The errors that a lane's own injections leave uncounted (R107-R109). -/

theorem sum_modAt_succ {l : List Nat} {i : Nat} (h : i < l.length) : (modAt l i (· + 1)).sum = l.sum + 1 := by
  induction l generalizing i with
  | nil => exact absurd h (Nat.not_lt_zero i)
  | cons a t ih =>
    cases i with
    | zero => simp only [modAt, List.sum_cons]; omega
    | succ i => simp only [modAt, List.sum_cons, ih (Nat.lt_of_succ_lt_succ h)]; omega

/-- One more symbol is struck, of the four levels the one that a free value gives (R107, R108; log 6). -/
def levelsStruck (place : Nat) (levels : List Nat) : List Nat :=
  modAt (levels ++ List.replicate (4 - levels.length) 0) (place % 4) (· + 1)

theorem sum_levelsStruck (place : Nat) (levels : List Nat) : (levelsStruck place levels).sum = levels.sum + 1 := by
  have room : place % 4 < (levels ++ List.replicate (4 - levels.length) 0).length := by
    have := Nat.mod_lt place (by decide : 0 < 4)
    rw [List.length_append, List.length_replicate]
    omega
  rw [levelsStruck, sum_modAt_succ room, List.sum_append, List.sum_replicate_nat, Nat.mul_zero, Nat.add_zero]

/-- A symbol struck, whose level is drawn. -/
def strikeLevel (k : Nat) (s : State) : State :=
  modLane k (fun l => { l with loopLevels := levelsStruck (Config.freeValue s.free) l.loopLevels }) (draw s).2

/-- The record of lane k is x, and n values have been drawn; no other lane and nothing else of the state changes. -/
structure LaneDraws (k n : Nat) (x : LaneSt) (s t : State) : Prop where
  frame : t = { s with lanes := t.lanes, free := s.free + n }
  others : ∀ j, j ≠ k → getLane t j = getLane s j
  lane : getLane t k = x

section
variable {k n : Nat} {x : LaneSt} {s t : State}

/-- One more value is drawn and the lane's record changes. -/
theorem LaneDraws.draw (h : LaneDraws k n x s t) (f : LaneSt → LaneSt) :
    LaneDraws k (n + 1) (f x) s (modLane k f (Machine.draw t).2) where
  frame := congrArg (fun v : State => { v with lanes := (modLane k f (Machine.draw t).2).lanes, free := v.free + 1 }) h.frame
  others j hj := ((getLane_setLane ..).trans (if_neg hj)).trans (h.others j hj)
  lane := (getLane_setLane_same ..).trans (congrArg f h.lane)

theorem LaneDraws.levels (h : LaneDraws k n x s t) (m : Nat) : ∃ l, l.sum = x.loopLevels.sum + m ∧
    LaneDraws k (n + m) { x with loopLevels := l } s (forN m (fun _ => strikeLevel k) t) := by
  induction m with
  | zero => exact ⟨_, rfl, h⟩
  | succ m ih =>
    obtain ⟨l, sum, draws⟩ := ih
    rw [forN_succ]
    generalize forN m (fun _ => strikeLevel k) t = u at draws ⊢
    exact ⟨levelsStruck (Config.freeValue u.free) l, by rw [sum_levelsStruck, sum, Nat.add_assoc],
      draws.draw fun l => { l with loopLevels := levelsStruck (Config.freeValue u.free) l.loopLevels }⟩

end

/-- A lane does not hear its own injections, or its checker has no lock: nothing is left to be counted. -/
theorem loopInjection_of_deaf {k : Nat} {s : State} (deaf : hearsItself s k = false ∨ r1 s Reg.chkState k ∉ [2, 3]) :
    loopInjection k s = s := by
  refine if_neg ?_
  obtain silent | unlocked := deaf
  · simp [silent]
  · simp only [List.mem_cons, List.not_mem_nil, or_false, not_or] at unlocked
    simp [unlocked]

/-- A lane with a locked checker hears what its own injection strikes (R108). -/
theorem loopInjection_of_heard {k : Nat} {s : State} (hears : hearsItself s k = true) (locked : r1 s Reg.chkState k ∈ [2, 3])
    {z : Nat × Nat} (hz : z = injectionSize s k (Config.freeValue s.free)) : ∃ l, l.sum = (getLane s k).loopLevels.sum + z.2 ∧
      LaneDraws k (1 + z.2) { getLane s k with
        loopBits := (getLane s k).loopBits + z.1, loopSymbols := (getLane s k).loopSymbols + z.2, loopLevels := l } s
        (loopInjection k s) := by
  have runs : loopInjection k s = forN z.2 (fun _ => strikeLevel k) (modLane k (fun l =>
      { l with loopBits := l.loopBits + z.1, loopSymbols := l.loopSymbols + z.2 }) (draw s).2) := by
    subst hz
    refine if_pos ?_
    simp only [List.mem_cons, List.not_mem_nil, or_false] at locked
    simp [hears, locked]
  rw [runs]
  have start : LaneDraws k 0 (getLane s k) s s := ⟨rfl, fun _ _ => rfl, rfl⟩
  exact (start.draw fun l => { l with loopBits := l.loopBits + z.1, loopSymbols := l.loopSymbols + z.2 }).levels z.2

/-- An injection leaves the lane the objects that it took up in CDR, whoever hears it. -/
theorem loopInjection_draws (k : Nat) (s : State) :
    ∃ n x, x.used = (getLane s k).used ∧ LaneDraws k n x s (loopInjection k s) := by
  by_cases hears : hearsItself s k = true ∧ r1 s Reg.chkState k ∈ [2, 3]
  · obtain ⟨_, _, draws⟩ := loopInjection_of_heard hears.1 hears.2 rfl
    refine ⟨_, _, ?_, draws⟩
    rfl
  · rw [not_and_or, Bool.not_eq_true] at hears
    rw [loopInjection_of_deaf hears]
    exact ⟨0, _, rfl, rfl, fun _ _ => rfl, rfl⟩

/-! A frame that is struck (R108). -/

theorem strikeFrame_frame (k : Nat) (s : State) : strikeFrame k s = { s with ports := (strikeFrame k s).ports } := by
  unfold strikeFrame
  split <;> rfl

/-- The port of a lane in UP. -/
theorem strikeFrame_of_slot {k slot : Nat} {s : State} (up : r1 s Reg.laneState k = 7) (port : slotOfLane s k = some slot) :
    strikeFrame k s = modPort slot (fun p =>
      { p with tx := p.tx.map fun t => { t with struck := t.struck + injectionReach s k } }) s := by
  unfold strikeFrame laneStateOf
  rw [if_pos up, port]

theorem strikeFrame_of_none {k : Nat} {s : State} (none : r1 s Reg.laneState k ≠ 7 ∨ slotOfLane s k = none) :
    strikeFrame k s = s := by
  unfold strikeFrame laneStateOf
  split
  next slot port =>
    obtain ⟨up, port⟩ := Option.ite_none_right_eq_some.mp port
    simp [up, port] at none
  next => rfl

theorem getPort_strikeFrame_of_tx {k slot : Nat} {s : State} {x : TxSt} (up : r1 s Reg.laneState k = 7)
    (port : slotOfLane s k = some slot) (tx : (getPort s slot).tx = some x) : getPort (strikeFrame k s) slot =
      { getPort s slot with tx := some { x with struck := x.struck + injectionReach s k } } := by
  rw [strikeFrame_of_slot up port, modPort, getPort_setPort_same, tx]
  rfl

theorem getPort_strikeFrame_of_other {k j : Nat} {s : State}
    (other : r1 s Reg.laneState k ≠ 7 ∨ slotOfLane s k ≠ some j ∨ (getPort s j).tx = none) :
    getPort (strikeFrame k s) j = getPort s j := by
  by_cases none : r1 s Reg.laneState k ≠ 7 ∨ slotOfLane s k = none
  · rw [strikeFrame_of_none none]
  · obtain ⟨up, some⟩ := not_or.mp none
    obtain ⟨slot, port⟩ := Option.ne_none_iff_exists'.mp some
    rw [strikeFrame_of_slot (not_not.mp up) port, modPort, getPort_setPort]
    split
    case isFalse => rfl
    case isTrue same =>
      subst same
      have idle : (getPort s j).tx = .none := (other.resolve_left up).resolve_left (not_not.mpr port)
      rw [idle]
      exact congrArg (fun t => { getPort s j with tx := t }) idle.symm

/-! One injection (R108). -/

theorem injectOne_frame (k : Nat) (s : State) : injectOne k s = { s with
    regs := (injectOne k s).regs, lanes := (injectOne k s).lanes, ports := (injectOne k s).ports
    free := (injectOne k s).free } := by
  obtain ⟨n, x, _, draws⟩ := loopInjection_draws k (inc Reg.injectCount k s)
  have struck := strikeFrame_frame k (loopInjection k (inc Reg.injectCount k s))
  rw [← injectOne] at struck
  generalize injectOne k s = t at struck ⊢
  generalize loopInjection k (inc Reg.injectCount k s) = v at draws struck
  have frame := draws.frame
  rw [struck]
  exact congrArg (fun w : State => { w with
    regs := v.regs, lanes := v.lanes, ports := t.ports, free := v.free }) frame

/-- What an injection leaves: it is counted, and nothing but lane k, a frame and the draws of its levels may change (R108). -/
theorem injectOne_sets (k : Nat) (s : State) :
    RegsSet [(Reg.injectCount, k, 0, (r1 s Reg.injectCount k + 1) % 2 ^ 64)] s (injectOne k s) := by
  obtain ⟨n, x, _, draws⟩ := loopInjection_draws k (inc Reg.injectCount k s)
  refine (inc_sets Reg.injectCount k s).2.of_regs_eq ?_
  rw [injectOne, strikeFrame_frame, draws.frame]

/-- The lanes and the draws are those of the loop: an injection's strike at a frame touches neither. -/
theorem injectOne_lanes (k : Nat) (s : State) : (injectOne k s).lanes = (loopInjection k (inc Reg.injectCount k s)).lanes ∧
    (injectOne k s).free = (loopInjection k (inc Reg.injectCount k s)).free := by
  rw [injectOne, strikeFrame_frame]
  exact ⟨rfl, rfl⟩

theorem getLane_injectOne (k j : Nat) (s : State) :
    getLane (injectOne k s) j = getLane (loopInjection k (inc Reg.injectCount k s)) j := by
  rw [getLane, (injectOne_lanes k s).1]
  rfl

section
variable {k : Nat} {s : State} (hk : k < 64)
include hk

/-- Counting an injection changes nothing that the injection depends on. -/
theorem injection_of_counted {u : State} (hu : u = inc Reg.injectCount k s) :
    hearsItself u k = hearsItself s k ∧ injectionSize u k = injectionSize s k ∧ slotOfLane u k = slotOfLane s k ∧
      (∀ i, i ≠ Reg.injectCount → r1 u i k = r1 s i k) := by
  have acts := (LaneActs.refl k s).inc hk (i := Reg.injectCount) List.not_mem_nil
  rw [← hu] at acts
  have kept (i : Nat) (hi : i ≠ Reg.injectCount) : r1 u i k = r1 s i k :=
    acts.r1_eq hk (mt List.mem_singleton.mp hi) (by omega)
  have group : groupMode u (k / 2) = groupMode s (k / 2) := acts.r1_eq hk (by decide) (by omega)
  refine ⟨?_, ?_, ?_, kept⟩
  · simp only [hearsItself, nearLoop, kept Reg.loopbackMode (by decide), kept Reg.patGenSelect (by decide),
      kept Reg.patChkSelect (by decide)]
  · funext place
    simp only [injectionSize, isPam4, laneMode, group, kept Reg.injectMode (by decide), kept Reg.injectBurstLength (by decide)]
    rfl
  · simp only [slotOfLane, group]

/-- The state in which a frame is struck reads as the one before the injection, but for its count. -/
theorem struck_of_injected {v : State} (hv : v = loopInjection k (inc Reg.injectCount k s)) :
    r1 v Reg.laneState k = r1 s Reg.laneState k ∧ slotOfLane v k = slotOfLane s k ∧
      injectionReach v k = injectionReach s k ∧ ∀ j, getPort v j = getPort s j := by
  obtain ⟨n, x, used, draws⟩ := loopInjection_draws k (inc Reg.injectCount k s)
  obtain ⟨_, _, slot, kept⟩ := injection_of_counted (s := s) hk rfl
  rw [← hv] at draws
  have regs : v.regs = (inc Reg.injectCount k s).regs := by rw [draws.frame]
  have ports : v.ports = s.ports := by rw [draws.frame]; rfl
  have reads (i j : Nat) : r1 v i j = r1 (inc Reg.injectCount k s) i j := by rw [r1, rd, regs]; rfl
  have use : usedBy v k = usedBy s k := by rw [usedBy, draws.lane, used]; rfl
  refine ⟨(reads ..).trans (kept _ (by decide)), ?_, ?_, fun j => by rw [getPort, ports]; rfl⟩
  · rw [← slot, slotOfLane, groupMode, reads]
    rfl
  · simp only [injectionReach, reads, use, kept Reg.injectMode (by decide), kept Reg.injectBurstLength (by decide)]

end

/-! The commands. -/

theorem exec_checkerLock {lane : Fin 64} {s : State} {levels : List (Fin 4)} {inverted : Bool}
    (hunts : r1 s Reg.chkState lane.val = 1) (test : r1 s Reg.laneState lane.val = 8)
    (finds : checkerFinds s lane.val levels = some inverted) : exec (.checkerLock lane levels) s =
      .next (w1 Reg.chkState lane.val (if inverted then 3 else 2)
        (dropLoopErrors lane.val (modLane lane.val (fun l => { l with chkHeard := true }) s))) := by
  refine (if_pos ⟨hunts, test⟩).trans ?_
  rw [finds]

theorem exec_checkerLockLoss {lane : Fin 64} {s : State} {errors : Fin 1025} (locked : r1 s Reg.chkState lane.val ∈ [2, 3])
    (lost : 256 < errors.val) : exec (.checkerLockLoss lane errors) s =
      .next (inc Reg.chkLockLosses lane.val (w1 Reg.chkState lane.val 1 s)) :=
  if_pos ⟨by simpa using locked, lost⟩

/-- An injection, at the end of its interval or by a write of InjectFire while the interval is 0 (R108). -/
theorem exec_injection {lane : Fin 64} {s : State} {c : Instr}
    (hc : (c = .injectIntervalExpire lane ∧ r1 s Reg.injectInterval lane.val ≠ 0) ∨
      (∃ w, c = .injectFire lane w ∧ Accepts s w Reg.injectFire lane.val 0 lane.val 1 ∧
        r1 s Reg.injectInterval lane.val = 0))
    (injecting : injects s lane.val = true) : exec c s = .next (injectOne lane.val s) := by
  obtain ⟨rfl, interval⟩ | ⟨w, rfl, accepted, interval⟩ := hc
  · exact if_pos (by simp [injecting, interval])
  · show Host.Outcome.next (catWrite w Reg.injectFire lane.val 0 effInjectFire s) = _
    rw [catWrite_accepts _ accepted, effInjectFire, effBool_one, injecting, interval]
    rfl

/-- Settles O13: the commands act on their lane, an injection by what it counts, strikes and leaves to be counted. -/
theorem laneTestCommandsSetTheirRegisters : Obligations.LaneTestCommandsSetTheirRegisters := by
  unfold Obligations.LaneTestCommandsSetTheirRegisters
  intro lane s
  have hk : lane.val < 64 := lane.isLt
  refine ⟨?lock, ?loss, ?injection, pam4Bits_pam4Levels, fun l => unprecodeFrom_precodeFrom 0, fun pam4 x => invertLevel_invertLevel⟩
  case lock =>
    intro levels inverted hunts test finds
    have acts := (((LaneActs.refl lane.val s).modLane fun l => { l with chkHeard := true }).modLane fun l =>
      { l with loopBits := 0, loopSymbols := 0, loopLevels := [] }).w1 hk (i := Reg.chkState) (if inverted then 3 else 2)
      List.not_mem_nil
    exact ⟨_, exec_checkerLock hunts test finds, acts.sets, acts.frame, acts.lane, acts.others⟩
  case loss =>
    intro errors locked lost
    have acts := ((LaneActs.refl lane.val s).w1 hk (i := Reg.chkState) 1 List.not_mem_nil).inc hk (i := Reg.chkLockLosses)
      (by decide)
    have frame := w1_frame (wr_sets Reg.chkState lane.val 0 1 s).1 Reg.chkLockLosses lane.val
    exact ⟨_, exec_checkerLockLoss locked lost, frame _, acts.sets.congr (by simp [or_comm])⟩
  case injection =>
    intro c hc injecting
    obtain ⟨up, port, reach, ports⟩ := struck_of_injected (s := s) hk rfl
    obtain ⟨hears, size, _, kept⟩ := injection_of_counted (s := s) hk rfl
    obtain ⟨n, x, _, draws⟩ := loopInjection_draws lane.val (inc Reg.injectCount lane.val s)
    obtain ⟨lanes, free⟩ := injectOne_lanes lane.val s
    have checker : r1 (inc Reg.injectCount lane.val s) Reg.chkState lane.val = r1 s Reg.chkState lane.val := kept _ (by decide)
    refine ⟨_, exec_injection hc injecting, injectOne_sets .., injectOne_frame .., ?struck, ?spared, ?others, ?deaf, ?heard⟩
    case struck =>
      intro slot x inUp slotOf tx
      rw [← up] at inUp
      rw [← port] at slotOf
      rw [← ports] at tx ⊢
      rw [← reach]
      exact getPort_strikeFrame_of_tx inUp slotOf tx
    case spared =>
      intro j other
      rw [← up, ← port, ← ports] at other
      exact (getPort_strikeFrame_of_other other).trans (ports j)
    case others => exact fun j hj => (getLane_injectOne ..).trans (draws.others j hj)
    case deaf =>
      intro deaf
      rw [← hears, ← checker] at deaf
      rw [lanes, free, loopInjection_of_deaf deaf]
      exact ⟨rfl, rfl⟩
    case heard =>
      intro z hz loop locked
      rw [← size] at hz
      rw [← hears] at loop
      rw [← checker] at locked
      obtain ⟨l, sum, heard⟩ := loopInjection_of_heard loop locked hz
      refine ⟨?_, l, (getLane_injectOne ..).trans heard.lane, sum⟩
      rw [free, heard.frame, Nat.add_assoc]
      rfl

end Sys2Proof.Machine
end

section
/-! O14: writes that act on a lane (R92, R103, R106-R110, R355). -/

namespace Sys2Proof.Machine

/-- LaneEnable stops the lane, or starts one that is in OFF (R92). -/
theorem effLaneEnable_eq (lane : Fin 64) (v : Nat) (s : State) : effLaneEnable lane.val v s = onLane lane.val (fun s =>
    if v = 0 then stopLane lane.val (w1 Reg.laneEnable lane.val v s)
    else if r1 s Reg.laneState lane.val = 0 then startLane lane.val (w1 Reg.laneEnable lane.val v s)
    else w1 Reg.laneEnable lane.val v s) s := by
  have state (t : State) : laneStateOf (w1 Reg.laneEnable lane.val v t) lane.val = r1 t Reg.laneState lane.val :=
    r1_w1_of_ne (by decide) (by omega) (by omega) v t
  simp only [effLaneEnable, state]

theorem setTestObject_patGenSelect (k v : Nat) (s : State) : setTestObject Reg.patGenSelect k v s = onLane k (fun s =>
    judgeTest k (dropLoopErrors k (if v ≠ 0 then startPattern k (w1 Reg.patGenSelect k v s)
      else w1 Reg.patGenSelect k v s))) s := by
  simp [setTestObject, Reg.patGenSelect, Reg.patChkSelect, Reg.loopbackMode]

theorem setTestObject_patChkSelect (k v : Nat) (s : State) : setTestObject Reg.patChkSelect k v s = onLane k (fun s =>
    judgeTest k (dropLoopErrors k (dropChecker k (w1 Reg.patChkSelect k v s)))) s := by
  simp [setTestObject, Reg.patGenSelect, Reg.patChkSelect, Reg.loopbackMode]

theorem setTestObject_loopbackMode (k v : Nat) (s : State) : setTestObject Reg.loopbackMode k v s = onLane k (fun s =>
    judgeTest k (dropLoopErrors k (if v = 1 then loopOrder k
        (if r1 (w1 Reg.loopbackMode k v s) Reg.patGenSelect k = 0 then startPattern k (w1 Reg.loopbackMode k v s)
          else w1 Reg.loopbackMode k v s)
      else w1 Reg.loopbackMode k v s))) s := by
  by_cases near : v = 1
  all_goals simp [setTestObject, Reg.patGenSelect, Reg.patChkSelect, Reg.loopbackMode, near]

/-- Settles O14: an accepted write is its effect, and each effect is the act on the lane that the clause writes out. -/
theorem laneWritesActOnTheLane : Obligations.LaneWritesActOnTheLane := by
  unfold Obligations.LaneWritesActOnTheLane
  intro lane w v s
  refine ⟨?enable, ?test, ?reserve⟩
  case enable =>
    intro accepted
    show Host.Outcome.next (catWrite w Reg.laneEnable lane.val 0 effLaneEnable s) = _
    rw [catWrite_accepts _ accepted, effLaneEnable_eq]
  case test =>
    intro object idx hidx accepted
    show Host.Outcome.next (catWrite w (if object.val = 0 then Reg.patGenSelect else if object.val = 1 then Reg.patChkSelect
      else Reg.loopbackMode) lane.val 0 (setTestObject (if object.val = 0 then Reg.patGenSelect
      else if object.val = 1 then Reg.patChkSelect else Reg.loopbackMode)) s) = _
    subst hidx
    match object with
    | 0 => exact congrArg _ ((catWrite_accepts _ accepted).trans ((setTestObject_patGenSelect ..).trans (by simp)))
    | 1 => exact congrArg _ ((catWrite_accepts _ accepted).trans ((setTestObject_patChkSelect ..).trans (by simp)))
    | 2 => exact congrArg _ ((catWrite_accepts _ accepted).trans ((setTestObject_loopbackMode ..).trans (by simp)))
  case reserve =>
    intro accepted
    show Host.Outcome.next (catWrite w Reg.reserveRequest lane.val 0 effReserveRequest s) = _
    rw [catWrite_accepts _ accepted, effReserveRequest, effBool_one, calRequestInst]

end Sys2Proof.Machine
end

section
/-! O40: adaptation, the reserve sampler and the eye scan (R101-R104). -/

namespace Sys2Proof.Machine

/-! Adaptation (R101). -/

theorem rd_of_regs_eq {s t : State} (h : t.regs = s.regs) (i j l : Nat) : rd t i j l = rd s i j l := by rw [rd, h]; rfl

theorem windowFails_of_regs_eq {s t : State} (h : t.regs = s.regs) (transitions rarest : Nat) :
    windowFails t transitions rarest = windowFails s transitions rarest := by
  simp only [windowFails, r0, rd, h]
  rfl

/-- A window of a lane that adapts: x is its record with the run of converged windows taken on, v the state with it (R101). -/
theorem exec_adaptWindowEval {lane : Fin 64} {k : Nat} {s v : State} {x : LaneSt} (a b : Fin 1025) (ctle : Fin 16)
    (ffe : BitVec 96) (dfe : BitVec 32) {conv : Bool} (hk : k = lane.val)
    (hx : x = { getLane s k with convRun := convAfter (laneStateOf s k) conv (getLane s k).convRun })
    (hv : v = if laneStateOf s k = 3 then setLane k x s else s) (adapts : laneStateOf s k = 3 ∨ laneStateOf s k = 7) :
    exec (.adaptWindowEval lane a ⟨b, conv⟩ ctle ffe dfe) s = .next
      (if windowFails s a.val b.val then
        (if r1 s Reg.laneAdaptFrozen k = 1 then setLane k { x with passRun := 0 } v
         else inc Reg.laneFreezeCount k (w1 Reg.laneAdaptFrozen k 1 (setTaps k x.ctle x.ffe x.dfe (setLane k
           { x with passRun := 0, convRun := if r1 s Reg.laneState k = 3 then some 0 else x.convRun } v))))
       else if r1 s Reg.laneAdaptFrozen k = 1 then
        (if x.passRun + 1 < 16 then setLane k { x with passRun := x.passRun + 1 } v
         else w1 Reg.laneAdaptFrozen k 0 (setLane k { x with passRun := 0 } v))
       else setTaps k ctle.val ffe.toNat dfe.toNat v) := by
  subst hk
  have regs : v.regs = s.regs := by
    rw [hv]
    split <;> rfl
  show execAdaptWindowEval lane a ⟨b, conv⟩ ctle ffe dfe s = _
  unfold execAdaptWindowEval
  extract_lets k old record held
  obtain rfl : x = record := hx
  obtain rfl : v = held := hv
  have state : laneStateOf held k = laneStateOf s k := rd_of_regs_eq regs ..
  have frozen : r1 held Reg.laneAdaptFrozen k = r1 s Reg.laneAdaptFrozen k := rd_of_regs_eq regs ..
  have here : ¬ (laneStateOf held k ≠ 3 ∧ laneStateOf held k ≠ 7) := fun ⟨not3, not7⟩ =>
    adapts.elim (fun equalise => not3 (state.trans equalise)) fun up => not7 (state.trans up)
  have again : r1 s Reg.laneState k = laneStateOf held k := state.symm
  clear_value held record
  rw [if_neg here, frozen, windowFails_of_regs_eq regs, again]
  split
  case isTrue fails => split <;> rfl
  case isFalse passes =>
    split
    case isTrue held => split <;> rfl
    case isFalse free => rfl

/-! The reserve sampler (R102, R103). -/

theorem exec_reservePhaseEnd (lane : Fin 64) (agree : Bool) (s : State) :
    exec (.reservePhaseEnd lane agree) s = .next (phaseEnd lane.val agree s) := rfl

/-! The eye scan (R104). -/

theorem SetsOf.nil (s : State) : SetsOf [] [] s s := ⟨⟨rfl, .nil s⟩, List.forall_mem_nil _⟩

/-- The figures of an eye scan as they are stored, n being the steps of the narrowest eye (R104). -/
def eyeStored (k n : Nat) (pam4 : Bool) (fig : EyeFigures) (s : State) : State :=
  w1 Reg.laneEyeAge k 0 (w1 Reg.laneEyeHeightMiddle k fig.middle.toNat
    (w1 Reg.laneEyeHeightLower k (if pam4 then fig.lower.toNat else 0)
      (w1 Reg.laneEyeHeightUpper k (if pam4 then fig.upper.toNat else 0)
        (w1 Reg.laneEyeWidth k (min (n * 1000 / 128) 65535) s))))

theorem eyeStored_sets {k : Nat} (hk : k < 64) (n : Nat) (pam4 : Bool) (fig : EyeFigures) (s : State) :
    Sets [(Reg.laneEyeWidth, k, 0, min (n * 1000 / 128) 65535),
      (Reg.laneEyeHeightUpper, k, 0, if pam4 then fig.upper.toNat else 0),
      (Reg.laneEyeHeightLower, k, 0, if pam4 then fig.lower.toNat else 0),
      (Reg.laneEyeHeightMiddle, k, 0, fig.middle.toNat), (Reg.laneEyeAge, k, 0, 0)] s (eyeStored k n pam4 fig s) := by
  have hk : k < 256 := by omega
  have width := (SetsOf.nil s).w1 (i := Reg.laneEyeWidth) (min (n * 1000 / 128) 65535) List.not_mem_nil hk
  have upper := width.w1 (i := Reg.laneEyeHeightUpper) (if pam4 then fig.upper.toNat else 0) (by decide) hk
  have lower := upper.w1 (i := Reg.laneEyeHeightLower) (if pam4 then fig.lower.toNat else 0) (by decide) hk
  have middle := lower.w1 (i := Reg.laneEyeHeightMiddle) fig.middle.toNat (by decide) hk
  obtain ⟨frame, set⟩ := (middle.w1 (i := Reg.laneEyeAge) 0 (by decide) hk).sets
  exact ⟨frame, set.congr fun e => (List.mem_reverse (as := [_, _, _, _, _])).symm⟩

theorem exec_eyeScan {lane : Fin 64} {s : State} (fig : EyeFigures) (runs : r1 s Reg.laneState lane.val ∈ [7, 8])
    (free : r1 s Reg.reserveState lane.val = 0) : exec (.eyeScan lane fig) s = .next (runQuality lane.val (eyeStored lane.val
      (if isPam4 s lane.val then min fig.middleSteps.toNat (min fig.upperSteps.toNat fig.lowerSteps.toNat)
        else fig.middleSteps.toNat) (isPam4 s lane.val) fig s)) := by
  have can : canHandOver s lane.val = true := by
    rw [canHandOver, Bool.or_eq_true, decide_eq_true_eq, decide_eq_true_eq]
    exact List.mem_pair.mp runs
  exact if_pos ⟨can, free⟩

/-- Settles O40: the window by what it judges, the handover by its phase, the scan by what it stores. -/
theorem adaptationReserveAndEye : Obligations.AdaptationReserveAndEye := by
  unfold Obligations.AdaptationReserveAndEye
  rintro lane k l s rfl rfl
  refine ⟨?window, ?one, ?agree2, ?differ2, ?three, ?four, ?agree5, ?differ5, ?eye⟩
  case window =>
    rintro a b ctle ffe dfe conv x v (⟨up, rfl, rfl⟩ | ⟨equalise, rfl, rfl⟩)
    · exact exec_adaptWindowEval a b ctle ffe dfe rfl (by simp [laneStateOf, convAfter, up]) (by simp [laneStateOf, up])
        (.inr up)
    · exact exec_adaptWindowEval a b ctle ffe dfe rfl (by simp [laneStateOf, convAfter, equalise])
        (by simp [laneStateOf, equalise]) (.inl equalise)
  case eye =>
    rintro fig n runs free rfl
    exact ⟨_, eyeStored_sets lane.isLt .., exec_eyeScan fig runs free⟩
  case one | agree2 | differ2 | three | four | agree5 | differ5 =>
    intros
    rw [exec_reservePhaseEnd]
    simp only [phaseEnd, *, if_true, Bool.false_eq_true, if_false]

end Sys2Proof.Machine
end

section
/-! O38: order, lock, and departures from UP and from the states before it (R89-R98, R117). -/

namespace Sys2Proof.Machine

theorem LaneActs.congr {k : Nat} {ix : List Nat} {l m : List (Nat × Nat × Nat × Nat)} {x : LaneSt} {s t : State}
    (h : LaneActs k ix l x s t) (same : ∀ e, e ∈ m ↔ e ∈ l) : LaneActs k ix m x s t where
  sets := h.sets.congr same
  objects e he := h.objects e ((same e).mp he)
  frame := h.frame
  others := h.others
  lane := h.lane

/-! The lanes of a port. -/

theorem lanesOfSlot_of_pair {s : State} {k : Nat} (h : (lanesOfSlot s k).length = 2) :
    lanesOfSlot s k = [k, k + 1] ∧ k % 2 = 0 := by
  unfold lanesOfSlot at h ⊢
  dsimp only at h ⊢
  split at h
  · cases h
  next some =>
    rw [if_neg some]
    split at h
    next two =>
      rw [if_pos two]
      split at h
      next even => exact ⟨if_pos even, even⟩
      next odd => cases h
    next one => cases h

theorem lanesOfSlot_of_single {s : State} {k : Nat} (some : lanesOfSlot s k ≠ []) (one : (lanesOfSlot s k).length ≠ 2) :
    lanesOfSlot s k = [k] := by
  unfold lanesOfSlot at some one ⊢
  dsimp only at some one ⊢
  split at some
  · exact absurd rfl some
  next mode =>
    rw [if_neg mode] at one ⊢
    split at some
    next two =>
      rw [if_pos two] at one
      split at some
      next even => exact absurd (by rw [if_pos even]; rfl) one
      next odd => exact absurd rfl some
    next single => exact if_neg single

theorem all_in_state {s : State} {l : List Nat} {st : Nat} (h : ∀ j ∈ l, r1 s Reg.laneState j = st) :
    l.all (fun j => decide (laneStateOf s j = st)) = true :=
  List.all_eq_true.mpr fun j hj => decide_eq_true (h j hj)

/-! The order of a port (R96). -/

section
variable {lane : Fin 64} {s : State}

theorem exec_laneOrderDecided_pair {m x : Bool} (two : (lanesOfSlot s lane.val).length = 2)
    (reversal : ∀ j ∈ lanesOfSlot s lane.val, r1 s Reg.laneState j = 5) (order : portOrder s lane.val m = some x) :
    exec (.laneOrderDecided lane m) s = .next (withLinks (lane.val / 2) (fun v => (lanesOfSlot
      (w1 Reg.laneReversal (lane.val / 2) (b2n x) s) lane.val).foldl (fun v j =>
        setLaneState j 6 (modLane j (fun l => { l with exchanged := x }) v)) v)
      (w1 Reg.laneReversal (lane.val / 2) (b2n x) s)) := by
  have ready : ((lanesOfSlot s lane.val).isEmpty || !(lanesOfSlot s lane.val).all (fun j => decide (laneStateOf s j = 5))) =
      false := by
    rw [all_in_state reversal, (lanesOfSlot_of_pair two).1]
    rfl
  have mode : groupMode (w1 Reg.laneReversal (lane.val / 2) (b2n x) s) (lane.val / 2) = groupMode s (lane.val / 2) :=
    r1_w1_of_ne (by decide) (by omega) (by omega) _ s
  rw [lanesOfSlot_congr mode]
  show execLaneOrderDecided lane m s = _
  simp only [execLaneOrderDecided, ready, two, order, Bool.false_eq_true, if_false, if_true]
  rfl

theorem exec_laneOrderDecided_single {m : Bool} (one : (lanesOfSlot s lane.val).length = 1)
    (reversal : ∀ j ∈ lanesOfSlot s lane.val, r1 s Reg.laneState j = 5)
    (known : (getLane s lane.val).used.train = 1 → (getLane s lane.val).rxIndex ≠ none) : exec (.laneOrderDecided lane m) s =
      .next (withLinks (lane.val / 2) (setLaneState lane.val 6) (singleReversal lane.val s)) := by
  have some : lanesOfSlot s lane.val ≠ [] := List.ne_nil_of_length_eq_add_one one
  have ready : ((lanesOfSlot s lane.val).isEmpty || !(lanesOfSlot s lane.val).all (fun j => decide (laneStateOf s j = 5))) =
      false := by
    rw [all_in_state reversal, List.isEmpty_eq_false_iff.mpr some]
    rfl
  have told : ¬ (trainOn s lane.val && (getLane s lane.val).rxIndex.isNone) = true := by
    rw [Bool.and_eq_true, Option.isNone_iff_eq_none]
    exact fun ⟨trains, unheard⟩ => known (of_decide_eq_true trains) unheard
  show execLaneOrderDecided lane m s = _
  simp only [execLaneOrderDecided, ready, one, told, Bool.false_eq_true, if_false, OfNat.one_ne_ofNat]

end

/-! Lock (R89, R92). -/

/-- Lane k, the i-th of its port, enters UP with its delays and its lead (R89). -/
def lockedLane (rx tx : List (BitVec 64)) (lead : Nat → Nat) (i k : Nat) (s : State) : State :=
  publishPma k (w1 Reg.laneSkew k (lead i) (judgeTraining k (modLane k (fun l =>
    { l with rxTracked := (rx.getD i 0).toInt, txTracked := (tx.getD i 0).toInt }) (setLaneState k 7 s))))

/-- The registers of a lane that has locked. -/
def lockedRegs (rx tx : List (BitVec 64)) (lead : Nat → Nat) (i k : Nat) (s : State) : List (Nat × Nat × Nat × Nat) :=
  [(Reg.laneState, k, 0, 7), (Reg.laneSkew, k, 0, lead i),
    (Reg.laneTxPmaDelay, k, 0, ofSigned 64 ((tx.getD i 0).toInt + (getCal s 3 k).values.getD 0 0)),
    (Reg.laneRxPmaDelay, k, 0, ofSigned 64 ((rx.getD i 0).toInt + (getCal s 3 k).values.getD 1 0))]

theorem lockedRegs_sub {rx tx : List (BitVec 64)} {lead : Nat → Nat} {i k : Nat} {s : State} {e : Nat × Nat × Nat × Nat}
    (h : e ∈ lockedRegs rx tx lead i k s) : e.2.1 = k ∧ e.2.2.1 = 0 := by
  simp only [lockedRegs, List.mem_cons, List.not_mem_nil, or_false] at h
  obtain rfl | rfl | rfl | rfl := h <;> exact ⟨rfl, rfl⟩

/-- The record of a lane that has locked: training stops where a Ready frame has come (R95). -/
def lockedRecord (rx tx : List (BitVec 64)) (i now : Nat) (l : LaneSt) : LaneSt :=
  { l with
    enteredAt := now, rxTracked := (rx.getD i 0).toInt, txTracked := (tx.getD i 0).toInt
    training := l.training && !l.rxReady, framesLeft := if l.training && l.rxReady then 16 else l.framesLeft }

/-- Acts on two lanes that write other registers set those of both. -/
theorem RegsSet.append {l m : List (Nat × Nat × Nat × Nat)} {s t u : State} (h : RegsSet l s t) (h' : RegsSet m t u)
    (apart : ∀ e ∈ l, ∀ d ∈ m, objKey e.1 e.2.1 e.2.2.1 ≠ objKey d.1 d.2.1 d.2.2.1) : RegsSet (l ++ m) s u := by
  constructor
  · intro e he
    obtain he | he := List.mem_append.mp he
    · exact (h'.2 _ (apart e he)).trans (h.1 e he)
    · exact h'.1 e he
  · intro key other
    exact (h'.2 key fun e he => other e (List.mem_append_right _ he)).trans
      (h.2 key fun e he => other e (List.mem_append_left _ he))

section
variable (rx tx : List (BitVec 64)) (lead : Nat → Nat)

theorem lockedLane_acts {s : State} {k : Nat} (hk : k < 64) (lock : laneStateOf s k = 6) (i : Nat) : LaneActs k
    [Reg.laneTxPmaDelay, Reg.laneRxPmaDelay, Reg.laneSkew, Reg.laneState] (lockedRegs rx tx lead i k s)
    (lockedRecord rx tx i s.now (getLane s k)) s (lockedLane rx tx lead i k s) := by
  have entered := (LaneActs.refl k s).enter hk (.inl (by omega)) List.not_mem_nil (st := 7) (.inr (by decide))
  have tracked := entered.modLane fun l => { l with rxTracked := (rx.getD i 0).toInt, txTracked := (tx.getD i 0).toInt }
  have state := tracked.sets.1 (Reg.laneState, k, 0, 7) List.mem_cons_self
  have trained := tracked.judgeTraining (go := (getLane s k).training && (getLane s k).rxReady) (by
    rw [laneStateOf, r1, state]
    simp)
  have leads := trained.w1 hk (i := Reg.laneSkew) (lead i) (by decide)
  unfold lockedLane
  generalize Machine.w1 Reg.laneSkew k (lead i) _ = u at leads ⊢
  have up : laneUp u k = true := decide_eq_true (leads.sets.1 (Reg.laneState, k, 0, 7) (by simp))
  have values : getCal u 3 k = getCal s 3 k := by rw [getCal, leads.cal_eq]; rfl
  have published := (leads.w1 hk (i := Reg.laneRxPmaDelay)
    (ofSigned 64 ((rx.getD i 0).toInt + (getCal s 3 k).values.getD 1 0)) (by decide)).w1 hk (i := Reg.laneTxPmaDelay)
    (ofSigned 64 ((tx.getD i 0).toInt + (getCal s 3 k).values.getD 0 0)) (by decide)
  rw [publishPma, if_pos up]
  dsimp only
  have stops : ((getLane s k).training && !(getLane s k).rxReady) =
      ((getLane s k).training && !((getLane s k).training && (getLane s k).rxReady)) := by
    cases (getLane s k).training <;> rfl
  rw [leads.lane, values, lockedRecord, stops]
  exact published.congr fun e => by
    simp only [lockedRegs, List.mem_cons, List.not_mem_nil, or_false]
    tauto

/-- The lanes of a port lock one after the other. -/
def lockedPort (ls : List Nat) (s : State) : State :=
  (ls.foldl (fun (p : Nat × State) k => (p.1 + 1, lockedLane rx tx lead p.1 k p.2)) (0, s)).2

/-- What is said of a port whose lanes have locked. -/
structure PortLocked (ls : List Nat) (s t : State) : Prop where
  frame : t = { s with regs := t.regs, lanes := t.lanes }
  sets : RegsSet (ls.zipIdx.flatMap fun x => lockedRegs rx tx lead x.2 x.1 s) s t
  others : ∀ j, j ∉ ls → getLane t j = getLane s j
  lanes : ∀ x ∈ ls.zipIdx, getLane t x.1 = lockedRecord rx tx x.2 s.now (getLane s x.1)

theorem lockedPort_single {s : State} {k : Nat} (hk : k < 64) (lock : laneStateOf s k = 6) :
    PortLocked rx tx lead [k] s (lockedPort rx tx lead [k] s) := by
  have acts := lockedLane_acts rx tx lead hk lock 0
  have shown : lockedPort rx tx lead [k] s = lockedLane rx tx lead 0 k s := rfl
  rw [shown]
  refine ⟨acts.frame, by simpa using acts.sets, fun j hj => acts.others j (List.ne_of_not_mem_cons hj), fun x hx => ?_⟩
  obtain rfl := List.mem_singleton.mp hx
  exact acts.lane

theorem lockedPort_pair {s : State} {k : Nat} (hk : k + 1 < 64) (lock : ∀ j ∈ [k, k + 1], laneStateOf s j = 6) :
    PortLocked rx tx lead [k, k + 1] s (lockedPort rx tx lead [k, k + 1] s) := by
  have first := lockedLane_acts rx tx lead (by omega) (lock k (by simp)) 0
  have shown : lockedPort rx tx lead [k, k + 1] s = lockedLane rx tx lead 1 (k + 1) (lockedLane rx tx lead 0 k s) := rfl
  rw [shown]
  generalize lockedLane rx tx lead 0 k s = t at first ⊢
  have state : laneStateOf t (k + 1) = 6 :=
    (first.laneStateOf_eq (by omega) (Nat.succ_ne_self k) (by omega)).trans (lock (k + 1) (by simp))
  have second := lockedLane_acts rx tx lead hk state 1
  have regs : lockedRegs rx tx lead 1 (k + 1) t = lockedRegs rx tx lead 1 (k + 1) s := by
    simp only [lockedRegs, getCal, first.cal_eq]
  rw [regs, first.now_eq, first.others _ (Nat.succ_ne_self k)] at second
  generalize lockedLane rx tx lead 1 (k + 1) t = u at second ⊢
  constructor
  case frame =>
    exact second.frame.trans (congrArg (fun v : State => { v with regs := u.regs, lanes := u.lanes }) first.frame)
  case sets =>
    have both := first.sets.append second.sets fun e he d hd key => by
      obtain ⟨sub, row⟩ := lockedRegs_sub he
      obtain ⟨sub', row'⟩ := lockedRegs_sub hd
      rw [sub, row, sub', row', objKey_inj (by omega) (by decide) (by omega) (by decide)] at key
      simp at key
    simpa using both
  case others =>
    intro j hj
    obtain ⟨lower, upper⟩ : j ≠ k ∧ j ≠ k + 1 := by simpa using hj
    exact (second.others j upper).trans (first.others j lower)
  case lanes =>
    intro x hx
    obtain rfl | rfl := List.mem_pair.mp hx
    · exact (second.others k (Nat.succ_ne_self k).symm).trans first.lane
    · exact second.lane

theorem exec_laneLocked {lane : Fin 64} {s : State} {at_ : List (BitVec 64)} (some : lanesOfSlot s lane.val ≠ [])
    (lock : ∀ j ∈ lanesOfSlot s lane.val, r1 s Reg.laneState j = 6)
    (near : ∀ i < 2, laneLead (lanesOfSlot s lane.val).length at_ i ≤ 200 * 65536) :
    exec (.laneLocked lane rx tx at_) s = .next (withLinks (lane.val / 2)
      (lockedPort rx tx (laneLead (lanesOfSlot s lane.val).length at_) (lanesOfSlot s lane.val)) s) := by
  have ready : ((lanesOfSlot s lane.val).isEmpty || !(lanesOfSlot s lane.val).all (fun j => decide (laneStateOf s j = 6))) =
      false := by
    rw [all_in_state lock, List.isEmpty_eq_false_iff.mpr some]
    rfl
  have far : ¬ 200 * 65536 < max (laneLead (lanesOfSlot s lane.val).length at_ 0)
      (laneLead (lanesOfSlot s lane.val).length at_ 1) := by
    have lower := near 0 (by decide)
    have upper := near 1 (by decide)
    omega
  exact if_neg (by rw [ready, decide_eq_false far]; decide)

end

/-- Of two lanes each leads the other by the difference of their arrivals, or not at all (R89). -/
theorem laneLead_eq {at_ : List (BitVec 64)} {a b : Int} (ha : a = (at_.getD 0 0).toInt) (hb : b = (at_.getD 1 0).toInt)
    {n i : Nat} (hi : n = 2 → i < 2) : laneLead n at_ i = if n = 2 then (if i = 0 then (b - a).toNat else (a - b).toNat) else 0 := by
  unfold laneLead
  dsimp only
  rw [← ha, ← hb]
  split
  case isFalse one => rfl
  case isTrue two =>
    obtain rfl | rfl : i = 0 ∨ i = 1 := by have := hi two; omega
    · rw [← ha, if_pos rfl]
      omega
    · rw [← hb, if_neg one_ne_zero]
      omega

/-! Departures (R93, R98). -/

section
variable {lane : Fin 64} {s : State}

theorem exec_laneLinkDown {cause : DownCause} (up : r1 s Reg.laneState lane.val = 7)
    (counts : cause = .hiBer → hasFec s lane.val = false) : exec (.laneLinkDown lane cause) s =
      .next (onLane lane.val (fun s => othersWait lane.val (setLaneState lane.val 1 s)) (inc Reg.laneLinkDowns lane.val s)) := by
  refine if_pos ⟨up, ?_⟩
  rw [Bool.not_eq_true', Bool.and_eq_false_iff]
  by_cases hi : cause = .hiBer
  · exact .inr (counts hi)
  · exact .inl (decide_eq_false hi)

theorem exec_laneLossBeforeUp {cause : EarlyLoss} (first : (if cause = .signal then 2 else 3) ≤ r1 s Reg.laneState lane.val)
    (last : r1 s Reg.laneState lane.val ≤ 6) : exec (.laneLossBeforeUp lane cause) s =
      .next (onLane lane.val (fun s => othersWait lane.val (setLaneState lane.val 1 s)) s) := by
  cases cause
  · exact if_pos ⟨first, last⟩
  · exact if_pos ⟨first, last⟩

theorem portLanes_advanceTo (t : Nat) (s : State) (k : Nat) : portLanes (advanceTo t s) k = portLanes s k := by
  simp only [portLanes, slotOfLane, lanesOfSlot, groupMode, r1_advanceTo]
  rfl

theorem exec_laneStateTimeout {t st : Nat} {who ls : List Nat} (limit : laneDeadline s lane.val = some t)
    (state : st = r1 s Reg.laneState lane.val) (lanes : ls = portLanes s lane.val)
    (failed : who = if st = 5 ∨ st = 6 then ls.filter (fun j => decide (r1 s Reg.laneState j = st)) else [lane.val]) :
    exec (.laneStateTimeout lane) s = .next (onLane lane.val (fun s => ls.foldl (fun s j =>
        if r1 s Reg.laneState j = 0 then s else setLaneState j 9 s) s)
      (who.foldl (fun s j => w1 Reg.laneLastFail j st (inc Reg.laneBringUpFails j s)) (advanceTo t s))) := by
  show execLaneStateTimeout lane s = _
  simp only [execLaneStateTimeout, limit, laneStateOf, r1_advanceTo, portLanes_advanceTo, ← state, ← lanes]
  rw [failed]
  rfl

end

/-! The obligation. -/

/-- Settles O38: the guards of each command hold, and a lock acts on the port's lanes one after the other. -/
theorem lanesEnterAndLeaveUp : Obligations.LanesEnterAndLeaveUp := by
  unfold Obligations.LanesEnterAndLeaveUp
  rintro lane k s rfl
  refine ⟨?pair, ?single, ?locked, ?down, ?loss, ?timeout⟩
  case pair => exact fun m x two reversal order => ⟨_, wr_sets .., exec_laneOrderDecided_pair two reversal order⟩
  case single => exact fun m one reversal known => exec_laneOrderDecided_single one reversal known
  case locked =>
    intro rx tx at_ a b some lock ha hb near
    have near (i : Nat) (hi : i < 2) : laneLead (lanesOfSlot s lane.val).length at_ i ≤ 200 * 65536 := by
      rw [laneLead_eq ha hb fun _ => hi]
      split
      case isTrue two =>
        have := near two
        split <;> omega
      case isFalse one => exact Nat.zero_le _
    have locked : PortLocked rx tx (laneLead (lanesOfSlot s lane.val).length at_) (lanesOfSlot s lane.val) s (lockedPort rx tx
        (laneLead (lanesOfSlot s lane.val).length at_) (lanesOfSlot s lane.val) s) := by
      by_cases two : (lanesOfSlot s lane.val).length = 2
      · obtain ⟨pair, even⟩ := lanesOfSlot_of_pair two
        rw [pair] at lock ⊢
        exact lockedPort_pair rx tx _ (by omega) lock
      · have single := lanesOfSlot_of_single some two
        rw [single] at lock ⊢
        exact lockedPort_single rx tx _ lane.isLt (lock _ List.mem_cons_self)
    refine ⟨_, exec_laneLocked rx tx some lock near, locked.frame, ?_, locked.others, fun x l hx hl => ?_⟩
    · convert locked.sets using 1
      refine List.flatMap_congr fun x hx => ?_
      have upper : x.2 < (lanesOfSlot s lane.val).length := List.snd_lt_of_mem_zipIdx hx
      rw [lockedRegs, laneLead_eq ha hb fun two => two ▸ upper]
    · rw [hl]
      exact locked.lanes x hx
  case down => exact fun cause up counts => ⟨_, inc_sets .., exec_laneLinkDown up counts⟩
  case loss => exact fun cause first last => exec_laneLossBeforeUp first last
  case timeout => exact fun t st who ls limit state lanes failed => exec_laneStateTimeout limit state lanes failed

end Sys2Proof.Machine
end

section
/-! O42: flow control (R125-R128), refuted. -/

namespace Sys2Proof.Machine

/-- A PAUSE frame that finds the core asleep once the gates have been judged changes nothing more. -/
theorem exec_pauseReceive_of_asleep {port : Fin 64} {slot dt : Nat} {quanta : BitVec 16} {s : State}
    (served : slotOf (passCore dt s) port.val = some slot) (asleep : running (passCore dt s) 4 = false) :
    exec (.pauseReceive port dt quanta) s = .next (passCore dt s) := by
  show execPauseReceive port dt quanta s = _
  simp only [execPauseReceive, served, asleep, Bool.false_and, Bool.false_eq_true, if_false]

/-- A counter's number under which PerfCounter stands where DomainState of the core does: State bounds no counter's number to
the 64 that there are (R369). -/
def strayCoreCounter : Nat := (Reg.domainState - Reg.perfCounter) * 256 + 4

/-- Port 0, of two lanes, has its link up and a frame that waits in the guard band of its open gate (R175). The core runs with a
sleep requested, and the stray counter counts the deferrals of queue 0 (R370). -/
def strayCoreDeferral : State :=
  w1 Reg.laneState 1 7 (w1 Reg.laneState 0 7 (w1 Reg.domainState 4 1
    (w1 Reg.perfConfig strayCoreCounter (2 * 2 ^ 26 + 5 * 2 ^ 20) (w1 Reg.perfGateTicks strayCoreCounter 65535
      { strayDeferral with perf := [(strayCoreCounter, perfInit)] }))))

theorem strayCoreDeferral_receives : slotOf strayCoreDeferral 0 = some 0 ∧ running strayCoreDeferral 4 = true ∧
    linkStateOf strayCoreDeferral 0 = 1 := by decide +kernel

/-- The deferral is counted as the gates are judged, and the core then reads as asleep. -/
theorem strayCoreDeferral_asleep : slotOf (passCore 0 strayCoreDeferral) 0 = some 0 ∧
    running (passCore 0 strayCoreDeferral) 4 = false := by decide +kernel

theorem strayCoreDeferral_uncounted : r1 (passCore 0 strayCoreDeferral) Reg.rxPauseFrames 0 ≠
    r1 (inc Reg.rxPauseFrames 0 (loadPause 0 0 (passCore 0 strayCoreDeferral))) Reg.rxPauseFrames 0 := by decide +kernel

/-- Refutes O42: whether the core takes a PAUSE frame is read once the gates have been judged (R176), and the statement reads it
before. Where State holds a programmable counter of a number beyond 63, the count of a deferral can fall on DomainState, and the
frame is then neither loaded nor counted. (The clauses on timers that end, on control frames and on the refresh are not touched.) -/
theorem not_flowControlTimersAndFrames : ¬ Obligations.FlowControlTimersAndFrames := by
  unfold Obligations.FlowControlTimersAndFrames
  intro h
  obtain ⟨served, awake, up⟩ := strayCoreDeferral_receives
  obtain ⟨pause, -⟩ := h 0 0 strayCoreDeferral served awake
  obtain ⟨still, asleep⟩ := strayCoreDeferral_asleep
  have counted := pause 0 0 (passCore 0 strayCoreDeferral) rfl up
  rw [exec_pauseReceive_of_asleep (port := 0) still asleep] at counted
  exact strayCoreDeferral_uncounted (congrArg (fun t => r1 t Reg.rxPauseFrames 0) (Host.Outcome.next.inj counted))

end Sys2Proof.Machine
end

section
/-! O12: the ten clears (R133, R134, R166, R180, R207, R313, R386), each behind the captures that are due (R368). -/

namespace Sys2Proof.Machine

/-! Clearing registers. -/

theorem Clears.of_filter (p : Nat → Bool) (s : State) :
    Clears p s { s with regs := s.regs.filter (fun e => !p e.1) } := by
  refine ⟨rfl, fun k => (tget_filter regDefault s.regs (fun a => !p a) k).trans ?_⟩
  cases p k <;> rfl

theorem dropRange_clears (lo hi : Nat) (s : State) : Clears (keyIn lo hi) s (dropRange lo hi s) := .of_filter _ s

theorem dropSub_clears (lo hi j : Nat) (s : State) :
    Clears (fun k => keyIn lo hi k && decide (keySub k = j)) s (dropSub lo hi j s) := .of_filter _ s

theorem keyIn_self (i k : Nat) : keyIn i i k = decide (keyIdx k = i) := by
  rw [keyIn, ← Bool.decide_and, decide_eq_decide]
  omega

theorem dropIdx_clears (i : Nat) (s : State) : Clears (keyIn i i) s (dropIdx i s) :=
  ⟨rfl, fun k => by rw [tget_dropIdx, keyIn_self]; simp⟩

theorem Clears.trans {p q : Nat → Bool} {s t u : State} (h : Clears p s t) (h' : Clears q t u) :
    Clears (fun k => p k || q k) s u := by
  obtain ⟨frame, cleared⟩ := h
  obtain ⟨frame', cleared'⟩ := h'
  refine ⟨by rw [frame', frame], fun k => ?_⟩
  rw [cleared', cleared]
  cases hp : p k <;> cases hq : q k <;> simp [hp, hq]

theorem Clears.congr {p q : Nat → Bool} {s t : State} (h : Clears p s t) (same : ∀ k, p k = q k) : Clears q s t :=
  funext same ▸ h

/-! The clears of several objects. -/

theorem clearGateCounters_clears (slot : Nat) (s : State) :
    Clears (fun k => (keyIn Reg.starvePromotions (Reg.starvePromotions + 7) k ||
      keyIn Reg.gateOverruns Reg.gateOverruns k || keyIn Reg.guardDeferrals (Reg.guardDeferrals + 7) k) &&
      decide (keySub k = slot)) (judgeGates s) (clearGateCounters slot s) := by
  refine (((dropSub_clears ..).trans (dropSub_clears ..)).trans (dropSub_clears ..)).congr fun k => ?_
  simp only [← Bool.and_or_distrib_right]
  rw [Bool.or_comm, Bool.or_comm (keyIn Reg.guardDeferrals _ k), Bool.or_assoc]

theorem clearChecker_clears (lane : Nat) (s : State) :
    Clears (fun k => (keyIn Reg.chkBits (Reg.chkBits + 7) k || keyIn Reg.chkLockLosses Reg.chkLockLosses k) &&
      decide (keySub k = lane)) (dropLoopErrors lane s) (clearChecker lane s) :=
  ((dropSub_clears ..).trans (dropSub_clears ..)).congr fun _ => (Bool.and_or_distrib_right ..).symm

theorem clearCombiner_clears (s : State) :
    Clears (fun k => keyIn 0x6040 0x6058 k || keyIn Reg.combinerPartialGroups Reg.combinerPartialGroups k ||
      keyIn 0x6008 0x6009 k) s (clearCombiner s) := by
  refine (((dropRange_clears ..).trans (dropIdx_clears ..)).trans (dropRange_clears ..)).congr fun k => ?_
  rw [Bool.or_comm, Bool.or_comm (keyIn 0x6008 _ k), Bool.or_assoc]

/-- CoreCounterClear drops its ranges, then brings the gauges to the present (R166). -/
theorem clearCoreCounters_clears (s : State) : ∃ u,
    Clears (fun k => keyIn 0x4036 0x4037 k || keyIn 0x4058 0x4067 k || keyIn 0x4078 0x4093 k || keyIn 0x40A1 0x40A3 k) s u ∧
      clearCoreCounters s = resetPeaks u := by
  refine ⟨_, ((((dropRange_clears 0x40A1 0x40A3 s).trans (dropRange_clears 0x4078 0x4093 _)).trans
    (dropRange_clears 0x4058 0x4067 _)).trans (dropRange_clears 0x4036 0x4037 _)).congr fun k => ?_, by rw [clearCoreCounters]⟩
  simp only [Bool.or_comm, Bool.or_assoc]

/-- What CounterClearAll leaves of a state in which every ledger, gate and hold has been counted (R386). -/
def countersDropped (y : State) : State :=
  dropIdx Reg.combinerPartialGroups { y with
    regs := y.regs.filter (fun e => !inRanges counterRanges (keyIdx e.1))
    perf := y.perf.map (fun e => (e.1, { e.2 with since := y.now })) }

theorem clearAllCounters_eq (s : State) :
    clearAllCounters s = countersDropped (forN 64 settleHolds (judgeGates (perfNow s))) := rfl

theorem countersDropped_clears (y : State) :
    countersDropped y = { y with
      regs := (countersDropped y).regs
      perf := y.perf.map (fun e => (e.1, { e.2 with since := y.now })) } ∧
    ∀ k, tget regDefault (countersDropped y).regs k = if inRanges counterRanges (keyIdx k) ∨
        keyIn Reg.combinerPartialGroups Reg.combinerPartialGroups k then regDefault k else tget regDefault y.regs k := by
  obtain ⟨_, cleared⟩ := (Clears.of_filter (fun k => inRanges counterRanges (keyIdx k)) y).trans
    (dropIdx_clears Reg.combinerPartialGroups _)
  exact ⟨rfl, fun k => (cleared k).trans (if_congr (Bool.or_eq_true ..).to_iff rfl rfl)⟩

/-! The settling of a port's holds (R127). -/

/-- Only ports and the registers TxHeldTime of a slot differ. -/
structure HoldsOnly (slot : Nat) (s t : State) : Prop where
  frame : t = { s with regs := t.regs, ports := t.ports }
  kept : ∀ k, (keyIn Reg.txHeldTime (Reg.txHeldTime + 7) k && decide (keySub k = slot)) = false →
    tget regDefault t.regs k = tget regDefault s.regs k

theorem HoldsOnly.refl (slot : Nat) (s : State) : HoldsOnly slot s s := ⟨rfl, fun _ _ => rfl⟩

section
variable {slot c : Nat} {a s : State}

theorem HoldsOnly.modPort (h : HoldsOnly slot a s) (j : Nat) (f : PortSt → PortSt) :
    HoldsOnly slot a (modPort j f s) :=
  ⟨by rw [Machine.modPort, setPort, h.frame], h.kept⟩

theorem HoldsOnly.count (h : HoldsOnly slot a s) (hslot : slot < 256) (hc : c < 8) (n : Nat) :
    HoldsOnly slot a (count (Reg.txHeldTime + c) slot 0 n s) := by
  refine ⟨by rw [Machine.count, wr, h.frame], fun k outside => ?_⟩
  have other : k ≠ objKey (Reg.txHeldTime + c) slot 0 := by
    rintro rfl
    have idx := keyIdx_objKey (Reg.txHeldTime + c) slot 0 hslot (by decide)
    have sub : keySub (objKey (Reg.txHeldTime + c) slot 0) = slot := by unfold keySub objKey; omega
    simp only [keyIn, idx, sub, decide_true, Bool.and_true, Bool.and_eq_false_iff, decide_eq_false_iff_not] at outside
    omega
  exact (tget_tset ..).trans ((if_neg other).trans (h.kept k outside))

theorem HoldsOnly.settleHold (h : HoldsOnly slot a s) (hslot : slot < 256) (hc : c < 8) :
    HoldsOnly slot a (settleHold slot c s) := by
  unfold Machine.settleHold
  dsimp only
  split
  · exact h
  · exact (h.modPort _ _).count hslot hc _

theorem HoldsOnly.startHold (h : HoldsOnly slot a s) (c : Nat) : HoldsOnly slot a (startHold slot c s) := by
  unfold Machine.startHold
  dsimp only
  split
  · exact h.modPort _ _
  · exact h

end

theorem settleHolds_holdsOnly {slot : Nat} (hslot : slot < 256) (s : State) : HoldsOnly slot s (settleHolds slot s) := by
  unfold settleHolds forN
  refine List.foldlRecOn (List.range 8) _ (HoldsOnly.refl slot s) fun _ hb c hc => ?_
  exact (hb.settleHold hslot (List.mem_range.mp hc)).startHold c

/-- Where a range holds TxHeldTime, clearing it at the slot leaves no trace of the settling in the registers. -/
theorem HoldsOnly.dropSub {slot lo hi : Nat} {s t : State} (h : HoldsOnly slot s t) (low : lo ≤ Reg.txHeldTime)
    (high : Reg.txHeldTime + 7 ≤ hi) :
    dropSub lo hi slot t = { s with regs := (Machine.dropSub lo hi slot t).regs, ports := t.ports } ∧
    ∀ k, tget regDefault (Machine.dropSub lo hi slot t).regs k = if keyIn lo hi k ∧ keySub k = slot then regDefault k
      else tget regDefault s.regs k := by
  obtain ⟨frame, kept⟩ := h
  obtain ⟨frame', cleared⟩ := dropSub_clears lo hi slot t
  refine ⟨by rw [frame', frame], fun k => (cleared k).trans ?_⟩
  by_cases inside : keyIn lo hi k ∧ keySub k = slot
  · simp [inside]
  · have outside : (keyIn Reg.txHeldTime (Reg.txHeldTime + 7) k && decide (keySub k = slot)) = false := by
      simp only [keyIn, Bool.and_eq_true, decide_eq_true_eq, Bool.and_eq_false_iff, decide_eq_false_iff_not] at inside ⊢
      omega
    simp [inside, kept k outside]

/-! The write of a clear. -/

theorem slotOf_lt {s : State} {port slot : Nat} (h : slotOf s port = some slot) : slot < 64 := by
  obtain ⟨g, hg, mem⟩ := List.mem_flatMap.mp (List.mem_of_getElem? h)
  have hg : g < 32 := List.mem_range.mp hg
  unfold slotsOfMode at mem
  split at mem
  · contradiction
  · split at mem <;> simp only [List.mem_cons, List.not_mem_nil, or_false] at mem <;> omega

theorem storeSub_portCounterClear (s : State) (port : Nat) : storeSub s Reg.portCounterClear port = slotOf s port := rfl

/-- No bank is due, so nothing is captured. -/
theorem captureDue_of_none {s : State} (none : ∀ b < 2, ¬ BankDue b s) : captureDue s = s := by
  have zero : captureBank 0 s = s := if_neg (none 0 (by decide))
  rw [captureDue, zero]
  exact if_neg (none 1 (by decide))

/-- An accepted write of a clear makes the captures that are due, then clears (R35, R368). -/
theorem exec_clear_of_accepts {c : Instr} {w : WriteReq} {idx sub row st : Nat} {f : Nat → State → State} {s : State}
    (accepted : Accepts s w idx sub row st 1) (run : exec c s = .next (catWrite w idx sub row (effClear f) s)) :
    exec c s = .next (f st (captureDue s)) := by
  rw [run, catWrite_accepts _ accepted, effClear, effBool_one]

/-- Settles O12: an accepted write is its clear behind the captures that are due, and the laws above say what each clears. -/
theorem counterClearsReturnTheirCountersToZero : Obligations.CounterClearsReturnTheirCountersToZero := by
  unfold Obligations.CounterClearsReturnTheirCountersToZero
  rintro w s x st rfl
  refine ⟨?none, ?port, ?rules, ?events, ?ticks, ?gates, ?ptp, ?checker, ?combiner, ?core, ?all⟩
  case none =>
    intro idle
    refine captureDue_of_none fun b hb ⟨armed, free, come⟩ => ?_
    rcases idle b hb armed with taken | early
    · simp [taken] at free
    · exact Nat.not_le.mpr early come
  case port =>
    intro port accepted
    have ⟨_, _, held, _⟩ := accepted
    have hst : st < 64 := slotOf_lt ((storeSub_portCounterClear s port.val).symm.trans held)
    exact ⟨_, exec_clear_of_accepts accepted rfl, (settleHolds_holdsOnly (by omega) _).dropSub (by decide) (by decide)⟩
  case rules => exact fun accepted => ⟨_, exec_clear_of_accepts accepted rfl, dropIdx_clears ..⟩
  case events => exact fun accepted => ⟨_, exec_clear_of_accepts accepted rfl, dropIdx_clears ..⟩
  case ticks => exact fun accepted => ⟨_, exec_clear_of_accepts accepted rfl, dropIdx_clears ..⟩
  case gates => exact fun _ accepted => ⟨_, exec_clear_of_accepts accepted rfl, clearGateCounters_clears ..⟩
  case ptp => exact fun _ accepted => ⟨_, exec_clear_of_accepts accepted rfl, dropSub_clears ..⟩
  case checker => exact fun _ accepted => ⟨_, exec_clear_of_accepts accepted rfl, clearChecker_clears ..⟩
  case combiner => exact fun accepted => ⟨_, exec_clear_of_accepts accepted rfl, clearCombiner_clears _⟩
  case core =>
    intro accepted
    obtain ⟨u, cleared, peaks⟩ := clearCoreCounters_clears (captureDue s)
    have run : exec (.coreCounterClear w) s = .next (clearCoreCounters (captureDue s)) :=
      exec_clear_of_accepts (f := fun _ => clearCoreCounters) accepted rfl
    exact ⟨u, cleared, run.trans (congrArg _ peaks)⟩
  case all =>
    intro y hy accepted
    have run : exec (.counterClearAll w) s = .next (clearAllCounters (captureDue s)) :=
      exec_clear_of_accepts (f := fun _ => clearAllCounters) accepted rfl
    rw [clearAllCounters_eq, ← hy] at run
    exact ⟨_, run, countersDropped_clears y⟩

end Sys2Proof.Machine
end

section
/-! O41: the judgement of a frame at the MAC and the reception it belongs to (R118-R122, R162). -/

namespace Sys2Proof.Machine

/-! The tests of R118 in their order. -/

section
variable {b : Bytes} {limit : Nat} {ending : RxEnd}

theorem verdictOf_eq_runt_iff : verdictOf b limit ending = .runt ↔ b.length < 64 := by
  unfold verdictOf
  split_ifs <;> simp_all

theorem verdictOf_eq_oversize_iff : verdictOf b limit ending = .oversize ↔ 64 ≤ b.length ∧ limit < b.length := by
  unfold verdictOf
  split_ifs <;> simp_all

theorem verdictOf_eq_stomped_iff : verdictOf b limit ending = .stomped ↔
    64 ≤ b.length ∧ b.length ≤ limit ∧ frameFcs b = stompFcs (frameData b) := by
  unfold verdictOf
  split_ifs <;> simp_all

theorem verdictOf_eq_legal_iff : verdictOf b limit ending = .legal ↔ 64 ≤ b.length ∧ b.length ≤ limit ∧
    frameFcs b ≠ stompFcs (frameData b) ∧ frameFcs b = crc32Eth (frameData b) ∧ ending = .normal := by
  unfold verdictOf
  split_ifs with runt oversize stomped wrong
  · simp [runt]
  · simp [oversize]
  · simp [stomped]
  · exact iff_of_false nofun fun ⟨_, _, _, fcs, normal⟩ => wrong.elim (· fcs) (· normal)
  · obtain ⟨fcs, normal⟩ := not_or.mp wrong
    exact iff_of_true rfl ⟨Nat.not_lt.mp runt, Nat.not_lt.mp oversize, stomped, not_ne_iff.mp fcs, not_ne_iff.mp normal⟩

end

/-! A whole frame at the MAC (R118, R122, R162). -/

section
variable {port slot : Nat} {bytes : Bytes} {ending : RxEnd} {load : List Nat} {s : State} {x : RxSt}

theorem receiveFrame_of_rx (rx : (getPort s slot).rx = some x) :
    receiveFrame port slot bytes ending load s = frameEnd port slot x bytes ending load s := by
  simp [receiveFrame, rx]

/-- A frame of one cell that is not legal never reaches the core. -/
theorem receiveFrame_of_short (free : (getPort s slot).rx = none) (short : bytes.length ≤ 128)
    (bad : verdictOf bytes (rxBegun slot bytes.length s).limit ending ≠ .legal) :
    receiveFrame port slot bytes ending load s = frameEnd port slot (rxBegun slot bytes.length s) bytes ending load
      (setRx slot (rxBegun slot bytes.length s) s) := by
  simp [receiveFrame, free, short, bad, setRx, modPort]

theorem receiveFrame_of_first (free : (getPort s slot).rx = none)
    (first : 128 < bytes.length ∨ verdictOf bytes (rxBegun slot bytes.length s).limit ending = .legal)
    (rx : (getPort (firstCell port slot bytes load s) slot).rx = some x) :
    receiveFrame port slot bytes ending load s =
      frameEnd port slot x bytes ending load (firstCell port slot bytes load s) := by
  have reaches : ¬ (bytes.length ≤ 128 ∧ verdictOf bytes (rxBegun slot bytes.length s).limit ending ≠ .legal) := by
    rcases first with long | legal
    · exact fun h => Nat.not_le.mpr long h.1
    · exact fun h => h.2 legal
  simp only [receiveFrame, free, Option.isSome_none, Bool.false_eq_true, if_false, if_neg reaches, rx]

end

/-! The two commands of a reception, in the state u that the time before them leaves. -/

section
variable {port : Fin 64} {dt slot : Nat} {bytes : Bytes} {ending : RxEnd} {load : List Nat} {s u : State}

theorem exec_firstCellWritten_of_absent (hu : u = passCore dt s) (absent : slotOf u port.val = none) :
    exec (.firstCellWritten port dt bytes load) s = .next u := by
  subst hu
  show execFirstCellWritten port dt bytes load s = _
  simp only [execFirstCellWritten, absent]

theorem exec_firstCellWritten_of_slot (hu : u = passCore dt s) (served : slotOf u port.val = some slot) :
    exec (.firstCellWritten port dt bytes load) s =
      .next (if running u 4 ∧ linkStateOf u slot = 1 ∧ (getPort u slot).rx = none then firstCell port.val slot bytes load u
        else u) := by
  subst hu
  show execFirstCellWritten port dt bytes load s = _
  simp [execFirstCellWritten, served, apply_ite Host.Outcome.next, and_assoc]

theorem exec_frameReceived_of_absent (hu : u = passCore dt s) (absent : slotOf u port.val = none) :
    exec (.frameReceived port dt bytes ending load) s = .next u := by
  subst hu
  show execFrameReceived port dt bytes ending load s = _
  simp only [execFrameReceived, absent]

theorem exec_frameReceived_of_slot (hu : u = passCore dt s) (served : slotOf u port.val = some slot) :
    exec (.frameReceived port dt bytes ending load) s =
      .next (if running u 4 ∧ (linkStateOf u slot = 1 ∨ (getPort u slot).rx ≠ none) then
        receiveFrame port.val slot bytes ending load u else u) := by
  subst hu
  show execFrameReceived port dt bytes ending load s = _
  simp [execFrameReceived, served, apply_ite Host.Outcome.next, Option.isSome_iff_ne_none]

end

/-- Settles O41: the verdict by the tests above, the commands by what the port's slot, its link and its reception say. -/
theorem receptionJudgesFramesInOrder : Obligations.ReceptionJudgesFramesInOrder := by
  unfold Obligations.ReceptionJudgesFramesInOrder
  intro port dt bytes load ending s u hu
  refine ⟨?verdict, ?first, ?ends, ?whole, ?idle⟩
  case verdict =>
    exact fun _ => ⟨verdictOf_eq_runt_iff, verdictOf_eq_oversize_iff, verdictOf_eq_stomped_iff, verdictOf_eq_legal_iff⟩
  case first =>
    intro slot served awake up free
    rw [exec_firstCellWritten_of_slot hu served, if_pos ⟨awake, up, free⟩]
  case ends =>
    intro slot x served awake rx
    rw [exec_frameReceived_of_slot hu served, if_pos ⟨awake, .inr (by simp [rx])⟩, receiveFrame_of_rx rx]
  case whole =>
    intro slot start limit y served awake free up hstart hlimit hy
    have begun : rxBegun slot bytes.length u = y := by rw [hy, hlimit, hstart]; rfl
    have limited : (rxBegun slot bytes.length u).limit = limit := by rw [begun, hy]
    rw [exec_frameReceived_of_slot hu served, if_pos ⟨awake, .inl up⟩]
    constructor
    · intro short bad
      rw [receiveFrame_of_short free short (limited ▸ bad), begun]
      rfl
    · rintro v x first rfl rx
      rw [receiveFrame_of_first free (limited ▸ first) rx]
  case idle =>
    intro still
    cases served : slotOf u port.val with
    | none => exact ⟨exec_firstCellWritten_of_absent hu served, exec_frameReceived_of_absent hu served⟩
    | some slot =>
      have stays : running u 4 = false ∨ linkStateOf u slot ≠ 1 ∧ (getPort u slot).rx = none := by
        simpa [served] using still
      rw [exec_firstCellWritten_of_slot hu served, exec_frameReceived_of_slot hu served]
      rcases stays with asleep | ⟨down, free⟩
      · simp [asleep]
      · simp [down, free]

end Sys2Proof.Machine
end

section
/-! O16: the writes to the ageing period and the flush of the forwarding table (R50, R145). -/

namespace Sys2Proof.Machine

theorem running_w0_of_ne {i d : Nat} (hi : Reg.domainState ≠ i) (hd : d < 256) (v : Nat) (s : State) :
    running (w0 i v s) d = running s d :=
  congrArg (decide <| · ≤ 1) (r1_w1_of_ne hi hd (by decide) v s)

theorem restartSweep_of_running {s : State} (awake : running s 4 = true) : restartSweep s = { s with core := { s.core with
    sweepAt := if r0 s Reg.fdbAgeTime = 0 then 0 else s.now + r0 s Reg.fdbAgeTime * 10 ^ 12, sweepLeft := 0 } } := by
  simp [restartSweep, awake]

theorem restartSweep_of_not_running {s : State} (asleep : running s 4 = false) : restartSweep s =
    { s with core := { s.core with sweepAt := 0, sweepLeft := r0 s Reg.fdbAgeTime * 10 ^ 12 } } := by
  simp [restartSweep, asleep]

theorem exec_fdbAgeTimeWrite_of_accepts {w : WriteReq} {s : State} {v : Nat} (accepted : Accepts s w Reg.fdbAgeTime 0 0 0 v) :
    exec (.fdbAgeTimeWrite w) s = .next (restartSweep (w0 Reg.fdbAgeTime v s)) :=
  congrArg Host.Outcome.next (catWrite_accepts effFdbAgeTime accepted)

/-- A flush passes over every row that was not learned. -/
theorem fdbFlush_eq (s : State) : fdbFlush s = ((rowsOf s Reg.forwardingTable 0).filter (fun r => isLearned r.2)).foldl
    (fun s r => wr Reg.forwardingTable 0 r.1 0 s) s :=
  List.foldl_filter.symm

theorem exec_fdbFlushLearned_of_accepts {w : WriteReq} {s : State} (accepted : Accepts s w Reg.fdbFlushLearned 0 0 0 1) :
    exec (.fdbFlushLearned w) s = .next (fdbFlush s) :=
  congrArg Host.Outcome.next (catWrite_accepts _ accepted)

/-- Settles O16: the sweep period starts afresh over the written FdbAgeTime, and a flush writes the learned rows alone. -/
theorem forwardingTableWrites : Obligations.ForwardingTableWrites := by
  unfold Obligations.ForwardingTableWrites
  intro w v s
  have still : running (w0 Reg.fdbAgeTime v s) 4 = running s 4 := running_w0_of_ne (by decide) (by decide) v s
  refine ⟨?awake, ?asleep, ?flush⟩
  case awake =>
    intro accepted awake
    rw [exec_fdbAgeTimeWrite_of_accepts accepted, restartSweep_of_running (still.trans awake), r0_w0_same]
    rfl
  case asleep =>
    intro accepted asleep
    rw [exec_fdbAgeTimeWrite_of_accepts accepted, restartSweep_of_not_running (still.trans asleep), r0_w0_same]
    rfl
  case flush =>
    intro accepted
    rw [exec_fdbFlushLearned_of_accepts accepted, fdbFlush_eq]

end Sys2Proof.Machine
end

section
/-! O44: the gates at a boundary, at the switch of a list and at every look of the core (R169-R176), and the ageing sweep
(R145). -/

namespace Sys2Proof.Machine

section
variable {port : Fin 64} {slot : Nat} {s : State}

theorem exec_gateEntryBoundary_of_boundary (awake : running s 4 = true) (served : slotOf s port.val = some slot) {v : Nat}
    (boundary : nextGateBoundary s slot s.counter = some v) :
    exec (.gateEntryBoundary port) s = .next (judgeGates (advanceToReading v s)) := by
  show execGateEntryBoundary port s = _
  simp [execGateEntryBoundary, served, awake, boundary]

theorem exec_gateListSwitch_of_retained (awake : running s 4 = true) (served : slotOf s port.val = some slot)
    (retained : (getGate s slot).retained ≠ none) :
    exec (.gateListSwitch port) s = .next (judgeGates (advanceToReading (getGate s slot).switchAt s)) := by
  show execGateListSwitch port s = _
  simp [execGateListSwitch, served, awake, Option.isSome_iff_ne_none, retained]

end

theorem judgeGates_of_running {s u : State} (awake : running s 4 = true)
    (hu : u = (portSlots s).foldl (fun s slot =>
      syncGate slot ((List.range 8).foldl (fun s c => judgeDeferral slot c s) s)) s) :
    judgeGates s = { u with core := { u.core with judgedTo := u.counter } } := by
  subst hu
  simp [judgeGates, awake, forL, forN]

/-! Writes one behind the other, and a write behind a gate. -/

theorem Sets.wr {l : List (Nat × Nat × Nat × Nat)} {s t : State} (h : Sets l s t) (i j k v : Nat)
    (hne : ∀ e ∈ l, objKey e.1 e.2.1 e.2.2.1 ≠ objKey i j k) : Sets ((i, j, k, v) :: l) s (Machine.wr i j k v t) :=
  ⟨congrArg (Machine.wr i j k v) h.1, h.2.wr i j k v hne⟩

theorem Sets.swap {a b : Nat × Nat × Nat × Nat} {l : List (Nat × Nat × Nat × Nat)} {s t : State}
    (h : Sets (a :: b :: l) s t) : Sets (b :: a :: l) s t :=
  ⟨h.1, h.2.congr fun _ => (List.Perm.swap a b l).mem_iff⟩

@[simp] theorem getGate_w1 (i j v k : Nat) (s : State) : getGate (w1 i j v s) k = getGate s k := rfl

theorem w1_setGate_sets (i j v slot : Nat) (g : GateSt) (s : State) : Sets [(i, j, 0, v)]
    { s with gates := (w1 i j v (setGate slot g s)).gates } (w1 i j v (setGate slot g s)) :=
  wr_sets i j 0 v (setGate slot g s)

/-! The gate of one slot at the reading (R172, R174). -/

/-- The list whose switch has come is in force: the retained one is forgotten and GateSwitchPending reads 0 (R174). -/
def gateSwitched (slot : Nat) (s : State) : State :=
  if (getGate s slot).retained.isSome ∧ (getGate s slot).switchAt ≤ s.counter then
    w1 Reg.gateSwitchPending slot 0 (setGate slot gateInit s)
  else s

theorem gateSwitched_of_not_due {slot : Nat} {s : State}
    (early : (getGate s slot).retained = none ∨ s.counter < (getGate s slot).switchAt) : gateSwitched slot s = s := by
  refine if_neg fun ⟨retained, come⟩ => ?_
  rcases early with none | early
  · simp [none] at retained
  · exact Nat.not_le.mpr early come

theorem gateSwitched_of_due {slot : Nat} {s : State} (retained : (getGate s slot).retained ≠ none)
    (come : (getGate s slot).switchAt ≤ s.counter) :
    gateSwitched slot s = w1 Reg.gateSwitchPending slot 0 (setGate slot gateInit s) :=
  if_pos ⟨Option.isSome_iff_ne_none.mpr retained, come⟩

/-- Only the slot's retained list and its GateSwitchPending change. -/
theorem gateSwitched_switches {slot : Nat} {s : State} (retained : (getGate s slot).retained ≠ none)
    (come : (getGate s slot).switchAt ≤ s.counter) :
    Sets [(Reg.gateSwitchPending, slot, 0, 0)] { s with gates := (gateSwitched slot s).gates } (gateSwitched slot s) ∧
      getGate (gateSwitched slot s) slot = gateInit ∧
      ∀ j, j ≠ slot → getGate (gateSwitched slot s) j = getGate s j := by
  rw [gateSwitched_of_due retained come]
  refine ⟨w1_setGate_sets .., ?_, fun j other => ?_⟩
  · rw [getGate_w1, getGate_setGate_same]
  · rw [getGate_w1, getGate_setGate, if_neg other]

theorem gateSwitched_counter (slot : Nat) (s : State) : (gateSwitched slot s).counter = s.counter := by
  unfold gateSwitched
  split
  · exact (w1_counter ..).trans (setGate_counter ..)
  · rfl

theorem syncGate_of_running {s : State} (awake : running s 4 = true) (slot : Nat) : syncGate slot s =
    w1 Reg.gateEntryNow slot (gatePosition (gateSwitched slot s) slot s.counter).1
      (w1 Reg.gateStatesNow slot (gatePosition (gateSwitched slot s) slot s.counter).2 (gateSwitched slot s)) := by
  rw [← gateSwitched_counter slot s]
  simp [syncGate, awake, gateSwitched]

theorem syncGate_sets {s : State} (awake : running s 4 = true) {slot : Nat} (hslot : slot < 256) :
    Sets [(Reg.gateStatesNow, slot, 0, (gatePosition (gateSwitched slot s) slot s.counter).2),
      (Reg.gateEntryNow, slot, 0, (gatePosition (gateSwitched slot s) slot s.counter).1)]
      (gateSwitched slot s) (syncGate slot s) := by
  have other : objKey Reg.gateStatesNow slot 0 ≠ objKey Reg.gateEntryNow slot 0 :=
    objKey_ne _ _ _ _ _ _ (by decide) hslot (by decide) hslot (by decide)
  rw [syncGate_of_running awake]
  exact ((wr_sets ..).wr _ _ _ _ (List.forall_mem_singleton.mpr other)).swap

/-! The ageing sweep (R145). -/

theorem rowsOf_advanceTo (t : Nat) (s : State) (idx sub : Nat) : rowsOf (advanceTo t s) idx sub = rowsOf s idx sub := by
  rw [rowsOf, rowsOf, advanceTo_regs]

theorem fdbSweep_eq (s : State) : fdbSweep s = (rowsOf s Reg.forwardingTable 0).foldl (fun s r =>
    if isLearned r.2 then
      (if r.2.testBit 123 then wr Reg.forwardingTable 0 r.1 (setBit r.2 123 false) s
       else inc0 Reg.fdbAgedEntries (wr Reg.forwardingTable 0 r.1 0 s))
    else s) s := rfl

theorem exec_fdbAgeSweep_of_due {s : State} (awake : running s 4 = true) (due : s.core.sweepAt ≠ 0) {u : State}
    (hu : u = fdbSweep (advanceTo s.core.sweepAt s)) : exec .fdbAgeSweep s = .next { u with core := { u.core with
      sweepAt := u.core.sweepAt + r0 u Reg.fdbAgeTime * 10 ^ 12 } } := by
  subst hu
  show execFdbAgeSweep s = _
  simp [execFdbAgeSweep, due, awake]

/-- Settles O44: `gateSwitched` is the state of a slot once a switch that has come is made. -/
theorem gatesAndForwardingTableAge : Obligations.GatesAndForwardingTableAge := by
  unfold Obligations.GatesAndForwardingTableAge
  intro s awake
  refine ⟨?boundary, ?listSwitch, ?look, ?position, ?sweep⟩
  case boundary => exact fun _ _ _ served => exec_gateEntryBoundary_of_boundary awake served
  case listSwitch => exact fun _ _ served => exec_gateListSwitch_of_retained awake served
  case look => exact fun _ => judgeGates_of_running awake
  case position =>
    intro slot hslot
    exact ⟨gateSwitched slot s, gateSwitched_of_not_due, gateSwitched_switches, syncGate_sets awake (by omega)⟩
  case sweep =>
    rintro due u hu
    refine exec_fdbAgeSweep_of_due awake due (hu.trans ?_)
    rw [fdbSweep_eq, rowsOf_advanceTo]

end Sys2Proof.Machine
end

section
/-! O17: configuration and start of the interval and frequency measurements, the self-test and a TDC calibration request (R50,
R224, R230, R236, R355). -/

namespace Sys2Proof.Machine

theorem exec_write_of_accepts {c : Instr} {w : WriteReq} {idx sub row st v : Nat} {eff : Nat → Nat → State → State}
    {s : State} (accepted : Accepts s w idx sub row st v) (run : exec c s = .next (catWrite w idx sub row eff s)) :
    exec c s = .next (eff st v s) := by
  rw [run, catWrite_accepts _ accepted]

/-- GateTicks is the low half of FreqMeasureConfig (R230). -/
theorem freqStart_eq (k : Nat) (s : State) : freqStart k s = if r1 s Reg.freqMeasureConfig k % 2 ^ 16 = 0 then s
    else freqState k 1 (setFreq k { freqInit with running := true } s) := by
  have gate : field (r1 s Reg.freqMeasureConfig k) 15 0 = r1 s Reg.freqMeasureConfig k % 2 ^ 16 :=
    congrArg (· % 2 ^ 16) (Nat.div_one _)
  rw [freqStart, gate]

theorem startSelfTest_of_free {s : State} {ch : Nat} (idle : selfTestBusy s = false) (alone : standsIn s ch = false) :
    startSelfTest ch s = w1 Reg.tdcSelfTestResult 0 (1 + ch * 256) { s with tdc := { s.tdc with testDue := some ch } } := by
  simp only [startSelfTest, idle, alone, Bool.or_self, Bool.false_eq_true, if_false]

/-- Settles O17: an accepted write is its effect, and an effect of 0x01 is its start. -/
theorem measurementWrites : Obligations.MeasurementWrites := by
  unfold Obligations.MeasurementWrites
  intro w v s
  refine ⟨?config, ?start, ?freqConfig, ?freqStart, ?selfTest, ?request⟩
  case config =>
    intro slot accepted
    rw [exec_write_of_accepts (c := .tdcMeasureConfigWrite slot w) accepted rfl, effTdcMeasureConfig, measAbandon]
  case start =>
    intro slot accepted
    rw [exec_write_of_accepts (c := .tdcMeasureStart slot w) accepted rfl, effBool_one, measStart]
  case freqConfig =>
    intro slot accepted
    rw [exec_write_of_accepts (c := .freqMeasureConfigWrite slot w) accepted rfl, effFreqMeasureConfig]
  case freqStart =>
    intro slot accepted
    rw [exec_write_of_accepts (c := .freqMeasureStart slot w) accepted rfl, effBool_one, freqStart_eq]
  case selfTest =>
    intro accepted idle alone
    rw [exec_write_of_accepts (c := .tdcSelfTestStart w) accepted rfl, effBool_one, startSelfTest_of_free idle alone]
  case request =>
    intro channel accepted
    rw [exec_write_of_accepts (c := .tdcCalRequest channel w) accepted rfl, effBool_one, calRequestInst]

end Sys2Proof.Machine
end

section
/-! O46: tick results, and the edges, gates and limits of the interval and frequency slots (R209-R212, R220, R221, R225-R227,
R231, R239). -/

namespace Sys2Proof.Machine

/-! An edge that reaches the loop and the followers leaves the converters as they are (R239, R279). -/

theorem ite_tdc {c : Prop} [Decidable c] {x : TdcSt} {s t : State} (hs : s.tdc = x) (ht : t.tdc = x) :
    (if c then s else t).tdc = x := by split <;> assumption

theorem forN_tdc {n : Nat} {f : Nat → State → State} (h : ∀ i s, (f i s).tdc = s.tdc) (s : State) :
    (forN n f s).tdc = s.tdc :=
  List.foldlRecOn (motive := fun t : State => t.tdc = s.tdc) (List.range n) _ rfl fun t ht i _ => (h i t).trans ht

theorem archTrigger_tdc (kind : Nat) (s : State) : (archTrigger kind s).tdc = s.tdc := ite_tdc rfl rfl

theorem archEventTrigger_tdc (w rise : Nat) (s : State) : (archEventTrigger w rise s).tdc = s.tdc :=
  ite_tdc (archTrigger_tdc ..) rfl

theorem pend_tdc (w bits : Nat) (s : State) : (pend w bits s).tdc = s.tdc :=
  (archEventTrigger_tdc ..).trans (w1_tdc ..)

theorem raise_tdc (n : Nat) (s : State) : (raise n s).tdc = s.tdc :=
  ite_tdc ((pend_tdc ..).trans (count_tdc ..)) rfl

theorem noteInput_tdc (ch : Nat) (present : Bool) (s : State) : (noteInput ch present s).tdc = s.tdc :=
  ite_tdc (w1_tdc ..) (ite_tdc (w1_tdc ..) rfl)

theorem publishPls_tdc (n : Nat) (s : State) : (publishPls n s).tdc = s.tdc := w1_tdc ..

theorem dropFollowers_tdc (i : Nat) (s : State) : (dropFollowers i s).tdc = s.tdc :=
  forN_tdc (fun _ _ => ite_tdc ((publishPls_tdc ..).trans (setPls_tdc ..)) rfl) s

theorem becomeAbsent_tdc (i : Nat) (s : State) : (becomeAbsent i s).tdc = s.tdc := by
  unfold becomeAbsent
  extract_lets _ noted dropped listed
  have noted_tdc : noted.tdc = s.tdc := ite_tdc (noteInput_tdc ..) rfl
  have dropped_tdc : dropped.tdc = s.tdc := (dropFollowers_tdc ..).trans ((modRef_tdc ..).trans noted_tdc)
  have listed_tdc : listed.tdc = s.tdc := (w1_tdc ..).trans dropped_tdc
  exact ite_tdc dropped_tdc (ite_tdc ((raise_tdc ..).trans ((inc_tdc ..).trans listed_tdc)) listed_tdc)

theorem toBeyond_tdc (i : Nat) (s : State) : (toBeyond i s).tdc = s.tdc := (modRef_tdc ..).trans (w1_tdc ..)
theorem toWaiting_tdc (i : Nat) (s : State) : (toWaiting i s).tdc = s.tdc := (modRef_tdc ..).trans (w1_tdc ..)
theorem toQualified_tdc (i : Nat) (s : State) : (toQualified i s).tdc = s.tdc := w1_tdc ..

theorem judgeOffset_tdc (i : Nat) (s : State) : (judgeOffset i s).tdc = s.tdc := by
  have alarm : (raise Ev.softAlarm (inc Reg.refSoftAlarms i (w1 Reg.refState i 4 s))).tdc = s.tdc :=
    (raise_tdc ..).trans ((inc_tdc ..).trans (w1_tdc ..))
  unfold judgeOffset
  extract_lets o b
  split
  · exact ite_tdc (toBeyond_tdc ..) (ite_tdc alarm rfl)
  · exact ite_tdc (toBeyond_tdc ..) (ite_tdc (toQualified_tdc ..) rfl)
  · exact ite_tdc rfl (ite_tdc (toQualified_tdc ..) (w1_tdc ..))
  · exact ite_tdc (toWaiting_tdc ..) rfl
  · rfl

theorem setLoopControl_tdc (x : Rat) (s : State) : (setLoopControl x s).tdc = s.tdc := w0_tdc ..
theorem publishPhi_tdc (phi : Rat) (s : State) : (publishPhi phi s).tdc = s.tdc := w0_tdc ..

theorem enterTrack_tdc (i : Nat) (phase : Rat) (s : State) : (enterTrack i phase s).tdc = s.tdc :=
  (publishPhi_tdc ..).trans (w0_tdc ..)

theorem regainUpdate_tdc (i : Nat) (phase : Rat) (s : State) : (regainUpdate i phase s).tdc = s.tdc := by
  unfold regainUpdate
  extract_lets _ control _ _ step slewed
  have slewed_tdc : slewed.tdc = s.tdc := setLoopControl_tdc (control + step) s
  exact ite_tdc ((enterTrack_tdc ..).trans slewed_tdc) slewed_tdc

theorem trackUpdate_tdc (i : Nat) (phase : Rat) (s : State) : (trackUpdate i phase s).tdc = s.tdc := by
  unfold trackUpdate
  extract_lets _ _ _ _ _ _ jumped
  have jumped_tdc : jumped.tdc = s.tdc := ite_tdc (inc_tdc ..) rfl
  exact (publishPhi_tdc ..).trans ((setLoopControl_tdc ..).trans jumped_tdc)

theorem loopSample_tdc (i : Nat) (phase : Rat) (s : State) : (loopSample i phase s).tdc = s.tdc := by
  unfold loopSample
  split
  · exact regainUpdate_tdc ..
  · exact trackUpdate_tdc ..
  · rfl

theorem perEdgeUpdate_tdc (i : Nat) (x : Int) (t : Nat) (s : State) : (perEdgeUpdate i x t s).tdc = s.tdc := by
  unfold perEdgeUpdate
  extract_lets r spaced edged published judged
  have spaced_tdc : spaced.tdc = s.tdc := by
    unfold spaced
    split
    · rfl
    · exact ite_tdc ((becomeAbsent_tdc ..).trans (setRef_tdc ..)) (ite_tdc (setRef_tdc ..) (setRef_tdc ..))
  have published_tdc : published.tdc = s.tdc := (w1_tdc ..).trans spaced_tdc
  have judged_tdc : judged.tdc = s.tdc := ite_tdc ((judgeOffset_tdc ..).trans published_tdc) published_tdc
  exact ite_tdc spaced_tdc (ite_tdc ((loopSample_tdc ..).trans judged_tdc) judged_tdc)

theorem placeFollowers_tdc (i : Nat) (x : Int) (s : State) : (placeFollowers i x s).tdc = s.tdc :=
  forN_tdc (fun _ _ => ite_tdc ((publishPls_tdc ..).trans (ite_tdc (setPls_tdc ..) rfl)) rfl) s

theorem edgeTaken_tdc (i : Nat) (x : Int) (t : Nat) (s : State) : (edgeTaken i x t s).tdc = s.tdc :=
  (placeFollowers_tdc ..).trans (perEdgeUpdate_tdc ..)

/-! The result of a tick (R209-R212, R220, R221). -/

theorem instantOfStamp_of_tdc_eq {s t : State} (h : t.tdc = s.tdc) (x : Rat) : instantOfStamp t x = instantOfStamp s x := by
  rw [instantOfStamp, h]
  rfl

/-- The edges of a tick reach the loop one after the other, each at its instant on the coarse count, which none of them
moves. -/
theorem forL_edgeTaken (ch : Nat) (v : State) (l : List (Int × Nat)) {s : State} (same : s.tdc = v.tdc) :
    forL l (fun e s => edgeTaken ch (roundStamp e.1) (instantOfStamp s (e.1 : Rat)) s) s =
      l.foldl (fun s e => edgeTaken ch (roundStamp e.1) (instantOfStamp v (e.1 : Rat)) s) s := by
  simp only [forL]
  induction l generalizing s with
  | nil => simp only [List.foldl_nil]
  | cons e l ih => simp only [List.foldl_cons, instantOfStamp_of_tdc_eq same, ih ((edgeTaken_tdc ..).trans same)]

/-- A channel that has a tick result: `v` is the state in which its result is published. -/
theorem exec_tdcTickResult_of_published {channel : Fin 80} {met : TdcTick} {s v : State} {e : List TickEdge × Nat}
    {a : Stamping} (has : hasTickResult channel.val = true) (he : e = prescale s channel.val met.edges)
    (ha : a = stampTick s channel.val e.1)
    (published : publishTick channel.val met a (keepDivider channel.val e.2 s) = v) :
    exec (.tdcTickResult channel met) s =
      .next (if 0x40 ≤ channel.val ∧ channel.val < 0x44 ∧ perEdge v channel.val = true then
        a.stamps.reverse.foldl (fun s e => edgeTaken channel.val (roundStamp e.1) (instantOfStamp v (e.1 : Rat)) s) v
      else v) := by
  subst he ha published
  rw [← forL_edgeTaken _ _ _ rfl, apply_ite Host.Outcome.next]
  exact if_neg (by simp [has])

theorem exec_tdcTickResult_of_none {channel : Fin 80} (met : TdcTick) (s : State)
    (none : hasTickResult channel.val = false) : exec (.tdcTickResult channel met) s = .next s :=
  if_pos (by simp [none])

/-! The edges of an interval measurement (R225, R226). -/

theorem exec_startEdgeTaken (slot : Fin 8) (dt : Nat) (edge : EdgeSample) (s : State) :
    exec (.startEdgeTaken slot dt edge) s = .next (takeStart slot.val edge (elapse dt s)) := rfl

theorem exec_tdcMeasureComplete (slot : Fin 8) (dt : Nat) (edge : EdgeSample) (s : State) :
    exec (.tdcMeasureComplete slot dt edge) s = .next (takeStop slot.val edge (elapse dt s)) := rfl

section
variable {k : Nat} {e : EdgeSample} {s t : State} {m : MeasSlot} {x : Int}

theorem takeStart_of_stamped (hm : m = getMeas s k) (armed : m.armed = true) (noStart : m.start = none)
    (gives : givesEdge s (startChannel s k) (startSense s k) = true)
    (stamped : stampEdge (startChannel s k) e s = (some x, t)) {a : Int × Nat}
    (ha : a = (roundStamp x, publisherFlags s (startChannel s k))) : takeStart k e s =
      if oneEdge t k then measDone k a a true t
      else match m.stop with
        | some b => measDone k a b false t
        | none => measState k 2 (setMeas k { m with start := some a, firstCycle := t.now / 2000 } t) := by
  subst hm ha
  simp only [takeStart, armed, noStart, gives, stamped, Option.isSome_none, Bool.not_true, Bool.or_self, Bool.false_eq_true,
    if_false]
  rfl

/-- What a stamped stop edge b does, by the start edge of the slot. -/
theorem takeStop_of_stamped (hm : m = getMeas s k) (armed : m.armed = true) (noStop : m.stop = none)
    (gives : givesEdge s (stopChannel s k) (stopSense s k) = true)
    (stamped : stampEdge (stopChannel s k) e s = (some x, t)) {b : Int × Nat}
    (hb : b = (roundStamp x, publisherFlags s (stopChannel s k))) : takeStop k e s =
      match m.start with
      | none =>
        if oneEdge t k then measDone k b b true t
        else if measMode t k = 2 then inc Reg.tdcEarlyStops k t
        else setMeas k { m with stop := some b, firstCycle := t.now / 2000 } t
      | some a =>
        if measMode t k = 2 ∧ startChannel t k = stopChannel s k ∧ b.1 = a.1 then t
        else if measMode t k = 2 ∧ b.1 < a.1 then inc Reg.tdcEarlyStops k t else measDone k a b false t := by
  subst hm hb
  simp only [takeStop, armed, noStop, gives, stamped, Option.isSome_none, Bool.not_true, Bool.or_self, Bool.false_eq_true,
    if_false]
  rfl

end

/-! The ends of a measurement and of a gate (R227, R231). -/

theorem exec_tdcMeasureOverflow_of_edge {slot : Fin 8} {s : State}
    (edge : (getMeas s slot.val).start.isSome ∨ (getMeas s slot.val).stop.isSome) : exec (.tdcMeasureOverflow slot) s =
      .next (measOverflow slot.val (advanceTo (((getMeas s slot.val).firstCycle + 2 ^ 32) * 2000) s)) := by
  refine if_neg fun neither => ?_
  simp only [Bool.and_eq_true, Option.isNone_iff_eq_none] at neither
  obtain ⟨noStart, noStop⟩ := neither
  simp [noStart, noStop] at edge

theorem exec_freqGateEnd_of_gap {slot : Fin 8} {s : State} (gate : Unit) (runs : (getFreq s slot.val).running = true)
    (gap : (getFreq s slot.val).gap = true) :
    exec (.freqGateEnd slot gate) s = .next (freqGap slot.val (getFreq s slot.val) s) := by
  show execFreqGateEnd slot gate s = _
  simp only [execFreqGateEnd, runs, gap, Bool.not_true, Bool.false_eq_true, if_false, if_true]

theorem exec_freqGateEnd_of_whole {slot : Fin 8} {s : State} {a b : GateBound} (gate : Unit)
    (runs : (getFreq s slot.val).running = true) (whole : (getFreq s slot.val).gap = false)
    (began : (getFreq s slot.val).startTick.isSome = true) (ended : (getFreq s slot.val).left = 0)
    (first : (getFreq s slot.val).first = some a) (last : (getFreq s slot.val).last = some b) :
    exec (.freqGateEnd slot gate) s = .next (freqWhole slot.val (getFreq s slot.val) a b s) := by
  show execFreqGateEnd slot gate s = _
  simp only [execFreqGateEnd, runs, whole, began, ended, first, last, Bool.not_true, Bool.false_eq_true, if_false,
    decide_true, Bool.and_self, if_true]

/-- Settles O46: the result of a tick is what `publishTick` answers, an edge that is stamped is taken by its slot, and a
measurement or a gate ends by what its slot holds. -/
theorem tickResultsAndIntervals : Obligations.TickResultsAndIntervals := by
  unfold Obligations.TickResultsAndIntervals
  intro s
  refine ⟨?tick, ?noResult, ?start, ?stop, ?overflow, ?gate⟩
  case tick =>
    rintro channel met _ e a y s0 s1 s2 u w v rfl has he ha rfl rfl rfl f rfl rfl rfl rfl rfl
    exact exec_tdcTickResult_of_published has he ha rfl
  case noResult => exact fun _ met none => exec_tdcTickResult_of_none met s none
  case start =>
    rintro slot dt edge u m x t a rfl hm armed noStart gives stamped ha
    rw [exec_startEdgeTaken]
    exact congrArg Host.Outcome.next (takeStart_of_stamped hm armed noStart gives stamped ha)
  case stop =>
    rintro slot dt edge u m x t b rfl hm armed noStop gives stamped hb
    rw [exec_tdcMeasureComplete, takeStop_of_stamped hm armed noStop gives stamped hb]
    refine ⟨fun a start later => ?ends, fun start one => ?one, fun start two early => ?early, fun start two any => ?first⟩
    case ends =>
      have apart : ¬ (measMode t slot.val = 2 ∧ startChannel t slot.val = stopChannel (elapse dt s) slot.val ∧ b.1 = a.1) :=
        fun ⟨mode, _, same⟩ => later.elim (· mode) fun after => absurd same (ne_of_gt after)
      have inOrder : ¬ (measMode t slot.val = 2 ∧ b.1 < a.1) :=
        fun ⟨mode, before⟩ => later.elim (· mode) fun after => lt_asymm before after
      simp only [start, if_neg apart, if_neg inOrder]
    case one => simp only [start, one, if_true]
    case early => simp only [start, two, early, Bool.false_eq_true, if_false, if_true]
    case first => simp only [start, two, any, Bool.false_eq_true, if_false]
  case overflow => exact fun _ => exec_tdcMeasureOverflow_of_edge
  case gate =>
    exact fun _ gate runs => ⟨exec_freqGateEnd_of_gap gate runs, fun _ _ => exec_freqGateEnd_of_whole gate runs⟩

end Sys2Proof.Machine
end

section
/-! O47: stand-ins, code-density runs and self-tests end (R215-R219, R236). -/

namespace Sys2Proof.Machine

/-! The end of a step of a stand-in (R217-R219). -/

theorem stepEnded_iff (s : State) (ch : Nat) (x : StandIn) : stepEnded s ch x = true ↔
    if slowChannel s ch && hasEdges s ch then 16 ≤ x.diffs.length else x.since + 64 ≤ r0 s Reg.tickSequence := by
  unfold stepEnded
  split <;> exact decide_eq_true_iff

theorem inputFailed_iff (s : State) (ch : Nat) (x : StandIn) :
    inputFailed s ch x = true ↔ hasEdges s ch = false ∨ x.diffs = [] := by
  rw [inputFailed, Bool.or_eq_true, Bool.not_eq_true', List.isEmpty_iff]

/-- 0.5 ps are 32.768 units of 2^-16 ns (R219). -/
theorem tooWide_iff (l : List Rat) : tooWide l = true ↔ (32768 / 1000 : Rat) * (32768 / 1000) < varianceOf l := by
  rw [tooWide, decide_eq_true_iff]
  constructor <;> intro wide <;> linarith

section
variable {channel : Fin 80} {s : State} {x : StandIn} {failed bad : Bool} {mean : Int}
  (stands : getSI s channel.val = some x) (hfailed : failed = inputFailed s channel.val x)
  (hbad : bad = (!failed && tooWide x.diffs)) (hmean : mean = if failed then 0 else roundTo (meanOf x.diffs))
  (ended : stepEnded s channel.val x = true)
include stands hfailed hbad hmean ended

theorem exec_tdcStandinStepEnd_of_first (u : Unit) (first : x.step = 1) {y : StandIn} {v : State}
    (hy : y = { x with step := 2, since := r0 s Reg.tickSequence, diffs := [], d := mean })
    (hv : v = if x.selfTest then { s with tdc := { s.tdc with selfTest := some (channel.val, r0 s Reg.tickSequence) } }
      else s) : exec (.tdcStandinStepEnd channel u) s =
        .next (if bad then standInFail channel.val x (inc0 Reg.tdcReserveAborts s)
          else w1 Reg.tdcChannelState channel.val (if x.selfTest then 9 else 3) (putSI channel.val y v)) := by
  subst hfailed hbad hmean hy hv
  show execTdcStandinStepEnd channel u s = _
  simp only [execTdcStandinStepEnd, stands, ended, first, Bool.not_true, Bool.false_eq_true, if_false,
    apply_ite Host.Outcome.next]
  rfl

theorem exec_tdcStandinStepEnd_of_third (u : Unit) (third : x.step = 3) : exec (.tdcStandinStepEnd channel u) s =
    .next (if bad then standInFail channel.val x s else standInDone channel.val x
      (if failed then s else shiftLoop channel.val mean (w1 Reg.tdcLastCalShift channel.val (ofSigned 64 mean) s))) := by
  subst hfailed hbad hmean
  show execTdcStandinStepEnd channel u s = _
  simp only [execTdcStandinStepEnd, stands, ended, third, Bool.not_true, Bool.false_eq_true, if_false,
    apply_ite Host.Outcome.next, apply_ite (standInDone channel.val x)]

end

/-! The end of a code-density run (R215, R216). -/

section
variable {channel : Fin 80} {result : CodeDensity} {s u : State} {x : StandIn}
  (stands : getSI s channel.val = some x) (run : x.step = 2) (noTest : x.selfTest = false)
  (lasted : x.since + 672 ≤ r0 s Reg.tickSequence) (hu : u = w1 Reg.tdcResidualInl channel.val (residualInl result) s)
include run noTest lasted

theorem calRun_lasted : ¬ (x.step ≠ 2 ∨ x.selfTest = true ∨ tickSeqOf s < x.since + 672) := by
  rw [run, noTest]
  exact fun early => early.elim (· rfl) fun early => early.elim nofun (Nat.not_lt.mpr lasted)

include stands hu

theorem exec_tdcCalRunEnd_of_fails (fails : codeDensityFails result = true) : exec (.tdcCalRunEnd channel result) s =
    .next (reserveReady channel.val false (standInFail channel.val x u)) := by
  subst hu
  show execTdcCalRunEnd channel result s = _
  simp only [execTdcCalRunEnd, stands, if_neg (calRun_lasted run noTest lasted), fails, if_true]

theorem exec_tdcCalRunEnd_of_holds (holds : codeDensityFails result = false) {y : StandIn}
    (hy : y = { x with measured := codeDensityValues result.hist, residual := residualInl result }) :
    (x.reserve = none → exec (.tdcCalRunEnd channel result) s =
      .next (reserveReady channel.val true (standInDone channel.val y u))) ∧
    (x.reserve ≠ none → exec (.tdcCalRunEnd channel result) s =
      .next (w1 Reg.tdcCalSource channel.val 0 (w1 Reg.tdcChannelState channel.val 4
        (setTables channel.val y.measured (putSI channel.val (nextStep u 3 y) u))))) := by
  subst hu hy
  show (_ → execTdcCalRunEnd channel result s = _) ∧ (_ → execTdcCalRunEnd channel result s = _)
  simp only [execTdcCalRunEnd, stands, if_neg (calRun_lasted run noTest lasted), holds, Bool.false_eq_true, if_false]
  cases x.reserve with
  | none => exact ⟨fun _ => rfl, fun served => absurd rfl served⟩
  | some r => exact ⟨nofun, fun _ => rfl⟩

end

/-! The end of a self-test (R236). -/

section
variable {ch t0 : Nat} {pairs : List SelfTestPair} {pass : Bool} {mean : Nat} {s u v : State}
  (test : s.tdc.selfTest = some (ch, t0)) (lasted : t0 + 32 ≤ r0 s Reg.tickSequence)
  (hpass : pass = selfTestPasses s ch pairs) (hmean : mean = ofSigned 64 (roundTo (largest (meanErrors s ch pairs) / 512)))
  (hu : u = inc0 Reg.tdcSelfTestRuns { w1 Reg.tdcSelfTestResult 0 ((if pass then 2 else 3) + ch * 256 + mean * 2 ^ 64) s
    with tdc := { s.tdc with selfTest := none, testFailed := !pass } })
  (hv : v = if pass then u else raise Ev.tdcSelfTest (inc0 Reg.tdcSelfTestFails u))
include test lasted hpass hmean hu hv

/-- The test has lasted its ticks: `v` is the state in which it is reported. A stand-in without a reserve then ends, one with
a reserve goes on to its third step (R217). -/
theorem exec_tdcSelfTestEnd_of_lasted (a b : Unit) :
    (getSI v ch = none → exec (.tdcSelfTestEnd pairs a b) s = .next v) ∧
    (∀ x, getSI v ch = some x → exec (.tdcSelfTestEnd pairs a b) s =
      .next (if x.reserve = none then standInEnd ch x.back x v
        else w1 Reg.tdcChannelState ch 4 (putSI ch (nextStep v 3 x) v))) := by
  have ended : ¬ tickSeqOf s < t0 + 32 := Nat.not_lt.mpr lasted
  subst hpass hmean hu hv
  show (_ → execTdcSelfTestEnd pairs a b s = _) ∧ (∀ x, _ → execTdcSelfTestEnd pairs a b s = _)
  simp only [execTdcSelfTestEnd, test, if_neg ended]
  rw [w1_tdc]
  constructor
  · intro alone
    rw [alone]
  · intro x stands
    rw [stands]
    cases reserve : x.reserve with
    | none => simp only [reserve, if_true]
    | some r => simp only [reserve, reduceCtorEq, if_false]

end

/-- Settles O47: a step, a run or a test that has lasted ends by its differences, its figures or its errors. -/
theorem standInsRunsAndSelfTests : Obligations.StandInsRunsAndSelfTests := by
  unfold Obligations.StandInsRunsAndSelfTests
  rintro channel ch s rfl
  refine ⟨?step, ?limits, ?run, ?test⟩
  case step =>
    intro u x failed bad mean stands hfailed hbad hmean lasted
    have ended := (stepEnded_iff s channel.val x).mpr lasted
    have first := exec_tdcStandinStepEnd_of_first stands hfailed hbad hmean ended u
    have third := exec_tdcStandinStepEnd_of_third stands hfailed hbad hmean ended u
    refine ⟨?firstFails, ?firstHolds, ?thirdFails, ?thirdHolds⟩
    case firstFails => exact fun one wide => (first one rfl rfl).trans (by rw [if_pos wide])
    case firstHolds =>
      exact fun one narrow => ⟨_, _, rfl, rfl, (first one rfl rfl).trans (by rw [if_neg (ne_true_of_eq_false narrow)])⟩
    case thirdFails => exact fun three wide => (third three).trans (by rw [if_pos wide])
    case thirdHolds => exact fun three narrow => (third three).trans (by rw [if_neg (ne_true_of_eq_false narrow)])
  case limits => exact fun x => ⟨inputFailed_iff .., tooWide_iff _⟩
  case run =>
    intro result x u stands run noTest lasted hu
    exact ⟨exec_tdcCalRunEnd_of_fails stands run noTest lasted hu,
      fun holds y hy => hy ▸ exec_tdcCalRunEnd_of_holds stands run noTest lasted hu holds rfl⟩
  case test =>
    intro pairs a b t0 pass mean u test lasted hpass hmean hu v hv
    exact exec_tdcSelfTestEnd_of_lasted test lasted hpass hmean hu hv a b

end Sys2Proof.Machine
end

section
/-! O49: edges of the pulse inputs, time-of-day messages, a silent parent and the leap second (R213, R223, R239, R241, R242,
R279, R292, R298). -/

namespace Sys2Proof.Machine

/-! A pulse edge (R213, R223). -/

section
variable {input : Fin 2} {dt ch : Nat} {edge : EdgeSample} {s u t v w : State} {x : Int}
  (hu : u = elapse dt s)
include hu

theorem exec_ppsiEdge_of_missed (missed : stampEdge (pulseChannel input.val) edge u = (none, t)) :
    exec (.ppsiEdge input dt edge) s = .next t := by
  subst hu
  show execPpsiEdge input dt edge s = _
  simp only [execPpsiEdge, missed]

theorem exec_ppsiEdge_of_stamped (hch : ch = pulseChannel input.val) (stamped : stampEdge ch edge u = (some x, t))
    (hv : v = modServo (fun y => { y with stampSteps := tset (fun _ => 0) y.stampSteps ch y.steps })
      (writePulseStamp ch edge (breakRuns ch (noteInput ch true t))))
    (hw : w = compare ch ((alsoStamp v ch (v.now / 2000) edge).map (fun y => ((y - x : Int) : Rat) / 512)).toList v) :
    exec (.ppsiEdge input dt edge) s =
      .next (checkPulse (placeFollowers ch (roundStamp x) (perEdgeUpdate ch (roundStamp x) w.now w))) := by
  subst hu hch hv hw
  show execPpsiEdge input dt edge s = _
  simp only [execPpsiEdge, stamped]
  rfl

end

/-! A time-of-day message (R241, R242). -/

section
variable {input : Fin 2} {dt i : Nat} {bytes : Bytes} {err : Bool} {s u : State}
  (hu : u = elapse dt s) (hi : i = pulseChannel input.val)
include hu hi

theorem exec_todMessage_of_off (off : r1 u Reg.todBaud i = 0) : exec (.todMessage input dt bytes err) s = .next u := by
  subst hu hi
  exact if_pos off

theorem exec_todMessage_of_refused (on : r1 u Reg.todBaud i ≠ 0) (bad : (todWellFormed bytes err && todInTime u i) = false) :
    exec (.todMessage input dt bytes err) s = .next (inc Reg.todErrors i u) := by
  subst hu hi
  exact (if_neg on).trans (if_neg (ne_true_of_eq_false bad))

theorem exec_todMessage_of_accepted (on : r1 u Reg.todBaud i ≠ 0) (good : (todWellFormed bytes err && todInTime u i) = true)
    {again : Bool} (hagain : again = u.refs.tod.any (fun e => decide (e.1 = i) &&
      decide (e.2.pulses = field (r1 u Reg.tdcPulseStamp i) 159 128))) :
    exec (.todMessage input dt bytes err) s = .next (if again then updateUtc (acceptTod i bytes u)
      else pulseExchange i (updateUtc (acceptTod i bytes u))) := by
  subst hu hi hagain
  exact (if_neg on).trans (if_pos good)

end

/-! A silent parent (R292). -/

theorem exec_announceTimeout_of_parent {s : State} {slot heard : Nat} (parent : parentSlot s = some slot)
    (hheard : heard = max s.servo.parentSince (((getPtp s slot).announce.map (·.2)).getD 0)) :
    exec .announceTimeout s = .next (if heard + 3000 ≤ tickSeq s then sourceLost s else s) := by
  subst hheard
  show execAnnounceTimeout s = _
  simp only [execAnnounceTimeout, parent, apply_ite Host.Outcome.next]

/-! The leap second (R298). -/

theorem exec_leapSecond_of_none {s : State} (none : r0 s Reg.leapPending = 0) : exec .leapSecond s = .next s :=
  if_pos (.inl none)

/-- UtcOffset moves by one second at the end of the day in UTC, and the old offset is kept. -/
theorem exec_leapSecond_of_pending {s : State} {p : Nat} {old utc day : Int} (hp : p = r0 s Reg.leapPending)
    (pending : p ≠ 0) (first : s.servo.leapFrom = none) (hold : old = utcOffset s)
    (hutc : utc = ((s.counter / 2 ^ 40 / 10 ^ 9 : Nat) : Int) - old)
    (hday : day = (utc / 86400 + 1) * 86400 - (if p = 2 then 1 else 0)) : exec .leapSecond s =
      .next (modServo (fun v => { v with leapFrom := some old }) (w0 Reg.utcOffset
        (ofSigned 16 (if p = 1 then old + 1 else old - 1))
        (advanceToReading (((day + old) * 10 ^ 9 * 2 ^ 40).toNat) s))) := by
  subst hp hold hutc hday
  refine if_neg fun none => none.elim pending fun some => ?_
  rw [first] at some
  exact nomatch some

/-- Settles O49: an edge is taken where it is stamped, a message where it is well formed and in time, and a parent's silence
and a leap second act at their instants. -/
theorem pulseInputsTimeOfDayAndLeapSecond : Obligations.PulseInputsTimeOfDayAndLeapSecond := by
  unfold Obligations.PulseInputsTimeOfDayAndLeapSecond
  intro input dt s u hu
  refine ⟨?missed, ?stamped, ?off, ?refused, ?accepted, ?announce, ?leap, exec_leapSecond_of_none⟩
  case missed => exact fun _ _ => exec_ppsiEdge_of_missed hu
  case stamped => exact fun _ _ _ _ _ _ => exec_ppsiEdge_of_stamped hu
  case off => exact fun _ _ _ => exec_todMessage_of_off hu
  case refused => exact fun _ _ _ hi on bad => ⟨_, exec_todMessage_of_refused hu hi on bad, inc_sets ..⟩
  case accepted => exact fun _ _ _ _ hi on good hagain => exec_todMessage_of_accepted hu hi on good hagain
  case announce =>
    intro slot heard parent hheard
    rw [exec_announceTimeout_of_parent parent hheard]
    exact ⟨fun silent => by rw [if_pos silent], fun young => by rw [if_neg (Nat.not_le.mpr young)]⟩
  case leap =>
    intro p old utc day hp pending first hold hutc hday
    have written := wr_sets Reg.utcOffset 0 0 (ofSigned 16 (if p = 1 then old + 1 else old - 1))
      (advanceToReading (((day + old) * 10 ^ 9 * 2 ^ 40).toNat) s)
    exact ⟨_, exec_leapSecond_of_pending hp pending first hold hutc hday, _, rfl, written.2.of_regs_eq rfl, rfl⟩

end Sys2Proof.Machine
end

section
/-! O18: writes of the synthesisers' offsets and the outputs' enables, calibration requests and CalDiscardSets (R265, R269,
R271, R355, R363, R365). -/

namespace Sys2Proof.Machine

/-! A write of another object than SynConfig and the domains' states leaves both. -/

theorem synEnabled_w1_of_ne {i j k : Nat} (hi : Reg.synConfig ≠ i) (hj : j < 256) (hk : k < 256) (v : Nat) (s : State) :
    synEnabled (w1 i j v s) k = synEnabled s k := congrArg (·.testBit 31) (r1_w1_of_ne hi hk hj v s)

theorem running_w1_of_ne {i j d : Nat} (hi : Reg.domainState ≠ i) (hj : j < 256) (hd : d < 256) (v : Nat) (s : State) :
    running (w1 i j v s) d = running s d := congrArg (decide <| · ≤ 1) (r1_w1_of_ne hi hd hj v s)

/-- A write of SynOffset is stored; where the synthesiser is enabled and D2 awake it also sets a target, which is judged
(R271). -/
theorem effSynOffset_eq {k : Nat} (hk : k < 256) (v : Nat) {s u : State}
    (hu : u = synRetarget k true (w1 Reg.synOffset k v s)) :
    effSynOffset k v s = if (synEnabled s k && running s 2) = false then w1 Reg.synOffset k v s
      else if synBeyond u k then synRelock k 2 false u else synJudge k u := by
  subst hu
  simp only [effSynOffset, synEnabled_w1_of_ne (i := Reg.synOffset) (by decide) hk hk,
    running_w1_of_ne (i := Reg.synOffset) (d := 2) (by decide) hk (by decide), ← Bool.not_and, Bool.not_eq_true']

/-- Sets that are all of other ticks than the discard's are all lost (R365). -/
theorem discarded_of_other_ticks {tick : Nat} {c : CalSt} (other : ∀ x ∈ c.sets, x.tick ≠ tick) :
    discarded tick c = { c with sets := [], failed := false, pending := c.running.isNone } := by
  have none : c.sets.filter (fun x => x.tick = tick) = [] :=
    List.filter_eq_nil_iff.mpr fun x hx => by simpa using other x hx
  simp only [discarded, none, List.isEmpty_nil, if_true]

/-- Settles O18: an accepted write is its effect, and an effect of 0x01 is a request or a discard. -/
theorem clockAndCalibrationWrites : Obligations.ClockAndCalibrationWrites := by
  unfold Obligations.ClockAndCalibrationWrites
  intro w v s
  refine ⟨?idle, ?active, ?enable, ?request, ?reserve, ?discard, fun _ _ => discarded_of_other_ticks⟩
  case idle =>
    intro syn accepted idle
    refine ⟨_, exec_write_of_accepts (c := .synOffsetWrite syn w) accepted rfl, ?_⟩
    rw [effSynOffset_eq (by omega) v rfl, if_pos idle]
    exact wr_sets ..
  case active =>
    intro syn u accepted on awake hu
    rw [exec_write_of_accepts (c := .synOffsetWrite syn w) accepted rfl, effSynOffset_eq (by omega) v hu, on, awake]
    rfl
  case enable =>
    intro output accepted
    rw [exec_write_of_accepts (c := .outEnableWrite output w) accepted rfl, effOutEnable]
  case request =>
    intro cls inst st _ accepted
    rw [exec_write_of_accepts (c := .calRequest cls inst w) accepted rfl, effCalRequest, effBool_one, calRequestInst]
  case reserve =>
    intro inst st accepted
    rw [exec_write_of_accepts (c := .calRequest .lane inst w) accepted rfl, effCalRequest, effBool_one, calRequestInst,
      classCode]
  case discard =>
    intro accepted
    rw [exec_write_of_accepts (c := .calDiscardSets w) accepted rfl, effBool_one]

end Sys2Proof.Machine
end

section
/-! O50: synthesisers relock, lock, restart their outputs and time out; pulse outputs send, miss and are aligned again (R272,
R273, R275, R278-R282). -/

namespace Sys2Proof.Machine

/-! The relock (R273). -/

theorem judgeOut_syns (o : Nat) (s : State) : (judgeOut o s).syns = s.syns := by
  simp only [judgeOut, publishOut, w1_syns, apply_ite State.syns, setOut_syns, ite_self]

theorem outRelock_syns (o : Nat) (low : Bool) (s : State) : (outRelock o low s).syns = s.syns :=
  (judgeOut_syns ..).trans (setOut_syns ..)

/-- Outputs that enter the relock leave the synthesisers as they are: each is held low, or not, as the synthesiser was at the
first. -/
theorem forL_outRelock (k : Nat) (v : State) (l : List Nat) {s : State} (same : s.syns = v.syns) :
    forL l (fun o s => outRelock o (getSyn s k).low s) s = l.foldl (fun s o => outRelock o (getSyn v k).low s) s := by
  have low {t : State} (h : t.syns = v.syns) : (getSyn t k).low = (getSyn v k).low := by rw [getSyn, h, getSyn]
  simp only [forL]
  induction l generalizing s with
  | nil => simp only [List.foldl_nil]
  | cons o l ih => simp only [List.foldl_cons, low same, ih ((outRelock_syns ..).trans same)]

theorem synRelock_eq {k cause : Nat} {low : Bool} {s u : State} {y : SynSt}
    (hy : y = getSyn (w1 Reg.synRelockCause k cause (inc Reg.synRelocks k s)) k)
    (hu : u = w1 Reg.synState k 3 (setSyn k { y with e := y.target, anchor := y.target, locked := false, relockAt := s.now
                                                     restartDue := false, low := y.low || low }
      (w1 Reg.synRelockCause k cause (inc Reg.synRelocks k s)))) :
    synRelock k cause low s =
      publishSyn k ((outputsOf u k).foldl (fun s o => outRelock o (getSyn u k).low s) u) := by
  subst hy hu
  exact congrArg (publishSyn k) (forL_outRelock k _ _ rfl)

/-- OutConfig is a register (R267). -/
theorem outputsOf_setSyn (j : Nat) (y : SynSt) (s : State) (k : Nat) : outputsOf (setSyn j y s) k = outputsOf s k := rfl

/-! The commands of a synthesiser (R272, R273, R275). -/

section
variable {n : Fin 4} {s : State}

theorem exec_synRelockTrigger_of_on (on : synEnabled s n.val = true)
    (active : synRuns s n.val = true ∨ synRelocking s n.val = true) :
    exec (.synRelockTrigger n) s = .next (synRelock n.val (if synBeyond s n.val then 2 else 4) false s) :=
  if_pos (by rw [on, Bool.true_and, Bool.or_eq_true]; exact active)

theorem exec_synLockTimeout_of_unlocked (relocking : synRelocking s n.val = true)
    (unlocked : (getSyn s n.val).locked = false) {u v : State}
    (hu : u = advanceTo ((getSyn s n.val).relockAt + lockLimit s n.val) s)
    (hv : v = raise Ev.synLockFail (inc Reg.synLockFails n.val (w1 Reg.synState n.val 4 u))) :
    exec (.synLockTimeout n) s = .next ((outputsOf v n.val).foldl (fun s o => outRelock o true s)
      (setSyn n.val { getSyn v n.val with relockAt := v.now, restartDue := false, low := true } v)) := by
  show execSynLockTimeout n s = _
  simp only [execSynLockTimeout, relocking, unlocked, Bool.not_false, Bool.and_self, if_true, ← hu, ← hv, forL,
    outputsOf_setSyn]

end

/-! Pulses (R278-R282). -/

/-- A pulse is sent where its pin is free and the last pulse ended 8 ns before it (R278). -/
theorem sendPulse_of_clear {n t known : Nat} {s : State} (free : pulseHeld s n = false)
    (clear : (getPls s n).endAt = 0 ∨ pulseEnd (getPls s n) t known + 8000 ≤ t) (next : Nat) (reading : Int) :
    sendPulse n t known next reading s = emit (.pulse n (asReading reading) t) (inc Reg.plsCount n (setPls n
      { getPls s n with startAt := t, knownAt := t, missFrom := t, line := linePlace s (12 + n) ((t % 2000 : Nat) : Rat)
                        endAt := min (t + r1 s Reg.plsWidth n * 1000) (max (next - 8000) t) } s)) := by
  have early : ¬ ((getPls s n).endAt ≠ 0 ∧ t < pulseEnd (getPls s n) t known + 8000) := by
    rintro ⟨some, early⟩
    exact clear.elim some (Nat.not_le.mpr early)
  refine if_neg ?_
  simpa only [free, Bool.false_or, Bool.and_eq_true, decide_eq_true_eq] using early

section
variable {n : Fin 4} {s u : State}

theorem exec_pulseAnchoredEmit_of_aligned {a r : Int} {w : State} {t : Nat} (mode : plsModeOf s n.val = 2)
    (aligned : (getPls s n.val).aligned = true) (ha : a = nextAnchorPulse s n.val) (hr : r = a - (getPls s n.val).off)
    (hu : u = advanceToReading r.toNat s) (ht : t = pulseInstant u r)
    (hw : w = setPls n.val { getPls u n.val with lastA := a } u) :
    exec (.pulseAnchoredEmit n) s = .next (sendPulse n.val t (getPls u n.val).knownAt
      (pulseInstant u (r + (r1 u Reg.plsPeriod n.val : Int) * 2 ^ 40)) r w) := by
  subst ha hr hu ht hw
  refine if_neg ?_
  rw [mode, aligned]
  decide

theorem exec_pulseFollowerEmit_of_due {x : Nat × Nat} {rest : List (Nat × Nat)} {next : Nat}
    (due : (getPls s n.val).due = x :: rest)
    (hu : u = advanceTo x.1 (setPls n.val { getPls s n.val with due := rest } s))
    (hnext : next = (rest.head?.map Prod.fst).getD
      (x.1 + (meanSpacing u (r1 u Reg.plsSource n.val) * 1000 / 65536).floor.toNat))
    (mode : plsModeOf u n.val = 1) :
    exec (.pulseFollowerEmit n) s = .next (sendPulse n.val x.1 x.2 next (readingAtInstant u x.1) u) := by
  subst hu hnext
  show execPulseFollowerEmit n s = _
  simp only [execPulseFollowerEmit, due]
  rw [if_neg (not_not.mpr mode)]
  cases rest <;> rfl

theorem exec_pulseMissed_of_absent (mode : plsModeOf s n.val = 1)
    (absent : (getRef s (r1 s Reg.plsSource n.val)).present = false)
    (hu : u = advanceTo ((getPls s n.val).missFrom +
      (nominalPeriod s (r1 s Reg.plsSource n.val) * 1000 / 65536).floor.toNat) s) :
    exec (.pulseMissed n) s = .next (publishPls n.val (inc Reg.plsMissed n.val
      (setPls n.val { getPls u n.val with missFrom := u.now } u))) := by
  subst hu
  refine if_neg ?_
  rw [mode, absent]
  decide

end

/-- Settles O50: each command acts where its condition holds, and a pulse that comes clear of the one before is sent. -/
theorem synthesisersAndPulses : Obligations.SynthesisersAndPulses := by
  unfold Obligations.SynthesisersAndPulses
  rintro n _ s rfl
  refine ⟨exec_synRelockTrigger_of_on, fun _ _ _ _ => synRelock_eq, (if_pos ·), (if_pos ·),
    fun _ _ relocking unlocked => exec_synLockTimeout_of_unlocked relocking unlocked, ?anchored, ?follower, ?missed,
    (if_pos ·)⟩
  case anchored =>
    intro a r u w t mode aligned ha hr hu ht hw free clear
    rw [exec_pulseAnchoredEmit_of_aligned mode aligned ha hr hu ht hw, sendPulse_of_clear free clear]
  case follower =>
    intro x rest u next due hu hnext mode free clear
    rw [exec_pulseFollowerEmit_of_due due hu (hnext.trans (by cases rest <;> rfl)) mode, sendPulse_of_clear free clear]
  case missed => exact fun mode absent => ⟨_, rfl, exec_pulseMissed_of_absent mode absent rfl⟩

end Sys2Proof.Machine
end

section
/-! O5: every command goes on (R284, R361, R414, R448, 98_reader). -/

namespace Sys2Proof.Machine

/-- Settles O5: `exec_steps` has the law of each command. -/
theorem everyCommandGoesOnAndFollows : Obligations.EveryCommandGoesOnAndFollows := by
  unfold Obligations.EveryCommandGoesOnAndFollows
  intro c s
  obtain ⟨⟨t, run, advances⟩, follows⟩ := exec_steps c s
  refine ⟨t, run, advances, fun noTap => ?_⟩
  obtain ⟨u, run', same⟩ := follows noTap
  obtain rfl : t = u := Host.Outcome.next.inj (run.symm.trans run')
  exact same.tap

end Sys2Proof.Machine
end

section
/-! O11: time passes at the increment in force (R2, R284, R370). -/

namespace Sys2Proof.Machine

/-- A table whose every entry is changed under its own address reads changed wherever it does not read the default. -/
theorem tget_map_of_ne {α : Type} {d : Nat → α} (f : Nat → α → α) {m : List (Nat × α)} {k : Nat} (h : tget d m k ≠ d k) :
    tget d (m.map fun e => (e.1, f e.1 e.2)) k = f k (tget d m k) := by
  induction m with
  | nil => exact absurd rfl h
  | cons e m ih =>
    obtain ⟨a, x⟩ := e
    simp only [List.map_cons, tget] at h ⊢
    by_cases found : a = k
    · simp only [found, if_true]
    · simp only [found, if_false] at h ⊢
      exact ih h

section
variable {t : Nat} {s : State}

theorem advanceTo_of_le (h : t ≤ s.now) : advanceTo t s = s := if_pos h

theorem advanceTo_of_lt (h : s.now < t) : advanceTo t s =
    { s with now := t, counter := s.counter + (t / 2000 - s.now / 2000) * s.increment
             perf := s.perf.map fun e => (e.1, perfPass s t e.1 e.2) } :=
  if_neg (Nat.not_le.mpr h)

/-- The ledger of a programmable counter that is kept takes the time that passes (R370, R371). -/
theorem getPerf_advanceTo_of_live (later : s.now < t) {k : Nat} (live : (getPerf s k).live = true) :
    getPerf (advanceTo t s) k = perfPass s t k (getPerf s k) := by
  have kept : getPerf s k ≠ perfInit := fun h => by simp [h, perfInit] at live
  rw [advanceTo_of_lt later]
  exact tget_map_of_ne (perfPass s t) kept

end

/-- A counter that counts a level source has the cycles of its condition in its ledger, by the fields of PerfConfig (R369). -/
theorem perfPass_eq (s : State) (t k : Nat) (p : PerfSt) : perfPass s t k p =
    if perfCounts s k ∧ r1 s Reg.perfConfig k / 2 ^ 30 % 4 = 1 then
      { p with
        cycles := p.cycles + levelCycles s t (r1 s Reg.perfConfig k / 2 ^ 26 % 16)
          (r1 s Reg.perfConfig k / 2 ^ 20 % 64) (r1 s Reg.perfConfig k / 2 ^ 10 % 1024) }
    else p := by
  simp only [perfPass, Bool.and_eq_true, decide_eq_true_eq]
  rfl

theorem le_ceilDiv_mul {n : Nat} (hn : 0 < n) (a : Nat) : a ≤ ceilDiv a n * n := by
  have := Nat.lt_div_mul_add (a := a + n - 1) hn
  unfold ceilDiv
  omega

/-- With an increment in force the counter comes to every reading (R284). -/
theorem le_counter_advanceToReading {s : State} (moves : 0 < s.increment) (v : Nat) :
    v ≤ (advanceToReading v s).counter := by
  unfold advanceToReading instantOfReading
  split
  next reads => rwa [advanceTo_of_le (Nat.le_refl _)]
  next ahead =>
    have enough := le_ceilDiv_mul moves (v - s.counter)
    rw [Nat.max_eq_left moves]
    generalize ceilDiv (v - s.counter) s.increment = n at enough ⊢
    have some : n ≠ 0 := by
      rintro rfl
      omega
    have later : s.now < (cycleOf s.now + n) * 2000 := by
      unfold cycleOf
      omega
    have cycles : (cycleOf s.now + n) * 2000 / 2000 - s.now / 2000 = n := by
      unfold cycleOf
      omega
    rw [advanceTo_of_lt later]
    simp only [cycles]
    omega

/-- On an empty queue one cycle passes (R2, log 1). -/
theorem step_of_none_pending {s : State} (h : s.pending = []) : step s = .next (advanceTo (s.now + 2000) s) := by
  unfold step
  rw [h]
  rfl

/-- One cycle adds the increment once (R284). -/
theorem counter_advanceTo_cycle (s : State) : (advanceTo (s.now + 2000) s).counter = s.counter + s.increment := by
  have one : (s.now + 2000) / 2000 - s.now / 2000 = 1 := by omega
  rw [advanceTo_of_lt (by omega)]
  simp only [one, Nat.one_mul]

/-- Settles O11: the counter and the ledgers by what `advanceTo` answers, a reading by the cycles up to it. -/
theorem timePassesAtTheIncrementInForce : Obligations.TimePassesAtTheIncrementInForce := by
  unfold Obligations.TimePassesAtTheIncrementInForce
  intro t s
  refine ⟨advanceTo_of_le, ?later, le_counter_advanceToReading, ?idle⟩
  case later =>
    intro n hn later
    refine ⟨?_, fun k live => ?_⟩
    · conv_lhs => rw [advanceTo_of_lt later]
      rw [advanceTo_of_lt later]
    · rw [getPerf_advanceTo_of_live later live, perfPass_eq, hn]
  case idle =>
    intro none
    refine ⟨_, step_of_none_pending none, ?_, counter_advanceTo_cycle s, rfl⟩
    rw [advanceTo_now]
    omega

end Sys2Proof.Machine
end

section
/-! O19: writes to the time servo (R286, R290, R292, R293, R296). -/

namespace Sys2Proof.Machine

/-- A TimeSet is for UNSET and TEST alone (R296). -/
theorem effTimeSet_eq (st v : Nat) (s : State) : effTimeSet st v s = if r0 s Reg.servoState ∈ [0, 5] then
    { s with servo := { s.servo with nextSet := some (readingOf128 v) } }
    else w0 Reg.timeSetRefusals ((r0 s Reg.timeSetRefusals + 1) % 2 ^ 64) s := by
  simp only [List.mem_cons, List.not_mem_nil, or_false]
  rfl

/-- What a TimeStep does by the state that the host has set (R290, R293). -/
theorem effTimeStep_eq (st v : Nat) {d : Int} {s : State} (hd : d = toSigned 64 v * 2 ^ 24) : effTimeStep st v s =
    if s.servo.external = false ∨ r0 s Reg.servoState ∈ [2, 3] then s
    else if r0 s Reg.servoState = 0 then decideStep d s
    else if s.servo.accept ∨ d.natAbs ≤ r0 s Reg.stepLimit * 2 ^ 40 then clearRefused (decideStep d s)
    else refuseStep d s := by
  subst hd
  unfold effTimeStep servoStateOf
  cases s.servo.external with
  | false => rfl
  | true =>
    simp only [Bool.not_true, Bool.false_eq_true, if_false, Bool.true_eq_false, false_or, List.mem_cons, List.not_mem_nil,
      or_false]
    split
    next locked => rw [if_pos (.inl locked)]
    next freerun => rw [if_pos (.inr freerun)]
    next unset => simp only [unset, if_true, OfNat.zero_ne_ofNat, or_self, if_false]
    next locked freerun unset => rw [if_neg (not_or.mpr ⟨locked, freerun⟩), if_neg unset]

/-- Settles O19: an accepted write is its effect. -/
theorem timeServoWrites : Obligations.TimeServoWrites := by
  unfold Obligations.TimeServoWrites
  intro w v s
  refine ⟨?refused, ?set, ?mode, ?command, ?accept, ?increment, ?state, ?step⟩
  case refused =>
    intro accepted state
    rw [exec_write_of_accepts (c := .timeSet w) accepted rfl, effTimeSet_eq, if_neg state]
  case set =>
    intro accepted state
    rw [exec_write_of_accepts (c := .timeSet w) accepted rfl, effTimeSet_eq, if_pos state]
  case mode =>
    intro accepted
    rw [exec_write_of_accepts (c := .servoModeWrite w) accepted rfl]
    rfl
  case command =>
    intro c hc accepted
    have run : exec c s = .next (catWrite w Reg.servoCommand 0 0 effServoCommand s) := by
      simp only [List.mem_cons, List.not_mem_nil, or_false] at hc
      obtain rfl | rfl | rfl := hc <;> rfl
    rw [exec_write_of_accepts accepted run]
    rfl
  case accept =>
    intro accepted
    rw [exec_write_of_accepts (c := .acceptStep w) accepted rfl, effBool_one]
    rfl
  case increment =>
    intro accepted
    rw [exec_write_of_accepts (c := .timeIncrementSetWrite w) accepted rfl]
    rfl
  case state =>
    intro accepted
    rw [exec_write_of_accepts (c := .servoStateSetWrite w) accepted rfl]
    rfl
  case step =>
    intro d hd accepted
    rw [exec_write_of_accepts (c := .timeStepWrite w) accepted rfl, effTimeStep_eq _ _ hd]

end Sys2Proof.Machine
end

section
/-! O51: what a PTP port sends and takes (R299-R308). -/

namespace Sys2Proof.Machine

/-! What is sent when due (R302, R306). -/

section
variable {port : Fin 64} {slot : Nat} {s u : State} (present : slotOf s port.val = some slot)
include present

theorem exec_ptpSyncSend_of_due (stamp : Unit) (profile : ptpProfile s slot ≠ 0) (master : ptpMaster s slot = true)
    (served : r0 s Reg.servoState ≠ 0) (due : ptpDue s (getPtp s slot).syncAt (syncInterval s slot) = true)
    (hu : u = setPtp slot { getPtp s slot with syncAt := tickSeq s + 1 } s) : exec (.ptpSyncSend port stamp) s =
      .next (if ptpMayBegin u slot then sendSync port.val slot u else ptpWait slot .sync u) := by
  subst hu
  show execPtpSyncSend port stamp s = _
  simp only [execPtpSyncSend, present]
  exact if_pos ⟨profile, master, served, due⟩

theorem exec_ptpDelayReqSend_of_due (stamp : Unit) (profile : ptpProfile s slot ≠ 0) (follows : ptpFollows s slot = true)
    (link : linkStateOf s slot = 1) (due : ptpDue s (getPtp s slot).reqAt (syncInterval s slot) = true)
    (hu : u = setPtp slot { getPtp s slot with reqAt := tickSeq s + 1 } s) : exec (.ptpDelayReqSend port stamp) s =
      .next (if ptpMayBegin u slot then sendDelayReq port.val slot u else ptpWait slot .delayReq u) := by
  subst hu
  show execPtpDelayReqSend port stamp s = _
  simp only [execPtpDelayReqSend, present]
  exact if_pos ⟨profile, follows, link, due⟩

theorem exec_ptpAnnounceSend_of_due (profile : ptpProfile s slot ≠ 0) (master : ptpMaster s slot = true)
    (served : r0 s Reg.servoState ≠ 0) (due : ptpDue s (getPtp s slot).annAt 1000 = true)
    (hu : u = setPtp slot { getPtp s slot with annAt := tickSeq s + 1 } s) : exec (.ptpAnnounceSend port) s =
      .next (if ptpMayBegin u slot then sendAnnounce port.val slot u else ptpWait slot .announce u) := by
  subst hu
  show execPtpAnnounceSend port s = _
  simp only [execPtpAnnounceSend, present]
  exact if_pos ⟨profile, master, served, due⟩

theorem exec_ptpDelayRespSend_of_waiting {q : RespSt} {rest : List RespSt} (waits : (getPtp s slot).resps = q :: rest)
    (master : ptpMaster s slot = true) (begins : ptpMayBegin s slot = true)
    (hu : u = setPtp slot { getPtp s slot with resps := rest } s) : exec (.ptpDelayRespSend port) s = .next (emit
      (.ptp port.val 9 (ptpMsg u slot 72 q.seq q.t4 (-subNs q.t4) 0 q.source)) (countTx slot 72 (occupyLine slot 72 u))) := by
  subst hu
  show execPtpDelayRespSend port s = _
  simp only [execPtpDelayRespSend, present, master, begins, sendDelayResp, waits, Bool.not_true, Bool.false_eq_true, if_false,
    if_true]

end

/-- A discarded exchange leaves what the port holds of others, and the steps made (R308). -/
theorem getPtp_discardExchange (slot : Nat) (s : State) (j : Nat) : getPtp (discardExchange slot s) j = getPtp s j := rfl

theorem discardExchange_steps (slot : Nat) (s : State) : (discardExchange slot s).servo.steps = s.servo.steps := rfl

/-- An Announce that begins carries UtcOffset in force and clears nothing of ptpTimescale (R295, R298, R299). -/
theorem exists_sendAnnounce_eq (port slot : Nat) (u : State) : ∃ m : AnnounceMsg,
    m.utcOffset = BitVec.ofNat 16 (r0 u Reg.utcOffset) ∧ m.ptpTimescale = true ∧
    m.head = ptpMsg u slot 82 (getPtp u slot).annSeq 0 0
      (if ptpProfile u slot = 1 then r0 u Reg.servoState * 2 ^ 24 else 0) 0 ∧
    sendAnnounce port slot u = emit (.announce port m) (countTx slot 82 (occupyLine slot 82
      (setPtp slot { getPtp u slot with annSeq := ((getPtp u slot).annSeq + 1) % 2 ^ 16 } u))) :=
  ⟨_, rfl, rfl, rfl, rfl⟩

/-! What is taken (R299, R305, R307). -/

/-- The Sync that a follower keeps (R305). -/
def keptSync (slot : Nat) (msg : PtpMsg) (stamp : BallStamp) (u : State) : SyncSt :=
  { seq := msg.sequenceId.toNat
    t1 := if msg.twoStep then none else some (partnerTime msg + msg.correction * 2 ^ 24)
    corr := msg.correction * 2 ^ 24
    t2 := (receiveStamp u slot stamp).1 - rxDelayUnits u slot
    twoStep := msg.twoStep
    coarse := (receiveStamp u slot stamp).2
    partnerCoarse := decide (msg.correction % 65536 = 0)
    steps := u.servo.steps
    stepTo := u.servo.stepTo }

theorem modServo_ite (c : Prop) [Decidable c] (f : ServoSt → ServoSt) (s : State) :
    (if c then modServo f s else s) = { s with servo := if c then f s.servo else s.servo } := by
  split <;> rfl

theorem getPtp_of_servo (s : State) (x : ServoSt) (j : Nat) : getPtp { s with servo := x } j = getPtp s j := rfl

theorem ptpProfile_inc_of_ne {i slot : Nat} (hi : Reg.ptpPortProfile ≠ i) (hslot : slot < 256) (s : State) :
    ptpProfile (inc i slot s) slot = ptpProfile s slot := r1_w1_of_ne hi hslot hslot _ s

section
variable {port : Fin 64} {slot : Nat} {s u : State} (present : slotOf s port.val = some slot) {msg : PtpMsg}
include present

theorem exec_ptpDelayRespReceive_of_none (closed : (getPtp s slot).req = none) :
    exec (.ptpDelayRespReceive port msg) s = .next s := by
  show execPtpDelayRespReceive port msg s = _
  simp only [execPtpDelayRespReceive, present, closed, ite_self]

variable (taken : ptpTaken s slot msg = true)
include taken

/-- A follower keeps the Sync, and the rate of a fabric parent (R295, R305). -/
theorem exec_ptpSyncReceive_of_follows (stamp : BallStamp) (hu : u = inc Reg.ptpSyncReceived slot s)
    (follows : ptpFollows u slot = true) {v : State}
    (hv : v = setPtp slot { getPtp s slot with sync := some (keptSync slot msg stamp u) } u) :
    exec (.ptpSyncReceive port msg stamp) s = .next { v with
      servo := if ptpProfile s slot = 1 then { s.servo with rateParent := toSigned 32 msg.specific.toNat } else s.servo } := by
  have profile : ptpProfile u slot = ptpProfile s slot := by
    rw [hu]
    exact ptpProfile_inc_of_ne (by decide) ((slotOf_lt present).trans (by decide)) s
  rw [← profile]
  subst hv hu
  show execPtpSyncReceive port msg stamp s = _
  simp only [execPtpSyncReceive, present, taken, follows, Bool.not_true, Bool.false_eq_true, if_false]
  exact congrArg _ (modServo_ite ..)

theorem exec_ptpFollowUpReceive_of_taken {p : PtpPort} (hp : p = getPtp s slot) : exec (.ptpFollowUpReceive port msg) s =
    .next (setPtp slot { p with
      sync := p.sync.map (followUp msg), req := p.req.map (fun q => { q with sync := q.sync.map (followUp msg) }) } s) := by
  subst hp
  show execPtpFollowUpReceive port msg s = _
  simp only [execPtpFollowUpReceive, present, taken, Bool.not_true, Bool.false_eq_true, if_false]

theorem exec_ptpDelayReqReceive_of_taken (stamp : BallStamp) (hu : u = inc Reg.ptpDelayReqReceived slot s) :
    exec (.ptpDelayReqReceive port msg stamp) s = .next (if ptpMaster u slot then setPtp slot { getPtp u slot with
      resps := (getPtp u slot).resps ++ [{ source := msg.source.toNat, seq := msg.sequenceId.toNat
                                           t4 := (receiveStamp u slot stamp).1 - rxDelayUnits u slot }] } u else u) := by
  subst hu
  show execPtpDelayReqReceive port msg stamp s = _
  simp only [execPtpDelayReqReceive, present, taken, Bool.not_true, Bool.false_eq_true, if_false, apply_ite Host.Outcome.next,
    Bool.not_eq_true', ← Bool.not_eq_true, ite_not]

section
variable (follows : ptpFollows s slot = true) (mine : msg.requesting = portIdentity s slot) {q : ReqSt}
  (opened : (getPtp s slot).req = some q) (hu : u = setPtp slot { getPtp s slot with req := none } s)
include follows mine opened hu

/-- A Delay_Resp of another request, or one whose Sync has no t1, ends the exchange as a discarded one (R308). -/
theorem exec_ptpDelayRespReceive_of_incomplete
    (incomplete : q.seq ≠ msg.sequenceId.toNat ∨ ∀ y, q.sync = some y → y.t1 = none) :
    exec (.ptpDelayRespReceive port msg) s = .next (discardExchange slot u) := by
  subst hu
  show execPtpDelayRespReceive port msg s = _
  simp only [execPtpDelayRespReceive, present, taken, follows, mine, opened, ne_eq, not_true, decide_false, Bool.not_true,
    Bool.or_self, Bool.false_eq_true, if_false]
  split
  next => rfl
  next same =>
    have waits := incomplete.resolve_left same
    cases sync : q.sync with
    | none => rfl
    | some y => simp only [waits y sync]

/-- The Delay_Resp of the open request completes the exchange of the Sync that it was paired with (R307). -/
theorem exec_ptpDelayRespReceive_of_complete {y : SyncSt} {t1 : Int} (same : q.seq = msg.sequenceId.toNat)
    (paired : q.sync = some y) (complete : y.t1 = some t1) : exec (.ptpDelayRespReceive port msg) s =
      .next (completeExchange slot y t1 q (partnerTime msg - msg.correction * 2 ^ 24)
        (decide (msg.correction % 65536 = 0)) u) := by
  subst hu
  show execPtpDelayRespReceive port msg s = _
  simp only [execPtpDelayRespReceive, present, taken, follows, mine, opened, same, paired, complete, ne_eq, not_true,
    decide_false, Bool.not_true, Bool.or_self, Bool.false_eq_true, if_false]

end

end

theorem exec_ptpAnnounceReceive_of_taken {port : Fin 64} {slot : Nat} {s u : State} (present : slotOf s port.val = some slot)
    {msg : AnnounceMsg} (taken : ptpTaken s slot msg.head = true)
    (hu : u = setPtp slot { getPtp s slot with announce := some (msg, tickSeq s) } (inc Reg.ptpAnnounceReceived slot s)) :
    exec (.ptpAnnounceReceive port msg) s = .next (if ptpFollows u slot then parentAnnounce slot msg u else u) := by
  subst hu
  show execPtpAnnounceReceive port msg s = _
  simp only [execPtpAnnounceReceive, present, taken, Bool.not_true, Bool.false_eq_true, if_false]

/-- The Follow_Up of a two-step Sync gives it its t1 (R299). -/
theorem followUp_t1 {msg : PtpMsg} {y : SyncSt} (twoStep : y.twoStep = true) (waits : y.t1 = none)
    (same : y.seq = msg.sequenceId.toNat) :
    (followUp msg y).t1 = some (partnerTime msg + y.corr + msg.correction * 2 ^ 24) := by
  simp only [followUp, twoStep, waits, same, Option.isNone_none, decide_true, Bool.and_self, if_true]

/-- Settles O51: what is due begins or waits for the line, what is taken is kept or ends an exchange, by the laws above. -/
theorem ptpMessagesSentAndTaken : Obligations.PtpMessagesSentAndTaken := by
  unfold Obligations.PtpMessagesSentAndTaken
  intro port slot s present
  refine ⟨?sync, ?delayReq, ?announce, fun _ _ _ => exec_ptpDelayRespSend_of_waiting present, ?syncTaken, ?followUp,
    fun _ stamp _ taken => exec_ptpDelayReqReceive_of_taken present taken stamp, ?delayResp,
    fun _ => exec_ptpDelayRespReceive_of_none present, fun _ => rfl,
    fun _ _ => exec_ptpAnnounceReceive_of_taken present⟩
  case sync =>
    intro t u v stamp profile master served due hu ht hv
    have p : getPtp u slot = { getPtp s slot with syncAt := tickSeq s + 1 } := by rw [hu, getPtp_setPtp_same]
    have seq : (getPtp s slot).syncSeq = (getPtp u slot).syncSeq := by rw [p]
    have waiting : (getPtp s slot).waiting = (getPtp u slot).waiting := by rw [p]
    rw [exec_ptpSyncSend_of_due present stamp profile master served due hu, hv, ht, seq, waiting]
    rfl
  case delayReq =>
    intro t u v q stamp profile follows link due hu hv ht hq
    have same : getPtp v slot = getPtp u slot := by
      rw [hv]
      split
      next => exact getPtp_discardExchange ..
      next => rfl
    have steps : s.servo.steps = v.servo.steps := by
      rw [hv, hu]
      split
      next => rw [discardExchange_steps, setPtp_servo]
      next => rw [setPtp_servo]
    have p : getPtp u slot = { getPtp s slot with reqAt := tickSeq s + 1 } := by rw [hu, getPtp_setPtp_same]
    have seq : (getPtp s slot).reqSeq = (getPtp v slot).reqSeq := by rw [same, p]
    have sync : (getPtp s slot).sync = (getPtp v slot).sync := by rw [same, p]
    have waiting : (getPtp s slot).waiting = (getPtp u slot).waiting := by rw [p]
    have opened : (getPtp s slot).req = (getPtp u slot).req := by rw [p]
    rw [exec_ptpDelayReqSend_of_due present stamp profile follows link due hu, hq, ht, steps, seq, sync, waiting, hv, opened]
    rfl
  case announce =>
    intro u v profile master served due hu hv
    have p : getPtp u slot = { getPtp s slot with annAt := tickSeq s + 1 } := by rw [hu, getPtp_setPtp_same]
    have seq : (getPtp s slot).annSeq = (getPtp u slot).annSeq := by rw [p]
    have waiting : (getPtp s slot).waiting = (getPtp u slot).waiting := by rw [p]
    have offset : r0 s Reg.utcOffset = r0 u Reg.utcOffset := by rw [hu, r0_setPtp]
    rw [exec_ptpAnnounceSend_of_due present profile master served due hu, hv, seq, waiting, offset]
    refine ⟨fun begins => ?_, fun waits => ?_⟩
    · obtain ⟨m, utc, scale, head, sent⟩ := exists_sendAnnounce_eq port.val slot u
      exact ⟨m, utc, scale, head, by rw [if_pos begins, sent]⟩
    · rw [waits]
      rfl
  case syncTaken =>
    intro msg stamp u taken hu follows
    have steps : (keptSync slot msg stamp u).steps = s.servo.steps := by rw [keptSync, hu, inc_servo]
    refine ⟨_, exec_ptpSyncReceive_of_follows present taken stamp hu follows rfl, rfl, rfl, ?_⟩
    rw [getPtp_of_servo, getPtp_setPtp_same]
    exact ⟨rfl, keptSync slot msg stamp u, rfl, rfl, rfl, rfl, rfl, rfl, steps, rfl⟩
  case followUp => exact fun msg p taken hp => ⟨exec_ptpFollowUpReceive_of_taken present taken hp, fun _ => followUp_t1⟩
  case delayResp =>
    intro msg q u taken follows mine opened hu
    exact ⟨exec_ptpDelayRespReceive_of_incomplete present taken follows mine opened hu,
      fun _ _ => exec_ptpDelayRespReceive_of_complete present taken follows mine opened hu⟩

end Sys2Proof.Machine
end

section
/-! What a route opening leaves alone: the banks, the armed opening and the work of the tick (R292, R332). -/

namespace Sys2Proof.Machine

namespace KeepsBelowPorts

section
variable {a s : State} (h : KeepsBelowPorts a s)
include h

theorem inc0 {i : Nat} (hi : 0x3000 ≤ i) : KeepsBelowPorts a (Machine.inc0 i s) := h.count hi ..

theorem dropIdx {i : Nat} (hi : 0x3000 ≤ i) : KeepsBelowPorts a (Machine.dropIdx i s) := by
  refine h.trans ⟨rfl, rfl, fun k hk => (tget_dropIdx ..).trans (if_neg ?_)⟩
  unfold objKey at hk
  unfold keyIdx
  omega

theorem modServo (f : ServoSt → ServoSt) : KeepsBelowPorts a (Machine.modServo f s) := h.of_eq rfl rfl rfl

theorem modZut (f : ZutSt → ZutSt) : KeepsBelowPorts a (Machine.modZut f s) := h.of_eq rfl rfl rfl

theorem setServoFlag (i : Nat) (on : Bool) : KeepsBelowPorts a (Machine.setServoFlag i on s) := h.w0 (by decide) _

theorem setLive (n : Nat) (cond : Bool) : KeepsBelowPorts a (Machine.setLive n cond s) := by
  unfold Machine.setLive
  exact ite (((ite h (h.count (by decide) ..)).w1 (by decide) ..).pend ..) (h.w1 (by decide) ..)

/-! The servo enters FREERUN (R292, R402, R406). -/

theorem writeRecord (close : Nat) (flushed : Bool) (tenant : Nat) :
    KeepsBelowPorts a (Machine.writeRecord close flushed tenant s) := by
  have chained (d q : Nat) (v : VitSt) :
      KeepsBelowPorts a { Machine.w0 Reg.recordSequence q (Machine.w0 Reg.lastDigest d s) with vit := v } :=
    ((h.w0 (by decide) d).w0 (by decide) q).of_eq rfl rfl rfl
  unfold Machine.writeRecord
  exact (chained ..).raise _

theorem openInterval (isPartial : Bool) : KeepsBelowPorts a (Machine.openInterval isPartial s) := by
  have opened (v : VitSt) : KeepsBelowPorts a { s with vit := v } := h.of_eq rfl rfl rfl
  unfold Machine.openInterval
  exact (((((opened _).w0 (by decide) _).w0 (by decide) _).dropIdx (by decide)).w0 (by decide) _).w0 (by decide) _

theorem closeDue : KeepsBelowPorts a (Machine.closeDue s) := by
  unfold Machine.closeDue writeRecords
  exact ite ((h.forL fun _ _ hb => hb.writeRecord ..).writeRecord .. |>.openInterval _) h

theorem vitrineServo (servo : Nat) : KeepsBelowPorts a (Machine.vitrineServo servo s) := by
  unfold Machine.vitrineServo
  exact ite h.closeDue (h.closeDue.w0 (by decide) _)

theorem combinerLeavesUnset : KeepsBelowPorts a (Machine.combinerLeavesUnset s) := h.of_eq rfl rfl rfl

theorem enterServo_freerun : KeepsBelowPorts a (enterServo 3 s) := by
  have left := ite (c := servoStateOf s = 0) (h.vitrineServo 3).combinerLeavesUnset (h.vitrineServo 3)
  unfold enterServo
  simp only [if_true, show (3 : Nat) ≠ 0 by decide, if_false]
  refine ite h (raise (inc0 (w0 (w0 (modServo (modServo ?_ _) _) ?_ _) ?_ _) ?_) _)
  · exact (left.w0 (by decide) _).of_eq rfl rfl rfl
  all_goals decide

/-! The time source (R292, R298). -/

theorem sourceLost : KeepsBelowPorts a (Machine.sourceLost s) := by
  unfold Machine.sourceLost
  exact ite h.enterServo_freerun (h.modServo _)

theorem dropParent : KeepsBelowPorts a (Machine.dropParent s) := by
  unfold Machine.dropParent
  exact (h.modServo _).setServoFlag ..

theorem takeParent : KeepsBelowPorts a (Machine.takeParent s) := by
  unfold Machine.takeParent
  split
  · exact (h.modServo _).setServoFlag ..
  · exact h

theorem updateSource : KeepsBelowPorts a (Machine.updateSource s) := by
  have port := h.w0 (i := Reg.timeSourcePort) (by decide)
  have source {t : State} (ht : KeepsBelowPorts a t) := ht.w0 (i := Reg.timeSource) (by decide)
  unfold Machine.updateSource
  split
  · exact source (port _) _
  · dsimp only
    split
    · exact ite (source (port _) _) (source (port _) _)
    · exact source (port _) _

theorem updateUtc : KeepsBelowPorts a (Machine.updateUtc s) := by
  have told := fun leap on => (h.w0 (i := Reg.leapPending) (by decide) leap).setServoFlag 0 on
  unfold Machine.updateUtc
  exact ite (told ..) (((told ..).w0 (by decide) _).modServo _)

/-! The opening (R332). -/

theorem setPortState (slot st : Nat) : KeepsBelowPorts a (Machine.setPortState slot st s) := by
  have gone (p : PtpPort) : KeepsBelowPorts a (setPtp slot p s) := h.of_eq rfl rfl rfl
  unfold Machine.setPortState
  exact (ite h ((gone _).w1 (by decide) ..)).w1 (by decide) ..

theorem applyGrants (g : List (Nat × Nat)) : KeepsBelowPorts a (Machine.applyGrants g s) := by
  unfold Machine.applyGrants
  refine h.forL fun _ _ hb => ite hb (ite ?_ ?_)
  all_goals exact (hb.w0 (by decide) _).w0 (by decide) _

theorem dropArm : KeepsBelowPorts a (Machine.dropArm s) := (h.modZut _).w0 (by decide) _

end

end KeepsBelowPorts

end Sys2Proof.Machine
end

section
/-! O54: what Zutum sends and takes, and route openings (R315-R319, R329-R332). -/

namespace Sys2Proof.Machine

/-! Adjacencies and frames (R315-R317). -/

theorem exec_adjacencyTimeout_of_expired {port : Fin 64} {slot : Nat} {s : State} (present : slotOf s port.val = some slot)
    (expired : adjExpired s slot 0 = true) : exec (.adjacencyTimeout port) s = .next (adjDown slot s) := by
  show execAdjacencyTimeout port s = _
  simp only [execAdjacencyTimeout, present, expired, if_true]

/-- The command that receives a frame of a kind on a port, with the layout of that kind (R315). -/
theorem exec_of_zutumKind {port : Fin 64} {payload : Bytes} {k : Nat} {c : Instr} {ok : Bytes → Bool}
    (kind : k = 1 ∧ c = .helloReceive port payload ∧ ok = helloOk ∨ k = 2 ∧ c = .linkstateReceive port payload ∧ ok = linkstateOk ∨
      k = 3 ∧ c = .routeArmReceive port payload ∧ ok = armOk ∨ k = 4 ∧ c = .routeAnswer port payload ∧ ok = answerOk ∨
      k = 5 ∧ c = .routeCancel port payload ∧ ok = cancelOk) (s : State) :
    exec c s = .next (zutumReceive port.val k payload ok s) := by
  obtain ⟨rfl, rfl, rfl⟩ | ⟨rfl, rfl, rfl⟩ | ⟨rfl, rfl, rfl⟩ | ⟨rfl, rfl, rfl⟩ | ⟨rfl, rfl, rfl⟩ := kind
  all_goals rfl

section
variable {port slot k : Nat} {payload : Bytes} {ok : Bytes → Bool} {s : State} (present : slotOf s port = some slot)
include present

theorem zutumReceive_of_taken {body : Bytes} (layout : zutumBody k payload = some body)
    (on : zutumOn (inc0 Reg.zutumFramesReceived s) slot = true) (good : ok body = true) :
    zutumReceive port k payload ok s = modZut (fun z => { z with inbox := z.inbox ++
      [{ slot := slot, tick := tickNo (inc0 Reg.zutumFramesReceived s), kind := k, sender := leAt payload 4 1, body := body }] })
      (inc0 Reg.zutumFramesReceived s) := by
  simp only [zutumReceive, present, layout, on, good, Bool.and_self, if_true]

theorem zutumReceive_of_dropped
    (bad : ∀ body, zutumBody k payload = some body → zutumOn (inc0 Reg.zutumFramesReceived s) slot = false ∨ ok body = false) :
    zutumReceive port k payload ok s = inc0 Reg.zutumDrops (inc0 Reg.zutumFramesReceived s) := by
  simp only [zutumReceive, present]
  split
  next body layout => exact if_neg (by simpa only [Bool.and_eq_true, not_and_or, Bool.not_eq_true] using bad body layout)
  next => rfl

end

/-- A frame that is dropped is counted as received and as a drop (R315). -/
theorem dropped_sets (s : State) : Sets [(Reg.zutumFramesReceived, 0, 0, (r0 s Reg.zutumFramesReceived + 1) % 2 ^ 64),
    (Reg.zutumDrops, 0, 0, (r0 s Reg.zutumDrops + 1) % 2 ^ 64)] s (inc0 Reg.zutumDrops (inc0 Reg.zutumFramesReceived s)) := by
  have apart : objKey Reg.zutumFramesReceived 0 0 ≠ objKey Reg.zutumDrops 0 0 := by decide
  have drops : rd (inc0 Reg.zutumFramesReceived s) Reg.zutumDrops 0 0 = r0 s Reg.zutumDrops :=
    rd_wr_ne _ _ _ _ _ _ _ _ apart.symm
  have sets := (wr_sets Reg.zutumFramesReceived 0 0 ((r0 s Reg.zutumFramesReceived + 1) % 2 ^ 64) s).wr Reg.zutumDrops 0 0
    ((r0 s Reg.zutumDrops + 1) % 2 ^ 64) (List.forall_mem_singleton.mpr apart)
  rw [← drops] at sets ⊢
  exact sets.swap

/-! Route openings (R329-R332). -/

theorem exec_routeArm_of_needed {s : State} (runs : curatorRuns s = true) (root : isRoot s = true) (none : s.zut.arm = none)
    (past : s.zut.noneBefore ≤ tickNo s) (rested : s.zut.settleAt + r0 s Reg.zutumSettle ≤ tickSeq s)
    (needed : needsOpening s = true) : exec .routeArm s = .next (rootArm s) :=
  if_pos ⟨runs, root, by rw [none, Option.isNone_none], past, rested, needed⟩

theorem refuseWaits_of_due {n : Nat} {s : State} {l : List RouteArm}
    (hl : l = s.zut.waits.filter (fun a => decide (a.deadline ≤ n))) (due : l ≠ []) :
    refuseWaits n s = l.foldl (fun s a => refuseRoute a.id 3 s)
      { s with zut := { s.zut with waits := s.zut.waits.filter (fun a => decide (n < a.deadline)) } } := by
  subst hl
  exact if_neg (mt List.isEmpty_iff.mp due)

theorem exec_routeCancelDeadline_of_unanswered {a : RouteArm} {s : State} (armed : s.zut.arm = some a)
    (own : a.originator = ownUid s) (come : a.tick + largestHops s + 1 ≤ tickNo s + r0 s Reg.routeArmLead)
    (silent : (originsOf s.zut.parts).any (fun o => !s.zut.ready.contains o.uid) = true) :
    exec .routeCancelDeadline s = .next (rootCancel a s) := by
  show execRouteCancelDeadline s = _
  simp only [execRouteCancelDeadline, armed]
  exact if_pos ⟨own, come, silent⟩

/-- The candidate tables in force and told, nothing armed any more; the time source is yet to follow (R332). -/
def routeTold (a : RouteArm) (c : RouteCand) (s : State) : State :=
  let s := applyGrants a.grants s
  let s := dropIdx Reg.managementRoutes s
  let s := forL c.routes (fun r s => wr Reg.managementRoutes 0 r.1 r.2 s) s
  let s := forL (portSlots s) (fun slot s => setPortState slot (portStateAt s slot c.states c.orphan) s) s
  let s := w0 Reg.timeTreeDepth c.depth (w0 Reg.timeTreeOrphan (b2n c.orphan) s)
  let s := match c.gm with
    | some g => w0 Reg.grandmasterIdentity (ofLE (bytesBE 8 g.identity)) (w0 Reg.grandmasterEntry g.entryAddr s)
    | none => s
  let s := setLive Ev.orphan c.orphan s
  let s := inc0 Reg.routeOpenings (w0 Reg.routeOpeningId a.id (w0 Reg.routeDigest a.digest s))
  modZut (fun z => { z with gm := c.gm, tables := fabricTables s c.basis, carries := twoWaySlots s,
                            originateDue := z.originateDue || !a.grants.isEmpty }) (dropArm s)

theorem routeOpen_eq (a : RouteArm) (c : RouteCand) (s : State) :
    routeOpen a c s = if parentSlot (routeTold a c s) = parentSlot s then updateSource (routeTold a c s)
      else updateUtc (updateSource (takeParent (sourceLost (dropParent (routeTold a c s))))) := rfl

/-- What an opening tells in the registers of its own (R332). -/
theorem routeTold_registers (a : RouteArm) (c : RouteCand) (s : State) : r0 (routeTold a c s) Reg.routeArmedTick = 0 ∧
    r0 (routeTold a c s) Reg.routeOpeningId = a.id ∧ r0 (routeTold a c s) Reg.routeDigest = a.digest := by
  have apart {i j : Nat} (h : objKey i 0 0 ≠ objKey j 0 0) (v : Nat) (t : State) : r0 (w0 j v t) i = r0 t i :=
    rd_wr_ne _ _ _ _ _ _ _ _ h
  have counted {i : Nat} (h : objKey i 0 0 ≠ objKey Reg.routeOpenings 0 0) (t : State) :
    r0 (inc0 Reg.routeOpenings t) i = r0 t i := rd_wr_ne _ _ _ _ _ _ _ _ h
  refine ⟨?tick, ?id, ?digest⟩ <;> unfold routeTold dropArm
  case tick => rw [r0_modZut, r0_w0_same]
  case id => rw [r0_modZut, apart (by decide), r0_modZut, counted (by decide), r0_w0_same]
  case digest => rw [r0_modZut, apart (by decide), r0_modZut, counted (by decide), apart (by decide), r0_w0_same]

theorem keepsBelowPorts_routeTold (a : RouteArm) (c : RouteCand) (s : State) : KeepsBelowPorts s (routeTold a c s) := by
  have routes := (((KeepsBelowPorts.refl s).applyGrants a.grants).dropIdx (i := Reg.managementRoutes) (by decide)).forL
    (l := c.routes) (f := fun r => wr Reg.managementRoutes 0 r.1 r.2) fun _ _ hb => hb.wr (by decide) ..
  have ports := fun l => routes.forL (l := l) (f := fun slot s => setPortState slot (portStateAt s slot c.states c.orphan) s)
    fun _ _ hb => hb.setPortState ..
  have depth := fun l x y => ((ports l).w0 (i := Reg.timeTreeOrphan) (by decide) x).w0 (i := Reg.timeTreeDepth) (by decide) y
  unfold routeTold
  refine .modZut (.dropArm (.inc0 (.w0 (.w0 (.setLive ?_ ..) ?_ _) ?_ _) ?_)) _
  · split
    · exact ((depth ..).w0 (by decide) _).w0 (by decide) _
    · exact depth ..
  all_goals decide

theorem keepsBelowPorts_routeOpen (a : RouteArm) (c : RouteCand) (s : State) : KeepsBelowPorts s (routeOpen a c s) := by
  have told := keepsBelowPorts_routeTold a c s
  rw [routeOpen_eq]
  exact .ite told.updateSource told.dropParent.sourceLost.takeParent.updateSource.updateUtc

theorem captureDue_of_not_due {s : State} (h : captureIsDue s = false) : captureDue s = s := by
  have free {b : Nat} (hb : b < 2) : ¬ BankDue b s := by
    have := List.any_eq_false.mp h b (List.mem_range.mpr hb)
    simpa only [BankDue, Bool.and_eq_true, decide_eq_true_eq, and_assoc] using this
  have first : captureBank 0 s = s := if_neg (free (by decide))
  rw [captureDue, first]
  exact if_neg (free (by decide))

theorem openDue_of_not_openingIsDue {s : State} (h : openingIsDue s = false) : openDue s = s := by
  unfold openingIsDue at h
  unfold openDue
  split
  next a armed =>
    rw [armed] at h
    exact if_neg (of_decide_eq_false h)
  next => rfl

section
variable {a : RouteArm} {c : RouteCand} {s : State} (armed : s.zut.arm = some a) (cand : a.cand = some c)
  (come : a.tick ≤ tickNo s)
include armed cand come

theorem routeDue_of_come : routeDue s = some (a, c) := by simp only [routeDue, armed, cand, come, if_true]

theorem exec_routeOpening_of_due : exec .routeOpening s = .next (settled s) :=
  if_pos (by rw [routeDue_of_come armed cand come, Option.isSome_some])

theorem routeOpenDue_of_due : routeOpenDue s = routeOpen a c s := by
  simp only [routeOpenDue, routeDue_of_come armed cand come]

/-- Where no capture and no opening is due and the tick's work is done, only the route opening is made (R23, R332). -/
theorem settled_of_routeDue (noCapture : captureIsDue s = false) (noOpening : openingIsDue s = false)
    (noWork : s.workDue = none) : settled s = routeOpen a c s := by
  have done : (routeOpen a c s).workDue = none := (keepsBelowPorts_routeOpen a c s).workDue.trans noWork
  rw [settled, captureDue_of_not_due noCapture, openDue_of_not_openingIsDue noOpening, routeOpenDue_of_due armed cand come,
    workDone_of_none done]

end

/-- Settles O54: what is due is sent, taken down or originated anew, a frame waits or is dropped, and the laws above say what a
route opening arms, refuses, cancels and opens. -/
theorem zutumMessagesAndRoutes : Obligations.ZutumMessagesAndRoutes := by
  unfold Obligations.ZutumMessagesAndRoutes
  intro s
  refine ⟨(if_pos ·), fun _ _ => exec_adjacencyTimeout_of_expired, (if_pos ·), (if_pos ·), fun _ => (if_pos ·), ?frames,
    ?originates, ?arms, fun _ hl due => congrArg _ (refuseWaits_of_due hl due),
    fun _ => exec_routeCancelDeadline_of_unanswered, ?opens⟩
  case frames =>
    rintro port slot payload _ k c ok present rfl kind
    rw [Runs, exec_of_zutumKind kind]
    exact ⟨fun _ layout on good => congrArg _ (zutumReceive_of_taken present layout on good),
      fun bad => ⟨_, congrArg _ (zutumReceive_of_dropped present bad), dropped_sets s⟩⟩
  case originates =>
    rintro _ _ _ rfl rfl rfl
    rfl
  case arms =>
    rintro runs root none past rested needed _ _ _ _ _ rfl rfl rfl rfl rfl
    exact exec_routeArm_of_needed runs root none past rested needed
  case opens =>
    intro a c armed cand come
    obtain ⟨tick, id, digest⟩ := routeTold_registers a c s
    refine ⟨exec_routeOpening_of_due armed cand come, fun noCapture noOpening noWork => ?_, routeTold a c s,
      ite_eq_or_eq _ _ _, rfl, rfl, rfl, tick, id, digest⟩
    rw [exec_routeOpening_of_due armed cand come, settled_of_routeDue armed cand come noCapture noOpening noWork]

end Sys2Proof.Machine
end

section
/-! O10: what an occurrence of an event source changes (R380, R388, R389, R392, R394-R397). -/

namespace Sys2Proof.Machine

/-- An object that is not listed reads as before. -/
theorem Keeps.rd_eq {l : List Nat} {s t : State} (h : Keeps l s t) {i : Nat} (hi : i ∉ l) {j k : Nat} (hj : j < 256)
    (hk : k < 2 ^ 24) : rd t i j k = rd s i j k :=
  h _ (by rwa [keyIdx_objKey i j k hj hk])

theorem Keeps.r1_eq {l : List Nat} {s t : State} (h : Keeps l s t) {i : Nat} (hi : i ∉ l) {j : Nat} (hj : j < 256) :
    r1 t i j = r1 s i j := h.rd_eq hi hj (by decide)

theorem Keeps.r0_eq {l : List Nat} {s t : State} (h : Keeps l s t) {i : Nat} (hi : i ∉ l) : r0 t i = r0 s i :=
  h.rd_eq hi (by decide) (by decide)

/-- A register that keeps its value may be listed with it. -/
theorem RegsSet.of_kept (s : State) (i j k : Nat) : RegsSet [(i, j, k, rd s i j k)] s s :=
  ⟨List.forall_mem_singleton.mpr rfl, fun _ _ => rfl⟩

/-! The pending bit of source n (R389, R392). -/

/-- The rise of the pending bit of source n: it was 0, and no clear took it away in this core cycle (R389). -/
def riseOf (n : Nat) (s : State) : Nat :=
  2 ^ (n % 32) &&& ((r1 s Reg.eventPending (n / 32) ||| clearedNow s (n / 32)) ^^^ 0xFFFFFFFF)

/-- The Archive once source n's bit is set: a rise that ArchiveTriggerSource names starts the burst afresh (R380). -/
def archOnRise (n : Nat) (s : State) : ArchSt :=
  if r0 s Reg.archiveMode = 2 ∧ r0 s Reg.archiveTriggerSource = 0x100 + n ∧ (riseOf n s).testBit (n % 32) = true then
    { s.arch with burst := r0 s Reg.archiveBurst, trigger := 3 }
  else s.arch

/-- The event block once source n's bit is set: a rise under EventMaskNotify is kept (R394). -/
def evOnRise (n : Nat) (s : State) : EvSt :=
  { s.ev with
    risen := tset (fun _ => 0) s.ev.risen (n / 32)
      (tget (fun _ => 0) s.ev.risen (n / 32) ||| (riseOf n s &&& r1 s Reg.eventMaskNotify (n / 32))) }

theorem testBit_two_pow_and (b m i : Nat) : (2 ^ b &&& m).testBit i = true ↔ i = b ∧ m.testBit b = true := by
  rw [Nat.testBit_and, Nat.testBit_two_pow, Bool.and_eq_true, decide_eq_true_eq]
  constructor <;> (rintro ⟨rfl, h⟩; exact ⟨rfl, h⟩)

/-- Of the sources that ArchiveTriggerSource can name, n alone is the one whose bit can rise here (R380). -/
theorem archEventTrigger_of_bit {n : Nat} (hn : n < 512) (m : Nat) (s : State) :
    archEventTrigger (n / 32) (2 ^ (n % 32) &&& m) s = { s with
      arch := if r0 s Reg.archiveMode = 2 ∧ r0 s Reg.archiveTriggerSource = 0x100 + n ∧
          (2 ^ (n % 32) &&& m).testBit (n % 32) = true then { s.arch with burst := r0 s Reg.archiveBurst, trigger := 3 }
        else s.arch } := by
  have named (src : Nat) : (0x100 ≤ src ∧ src < 0x300 ∧ (src - 0x100) / 32 = n / 32 ∧
      (2 ^ (n % 32) &&& m).testBit ((src - 0x100) % 32) = true) ↔
      src = 0x100 + n ∧ (2 ^ (n % 32) &&& m).testBit (n % 32) = true := by
    simp only [testBit_two_pow_and, true_and]
    constructor
    · rintro ⟨low, high, word, bit, up⟩
      exact ⟨by omega, up⟩
    · rintro ⟨rfl, up⟩
      exact ⟨by omega, by omega, by omega, by omega, up⟩
  unfold archEventTrigger archTrigger
  simp only [named]
  by_cases rise : r0 s Reg.archiveTriggerSource = 0x100 + n ∧ (2 ^ (n % 32) &&& m).testBit (n % 32) = true
  · rw [if_pos rise]
    by_cases mode : r0 s Reg.archiveMode = 2
    · rw [if_pos mode, if_pos ⟨mode, rise⟩]
    · rw [if_neg mode, if_neg fun h => mode h.1]
  · rw [if_neg rise, if_neg fun h => rise h.2]

section
variable {n : Nat} {s t : State}

/-- Setting source n's bit: EventPending, the Archive and the event block, and nothing else. -/
theorem pend_eq (hn : n < 512) (s : State) : pend (n / 32) (2 ^ (n % 32)) s =
    { w1 Reg.eventPending (n / 32) (r1 s Reg.eventPending (n / 32) ||| 2 ^ (n % 32)) s with
      arch := archOnRise n s, ev := evOnRise n s } := by
  have hw : n / 32 < 256 := by omega
  have kept := w1_keeps (Keeps.refl [Reg.eventPending] s) Reg.eventPending (n / 32)
    (r1 s Reg.eventPending (n / 32) ||| 2 ^ (n % 32)) (by simp) hw
  have trigger := archEventTrigger_of_bit hn ((r1 s Reg.eventPending (n / 32) ||| clearedNow s (n / 32)) ^^^ 0xFFFFFFFF)
    (w1 Reg.eventPending (n / 32) (r1 s Reg.eventPending (n / 32) ||| 2 ^ (n % 32)) s)
  rw [kept.r0_eq (i := Reg.archiveTriggerSource) (by decide), kept.r0_eq (i := Reg.archiveMode) (by decide),
    kept.r0_eq (i := Reg.archiveBurst) (by decide)] at trigger
  unfold pend
  dsimp only
  rw [trigger]
  have mask := kept.r1_eq (i := Reg.eventMaskNotify) (by decide) hw
  unfold evOnRise
  rw [← mask]
  rfl

/-- Counting, the live bit and the note of an edge's cycle change nothing that setting the bit depends on. -/
theorem pend_of_counted (hn : n < 512) {x : List (Nat × Nat)} (kept : Keeps [Reg.eventLive, Reg.eventCounts] s t)
    (frame : t = { s with regs := t.regs, ev := { s.ev with edges := x } }) : pend (n / 32) (2 ^ (n % 32)) t =
      { w1 Reg.eventPending (n / 32) (r1 s Reg.eventPending (n / 32) ||| 2 ^ (n % 32)) t with
        arch := archOnRise n s, ev := { evOnRise n s with edges := x } } := by
  have hw : n / 32 < 256 := by omega
  have pending := kept.r1_eq (i := Reg.eventPending) (by decide) hw
  have mask := kept.r1_eq (i := Reg.eventMaskNotify) (by decide) hw
  have cleared : clearedNow t (n / 32) = clearedNow s (n / 32) := by rw [frame]; rfl
  have rise : riseOf n t = riseOf n s := by rw [riseOf, pending, cleared, riseOf]
  have arch : archOnRise n t = archOnRise n s := by
    rw [archOnRise, rise, kept.r0_eq (i := Reg.archiveMode) (by decide), kept.r0_eq (i := Reg.archiveTriggerSource) (by decide),
      kept.r0_eq (i := Reg.archiveBurst) (by decide), frame]
    rfl
  have ev : evOnRise n t = { evOnRise n s with edges := x } := by
    rw [evOnRise, rise, mask, frame]
    rfl
  rw [pend_eq hn, pending, arch, ev]

/-- The registers that setting the bit sets, behind those that its count and its live bit have set. -/
theorem pend_regsSet (hn : n < 512) {l : List (Nat × Nat × Nat × Nat)} {x : List (Nat × Nat)} (set : RegsSet l s t)
    (kept : Keeps [Reg.eventLive, Reg.eventCounts] s t) (frame : t = { s with regs := t.regs, ev := { s.ev with edges := x } })
    (other : ∀ e ∈ l, objKey e.1 e.2.1 e.2.2.1 ≠ objKey Reg.eventPending (n / 32) 0) :
    RegsSet ((Reg.eventPending, n / 32, 0, r1 s Reg.eventPending (n / 32) ||| 2 ^ (n % 32)) :: l) s
      (pend (n / 32) (2 ^ (n % 32)) t) := by
  rw [pend_of_counted hn kept frame]
  exact (set.wr _ _ _ _ other).of_regs_eq rfl

end

/-! Occurrences of an edge source, and the condition of a level source (R388, R395, R396). -/

section
variable {n : Nat} {s : State}

theorem raise_of_asleep (asleep : running s (sourceDomain n) = false) : raise n s = s := by
  simp only [raise, asleep, Bool.false_eq_true, if_false]

theorem count_eventCounts_keeps (hn : n < 512) {a s : State} (h : Keeps [Reg.eventLive, Reg.eventCounts] a s) :
    Keeps [Reg.eventLive, Reg.eventCounts] a (count Reg.eventCounts 0 n 1 s) :=
  wr_keeps h _ _ _ _ (by simp) (by decide) (by omega)

theorem objKey_eventCounts_ne (hn : n < 512) {i j : Nat} (hi : i ≠ Reg.eventCounts) (hj : j < 256) :
    objKey Reg.eventCounts 0 n ≠ objKey i j 0 :=
  objKey_ne _ _ _ _ _ _ (Ne.symm hi) hj (by decide) (by decide) (by omega)

/-- An occurrence sets the pending bit and adds 1 to the count; beside that only what a rise brings and the edge's cycle. -/
theorem raise_of_running (hn : n < 512) (awake : running s (sourceDomain n) = true) :
    RegsSet [(Reg.eventPending, n / 32, 0, r1 s Reg.eventPending (n / 32) ||| 2 ^ (n % 32)),
      (Reg.eventCounts, 0, n, (rd s Reg.eventCounts 0 n + 1) % 2 ^ 64)] s (raise n s) ∧
    raise n s = { s with
      regs := (raise n s).regs, arch := archOnRise n s
      ev := { evOnRise n s with edges := tset (fun _ => 0) s.ev.edges n (coreCycle s + 1) } } := by
  have run : raise n s = pend (n / 32) (2 ^ (n % 32)) (count Reg.eventCounts 0 n 1 (noteEdge n s)) := if_pos awake
  have kept := count_eventCounts_keeps hn (s := noteEdge n s) (Keeps.refl _ s)
  have counted := (wr_sets Reg.eventCounts 0 n ((rd s Reg.eventCounts 0 n + 1) % 2 ^ 64) (noteEdge n s)).2
  rw [run]
  constructor
  · exact pend_regsSet hn counted kept rfl
      (List.forall_mem_singleton.mpr (objKey_eventCounts_ne hn (by decide) (by omega)))
  · rw [pend_of_counted hn kept rfl]
    rfl

theorem setLive_false (n : Nat) (s : State) : setLive n false s =
    w1 Reg.eventLive (n / 32) (setBit (r1 s Reg.eventLive (n / 32)) (n % 32) false) s := rfl

theorem setLive_of_asleep (asleep : running s (sourceDomain n) = false) (cond : Bool) : setLive n cond s =
    w1 Reg.eventLive (n / 32) (setBit (r1 s Reg.eventLive (n / 32)) (n % 32) false) s := by
  simp only [setLive, asleep, Bool.and_false, Bool.false_eq_true, if_false]

/-- The count of a level source rises with its condition alone (R395). -/
def liveCounted (n : Nat) (s : State) : State :=
  if (r1 s Reg.eventLive (n / 32)).testBit (n % 32) then s else count Reg.eventCounts 0 n 1 s

theorem liveCounted_keeps (hn : n < 512) (s : State) : Keeps [Reg.eventLive, Reg.eventCounts] s (liveCounted n s) := by
  unfold liveCounted
  split
  · exact Keeps.refl _ s
  · exact count_eventCounts_keeps hn (Keeps.refl _ s)

theorem liveCounted_sets (n : Nat) (s : State) : Sets [(Reg.eventCounts, 0, n,
    if (r1 s Reg.eventLive (n / 32)).testBit (n % 32) then rd s Reg.eventCounts 0 n
    else (rd s Reg.eventCounts 0 n + 1) % 2 ^ 64)] s (liveCounted n s) := by
  unfold liveCounted
  split
  · exact ⟨rfl, .of_kept s ..⟩
  · exact wr_sets ..

/-- A condition that holds sets live and pending bit, and is counted where the live bit was 0. -/
theorem setLive_of_running (hn : n < 512) (awake : running s (sourceDomain n) = true) :
    RegsSet [(Reg.eventPending, n / 32, 0, r1 s Reg.eventPending (n / 32) ||| 2 ^ (n % 32)),
      (Reg.eventLive, n / 32, 0, setBit (r1 s Reg.eventLive (n / 32)) (n % 32) true),
      (Reg.eventCounts, 0, n, if (r1 s Reg.eventLive (n / 32)).testBit (n % 32) then rd s Reg.eventCounts 0 n
        else (rd s Reg.eventCounts 0 n + 1) % 2 ^ 64)] s (setLive n true s) ∧
    setLive n true s = { s with regs := (setLive n true s).regs, arch := archOnRise n s, ev := evOnRise n s } := by
  have hw : n / 32 < 256 := by omega
  have run : setLive n true s = pend (n / 32) (2 ^ (n % 32))
      (w1 Reg.eventLive (n / 32) (setBit (r1 s Reg.eventLive (n / 32)) (n % 32) true) (liveCounted n s)) := by
    simp only [setLive, awake, Bool.and_true, if_true]
    rfl
  have kept := w1_keeps (liveCounted_keeps hn s) Reg.eventLive (n / 32)
    (setBit (r1 s Reg.eventLive (n / 32)) (n % 32) true) (by simp) hw
  obtain ⟨frame, set⟩ := (liveCounted_sets n s).wr Reg.eventLive (n / 32) 0
    (setBit (r1 s Reg.eventLive (n / 32)) (n % 32) true)
    (List.forall_mem_singleton.mpr (objKey_eventCounts_ne hn (by decide) hw))
  rw [← w1] at frame set
  rw [run]
  generalize w1 Reg.eventLive _ _ _ = t at kept frame set
  have other : objKey Reg.eventLive (n / 32) 0 ≠ objKey Reg.eventPending (n / 32) 0 :=
    objKey_ne _ _ _ _ _ _ (by decide) hw (by decide) hw (by decide)
  constructor
  · exact pend_regsSet hn set kept frame (List.forall_mem_cons.mpr
      ⟨other, List.forall_mem_singleton.mpr (objKey_eventCounts_ne hn (by decide) hw)⟩)
  · rw [pend_of_counted hn kept frame, frame]
    rfl

end

/-- Settles O10: an edge source by `raise`, a level source by `setLive`, with what a rise of the pending bit brings. -/
theorem anEventSetsItsPendingBitAndCounts : Obligations.AnEventSetsItsPendingBitAndCounts := by
  unfold Obligations.AnEventSetsItsPendingBitAndCounts
  rintro n w b up s a e hn rfl rfl _ rfl rfl rfl
  refine ⟨fun _ => ⟨raise_of_running hn, raise_of_asleep⟩, fun _ => ⟨setLive_of_running hn, fun asleep => ?_, wr_sets ..⟩⟩
  rw [setLive_of_asleep asleep]
  exact wr_sets ..

end Sys2Proof.Machine
end

section
/-! O20, O21: the programmable counters and the Archive (R368, R370-R375, R380, R384, R385). -/

namespace Sys2Proof.Machine

/-! What counting leaves alone: time stands still, and the events that it raises write the event block alone. -/

theorem archTrigger_now (kind : Nat) (s : State) : (archTrigger kind s).now = s.now := by
  unfold archTrigger
  split <;> rfl

theorem pend_now (w bits : Nat) (s : State) : (pend w bits s).now = s.now := by
  show (archEventTrigger w _ (w1 Reg.eventPending w _ s)).now = s.now
  unfold archEventTrigger
  dsimp only
  split
  · rw [archTrigger_now, w1_now]
  · rw [w1_now]

theorem raise_now (n : Nat) (s : State) : (raise n s).now = s.now := by
  unfold raise
  split
  · exact pend_now ..
  · rfl

theorem forN_now {n : Nat} {f : Nat → State → State} (h : ∀ i s, (f i s).now = s.now) (s : State) :
    (forN n f s).now = s.now :=
  List.foldlRecOn (motive := fun t => t.now = s.now) _ _ rfl fun t ht i _ => (h i t).trans ht

section
variable (k n : Nat) (s : State)

theorem perfWraps_now : (perfWraps k n s).now = s.now := by
  unfold perfWraps
  split
  · rfl
  · exact forN_now (fun _ => raise_now _) _

theorem perfCross_now : (perfCross k s).now = s.now := by
  unfold perfCross
  dsimp only
  split
  · rw [archTrigger_now, raise_now]
  · rw [raise_now]

theorem perfSettle_now : (perfSettle k s).now = s.now := by
  unfold perfSettle
  split
  · rw [perfGateEnd, setPerf_now, inc_now, w1_now, w1_now]
  · rfl

theorem perfAdd_now : (perfAdd k n s).now = s.now := by
  unfold perfAdd
  split
  · rfl
  · dsimp only
    split
    · rw [perfCross_now, perfWraps_now, w1_now, perfSettle_now]
    · rw [perfWraps_now, w1_now, perfSettle_now]

theorem perfCycles_now : (perfCycles k n s).now = s.now := by
  unfold perfCycles
  split
  · rfl
  · dsimp only
    split
    · rw [perfWraps_now, w1_now, perfSettle_now]
    · rw [forN_now (fun _ => perfCross_now k), perfWraps_now, w1_now, perfSettle_now]

theorem perfFlush_now : (perfFlush k s).now = s.now := by
  unfold perfFlush
  dsimp only
  rw [perfCycles_now, setPerf_now, perfSettle_now]

end

/-- Registers that are set are of the objects listed. -/
theorem RegsSet.keeps {m : List (Nat × Nat × Nat × Nat)} {l : List Nat} {s t : State} (h : RegsSet m s t)
    (listed : ∀ e ∈ m, e.1 ∈ l ∧ e.2.1 < 256 ∧ e.2.2.1 < 2 ^ 24) : Keeps l s t := by
  refine fun x hx => h.2 x fun e he => ?_
  rintro rfl
  obtain ⟨idx, sub, row⟩ := listed e he
  exact hx (by rwa [keyIdx_objKey _ _ _ sub row])

/-- The objects that an event raised by a counter may write. -/
def countingWrites : List Nat := [Reg.eventPending, Reg.eventCounts, Reg.perfOverflow]

theorem raise_keeps {n : Nat} (hn : n < 512) {a s : State} (h : Keeps countingWrites a s) :
    Keeps countingWrites a (raise n s) := by
  cases awake : running s (sourceDomain n) with
  | false => rwa [raise_of_asleep awake]
  | true =>
    have set := (raise_of_running hn awake).1
    refine h.trans (set.keeps (List.forall_mem_cons.mpr ⟨?_, List.forall_mem_singleton.mpr ?_⟩))
    · exact ⟨by simp [countingWrites], by dsimp only; omega, by dsimp only; decide⟩
    · exact ⟨by simp [countingWrites], by dsimp only; decide, by dsimp only; omega⟩

theorem archTrigger_keeps {l : List Nat} {a s : State} (h : Keeps l a s) (kind : Nat) : Keeps l a (archTrigger kind s) := by
  unfold archTrigger
  split <;> exact h

section
variable {k n : Nat} {s : State}

theorem perfWraps_keeps (hk : k < 64) {a : State} (h : Keeps countingWrites a s) (n : Nat) :
    Keeps countingWrites a (perfWraps k n s) := by
  unfold perfWraps
  split
  · exact h
  · refine (w0_keeps h _ _ (by decide)).forL (m := List.range n) fun _ _ _ hb => raise_keeps ?_ hb
    show 256 + k < 512
    omega

theorem perfCross_keeps (hk : k < 64) {a : State} (h : Keeps countingWrites a s) : Keeps countingWrites a (perfCross k s) := by
  have crossed : Keeps countingWrites a (raise (Ev.perfThreshold + k) s) := raise_keeps (show 320 + k < 512 by omega) h
  unfold perfCross
  dsimp only
  split
  · exact archTrigger_keeps crossed 4
  · exact crossed

/-! Increments (R372, R375). -/

/-- An increment of a counter at no gate's end, in the order of R372 and R375: the sum modulo 2^48, its wraps, a crossing. -/
theorem perfAdd_of_counts (counts : perfCounts s k = true) (running : (getPerf s k).due = false) (some : n ≠ 0) :
    ∃ t, t = perfWraps k ((r1 s Reg.perfCounter k + n) / 2 ^ 48) (w1 Reg.perfCounter k ((r1 s Reg.perfCounter k + n) % 2 ^ 48) s) ∧
      perfAdd k n s = if r1 s Reg.perfThreshold k ≠ 0 ∧ r1 s Reg.perfCounter k < r1 s Reg.perfThreshold k ∧
          r1 s Reg.perfThreshold k ≤ r1 s Reg.perfCounter k + n ∧ r1 s Reg.perfCounter k + n < 2 ^ 48 then perfCross k t
        else t := by
  refine ⟨_, rfl, ?_⟩
  have settled : perfSettle k s = s := if_neg (by simp [running])
  simp only [perfAdd, counts, some, settled, Bool.not_true, Bool.false_or, decide_false, Bool.false_eq_true, if_false]

theorem r1_perfAdd (hk : k < 64) (counts : perfCounts s k = true) (running : (getPerf s k).due = false) (some : n ≠ 0) :
    r1 (perfAdd k n s) Reg.perfCounter k = (r1 s Reg.perfCounter k + n) % 2 ^ 48 := by
  obtain ⟨t, wrapped, added⟩ := perfAdd_of_counts counts running some
  have kept : Keeps countingWrites (w1 Reg.perfCounter k ((r1 s Reg.perfCounter k + n) % 2 ^ 48) s) (perfAdd k n s) := by
    rw [added, wrapped]
    split
    · exact perfCross_keeps hk (perfWraps_keeps hk (Keeps.refl _ _) _)
    · exact perfWraps_keeps hk (Keeps.refl _ _) _
  exact (kept.r1_eq (by decide) (by omega)).trans (r1_w1_same ..)

/-- Without a wrap or a crossing the increment changes the counter alone. -/
theorem perfAdd_sets (counts : perfCounts s k = true) (running : (getPerf s k).due = false) (some : n ≠ 0)
    (below : r1 s Reg.perfCounter k + n < 2 ^ 48)
    (uncrossed : r1 s Reg.perfThreshold k ≤ r1 s Reg.perfCounter k ∨
      r1 s Reg.perfCounter k + n < r1 s Reg.perfThreshold k) :
    Sets [(Reg.perfCounter, k, 0, r1 s Reg.perfCounter k + n)] s (perfAdd k n s) := by
  obtain ⟨t, wrapped, added⟩ := perfAdd_of_counts counts running some
  rw [Nat.div_eq_of_lt below, Nat.mod_eq_of_lt below, perfWraps, if_pos rfl] at wrapped
  rw [added, if_neg (by omega), wrapped]
  exact wr_sets ..

end

/-! Writes to a counter (R371-R374). -/

section
variable {k : Nat} {s : State}

/-- A gated counter that is configured starts its first gate at the next boundary with all of its ticks (R371, R374). -/
theorem getPerf_perfGates_of_fresh {t : State} {g : Nat} (gate : r1 t Reg.perfGateTicks k = g) (gated : g ≠ 0)
    (ends : g ≠ 65535) (awake : perfAwake t k = true) (fresh : (getPerf t k).started = false) :
    getPerf (perfGates k t) k = { getPerf t k with started := true, left := g, due := false } := by
  simp only [perfGates, gate, gated, ends, awake, fresh, Bool.not_true, Bool.not_false, Bool.false_eq_true, or_self, if_false,
    if_true, getPerf_setPerf_same]

theorem getPerf_of_perf_eq {t : State} (h : t.perf = s.perf) (k : Nat) : getPerf t k = getPerf s k := by
  rw [getPerf, h, getPerf]

theorem setPerf_frame {t : State} (h : t = { s with regs := t.regs }) (k : Nat) (p : PerfSt) :
    setPerf k p t = { s with regs := (setPerf k p t).regs, perf := (setPerf k p t).perf } := by
  rw [h]
  rfl

/-- The counter at 0 behind the new value (R374). -/
def counterStored (idx k v : Nat) (u : State) : State := w1 Reg.perfCounter k 0 (w1 idx k v u)

/-- The counter configured anew: no gate of it has started, and it counts from now (R371, R374). -/
def counterConfigured (idx k v : Nat) (u : State) : State :=
  setPerf k { perfInit with
      live := decide (r1 (counterStored idx k v u) Reg.perfGateTicks k ≠ 0), since := (counterStored idx k v u).now }
    (counterStored idx k v u)

theorem effPerfConfig_eq (idx last k v : Nat) (s : State) :
    effPerfConfig idx last k v s = counterConfigured idx k v (perfAdd k last (perfFlush k s)) := rfl

theorem counterConfigured_regsSet {idx : Nat} (configures : idx ≠ Reg.perfCounter) (hk : k < 256) (v : Nat) (u : State) :
    RegsSet [(idx, k, 0, v), (Reg.perfCounter, k, 0, 0)] u (counterConfigured idx k v u) := by
  have other : objKey idx k 0 ≠ objKey Reg.perfCounter k 0 :=
    objKey_ne _ _ _ _ _ _ configures hk (by decide) hk (by decide)
  have stored := (wr_sets idx k 0 v u).2.wr Reg.perfCounter k 0 0 (List.forall_mem_singleton.mpr other)
  exact (stored.of_regs_eq (u := counterConfigured idx k v u) rfl).congr fun e => (List.Perm.swap ..).mem_iff

theorem getPerf_counterConfigured (idx k v : Nat) (u : State) : getPerf (counterConfigured idx k v u) k =
    { live := decide (r1 (counterStored idx k v u) Reg.perfGateTicks k ≠ 0), started := false, left := 0, due := false
      cycles := 0, since := u.now } := by
  have now : (counterStored idx k v u).now = u.now := by rw [counterStored, w1_now, w1_now]
  rw [counterConfigured, getPerf_setPerf_same, perfInit, now]

theorem getPerf_counterConfigured_of_ne {idx k v j : Nat} (other : j ≠ k) (u : State) :
    getPerf (counterConfigured idx k v u) j = getPerf u j := by
  rw [counterConfigured, getPerf_setPerf, if_neg other, counterStored]
  exact getPerf_of_perf_eq ((w1_perf ..).trans (w1_perf ..)) j

theorem counterConfigured_keeps {idx : Nat} (configures : idx ≠ Reg.perfCounter) (hk : k < 256) (v : Nat) (u : State) :
    Keeps [idx, Reg.perfCounter] u (counterConfigured idx k v u) :=
  (counterConfigured_regsSet configures hk v u).keeps (by simp [hk])

/-- The first gate starts whole at the next boundary (R374). -/
theorem getPerf_perfGates_counterConfigured {idx v g : Nat} {u : State}
    (gate : r1 (counterConfigured idx k v u) Reg.perfGateTicks k = g) (gated : g ≠ 0) (ends : g ≠ 65535)
    (awake : perfAwake (counterConfigured idx k v u) k = true) : getPerf (perfGates k (counterConfigured idx k v u)) k =
      { live := true, started := true, left := g, due := false, cycles := 0, since := u.now } := by
  have record := getPerf_counterConfigured idx k v u
  have live : r1 (counterStored idx k v u) Reg.perfGateTicks k ≠ 0 := by
    rwa [← r1_setPerf k _ (counterStored idx k v u), ← counterConfigured, gate]
  rw [getPerf_perfGates_of_fresh gate gated ends awake (congrArg PerfSt.started record), record]
  simp only [live, ne_eq, not_false_eq_true, decide_true]

end

/-- Settles O20: an accepted write is its effect, and the addition that comes before it is `perfAdd`. -/
theorem perfConfigWriteOrder : Obligations.PerfConfigWriteOrder := by
  unfold Obligations.PerfConfigWriteOrder
  intro counter gate last v idx w s hidx accepted
  have hk : counter.val < 256 := by omega
  have configures : idx ≠ Reg.perfCounter ∧ Reg.perfOverflow ∉ [idx, Reg.perfCounter] := by
    rw [hidx]
    cases gate <;> decide
  have now : (perfAdd counter.val last (perfFlush counter.val s)).now = s.now := by rw [perfAdd_now, perfFlush_now]
  have run : exec (.perfConfigWrite counter gate last w) s =
      .next (counterConfigured idx counter.val v (perfAdd counter.val last (perfFlush counter.val s))) := by
    rw [exec_write_of_accepts (c := .perfConfigWrite counter gate last w) (eff := effPerfConfig idx last) accepted
      (by subst hidx; rfl), effPerfConfig_eq]
  refine ⟨_, rfl, ⟨_, run, counterConfigured_regsSet configures.1 hk v _, ?frame, ?started, ?due, ?cycles, ?since,
    fun j other => getPerf_counterConfigured_of_ne other _, (counterConfigured_keeps configures.1 hk v _).r0_eq configures.2,
    ?gate⟩, ?add⟩
  case frame => exact setPerf_frame (w1_frame (w1_frame rfl ..) ..) ..
  case started => rw [getPerf_counterConfigured]
  case due => rw [getPerf_counterConfigured]
  case cycles => rw [getPerf_counterConfigured]
  case since => rw [getPerf_counterConfigured, now]
  case gate =>
    intro g gate gated ends awake
    rw [getPerf_perfGates_counterConfigured gate gated ends awake, now]
  case add =>
    intro n old counts running some hold
    subst hold
    exact ⟨r1_perfAdd counter.isLt counts running some, perfAdd_sets counts running some⟩

/-! The end of a gate (R371). -/

theorem RegsSet.reverse {l : List (Nat × Nat × Nat × Nat)} {s t : State} (h : RegsSet l s t) : RegsSet l.reverse s t :=
  h.congr fun _ => List.mem_reverse

/-- The registers at the end of a gate: the result takes the count, the counter restarts, the gate is counted (R371). -/
def gateRegisters (k : Nat) (s : State) : State :=
  inc Reg.perfGateCount k (w1 Reg.perfCounter k 0 (w1 Reg.perfResult k (r1 s Reg.perfCounter k) s))

section
variable {k : Nat} (hk : k < 256)
include hk

theorem gateRegisters_sets (s : State) : Sets [(Reg.perfResult, k, 0, r1 s Reg.perfCounter k), (Reg.perfCounter, k, 0, 0),
    (Reg.perfGateCount, k, 0, (r1 s Reg.perfGateCount k + 1) % 2 ^ 64)] s (gateRegisters k s) := by
  have other (i j : Nat) (h : j ≠ i) : objKey i k 0 ≠ objKey j k 0 :=
    objKey_ne _ _ _ _ _ _ h.symm hk (by decide) hk (by decide)
  have counted : r1 (w1 Reg.perfCounter k 0 (w1 Reg.perfResult k (r1 s Reg.perfCounter k) s)) Reg.perfGateCount k =
      r1 s Reg.perfGateCount k := by
    rw [r1_w1_of_ne (by decide) hk hk, r1_w1_of_ne (by decide) hk hk]
  have restarted := (wr_sets Reg.perfResult k 0 (r1 s Reg.perfCounter k) s).wr Reg.perfCounter k 0 0
    (List.forall_mem_singleton.mpr (other Reg.perfResult _ (by decide)))
  have gated := restarted.wr Reg.perfGateCount k 0
    ((r1 (w1 Reg.perfCounter k 0 (w1 Reg.perfResult k (r1 s Reg.perfCounter k) s)) Reg.perfGateCount k + 1) % 2 ^ 64)
    (List.forall_mem_cons.mpr ⟨other Reg.perfCounter _ (by decide),
      List.forall_mem_singleton.mpr (other Reg.perfResult _ (by decide))⟩)
  rw [counted] at gated
  rw [gateRegisters, inc, count, ← r1, counted]
  exact ⟨gated.1, gated.2.reverse⟩

/-- At the end of a gate its registers are set and the next gate begins with all of its ticks (R371). -/
theorem perfGateEnd_eq (s : State) : perfGateEnd k s =
    setPerf k { getPerf s k with started := true, left := r1 s Reg.perfGateTicks k, due := false } (gateRegisters k s) := by
  have kept := (gateRegisters_sets hk s).2.keeps (l := [Reg.perfResult, Reg.perfCounter, Reg.perfGateCount]) (by simp [hk])
  have record : getPerf (gateRegisters k s) k = getPerf s k := by
    rw [gateRegisters]
    exact getPerf_of_perf_eq (((inc_perf ..).trans (w1_perf ..)).trans (w1_perf ..)) k
  rw [perfGateEnd, ← gateRegisters, record, kept.r1_eq (by decide) hk]

end

/-! The Archive (R380, R384, R385). -/

theorem clearArchive_sets (u : State) :
    RegsSet [(Reg.archiveWriteIndex, 0, 0, 0), (Reg.archiveReadIndex, 0, 0, 0)] (dropIdx Reg.archiveRecords u) (clearArchive u) :=
  ((wr_sets Reg.archiveReadIndex 0 0 0 (dropIdx Reg.archiveRecords u)).2.wr Reg.archiveWriteIndex 0 0 0
    (List.forall_mem_singleton.mpr (by decide))).of_regs_eq rfl

/-- Settles O21: an accepted write is its effect, and the end of a gate is the law above. -/
theorem programmableCountersAndArchiveWrites : Obligations.ProgrammableCountersAndArchiveWrites := by
  unfold Obligations.ProgrammableCountersAndArchiveWrites
  intro w v last s
  refine ⟨?preset, ?overflow, ?gate, ?config, ?trigger, ?readIndex, ?clear⟩
  case preset =>
    intro counter u hu accepted
    rw [exec_write_of_accepts (c := .perfCounterPreset counter last w) accepted rfl, effPerfPreset, ← hu]
  case overflow =>
    intro u hu accepted
    refine ⟨_, exec_write_of_accepts (c := .perfOverflowClear w) accepted rfl, ?_⟩
    rw [effPerfOverflowClear, ← hu]
    exact wr_sets ..
  case gate =>
    intro counter due
    have hk : counter.val < 256 := by omega
    obtain ⟨frame, set⟩ := gateRegisters_sets hk s
    have run : exec (.perfGateEnd counter) s = .next (perfGateEnd counter.val s) := if_pos due
    rw [perfGateEnd_eq hk] at run
    refine ⟨_, run, set.of_regs_eq (setPerf_regs ..), setPerf_frame frame .., getPerf_setPerf_same .., fun j other => ?_⟩
    rw [getPerf_setPerf, if_neg other]
    exact getPerf_of_perf_eq (by rw [frame]) j
  case config =>
    intro object idx hidx accepted
    have named : idx = (if object.val = 0 then Reg.archiveMode else if object.val = 1 then Reg.archiveFilter
        else Reg.archiveSampleEvery) ∧ (idx = Reg.archiveMode ↔ object.val = 0) := by
      rw [hidx]
      clear hidx accepted
      revert object
      decide
    rw [exec_write_of_accepts (c := .archiveConfigWrite object w) (eff := effArchiveConfig idx) accepted
      (by rw [named.1]; rfl), effArchiveConfig, if_congr named.2 rfl rfl]
    rfl
  case trigger =>
    intro accepted
    rw [exec_write_of_accepts (c := .archiveTrigger w) accepted rfl, effBool_one, archTrigger]
  case readIndex =>
    intro accepted
    exact ⟨_, exec_write_of_accepts (c := .archiveReadIndexWrite w) accepted rfl, wr_sets ..⟩
  case clear =>
    intro u hu accepted
    have run := exec_clear_of_accepts (c := .archiveClear w) (f := fun _ => clearArchive) accepted rfl
    rw [← hu] at run
    exact ⟨_, run, clearArchive_sets u, rfl⟩

end Sys2Proof.Machine
end

section
/-! O22: the writes of the event block (R389-R391, R393). -/

namespace Sys2Proof.Machine

/-- Of the masks the third is EventMaskNotify (R391). -/
theorem maskIdx_eq (mask : Fin 3) : [Reg.eventMaskA, Reg.eventMaskB, Reg.eventMaskNotify].getD mask.val 0 =
    (if mask.val = 0 then Reg.eventMaskA else if mask.val = 1 then Reg.eventMaskB else Reg.eventMaskNotify) ∧
    ([Reg.eventMaskA, Reg.eventMaskB, Reg.eventMaskNotify].getD mask.val 0 = Reg.eventMaskNotify ↔ mask.val = 2) := by
  revert mask
  decide

/-- A write of a mask that does not notify stores it (R391). -/
theorem effEventMask_of_silent {idx : Nat} (silent : idx ≠ Reg.eventMaskNotify) (word v : Nat) (s : State) :
    effEventMask idx word v s = w1 idx word v (perfNow s) := by
  unfold effEventMask
  dsimp only
  rw [if_neg silent]

/-- A write of EventMaskNotify marks the bits newly set over pending ones as rises (R391). -/
theorem effEventMask_notify (word v : Nat) {s u : State} (hu : u = perfNow s) :
    effEventMask Reg.eventMaskNotify word v s = { w1 Reg.eventMaskNotify word v u with ev := { u.ev with
      risen := tset (fun _ => 0) u.ev.risen word (tget (fun _ => 0) u.ev.risen word |||
        (v &&& (r1 u Reg.eventMaskNotify word ^^^ 0xFFFFFFFF) &&& r1 u Reg.eventPending word)) } } := by
  unfold effEventMask
  dsimp only
  rw [if_pos rfl, ← hu]
  rfl

/-- Settles O22: an accepted write is its effect, behind the ledgers. -/
theorem eventMaskAndClearWrites : Obligations.EventMaskAndClearWrites := by
  unfold Obligations.EventMaskAndClearWrites
  intro word w v s
  refine ⟨?clear, ?mask, ?hold⟩
  case clear =>
    intro u gone hu hgone accepted
    have run := exec_write_of_accepts (c := .eventClear word w) accepted rfl
    rw [effEventClear, ← hu] at run
    dsimp only at run
    rw [← hgone] at run
    exact ⟨_, run, (wr_sets ..).2.of_regs_eq rfl, rfl⟩
  case mask =>
    intro mask idx u hu hidx accepted
    obtain ⟨named, notifies⟩ := maskIdx_eq mask
    rw [← hidx] at named notifies
    have run := exec_write_of_accepts (c := .eventMaskWrite mask word w) (eff := effEventMask idx) accepted (by rw [named]; rfl)
    by_cases notify : idx = Reg.eventMaskNotify
    · rw [notify, effEventMask_notify _ _ hu] at run
      refine ⟨_, run, ?_, rfl, fun silent => absurd (notifies.mp notify) silent, fun _ => ⟨rfl, fun j => ?_⟩⟩
      · rw [notify]
        exact (wr_sets ..).2.of_regs_eq rfl
      · rw [notify]
        dsimp only
        rw [tget_tset]
        split
        case isTrue same => rw [same]
        case isFalse => rfl
    · rw [effEventMask_of_silent notify, ← hu] at run
      exact ⟨_, run, (wr_sets ..).2, rfl, fun _ => rfl, fun third => absurd (notifies.mpr third) notify⟩
  case hold =>
    intro accepted
    rw [exec_write_of_accepts (c := .eventHoldWrite w) accepted rfl, effEventHold]
    rfl

end Sys2Proof.Machine
end

section
/-! O24: the writes of sleeps, wakes, resets and boot images (R420, R421, R424-R426, R430). -/

namespace Sys2Proof.Machine

/-- Settles O24: an accepted write is its effect. -/
theorem powerAndImageWrites : Obligations.PowerAndImageWrites := by
  unfold Obligations.PowerAndImageWrites
  intro w v s
  refine ⟨?request, ?sleepAt, ?wakeAt, ?reset, ?block, ?erase, ?commit, ?prefer⟩
  case request =>
    intro d c hc accepted
    have run : exec c s = .next (catWrite w Reg.domainSleepRequest (swNum d) 0 effSleepRequest s) := by
      obtain rfl | rfl := hc <;> rfl
    rw [exec_write_of_accepts accepted run, effSleepRequest]
  case sleepAt =>
    intro d accepted
    rw [exec_write_of_accepts (c := .domainSleepAtTickWrite d w) accepted rfl, effSleepAtTick]
  case wakeAt =>
    intro d accepted
    rw [exec_write_of_accepts (c := .domainWakeAtTickWrite d w) accepted rfl, effWakeAtTick, modPwr]
  case reset =>
    intro c hc accepted
    have run : exec c s = .next (catWrite w Reg.resetNow 0 0 effResetNow s) := by
      simp only [List.mem_cons, List.not_mem_nil, or_false] at hc
      obtain rfl | rfl | rfl := hc <;> rfl
    rw [exec_write_of_accepts accepted run, effResetNow, modPwr]
  case block =>
    intro row accepted
    rw [exec_write_of_accepts (c := .imageBlockWrite row w) accepted rfl, effImageBlock, modPwr, blockKey]
  case erase =>
    intro accepted
    refine ⟨_, exec_write_of_accepts (c := .imageErase w) accepted rfl, ?_⟩
    rw [effImageErase, effBool_one]
    exact wr_sets ..
  case commit =>
    intro accepted
    refine ⟨_, exec_write_of_accepts (c := .imageCommit w) accepted rfl, ?_⟩
    rw [effImageCommit, effBool_one]
    exact wr_sets ..
  case prefer => exact fun accepted => ⟨_, exec_write_of_accepts (c := .bootPreferSet w) accepted rfl, wr_sets ..⟩

end Sys2Proof.Machine
end

section
/-! O58: power comes and goes (R416-R421, R427, R428, R431, R448). -/

namespace Sys2Proof.Machine

/-! The thresholds (R416, R417, R428). -/

section
variable {s : State}

/-- The power stage starts a module that is off, has its supply and is cool enough (R416, R428). -/
theorem exec_powerUpStart_of_met {p : Supply} (straps : Straps) (xosc : Fin 6) (off : s.pwr.phase = .off)
    (supplied : 33500 ≤ p.vin) (cool : s.pwr.cause = 4 → p.reading < 95 * 256) :
    exec (.powerUpStart p straps xosc) s = .next (w0 Reg.inputVoltage p.vin (openInterval true (vitrinePowerUp
      (fullReset straps xosc.val { s with pwr := { s.pwr with reduced := true } })))) := by
  have stage : coolEnough s p.reading = true := by
    simpa only [coolEnough, Bool.or_eq_true, decide_eq_true_eq, ne_eq, ← Decidable.imp_iff_not_or] using cool
  exact if_pos ⟨off, decide_eq_true supplied, stage⟩

theorem exec_powerUpStart_of_unmet {p : Supply} (straps : Straps) (xosc : Fin 6)
    (unmet : p.vin < 33500 ∨ s.pwr.cause = 4 ∧ 95 * 256 ≤ p.reading) :
    exec (.powerUpStart p straps xosc) s = .next s := by
  refine if_neg fun ⟨_, supplied, stage⟩ => ?_
  have supplied : 33500 ≤ p.vin := of_decide_eq_true supplied
  simp only [coolEnough, Bool.or_eq_true, decide_eq_true_eq, ne_eq] at stage
  omega

theorem exec_brownoutRelease_of_met {vin : Nat} (powered : s.pwr.phase ≠ .off) (reduced : s.pwr.reduced = true)
    (released : 35600 ≤ vin) : exec (.brownoutRelease vin) s = .next
      (if s.pwr.phase = .on then powerDomains (w0 Reg.inputVoltage vin s)
       else { w0 Reg.inputVoltage vin s with pwr := { s.pwr with reduced := false } }) := by
  show execBrownoutRelease vin s = _
  simp only [execBrownoutRelease, powered, reduced, releaseMet, released, decide_true, Bool.not_true, Bool.false_eq_true,
    or_self, if_false]
  rfl

theorem exec_brownoutRelease_of_unmet {vin : Nat} (low : vin < 35600) : exec (.brownoutRelease vin) s = .next s :=
  if_pos (.inr (.inr (by simp [releaseMet, low])))

theorem exec_brownout_eq (vin : Nat) (powered : s.pwr.phase ≠ .off) : exec (.brownout vin) s = .next
    (if vin ≤ (if s.pwr.reduced then 34500 else 35300) then powerLoss 3 (w0 Reg.inputVoltage vin s) else s) := by
  show execBrownout vin s = _
  by_cases low : vin ≤ if s.pwr.reduced then 34500 else 35300
  · rw [if_pos low, execBrownout, if_neg (by simp [powered, brownoutMet, low])]
  · rw [if_neg low, execBrownout, if_pos (.inr (by simp [brownoutMet, low]))]

theorem exec_undervoltageLockout_eq (vin : Nat) {u : State}
    (hu : u = if s.pwr.phase = .off ∨ 33500 < vin then s else powerLoss 3 s) : exec (.undervoltageLockout vin) s =
      .next (if vin < 20000 then w0 Reg.lastResetCause 1 { u with pwr := { u.pwr with cause := 1 } } else u) := by
  have lockout : (s.pwr.phase = .off ∨ !lockoutMet vin) ↔ (s.pwr.phase = .off ∨ 33500 < vin) := by
    simp [lockoutMet]
  show execUndervoltageLockout vin s = _
  rw [execUndervoltageLockout, if_congr lockout rfl rfl, ← hu]
  rfl

theorem exec_overtempShutdown_of_met (die : Fin 4) {reading : Int} (powered : s.pwr.phase ≠ .off)
    (hot : 115 * 256 ≤ reading) : exec (.overtempShutdown die reading) s =
      .next (powerLoss 4 (w1 Reg.dieTemperature die.val (ofSigned 16 reading) s)) :=
  if_neg (not_or.mpr ⟨powered, not_lt.mpr hot⟩)

/-- The power is off, and the TAP reset with it. -/
theorem tapReset_off (u : State) :
    modPwr (fun p => { p with phase := .off, reduced := true }) { u with tap := TapSt.reset } =
      { u with tap := State.reset.tap, pwr := { u.pwr with phase := .off, reduced := true } } := rfl

/-- The sequence of R427: the brownout event, the flush, and everything off. -/
theorem powerLoss_off (cause : Nat) (w : State) : ∃ u,
    u = afresh (elapse 1600000000 (vitrineFlush (raise Ev.brownout { w with pwr := { w.pwr with cause := cause } }))) ∧
    powerLoss cause w = { u with tap := State.reset.tap, pwr := { u.pwr with phase := .off, reduced := true } } :=
  ⟨_, rfl, tapReset_off (afresh (elapse 1600000000 (vitrineFlush (raise Ev.brownout
    (modPwr (fun p => { p with cause := cause }) w)))))⟩

end

/-! Boot images (R420, R421). -/

/-- An image is marked: its flag and its version tell the outcome of its check. -/
theorem markImage_eq (i : Nat) (pass : Bool) (version : Nat) (s : State) : markImage i pass version s =
    w1 Reg.firmwareVersion (i + 1) (if pass then version else 0)
      { s with pwr := if i = 0 then { s.pwr with imageA := pass } else { s.pwr with imageB := pass } } := by
  rw [markImage]
  split <;> rfl

theorem markImage_sets (i : Nat) (pass : Bool) (version : Nat) (s : State) :
    Sets [(Reg.firmwareVersion, i + 1, 0, if pass then version else 0)]
      { s with pwr := if i = 0 then { s.pwr with imageA := pass } else { s.pwr with imageB := pass } }
      (markImage i pass version s) := by
  rw [markImage_eq]
  exact wr_sets ..

theorem idleImage_le (s : State) : idleImage s + 1 < 256 := by
  unfold idleImage
  split <;> decide

/-- The image that does not run is marked, and ImageState tells it (R421). -/
theorem imageState_markImage_sets {i : Nat} (hi : i + 1 < 256) (pass : Bool) (version state : Nat) (s : State) :
    Sets [(Reg.imageState, 0, 0, state), (Reg.firmwareVersion, i + 1, 0, if pass then version else 0)]
      { s with pwr := if i = 0 then { s.pwr with imageA := pass } else { s.pwr with imageB := pass } }
      (w0 Reg.imageState state (markImage i pass version s)) :=
  (markImage_sets i pass version s).wr _ _ _ _ (List.forall_mem_singleton.mpr
    (objKey_ne _ _ _ _ _ _ (by decide : Reg.firmwareVersion ≠ Reg.imageState) (by decide) (by decide) hi (by simp)))

/-- A failing image is known to fail and has no version. -/
theorem bootCheck_false_sets (i : Nat) (s : State) : Sets [(Reg.firmwareVersion, i + 1, 0, 0)]
    { s with pwr := if i = 0 then { s.pwr with imageA := false } else { s.pwr with imageB := false } }
    (bootCheck i false s) :=
  markImage_sets i false _ s

/-- An image known to pass keeps its version. -/
theorem bootCheck_known_sets {i : Nat} {s : State} (known : imageKnown s i = true) :
    Sets [(Reg.firmwareVersion, i + 1, 0, r1 s Reg.firmwareVersion (i + 1))] s (bootCheck i true s) := by
  have flag : (if i = 0 then { s.pwr with imageA := true } else { s.pwr with imageB := true }) = s.pwr := by
    unfold imageKnown at known
    split at known <;> simp only [*, if_true, if_false] <;> rw [← known]
  have marked := markImage_sets i true (r1 s Reg.firmwareVersion (i + 1)) s
  rw [flag] at marked
  rwa [bootCheck, known]

/-- The images checked at boot: the first choice, and the other only where it fails (R420). -/
def imagesChecked (first second : Bool) (s : State) : State :=
  if first then bootCheck (firstImage s) first s
  else bootCheck (1 - firstImage s) second (bootCheck (firstImage s) first s)

/-- The outcome told, with the watchdog at 0. -/
def bootTold (first second : Bool) (s : State) : State :=
  let x := imagesChecked first second s
  { w0 Reg.bootOutcome (if first then if r0 s Reg.bootSelStrap = 1 then 2 else 0 else if second then 1 else 3) x with
    pwr := { x.pwr with watchdog := 0 } }

/-- The Curator runs image i, with its version in force. -/
def imageRuns (i : Nat) (u : State) : State :=
  stepFour { w0 Reg.activeImage i (w1 Reg.firmwareVersion 0 (r1 u Reg.firmwareVersion (i + 1)) u) with
    pwr := { u.pwr with curator := .running } }

section
variable {s : State} {a b first second : Bool}

theorem other_image_passes (hsecond : second = if firstImage s = 0 then b else a) :
    (if 1 - firstImage s = 0 then a else b) = second := by
  rw [hsecond]
  split_ifs
  · omega
  · rfl
  · rfl
  · omega

theorem exec_curatorImageRunning_eq (on : s.pwr.phase = .on) (booting : s.pwr.curator = .booting)
    (hfirst : first = if firstImage s = 0 then a else b) (hsecond : second = if firstImage s = 0 then b else a) :
    exec (.curatorImageRunning a b) s = .next
      (if first then imageRuns (firstImage s) (bootTold first second s)
       else if second then imageRuns (1 - firstImage s) (bootTold first second s)
       else w1 Reg.firmwareVersion 0 0 { bootTold first second s with
         pwr := { (bootTold first second s).pwr with curator := .noImage } }) := by
  have other := other_image_passes hsecond
  show execCuratorImageRunning a b s = _
  simp only [execCuratorImageRunning, chooseImage, if_pos (And.intro on booting), ← hfirst, other]
  cases first
  · cases second <;> rfl
  · rfl

end

/-- Settles O58: each row is its threshold or its check, and then the state that the rules name. -/
theorem powerComesAndGoes : Obligations.PowerComesAndGoes := by
  unfold Obligations.PowerComesAndGoes
  intro s
  refine ⟨?start, ?unmet, ?release, ?low, ?boot, ?check, ?loss, ?brownout, ?lockout, ?shutdown, ?limit, ?erase, ?commit⟩
  case start => exact fun p straps xosc off supplied cool => ⟨_, rfl, exec_powerUpStart_of_met straps xosc off supplied cool⟩
  case unmet => exact fun p straps xosc => exec_powerUpStart_of_unmet straps xosc
  case release => exact fun vin => exec_brownoutRelease_of_met
  case low => exact fun vin => exec_brownoutRelease_of_unmet
  case boot =>
    rintro a b _ first second u on booting rfl hfirst hsecond rfl
    have run := exec_curatorImageRunning_eq on booting hfirst hsecond
    refine ⟨?_, fun none => ?_⟩
    · rintro i rfl passed
      rw [run]
      cases first
      · rw [Bool.false_or] at passed
        simp only [passed, if_true, Bool.false_eq_true, if_false]
        rfl
      · rfl
    · obtain ⟨rfl, rfl⟩ := Bool.or_eq_false_iff.mp none
      exact run
  case check => exact fun i _ => ⟨bootCheck_false_sets i s, bootCheck_known_sets⟩
  case loss => exact powerLoss_off
  case brownout => exact exec_brownout_eq
  case lockout => exact fun vin u => exec_undervoltageLockout_eq vin
  case shutdown => exact fun die reading => exec_overtempShutdown_of_met die
  case limit => exact fun _ _ => rfl
  case erase =>
    rintro i rfl erasing
    refine ⟨_, rfl, _, if_pos erasing, ?_⟩
    exact imageState_markImage_sets (idleImage_le s) false 0 2 (eraseImage (idleImage s) s)
  case commit =>
    rintro pass version i rfl checking
    exact ⟨_, if_pos checking, imageState_markImage_sets (idleImage_le s) pass version.toNat _ s⟩

end Sys2Proof.Machine
end

section
/-! O1: a step runs the front command. -/

namespace Sys2Proof.Machine

/-- Settles O1: a queue with a front is the first case of a step. -/
theorem stepRunsFrontCommand : Obligations.StepRunsFrontCommand := by
  unfold Obligations.StepRunsFrontCommand
  intro c rest s queue
  rw [step, queue]

end Sys2Proof.Machine
end

section
/-! O60: the test access port loads its instruction (R448-R450). -/

namespace Sys2Proof.Machine

/-- A row of the test access port on a module that has power loads its instruction. -/
theorem tapInstruction_of_powered {s : State} (powered : s.pwr.phase ≠ .off) (code : Nat) :
    tapInstruction code s = .next (loadTap code s) :=
  if_neg powered

theorem tapDefined_iff (code : Nat) : tapDefined code = true ↔ code ≤ 6 ∨ code = 0x20 ∨ code = 0x21 := by
  simp only [tapDefined, Bool.or_eq_true, decide_eq_true_eq, or_assoc]

theorem holdsBalls_iff (code : Nat) : holdsBalls code = true ↔ code ∈ [0, 3, 4, 5, 6] := List.contains_iff_mem

theorem selectsCells_iff (code : Nat) : selectsCells code = true ↔ code ∈ [0, 1, 5, 6] := List.contains_iff_mem

/-! The balls (R450). -/

/-- The balls as an instruction has them: under the boundary register, or free. -/
def ballsFor (code : Nat) (s : State) : State :=
  if holdsBalls code then (if s.tap.held then s else ballsHeld s) else (if s.tap.held then ballsFreed s else s)

theorem ballsFor_of_same {code : Nat} {s : State} (same : s.tap.held = holdsBalls code) : ballsFor code s = s := by
  rw [ballsFor, same]
  split
  · rfl
  · rfl

theorem ballsHeld_tap (s : State) : (ballsHeld s).tap = { s.tap with held := true } :=
  congrArg (fun x : TapSt => { x with held := true }) (lanesToSignal_follows (Follows.refl s) _ _).tap

theorem ballsFreed_tap (s : State) : (ballsFreed s).tap = { s.tap with held := false } :=
  (lanesToSignal_follows (Follows.refl _) _ _).tap

theorem ballsFor_tap (code : Nat) (s : State) : (ballsFor code s).tap = { s.tap with held := holdsBalls code } := by
  by_cases same : s.tap.held = holdsBalls code
  · rw [ballsFor_of_same same, ← same]
  · cases holds : holdsBalls code
    · have held : s.tap.held = true := by simpa [holds] using same
      rw [ballsFor, holds, held]
      exact ballsFreed_tap s
    · have free : s.tap.held = false := by simpa [holds] using same
      rw [ballsFor, holds, free]
      exact ballsHeld_tap s

/-! The data register (R448). -/

theorem takeCells_of_selected {code : Nat} (selected : code ∈ [0, 1, 5, 6]) (s : State) : takeCells code s =
    { s with free := s.free + 1, tap := { s.tap with cells := Config.freeValue s.free } } :=
  if_pos ((selectsCells_iff code).mpr selected)

theorem takeCells_of_unselected {code : Nat} (unselected : code ∉ [0, 1, 5, 6]) (s : State) : takeCells code s = s :=
  if_neg fun selected => unselected ((selectsCells_iff code).mp selected)

theorem takeCells_held (code : Nat) (s : State) : (takeCells code s).tap.held = s.tap.held := by
  unfold takeCells
  split <;> rfl

theorem takeCells_frame (code : Nat) (s : State) :
    takeCells code s = { s with tap := (takeCells code s).tap, free := (takeCells code s).free } := by
  unfold takeCells
  split <;> rfl

theorem tapData_of_cells {code : Nat} (selected : code ∈ [0, 1, 5, 6]) (s : State) : tapData code s = s.tap.cells := by
  have other : code ≠ 2 ∧ code ≠ 0x20 := by
    simp only [List.mem_cons, List.not_mem_nil, or_false] at selected
    omega
  rw [tapData, if_neg other.1, if_neg other.2, if_pos ((selectsCells_iff code).mpr selected)]

theorem tapData_of_bypass {code : Nat} (other : code ∉ [0, 1, 2, 5, 6, 0x20]) (s : State) : tapData code s = 0 := by
  simp only [List.mem_cons, List.not_mem_nil, or_false, not_or] at other
  obtain ⟨h0, h1, h2, h5, h6, h20⟩ := other
  rw [tapData, if_neg h2, if_neg h20, if_neg fun selected => ?_]
  simpa [h0, h1, h5, h6] using (selectsCells_iff code).mp selected

/-! An instruction in force. -/

/-- The port with an instruction and what it presents. -/
def tapLoaded (code : Nat) (s : State) : State := { s with tap := { s.tap with instruction := code, data := tapData code s } }

theorem loadTap_eq (code : Nat) (s : State) : loadTap code s = tapLoaded code (takeCells code (ballsFor code s)) := rfl

section
variable {code : Nat} {s : State}

theorem loadTap_held : (loadTap code s).tap.held = holdsBalls code := by
  show (takeCells code (ballsFor code s)).tap.held = _
  rw [takeCells_held, ballsFor_tap]

theorem loadTap_data_of_cells (selected : code ∈ [0, 1, 5, 6]) : (loadTap code s).tap.data = (loadTap code s).tap.cells :=
  tapData_of_cells selected _

theorem loadTap_cells_of_unselected (unselected : code ∉ [0, 1, 5, 6]) : (loadTap code s).tap.cells = s.tap.cells := by
  show (takeCells code (ballsFor code s)).tap.cells = _
  rw [takeCells_of_unselected unselected, ballsFor_tap]

/-- An instruction that holds the balls as they were moves nothing but the port. -/
theorem loadTap_of_same (same : s.tap.held = holdsBalls code) :
    loadTap code s = { s with tap := (loadTap code s).tap, free := (loadTap code s).free } := by
  rw [loadTap_eq, ballsFor_of_same same, takeCells_frame]
  rfl

/-- An instruction that neither holds the balls nor selects the cells, on free balls, only loads itself. -/
theorem loadTap_of_plain (free : s.tap.held = false) (plain : code ∉ [0, 1, 3, 4, 5, 6]) :
    loadTap code s = tapLoaded code s := by
  simp only [List.mem_cons, List.not_mem_nil, or_false, not_or] at plain
  have unheld : holdsBalls code = false := by simp [holdsBalls, plain]
  rw [loadTap_eq, ballsFor_of_same (free.trans unheld.symm), takeCells_of_unselected (by simp [plain])]

end

theorem idcodeValue_eq (s : State) : idcodeValue s =
    r0 s Reg.dieSteppings / 2 ^ 24 % 16 * 2 ^ 28 + 0x6432 * 2 ^ 12 + Config.jtagManufacturer.toNat * 2 + 1 := rfl

/-- Settles O60: each row loads its instruction; the balls, the cells and the data follow from it. -/
theorem testAccessPortLoadsItsInstruction : Obligations.TestAccessPortLoadsItsInstruction := by
  unfold Obligations.TestAccessPortLoadsItsInstruction
  intro s powered
  have row (code : Nat) := tapInstruction_of_powered powered code
  refine ⟨row 0, row 1, row 2, row 3, row 4, row 5, row 6, row 0x20, row 0x21, row 2, ?bypass, ?loaded, ?held, ?svc⟩
  case bypass =>
    intro b
    show tapInstruction (if tapDefined b.toNat then 0xFF else b.toNat) s = _
    rw [row, if_congr (tapDefined_iff b.toNat) rfl rfl]
  case loaded =>
    rintro code _ rfl
    refine ⟨rfl, ?_, ?_, ?_, loadTap_data_of_cells, fun other => tapData_of_bypass other _, loadTap_cells_of_unselected,
      ?_, ?_, ?_⟩
    · rw [loadTap_held, holdsBalls_iff]
      simp only [List.mem_cons, List.not_mem_nil, or_false]
    · rintro rfl free
      rw [loadTap_of_plain free (by decide)]
      exact idcodeValue_eq s
    · rintro rfl free
      rw [loadTap_of_plain free (by decide)]
      rfl
    · intro free unheld
      exact loadTap_of_same (free.trans (Bool.eq_false_iff.mpr (mt (holdsBalls_iff code).mp unheld)).symm)
    · intro held holds
      exact loadTap_of_same (held.trans ((holdsBalls_iff code).mpr holds).symm)
    · intro plain free
      rw [loadTap_of_plain free plain]
      rfl
  case held => exact fun held e => if_pos held
  case svc =>
    intro peer opcode p svc selected
    simp only [sendPdu, svc, svcPortSelected, selected, decide_true, if_true, tapOut]

end Sys2Proof.Machine
end

section
/-! O55: twins watch and take over (R335-R347). -/

namespace Sys2Proof.Machine

section
variable {s : State}

/-! A change of role (R341, R345). -/

/-- A role ordered is taken where the module is a twin; an active one that becomes standby steps down. -/
theorem applyRole_of_ordered {r : Nat} (ordered : s.tw.roleNext = some r) (tick : Nat) {v : State}
    (hv : v = { s with tw := { s.tw with roleNext := none } }) : applyRole tick s =
      if !twinOn v then v else if r = 1 ∧ twinActive v = true then setRole r (stepDown tick v) else setRole r v := by
  subst hv
  rw [applyRole, ordered, ← apply_ite (setRole r)]
  rfl

/-- A role ordered is taken at the next boundary. -/
theorem exec_twinRoleChange_of_ordered {r : Nat} (ordered : s.tw.roleNext = some r) {u : State}
    (hu : u = advanceToReading (nextBoundary s) (noteActive s)) : exec .twinRoleChange s =
      .next (applyRole (r0 u Reg.tickSequence + 1) { u with tw := { u.tw with noted := true } }) := by
  subst hu
  exact if_pos (by rw [ordered]; rfl)

/-- The lanes' self-test as a role leaves it: it comes and goes with the standby role (R341). -/
def selfTestFor (role was : Nat) : State → State :=
  if role = 1 then selfTestLanes true else if was = 1 then selfTestLanes false else id

theorem setRole_of_ne {r : Nat} (change : r0 s Reg.twinRole ≠ r) {u : State}
    (hu : u = selfTestFor r (r0 s Reg.twinRole) (w0 Reg.twinRole r (if r = 2 then s else setTwinFlag 2 false s))) :
    setRole r s = if running u 2 then (List.range 12).foldl (fun s o => judgeOut o s) u else u := by
  have lanes : u = if r = 1 then selfTestLanes true (w0 Reg.twinRole r (if r = 2 then s else setTwinFlag 2 false s))
      else if r0 s Reg.twinRole = 1 then selfTestLanes false (w0 Reg.twinRole r (if r = 2 then s else setTwinFlag 2 false s))
      else w0 Reg.twinRole r (if r = 2 then s else setTwinFlag 2 false s) := by
    rw [hu, selfTestFor]
    split
    · rfl
    · split <;> rfl
  rw [setRole, if_neg change, lanes]
  rfl

/-! What arrives (R337, R340, R346). -/

theorem hbFramed_iff {body : Bytes} {framed : HbFraming} {crc : Bytes} : hbFramed body framed crc = true ↔
    framed = ⟨.k27, [.k29]⟩ ∧ crc = bytesLE 4 (crc32c body) ∧ body.length = 40 := by
  simp only [hbFramed, Bool.and_eq_true, decide_eq_true_eq, and_assoc, and_comm (a := body.length = 40)]

theorem exec_twinHeartbeatReceive_of_whole {path : HbPath} {body : Bytes} {framed : HbFraming} {crc : Bytes} {arrival : Nat}
    (whole : framed = ⟨.k27, [.k29]⟩ ∧ crc = bytesLE 4 (crc32c body) ∧ body.length = 40) :
    exec (.twinHeartbeatReceive path body framed crc arrival) s =
      .next (queueTwMsg (.heartbeat path body (cycleReading s arrival)) s) :=
  congrArg Host.Outcome.next (if_pos (hbFramed_iff.mpr whole))

theorem exec_twinHeartbeatReceive_of_broken {path : HbPath} {body : Bytes} {framed : HbFraming} {crc : Bytes} {arrival : Nat}
    (broken : framed ≠ ⟨.k27, [.k29]⟩ ∨ crc ≠ bytesLE 4 (crc32c body) ∨ body.length ≠ 40) :
    exec (.twinHeartbeatReceive path body framed crc arrival) s = .next (inc Reg.twinHbErrors (hbPathIdx path) s) := by
  refine congrArg Host.Outcome.next (if_neg (mt hbFramed_iff.mp ?_))
  rwa [not_and_or, not_and_or]

theorem hbPathIdx_eq (path : HbPath) : hbPathIdx path = if path = .pair then 0 else 1 := by cases path <;> rfl

/-- A running Curator keeps a message for the twin job. -/
theorem queueTwMsg_of_running (curator : curatorRuns s = true) (m : TwMsg) :
    queueTwMsg m s = { s with tw := { s.tw with inbox := s.tw.inbox ++ [m] } } := if_pos curator

theorem takeActive_of_whole (port : Nat) {b : Bytes} (length : b.length = 40) (version : leAt b 0 1 = 1) {u : State}
    (hu : u = { s with tw := { s.tw with
      notices := s.tw.notices ++ [TwNotice.mk (hbPair b % 4096) (hbUid b) (hbRank b) port] } }) : takeActive port b s =
    if twinOn u && hbValid u b then notePeer b { u with tw := { u.tw with gotActive := true } } else u := by
  subst hu
  exact if_neg (not_or.mpr ⟨not_not.mpr length, not_not.mpr version⟩)

end

/-- Settles O55: each row that is due is its operation; what arrives whole waits for the twin job. -/
theorem twinsWatchAndTakeOver : Obligations.TwinsWatchAndTakeOver := by
  unfold Obligations.TwinsWatchAndTakeOver
  intro s
  refine ⟨?failed, ?degraded, ?takeover, ?change, ?role, ?release, ?waits, ?errors, ?active, ?dual⟩
  case failed => exact fun due => ⟨_, rfl, if_pos due⟩
  case degraded => exact fun due => if_pos due
  case takeover => exact fun due => if_pos due
  case change =>
    rintro r u v ordered hu kept rfl
    rw [exec_twinRoleChange_of_ordered ordered hu,
      applyRole_of_ordered (s := { u with tw := { u.tw with noted := true } }) kept _ rfl]
    rfl
  case role =>
    refine fun r change => ⟨_, ?_, rfl⟩
    rw [setRole_of_ne change rfl]
    exact (ite_eq_or_eq _ _ _).symm
  case release =>
    rintro row u silent rfl
    refine ⟨_, if_pos silent, ?_⟩
    exact wr_sets ..
  case waits =>
    rintro curator m c (⟨path, body, framed, crc, arrival, rfl, frame, sum, length, rfl⟩ | ⟨port, body, rfl, rfl⟩ |
      ⟨port, body, rfl, rfl⟩)
    · rw [exec_twinHeartbeatReceive_of_whole ⟨frame, sum, length⟩, queueTwMsg_of_running curator]
    · exact congrArg Host.Outcome.next (queueTwMsg_of_running curator _)
    · exact congrArg Host.Outcome.next (queueTwMsg_of_running curator _)
  case errors =>
    rintro _ _ ⟨path, body, framed, crc, arrival, rfl, broken, rfl⟩
    refine ⟨_, exec_twinHeartbeatReceive_of_broken broken, ?_⟩
    rw [← hbPathIdx_eq]
    exact inc_sets ..
  case active => exact fun port b length version => ⟨_, rfl, takeActive_of_whole port length version rfl⟩
  case dual => exact fun b twin length pair other => if_pos ⟨twin, length, pair, other⟩

end Sys2Proof.Machine
end

section
/-! O57: the Vitrine closes, burns and seals (R402-R414). -/

namespace Sys2Proof.Machine

/-- What O57 would have of the flashing in every state: that it moves nothing but the archive's registers. -/
theorem flashRecords_keeps_of_obligation (h : Obligations.VitrineClosesBurnsAndSeals) (s : State) :
    Keeps [Reg.vitrineRecords, Reg.oldestSequence, Reg.tailDigest] s (flashRecords s) := by
  unfold Obligations.VitrineClosesBurnsAndSeals at h
  obtain ⟨_, _, _, ⟨t, run, _, kept, _⟩, _⟩ := h s
  obtain rfl : flashRecords s = t := Host.Outcome.next.inj run
  exact kept

/-- A record waits for a row beyond the 16,384 of the ring: State bounds no waiting record's row. The row's key is row 0 of the
object behind VitrineRecords. -/
def strayRecord : State := { State.reset with vit := { State.reset.vit with unflashed := [(2 ^ 32, 1)] } }

/-- The record lands on an object that is none of the archive's. -/
theorem strayRecord_not_kept :
    ¬ Keeps [Reg.vitrineRecords, Reg.oldestSequence, Reg.tailDigest] strayRecord (flashRecords strayRecord) := by
  intro kept
  have other : keyIdx (objKey Reg.vitrineRecords 0 (2 ^ 32)) ∉ [Reg.vitrineRecords, Reg.oldestSequence, Reg.tailDigest] := by
    decide
  have moved : tget regDefault (flashRecords strayRecord).regs (objKey Reg.vitrineRecords 0 (2 ^ 32)) ≠
      tget regDefault strayRecord.regs (objKey Reg.vitrineRecords 0 (2 ^ 32)) := by decide +kernel
  exact moved (kept _ other)

/-- Refutes O57: the flashing of the records that wait (R405) is said to move nothing but the archive's registers, in every state
and whatever rows the records wait for; the clauses on the rows themselves bound them, this one does not. Where State holds a
waiting record of a row of 2^24 or more, which no close writes, the record lands on another object. (The clauses on the closing,
the seal, the fuses and the microcode, and those on one record that waits for a row, are not touched.) -/
theorem not_vitrineClosesBurnsAndSeals : ¬ Obligations.VitrineClosesBurnsAndSeals := fun h =>
  strayRecord_not_kept (flashRecords_keeps_of_obligation h strayRecord)

end Sys2Proof.Machine
end

section
/-! O56: a failed calibration orders its retry (R355-R363, R394). -/

namespace Sys2Proof.Machine

/-! What an event leaves of the calibration. -/

theorem raise_cal {n : Nat} (hn : n < 512) (s : State) : (raise n s).cal = s.cal := by
  cases awake : running s (sourceDomain n)
  · rw [raise_of_asleep awake]
  · obtain ⟨_, frame⟩ := raise_of_running hn awake
    rw [frame]

theorem setLive_cal {n : Nat} (hn : n < 512) (cond : Bool) (s : State) : (setLive n cond s).cal = s.cal := by
  cases awake : running s (sourceDomain n)
  · rw [setLive_of_asleep awake, w1_cal]
  · cases cond
    · rw [setLive_false, w1_cal]
    · obtain ⟨_, frame⟩ := setLive_of_running hn awake
      rw [frame]

/-! When a failed run of the crystal is tried again (R363). -/

@[simp] theorem getCal_setCal (code i : Nat) (c : CalSt) (s : State) : getCal (setCal code i c s) code i = c :=
  (tget_tset ..).trans (if_pos rfl)

theorem getCal_of_cal_eq {s t : State} (same : t.cal = s.cal) (code i : Nat) : getCal t code i = getCal s code i := by
  rw [getCal, same, getCal]

theorem publishCal_cal (code i : Nat) (s : State) : (publishCal code i s).cal = s.cal := by
  rw [publishCal, setLive_cal (by decide), w0_cal, w0_cal, w1_cal]

theorem publishSets_cal (code i : Nat) (s : State) : (publishSets code i s).cal = s.cal := by
  refine List.foldlRecOn (motive := fun t : State => t.cal = s.cal) (List.range 8) _ rfl fun t kept r _ => ?_
  dsimp only
  split <;> rw [wr_cal, kept]

/-- The crystal's values are recomputed and nothing applies them: its retry stays (R359). -/
theorem recompute_crystal_retryAt (i : Nat) (s : State) : (getCal (recompute 5 i s) 5 i).retryAt = (getCal s 5 i).retryAt := by
  have apart : (5 : Nat) ≠ 2 ∧ (5 : Nat) ≠ 1 := by decide
  simp only [recompute, applyValues, ite_self, if_neg apart.1, if_neg apart.2, getCal_setCal]
  rfl

theorem failed_crystal_retryAt (i : Nat) (u : State) :
    (getCal (raise Ev.calFailed (publishCal 5 i (recompute 5 i (publishSets 5 i u)))) 5 i).retryAt =
      (getCal u 5 i).retryAt := by
  rw [getCal_of_cal_eq (raise_cal (by decide) _), getCal_of_cal_eq (publishCal_cal ..), recompute_crystal_retryAt,
    getCal_of_cal_eq (publishSets_cal ..)]

/-- The model reads the time to the retry once the reserve of the run is free. -/
theorem calFail_crystal_retryAt (i : Nat) (s : State) {x : State} (hx : x = freeReserve (getCal s 5 i).reserve s) :
    (getCal (calFail 5 i s) 5 i).retryAt = r0 x Reg.tickSequence + r0 x Reg.calRetryTicks := by
  subst hx
  refine (failed_crystal_retryAt i _).trans ?_
  rw [getCal_of_cal_eq (w1_cal ..), getCal_of_cal_eq (inc_cal ..), getCal_setCal]

/-- What O56 would have of the crystal in every state: that the time to the retry is read before the reserve is free. -/
theorem calFail_crystal_retryAt_of_obligation (h : Obligations.CalibrationRunsAndEventNotifications) (s : State) :
    (getCal (calFail 5 0 s) 5 0).retryAt = r0 s Reg.tickSequence + r0 s Reg.calRetryTicks := by
  unfold Obligations.CalibrationRunsAndEventNotifications at h
  obtain ⟨_, _, _, _, _, _, _, failure, _⟩ := h 0 0 s rfl
  obtain ⟨u, failed, _, _, crystal⟩ := failure 5 _ _ _ _ (by decide) rfl rfl rfl rfl
  rw [failed, failed_crystal_retryAt, crystal]

/-! The counterexample. -/

/-- A reserve's number under which TdcStandIn stands where CalRetryTicks does: State bounds no reserve's number to those that
there are. -/
def strayReserve : Nat := (Reg.calRetryTicks - Reg.tdcStandIn) * 256

/-- The crystal's run holds the stray reserve. -/
def strayRun : State :=
  { State.reset with cal := { State.reset.cal with insts := [(5 * 256, { calInit with reserve := some strayReserve })] } }

/-- The stray reserve is free again. -/
def strayRunFreed : State := freeReserve (getCal strayRun 5 0).reserve strayRun

/-- As the reserve is freed, CalRetryTicks takes the code of a stand-in that is free. -/
theorem strayRunFreed_retry : r0 strayRunFreed Reg.tickSequence + r0 strayRunFreed Reg.calRetryTicks ≠
    r0 strayRun Reg.tickSequence + r0 strayRun Reg.calRetryTicks := by
  decide +kernel

/-- Refutes O56: a failure orders its retry CalRetryTicks later (R363), as the register stands once the reserve of the run is
free, and the statement asks for what it read before. Where State holds a reserve of a number beyond those that there are, the
freeing of it can fall on CalRetryTicks. (The clauses on the start, the end, the success and the abandoning of a run and those on
the notification are not touched.) -/
theorem not_calibrationRunsAndEventNotifications : ¬ Obligations.CalibrationRunsAndEventNotifications := fun h =>
  strayRunFreed_retry ((calFail_crystal_retryAt 0 strayRun rfl).symm.trans (calFail_crystal_retryAt_of_obligation h strayRun))

end Sys2Proof.Machine
end
